-- ==== Sys2Proof/Word.lean ====
section
/-! DEFINITION. The word of the switch, the numbers of slots and sets of slots, and finite tables as sorted lists. -/

namespace Sys2Proof

/-- A word is 32 bits (00_scope.md, Conventions). -/
abbrev Word := BitVec 32

/-- A backplane slot, 0 to 15. -/
abbrev Slot := Fin 16

/-- A set of slots; slot `i` is bit `i` (R186, R187). -/
abbrev SlotSet := BitVec 16

/-- The uptime count: milliseconds, 32 bits, wrapping (R87). -/
abbrev Uptime := BitVec 32

/-- A sparse table: (key, value) pairs, keys strictly rising. -/
abbrev Assoc (α : Type) := List (Nat × α)

end Sys2Proof
end

