-- ==== Sys2Proof/Syntax.lean ====
section
/-! DEFINITION. The commands of the DX416: one constructor for each row of spec/opcode_table.json. -/

namespace Sys2Proof

/-- Classes of passed parcels (R28). -/
inductive Cls where
  | stream | control | bulk
  deriving DecidableEq, Repr

/-- The two timing references (R88). -/
inductive RefId where
  | a | b
  deriving DecidableEq, Repr

/-- The two configurable sideband lines of a slot (R127). -/
inductive Line where
  | sb0 | sb1
  deriving DecidableEq, Repr

/-- The two presence contacts of a slot (R126). -/
inductive Contact where
  | long | short
  deriving DecidableEq, Repr

/-- The commands. A slot operand names the slot whose link, line, timer or schedule the event belongs to. The rows of
the management channel (reads, writes, actions) carry no operand of their own: each is the service of the request at
the head of the request queue, and the request's words are its operands (R171, R173). -/
inductive Instr where
  | headerWord (i : Slot) (w : Word)
  | bodyWord (i : Slot) (w : Word)
  | undecodableWord (i : Slot)
  | markWord (i : Slot) (w : Word)
  | holdOff (i : Slot)
  | resume (i : Slot)
  | trainEcho (i : Slot) (exchange : BitVec 3) (turnaround : BitVec 16)
  | awake (i : Slot)
  | uptimeAdvance
  | holdOffTimerExpiry (i : Slot)
  | mgmtRequest (tag : BitVec 8) (payload : List Word)
  | timeOfDayParcel (i : Slot) (payload : List Word)
  | pendingServed (i : Slot) (c : Cls)
  | stallTimerExpiry (i : Slot)
  | schedulerChoice (i : Slot)
  | transmissionEnd (i : Slot)
  | edgeDeparture (i : Slot)
  | holdMarkSent (i : Slot)
  | restMarkSent (i : Slot)
  | trainReqSent (i : Slot)
  | referencePulse (r : RefId)
  | lossDeadlineExpiry (r : RefId)
  | holdoverTimerExpiry
  | secondCarry
  | edgeInstant
  | edgeDispatch (i : Slot)
  | strobe (i : Slot)
  | strobePulseEnd (i : Slot) (l : Line)
  | contactMade (i : Slot) (c : Contact)
  | contactLost (i : Slot) (c : Contact)
  | seatTimerExpiry (i : Slot)
  | pwrGoodActive (i : Slot)
  | pwrGoodLost (i : Slot)
  | powerTimerExpiry (i : Slot)
  | releaseTimerExpiry (i : Slot)
  | exchangeWaitExpiry (i : Slot)
  | trainingGapExpiry (i : Slot)
  | wakeTimerExpiry (i : Slot)
  | drainTimerExpiry (i : Slot)
  | sidebandInputChange (i : Slot) (l : Line) (level : Bool)
  | cardAlarmDebounceExpiry (i : Slot)
  | cabinetInputChange (n : Fin 8) (level : Bool)
  | cabinetInputDebounceExpiry (n : Fin 8)
  | watchStale (w : Fin 32)
  | chainParcelMake
  | chainEngineFree
  | readSlotSettings
  | readFlowTable
  | readParkAreas
  | readWatches
  | readChainDescriptors
  | readCauseSettings
  | readGlobalSettings
  | readTimingSettings
  | readAlarmQueue
  | readTransitLog
  | readSlotStatus
  | readTimingStatus
  | readFabricStatus
  | writeSlotSettings
  | writeFlowTable
  | writeParkAreas
  | writeWatches
  | writeChainDescriptors
  | writeCauseSettings
  | writeGlobalSettings
  | writeTimingSettings
  | readPark
  | readLatest
  | powerOn
  | powerOff
  | drain
  | rest
  | wake
  | clear
  | retrain
  | chainStart
  | chainStop
  | setTime
  | setFrequency
  | timingRestart
  | fabricRestart
  | logClear
  | powerOnReset (msel retain : Bool)
  | pinReset (msel retain : Bool)
  | cabinetTimeAdvance
  | suspendSent (i : Slot)
  | continueSent (i : Slot)
  | wakeMarkSent (i : Slot)
  deriving DecidableEq, Repr

end Sys2Proof
end

