-- ==== Sys2Proof/Config.lean ====
section
/-! DEFINITION. What one DX416 fixes: its sizes, and the one value the manual leaves open. -/

namespace Sys2Proof

/-- Blocks in the pool (R38). -/
def Config.poolBlocks : Nat := 8192
/-- Words of parking memory (R58). -/
def Config.parkWords : Nat := 32768
/-- Places of an express queue (R47). -/
def Config.expressPlaces : Nat := 4
/-- Places of the reply queue (R48). -/
def Config.replyPlaces : Nat := 8
/-- Places of the request queue (R172). -/
def Config.requestPlaces : Nat := 4
/-- Places of the alarm queue (R161). -/
def Config.alarmPlaces : Nat := 128
/-- Record places of the transit log (R81). -/
def Config.logPlaces : Nat := 2048
/-- Link errors in one window that take the link DOWN (R10). -/
def Config.windowLimit : Nat := 8
/-- Core periods in a microsecond of core time (R35). -/
def Config.periodsPerMicro : Nat := 125
/-- Core periods between two advances of the uptime (R87). -/
def Config.uptimePeriods : Nat := 125000
/-- Core periods of a training exchange's wait, 100 µs (R131). -/
def Config.exchangePeriods : Nat := 12500
/-- Core periods of a strobe pulse (R119). -/
def Config.strobePeriods : Nat := 125
/-- Nanoseconds in a second. -/
def Config.nsPerSec : Nat := 1000000000
/-- Seconds of cabinet time are 48 bits (R85). -/
def Config.secModulus : Nat := 281474976710656
/-- A nanosecond in units of the fraction (R85). -/
def Config.fracPerNs : Nat := 4294967296

/-- FREE VALUE (log entry 1). Which of the free blocks an allocation takes: the manual says only that they form an
unordered set (R38). The first number names the allocation, the second the block within it. -/
opaque Config.blockChoice : Nat → Nat → Nat

/-- FREE VALUE (log entry 4). What a watch reads at a word address beyond parking memory, which the manual does not say
(R58, R167). The first number is the address, the second the core period of the reading. -/
opaque Config.parkBeyond : Nat → Nat → Word

end Sys2Proof
end

