-- ==== Sys2Proof/Machine/State.lean ====
section
/-! DEFINITION. The state of the switch as plain data, the reasons a step can stop, and the state after POWER-ON. -/

namespace Sys2Proof.Machine

/-! ## Time -/

/-- Cabinet time: seconds 0 to 2^48 − 1, nanoseconds 0 to 999,999,999, fraction 0 to 2^32 − 1 (R85). -/
structure CabTime where
  sec : Nat
  ns : Nat
  frac : Nat
  deriving DecidableEq, Repr

/-- The stamp of an arrival or of an alarm entry: low 16 bits of the seconds, nanoseconds (R85). -/
structure Stamp where
  sec : Nat
  ns : Nat
  deriving DecidableEq, Repr

/-! ## Words on the link -/

/-- The fields of a header word (R2, R183). -/
structure Header where
  kind : BitVec 3
  chan : BitVec 6
  len : BitVec 8
  tag : BitVec 8
  deriving DecidableEq, Repr

/-- A word on a link, with its word type (R1). -/
inductive LinkWord where
  | mark (w : Word)
  | header (w : Word)
  | body (w : Word)
  deriving DecidableEq, Repr

/-- Link states (R6). -/
inductive LinkState where
  | down | training | up | resting
  deriving DecidableEq, Repr

/-- Receive states; IN-PARCEL holds the header's fields, the payload words still due and the check register (R4); the
unused bits of the header word are fed into the check register and not stored (R182). -/
inductive RxState where
  | awaitHeader
  | inParcel (header : Header) (due : Nat) (crc : Word)
  | skip
  deriving DecidableEq, Repr

/-! ## Settings -/

/-- Hold policies (R124 field 5). -/
inductive HoldPolicy where
  | queue | discard
  deriving DecidableEq, Repr

/-- Sideband line functions (R124 fields 6 and 7, R127). -/
inductive LineFn where
  | none | alarmIn | pulseIn | wakeIn | strobeOut | resetOut
  deriving DecidableEq, Repr

/-- Arbitration settings (R51). -/
inductive Arbitration where
  | controlFirst | alternate
  deriving DecidableEq, Repr

/-- Edge enrolments (R114). -/
inductive EdgeEnrol where
  | none | parcel | strobe | both
  deriving DecidableEq, Repr

/-- Table 1: the settings of one slot, in transfer order (R124). -/
structure SlotSettings where
  autoPower : Bool
  autoPowerOff : Bool
  wakeOnTraffic : Bool
  manualHold : Bool
  policy : HoldPolicy
  fn0 : LineFn
  fn1 : LineFn
  powerTime : Nat
  releaseTime : Nat
  wakeTime : Nat
  drainTime : Nat
  holdOffLimit : Nat
  stallTime : Nat
  streamLimit : Nat
  controlLimit : Nat
  bulkLimit : Nat
  arb : Arbitration
  dwellLimit : Nat
  edgeEnrol : EdgeEnrol
  timeEnrol : Bool
  strobeAdvance : Nat
  chainHead : Nat
  chainAuto : Bool
  deriving DecidableEq, Repr

/-- The defaults of R124; auto-power is yes for the slot that MSEL names. -/
def SlotSettings.default (auto : Bool) : SlotSettings :=
  { autoPower := auto, autoPowerOff := false, wakeOnTraffic := true, manualHold := false, policy := .queue,
    fn0 := .none, fn1 := .none, powerTime := 50, releaseTime := 10, wakeTime := 10, drainTime := 20,
    holdOffLimit := 100, stallTime := 2000, streamLimit := 256, controlLimit := 128, bulkLimit := 256,
    arb := .alternate, dwellLimit := 8192, edgeEnrol := .none, timeEnrol := false, strobeAdvance := 0,
    chainHead := 64, chainAuto := false }

/-- Table 7: the global settings, in transfer order (R176). A polarity is true for ACTIVE-LOW. -/
structure GlobalSettings where
  alarmUnknown : Bool
  lowMark : Nat
  clearMark : Nat
  logEnable : Bool
  logSize : Nat
  seatTime : Nat
  edgePeriod : Nat
  edgeModulus : Nat
  edgeLead : Nat
  alarmReporting : Bool
  polarity : Vector Bool 8
  debounce : Vector Nat 8
  deriving DecidableEq, Repr

/-- The defaults of R176. -/
def GlobalSettings.default : GlobalSettings :=
  { alarmUnknown := false, lowMark := 512, clearMark := 1024, logEnable := false, logSize := 256, seatTime := 100,
    edgePeriod := 10000000, edgeModulus := 1024, edgeLead := 200000, alarmReporting := true,
    polarity := Vector.replicate 8 false, debounce := Vector.replicate 8 20 }

/-- A selection of a reference, or NONE: the codes A 0, B 1, NONE 2 (R95). -/
inductive Sel where
  | a | b | none
  deriving DecidableEq, Repr

/-- Rounding modes (R104). -/
inductive Rounding where
  | nearestEven | towardZero | up | down
  deriving DecidableEq, Repr

/-- Table 8 record 0: the loop settings (R88). -/
structure LoopSettings where
  preferred : Sel
  revertive : Bool
  qualCount : Nat
  lockCount : Nat
  lockWindow : Nat
  stepThreshold : Nat
  stepInLock : Bool
  kp : Nat
  ki : Nat
  fmax : Nat
  rounding : Rounding
  holdoverLimit : Nat
  deriving DecidableEq, Repr

/-- The defaults of R88, record 0. -/
def LoopSettings.default : LoopSettings :=
  { preferred := .a, revertive := true, qualCount := 4, lockCount := 8, lockWindow := 100, stepThreshold := 20000,
    stepInLock := false, kp := 4, ki := 6, fmax := 10000, rounding := .nearestEven, holdoverLimit := 14400 }

/-- Table 8 records 1 and 2: a reference record; slot 16 is none (R88). -/
structure RefSettings where
  slot : Nat
  line : Line
  offset : Int
  deriving DecidableEq, Repr

/-- The defaults of R88, records 1 and 2. -/
def RefSettings.default : RefSettings := { slot := 16, line := .sb0, offset := 0 }

/-! ## Forwarding -/

/-- A flow table entry (R20's table, R186). The class code 3 is kept and governs as BULK (R182). -/
structure FlowEntry where
  valid : Bool
  kinds : BitVec 8
  park : Bool
  dest : SlotSet
  cls : BitVec 2
  egress : BitVec 6
  cut : BitVec 8
  area : BitVec 6
  log : Bool
  alarm : Bool
  deriving DecidableEq, Repr

/-- The entry of R20's reset: invalid and every other field zero. -/
def FlowEntry.zero : FlowEntry :=
  { valid := false, kinds := 0, park := false, dest := 0, cls := 0, egress := 0, cut := 0, area := 0, log := false,
    alarm := false }

/-- A transit log handle: record index and records-written count (R76). -/
structure LogHandle where
  idx : Nat
  count : Word
  deriving DecidableEq, Repr

/-- What header arrival decided for the parcel in reception (R17, R22, R25). -/
inductive Fate where
  | mgmt
  | timeOfDay
  | refused
  | poolCut
  | parked
  | passed (pid : Nat)
  deriving DecidableEq, Repr

/-- The parcel in reception of an ingress record (R21, R23); the two sets are those of an open STREAM parcel (R30). -/
structure Reception where
  hdr : Header
  stamp : Stamp
  entry : FlowEntry
  log : Option LogHandle
  fate : Fate
  enq : SlotSet
  disc : SlotSet
  deriving DecidableEq, Repr

/-- The waiting place of an ingress record (R32). `since` is the core period of entry, from which the stall timer runs
and by which pending parcels are ordered (R33, R35); `log` is the record index and the count saved at entry (R80). -/
structure Waiting where
  pid : Nat
  cls : Cls
  pending : SlotSet
  enq : SlotSet
  disc : SlotSet
  since : Nat
  log : Option LogHandle
  deriving DecidableEq, Repr

/-- Landing records (R61). -/
inductive Landing where
  | clear
  | discarding
  | landing (area : Fin 64) (hdr : Header) (words : List Word) (changed : Bool)
  deriving DecidableEq, Repr

/-! ## Pool, queues and transmission -/

/-- A stored parcel (R39). `blocks` are the numbers of its blocks and `nBlocks` is how many. -/
structure Stored where
  hdr : Header
  cls : Cls
  egress : BitVec 6
  owner : Slot
  nBlocks : Nat
  blocks : List Nat
  words : List Word
  isOpen : Bool
  refs : Nat
  deriving DecidableEq, Repr

/-- The block pool and the parcel store (R38, R39). `free` is the free set, ascending; `nextId` names the next stored
parcel and `allocs` counts allocations (the model's own handles). -/
structure Pool where
  freeCount : Nat
  free : List Nat
  parcels : Assoc Stored
  nextId : Nat
  allocs : Nat
  deriving DecidableEq, Repr

/-- What an EDGE parcel keeps beside its words: its edge instant and path delay (R116), and the core period it was made
in, since its header leaves at least one word slot later (R118). -/
structure EdgeNote where
  instant : CabTime
  delay : Nat
  made : Nat
  deriving DecidableEq, Repr

/-- An EDGE or TIME parcel of an express queue, an EDGE parcel with its note (R116). -/
structure ExpressParcel where
  chan : BitVec 6
  words : List Word
  edge : Option EdgeNote
  deriving DecidableEq, Repr

/-- A reply or ALARM parcel of the reply queue (R48, R163, R171). -/
structure ReplyParcel where
  kind : BitVec 3
  tag : BitVec 8
  words : List Word
  deriving DecidableEq, Repr

/-- The queue whose head a parcel in transmission is (R50). -/
inductive Origin where
  | express
  | reply
  | cls (c : Cls)
  deriving DecidableEq, Repr

/-- A parcel handed to the transmit side (R5, R50): its header as sent and whether it has left, payload words sent so
far, check register, and whether it is being ended early. `attached` is false once FABRIC-RESTART has emptied the queue
it came from (R56). `edge` is the note of an EDGE parcel (R116). `called` is true for an express parcel of an insertion
called for that follows the parcel it found in transmission (R14, R53). -/
structure TxParcel where
  origin : Origin
  edge : Option EdgeNote
  pid : Nat
  attached : Bool
  header : Word
  len : Nat
  headerSent : Bool
  sent : Nat
  crc : Word
  early : Bool
  called : Bool
  deriving DecidableEq, Repr

/-- How an express parcel handed over for insertion is placed (R14): one further word still owed, SUSPEND next, or
after the finished parcel. -/
inductive InsertMode where
  | wordOwed | suspendDue | follow
  deriving DecidableEq, Repr

/-- The transmit side (R14, R53): idle, sending, insertion called for and SUSPEND not sent, inside a bracket, or
CONTINUE waiting. -/
inductive Tx where
  | idle
  | sending (p : TxParcel)
  | insertCalled (p : TxParcel) (mode : InsertMode)
  | bracket (p x : TxParcel)
  | continueDue (p : TxParcel)
  deriving DecidableEq, Repr

/-! ## The parts of a slot -/

/-- A slot port (R4 to R15). `slotTaken` and `out` are the current word slot: whether it is used, and the last word
sent. -/
structure Port where
  link : LinkState
  rx : RxState
  windowErrs : Nat
  errTotal : Nat
  holdReq : Bool
  announcedHeld : Bool
  cardHold : Bool
  holdTimer : Option Uptime
  trainReq : Option Nat
  wakeAsked : Bool
  out : Option LinkWord
  slotTaken : Bool
  deriving DecidableEq, Repr

/-- An ingress record with its landing record and its time-of-day staging (R17 to R36, R61). -/
structure Ingress where
  reception : Option Reception
  waiting : Option Waiting
  todStage : List Word
  landing : Landing
  deriving DecidableEq, Repr

/-- The class queues (stored-parcel handles, oldest first), express queue and scheduler of a slot (R40, R47, R51, R52).
`bulkTurn` is the alternation bit. -/
structure Egress where
  stream : List Nat
  control : List Nat
  bulk : List Nat
  express : List ExpressParcel
  bulkTurn : Bool
  dwell : Nat
  tx : Tx
  deriving DecidableEq, Repr

/-- Slot states (R123). -/
inductive Phase where
  | empty | seated | powering | training | admitted | draining | quiesced | faulted
  deriving DecidableEq, Repr

/-- Power sub-modes (R123). -/
inductive SubMode where
  | awake | resting | waking
  deriving DecidableEq, Repr

/-- Fault reasons (R141). -/
inductive FaultReason where
  | powerTimeout | powerLost | trainingFailed | delayRange | linkLost
  deriving DecidableEq, Repr

/-- The slot timers (R130). -/
inductive TimerKind where
  | seat | power | release | wake | drain | gap
  deriving DecidableEq, Repr

/-- A running slot timer with its start (R130). -/
structure SlotTimer where
  kind : TimerKind
  start : Uptime
  deriving DecidableEq, Repr

/-- Where a training attempt stands: TRAIN-REQ asked for, inside an exchange's wait (departure stamp, core period of
departure, and whether its answer no longer counts), or between attempts (R131, R132). -/
inductive TrainStep where
  | request
  | wait (departure : CabTime) (since : Nat) (void : Bool)
  | gap
  deriving DecidableEq, Repr

/-- The training of a slot: attempt number (0 outside TRAINING), exchange, step and samples (R123, R131). -/
structure Training where
  attempt : Nat
  exchange : Nat
  step : TrainStep
  samples : List Nat
  deriving DecidableEq, Repr

/-- The debouncer of an ALARM-IN line: debounced state and the running debounce (R128). -/
structure Debounce where
  active : Bool
  run : Option Uptime
  deriving DecidableEq, Repr

/-- The slot controller of one slot, its lines and timers (R123 to R143). `lev0` and `lev1` are the levels cards drive
on SB0 and SB1; `resetOut` is the level of RESET-OUT lines; `pulse0` and `pulse1` are the core periods in which a
strobe pulse started (R119). -/
structure Ctl where
  phase : Phase
  sub : SubMode
  restReq : Bool
  pwrEn : Bool
  inputsEn : Bool
  delay : Nat
  reason : Option FaultReason
  timer : Option SlotTimer
  train : Training
  lastAnswers : Nat
  presL : Bool
  presS : Bool
  pwrGood : Bool
  lev0 : Bool
  lev1 : Bool
  resetOut : Bool
  pulse0 : Option Nat
  pulse1 : Option Nat
  deb0 : Debounce
  deb1 : Debounce
  deriving DecidableEq, Repr

/-- A parcel or strobe schedule: the edge instant it is for, and its dispatch or strobe time (R115). -/
structure Sched where
  edge : CabTime
  due : CabTime
  deriving DecidableEq, Repr

/-- The two schedules of a slot (R114, R115). -/
structure SlotEdges where
  parcel : Option Sched
  strobe : Option Sched
  deriving DecidableEq, Repr

/-- A chain descriptor, in transfer order (R145). -/
structure Descriptor where
  base : Nat
  len : Nat
  chan : BitVec 6
  kind : BitVec 3
  next : Fin 64
  endOfChain : Bool
  deriving DecidableEq, Repr

/-- The all-zero descriptor of R145. -/
def Descriptor.zero : Descriptor := { base := 0, len := 0, chan := 0, kind := 0, next := 0, endOfChain := false }

/-- Cursor states (R146). -/
inductive CursorState where
  | idle | running | finishing
  deriving DecidableEq, Repr

/-- A chain cursor (R146). -/
structure Cursor where
  state : CursorState
  cur : Fin 64
  copy : Descriptor
  visits : Nat
  offset : Nat
  made : Nat
  last : Option Nat
  deriving DecidableEq, Repr

/-- An IDLE cursor. -/
def Cursor.idle : Cursor :=
  { state := .idle, cur := 0, copy := Descriptor.zero, visits := 0, offset := 0, made := 0, last := none }

/-- Everything that exists once per slot. -/
structure SlotState where
  cfg : SlotSettings
  port : Port
  ing : Ingress
  egr : Egress
  ctl : Ctl
  edges : SlotEdges
  cursor : Cursor
  deriving DecidableEq, Repr

/-! ## The units that exist once -/

/-- Area modes (R58). -/
inductive AreaMode where
  | off | latest | ring
  deriving DecidableEq, Repr

/-- A park area entry: five settings and seven status fields (R58's table). `readable` is NONE, half 0 (false) or
half 1 (true). -/
structure Area where
  mode : AreaMode
  base : Nat
  size : Nat
  advance : Bool
  crossing : Bool
  writeIdx : Nat
  readable : Option Bool
  copies : Nat
  doneSec : Nat
  doneNs : Nat
  doneUp : Uptime
  deriving DecidableEq, Repr

/-- The area entry of R74's reset. -/
def Area.zero : Area :=
  { mode := .off, base := 0, size := 0, advance := false, crossing := false, writeIdx := 0, readable := none,
    copies := 0, doneSec := 0, doneNs := 0, doneUp := 0 }

/-- Parking memory (words that are not 0, by word index) and the park area table (R58). -/
structure Park where
  mem : Assoc Word
  areas : Vector Area 64
  deriving DecidableEq, Repr

/-- Transit log outcomes (R75, R187). -/
inductive LogOutcome where
  | inProgress | forwarded | partialOut | waiting | parked | refused | checkFail | poolEmpty | parkDiscard
  | noDestination | aborted
  deriving DecidableEq, Repr

/-- A transit log record (R75, R188). -/
structure LogRecord where
  outcome : LogOutcome
  reason : Nat
  ingress : Slot
  hdr : Header
  stamp : Stamp
  loc : Nat
  parked : Bool
  area : Nat
  enq : SlotSet
  second : SlotSet
  deriving DecidableEq, Repr

/-- The log ring; a place not listed reads as four words of 0 (R75). -/
structure TransitLog where
  recs : Assoc LogRecord
  idx : Nat
  count : Word
  deriving DecidableEq, Repr

/-- Loop states (R96). -/
inductive LoopState where
  | free | acquiring | locked | holdover
  deriving DecidableEq, Repr

/-- A reference: its record and what R91 says it holds. -/
structure Reference where
  cfg : RefSettings
  run : Nat
  last : Option CabTime
  early : Nat
  qualified : Bool
  staged : Option Nat
  deriving DecidableEq, Repr

/-- An unqualified reference with nothing remembered (R111). -/
def Reference.fresh (c : RefSettings) : Reference :=
  { cfg := c, run := 0, last := none, early := 0, qualified := false, staged := none }

/-- The timing unit (R85 to R111). `core` counts core periods since reset (the time base of the stall timer, exchange
waits, strobe pulses and the chain engine; the model's own counter). -/
structure Timing where
  time : CabTime
  uptime : Uptime
  core : Nat
  adj : Int
  intg : Int
  freq : Int
  loop : LoopState
  sel : Sel
  lock : Nat
  holdover : Option Uptime
  cfg : LoopSettings
  refA : Reference
  refB : Reference
  deriving DecidableEq, Repr

/-- Severities (R153). -/
inductive Severity where
  | warning | minor | major | critical
  deriving DecidableEq, Repr

/-- Actions of alarm entries (R160). -/
inductive AlarmAction where
  | raise | clear | event
  deriving DecidableEq, Repr

/-- An alarm entry (R160). -/
structure AlarmEntry where
  cause : Fin 64
  inst : Nat
  action : AlarmAction
  severity : Severity
  repeats : Nat
  param : Word
  stamp : Stamp
  deriving DecidableEq, Repr

/-- Cause settings and the suppressed count (R155). -/
structure CauseCfg where
  enable : Bool
  severity : Severity
  holdOff : Nat
  suppressed : Nat
  deriving DecidableEq, Repr

/-- Repeat tracking of a pair whose last-posted uptime is present (R159). -/
structure Track where
  last : Uptime
  pending : Nat
  deriving DecidableEq, Repr

/-- A cabinet alarm input: line level, debounced state and run timer (R165). -/
structure CabInput where
  level : Bool
  active : Bool
  run : Option Uptime
  deriving DecidableEq, Repr

/-- The alarm unit (R153 to R165). Raised pairs and tracking are keyed by cause × 64 + instance. -/
structure Alarm where
  causes : Vector CauseCfg 64
  raised : Assoc Word
  track : Assoc Track
  queue : Assoc AlarmEntry
  idx : Nat
  count : Word
  crit : Bool
  maj : Bool
  min : Bool
  inputs : Vector CabInput 8
  deriving DecidableEq, Repr

/-- Watch relations (R167). -/
inductive Relation where
  | u | l | e | g
  deriving DecidableEq, Repr

/-- A watch: nine settings, last relation and last value (R166's table). Its raised field is its pair in the raised
set. -/
structure Watch where
  enabled : Bool
  area : Fin 64
  offset : Nat
  isUnsigned : Bool
  threshold : Word
  mask : BitVec 4
  margin : Nat
  stale : Nat
  severity : Severity
  lastRel : Relation
  lastVal : Word
  deriving DecidableEq, Repr

/-- The all-zero watch of R166. -/
def Watch.zero : Watch :=
  { enabled := false, area := 0, offset := 0, isUnsigned := false, threshold := 0, mask := 0, margin := 0, stale := 0,
    severity := .warning, lastRel := .u, lastVal := 0 }

/-- A complete management request: tag and payload (R172). -/
structure Request where
  tag : BitVec 8
  words : List Word
  deriving DecidableEq, Repr

/-- The management unit, the reply queue and the latched straps (R171, R173, R180). -/
structure Mgmt where
  store : List Word
  queue : List Request
  replies : List ReplyParcel
  claim : Bool
  msel : Bool
  retain : Bool
  deriving DecidableEq, Repr

/-- The chain engine: descriptor table, rotation pointer, and while busy the core period of the making and the length
of the busy time (R145, R149). -/
structure ChainEngine where
  table : Vector Descriptor 64
  rotation : Slot
  busy : Option (Nat × Nat)
  deriving DecidableEq, Repr

/-- The whole switch, and the queue of commands that wait. -/
structure State where
  slots : Vector SlotState 16
  flow : Assoc FlowEntry
  pool : Pool
  park : Park
  log : TransitLog
  timing : Timing
  nextEdge : CabTime
  chain : ChainEngine
  watches : Vector Watch 32
  alarm : Alarm
  mgmt : Mgmt
  glob : GlobalSettings
  pending : List Instr
  deriving DecidableEq, Repr

/-! ## Reasons to stop -/

/-- No command makes the switch stop: the manual names no behaviour that halts it, so there is no fault. -/
inductive Fault where
  deriving DecidableEq, Repr

/-- Why a command has no meaning. -/
inductive Refusal where
  /-- Raised by `exec`'s arm of a command without a meaning. Safe. -/
  | notModelled (mnemonic : String)
  /-- Raised by MGMT_REQUEST and TIME_OF_DAY_PARCEL for a payload of more than 255 words, which no parcel carries (R2).
  Safe: the links cannot deliver such a parcel. -/
  | overlongPayload
  deriving DecidableEq, Repr

/-! ## Reset -/

/-- A port after reset (R16). -/
def Port.reset : Port :=
  { link := .down, rx := .awaitHeader, windowErrs := 0, errTotal := 0, holdReq := false, announcedHeld := false,
    cardHold := false, holdTimer := none, trainReq := none, wakeAsked := false, out := none, slotTaken := false }

/-- An ingress record after reset (R37, R74). -/
def Ingress.reset : Ingress := { reception := none, waiting := none, todStage := [], landing := .clear }

/-- Queues and scheduler after reset (R57): the alternation bit names CONTROL. -/
def Egress.reset : Egress :=
  { stream := [], control := [], bulk := [], express := [], bulkTurn := false, dwell := 0, tx := .idle }

/-- No training in progress. -/
def Training.none : Training := { attempt := 0, exchange := 0, step := .request, samples := [] }

/-- A debouncer at rest (R128). -/
def Debounce.rest : Debounce := { active := false, run := none }

/-- The slot controller after reset (R144), with the levels the lines have: PRES-L, PRES-S, PWR-GOOD, SB0, SB1. -/
def Ctl.reset (presL presS pwrGood lev0 lev1 : Bool) : Ctl :=
  { phase := .empty, sub := .awake, restReq := false, pwrEn := false, inputsEn := false, delay := 0, reason := none,
    timer := none, train := Training.none, lastAnswers := 0, presL := presL, presS := presS, pwrGood := pwrGood,
    lev0 := lev0, lev1 := lev1, resetOut := false, pulse0 := none, pulse1 := none, deb0 := Debounce.rest,
    deb1 := Debounce.rest }

/-- A slot after reset; `auto` for the management slot (R144). -/
def SlotState.reset (auto : Bool) (c : Ctl) : SlotState :=
  { cfg := SlotSettings.default auto, port := Port.reset, ing := Ingress.reset, egr := Egress.reset, ctl := c,
    edges := { parcel := none, strobe := none }, cursor := Cursor.idle }

/-- The pool after reset: every block free (R57). -/
def Pool.reset : Pool :=
  { freeCount := Config.poolBlocks, free := List.range Config.poolBlocks, parcels := [], nextId := 0, allocs := 0 }

/-- The transit log after reset (R84). -/
def TransitLog.reset : TransitLog := { recs := [], idx := 0, count := 0 }

/-- The timing unit after reset (R111). -/
def Timing.reset : Timing :=
  { time := { sec := 0, ns := 0, frac := 0 }, uptime := 0, core := 0, adj := 0, intg := 0, freq := 0, loop := .free,
    sel := .none, lock := 0, holdover := none, cfg := LoopSettings.default,
    refA := Reference.fresh RefSettings.default, refB := Reference.fresh RefSettings.default }

/-- The default severities of the catalogue (R153). For WATCH the catalogue says only that it is per watch: the value
that table 6 holds for it, which governs nothing (R156), is WARNING (log entry 52). -/
def defaultSeverity (c : Nat) : Severity :=
  if [1, 4, 6, 7].contains c then .major
  else if [2, 3, 22, 23, 24, 31, 33, 34, 35, 36, 37, 38, 39].contains c then .minor
  else if c = 5 then .critical
  else .warning

/-- The default settings of a cause (R155). -/
def CauseCfg.default (c : Nat) : CauseCfg :=
  { enable := true, severity := defaultSeverity c, holdOff := if 20 ≤ c ∧ c ≤ 42 then 1000 else 0, suppressed := 0 }

/-- Table 6 after reset (R155, R170). -/
def defaultCauses : Vector CauseCfg 64 := ⟨((List.range 64).map CauseCfg.default).toArray, by decide⟩

/-- A cabinet input after POWER-ON and PIN reset, with the level of its line (R170): ACTIVE-HIGH, so an active line
starts its run timer at uptime 0. -/
def CabInput.reset (level : Bool) : CabInput :=
  { level := level, active := false, run := if level then some 0 else none }

/-- The chain engine after reset (R145, R152). -/
def ChainEngine.reset : ChainEngine := { table := Vector.replicate 64 Descriptor.zero, rotation := 0, busy := none }

/-- The RESTARTED entry of a POWER-ON with both straps inactive, stamped at cabinet time 0 (R170, R181). -/
def restartedEntry : AlarmEntry :=
  { cause := 41, inst := 0, action := .event, severity := .warning, repeats := 0, param := 0,
    stamp := { sec := 0, ns := 0 } }

/-- The switch right after POWER-ON with straps MSEL and RETAIN inactive and every input line inactive, its RESTARTED
entry posted (R181; log entries 2 and 3). -/
def State.reset : State :=
  { slots := (Vector.replicate 16 (SlotState.reset false (Ctl.reset false false false false false))).set 0
      (SlotState.reset true (Ctl.reset false false false false false))
    flow := []
    pool := Pool.reset
    park := { mem := [], areas := Vector.replicate 64 Area.zero }
    log := TransitLog.reset
    timing := Timing.reset
    nextEdge := { sec := 0, ns := 10000000, frac := 0 }
    chain := ChainEngine.reset
    watches := Vector.replicate 32 Watch.zero
    alarm :=
      { causes := defaultCauses, raised := [], track := [(41 * 64, { last := 0, pending := 0 })],
        queue := [(0, restartedEntry)], idx := 1, count := 1, crit := false, maj := false, min := false,
        inputs := Vector.replicate 8 (CabInput.reset false) }
    mgmt := { store := [], queue := [], replies := [], claim := false, msel := false, retain := false }
    glob := GlobalSettings.default
    pending := [] }

end Sys2Proof.Machine
end

