-- ==== Sys2Proof/Machine/Ops.lean ====
section
/-! DEFINITION. The named operations every command is built from: sets of slots, sparse tables, parking memory, the check
register, cabinet time, rounding, and the accessors of State. -/

namespace Sys2Proof.Machine

/-! ## Sets of slots -/

/-- Slots in ascending order. -/
def allSlots : List Slot := [0, 1, 2, 3, 4, 5, 6, 7, 8, 9, 10, 11, 12, 13, 14, 15]

/-- The set holding one slot. -/
def slotBit (i : Slot) : SlotSet := 1#16 <<< i.val

/-- Membership. -/
def hasSlot (m : SlotSet) (i : Slot) : Bool := m.getLsbD i.val

/-- The set with a slot added. -/
def addSlot (m : SlotSet) (i : Slot) : SlotSet := m ||| slotBit i

/-- The set with a slot removed. -/
def delSlot (m : SlotSet) (i : Slot) : SlotSet := m &&& ~~~(slotBit i)

/-- The members in ascending order. -/
def slotsOf (m : SlotSet) : List Slot := allSlots.filter (hasSlot m)

/-! ## Sparse tables -/

/-- The value listed under a key. -/
def assocGet {α : Type} : Assoc α → Nat → Option α
  | [], _ => none
  | (j, v) :: r, k => if j = k then some v else assocGet r k

/-- List a value under a key, keys kept strictly rising. -/
def assocPut {α : Type} : Assoc α → Nat → α → Assoc α
  | [], k, v => [(k, v)]
  | (j, w) :: r, k, v => if k < j then (k, v) :: (j, w) :: r else if k = j then (k, v) :: r else (j, w) :: assocPut r k v

/-- Take a key out. -/
def assocDel {α : Type} (t : Assoc α) (k : Nat) : Assoc α := t.filter (fun p => p.1 != k)

/-- Keys strictly rising. -/
def assocWf {α : Type} : Assoc α → Bool
  | [] => true
  | [_] => true
  | (j, _) :: (k, w) :: r => decide (j < k) && assocWf ((k, w) :: r)

/-! ## Parking memory (R58) -/

/-- The word index an address computation names: parking memory is addressed 0 to 32,767. -/
def parkIndex (a : Nat) : Nat := a % Config.parkWords

/-- A word of parking memory; a word that is not listed is 0, as POWER-ON leaves it (R58). -/
def parkRead (m : Assoc Word) (a : Nat) : Word := (assocGet m (parkIndex a)).getD 0

/-- Write one word; a word of 0 is not listed. -/
def parkWrite (m : Assoc Word) (a : Nat) (v : Word) : Assoc Word :=
  if v = 0 then assocDel m (parkIndex a) else assocPut m (parkIndex a) v

/-- `n` words from a word index onward. -/
def parkReadN (m : Assoc Word) (a : Nat) : Nat → List Word
  | 0 => []
  | n + 1 => parkRead m a :: parkReadN m (a + 1) n

/-- The canonical form of parking memory: indexes rising and below 32,768, no listed word 0. -/
def parkWf (m : Assoc Word) : Bool := assocWf m && m.all (fun p => decide (p.1 < Config.parkWords) && p.2 != 0)

/-! ## The check register (R3) -/

/-- The register before the header. -/
def crcPreset : Word := 0xFFFFFFFF#32

/-- Feed one bit. -/
def crcBit (reg : Word) (bit : Bool) : Word :=
  if reg.getLsbD 31 != bit then (reg <<< 1) ^^^ 0x04C11DB7#32 else reg <<< 1

/-- Feed the low `n` bits of a word, the highest of them first. -/
def crcBits : Nat → Word → Word → Word
  | 0, reg, _ => reg
  | n + 1, reg, w => crcBits n (crcBit reg (w.getLsbD n)) w

/-- Feed a word, bit 31 first. -/
def crcWord (reg w : Word) : Word := crcBits 32 reg w

/-- Feed a list of words in order. -/
def crcWords (reg : Word) (ws : List Word) : Word := ws.foldl crcWord reg

/-- The check word of a register (R3): its complement. -/
def checkWord (reg : Word) : Word := ~~~reg

/-- A poisoned check (R5): the complement of the check word. -/
def poisonedWord (reg : Word) : Word := ~~~(checkWord reg)

/-! ## Rounding (R104) -/

/-- `num / den` rounded to an integer in a rounding mode. -/
def roundDiv (m : Rounding) (num : Int) (den : Nat) : Int :=
  let q := num / (den : Int)
  let r := num % (den : Int)
  if r = 0 then q
  else match m with
    | .down => q
    | .up => q + 1
    | .towardZero => if num < 0 then q + 1 else q
    | .nearestEven => if 2 * r < den then q else if (den : Int) < 2 * r then q + 1 else if q % 2 = 0 then q else q + 1

/-- Replace a value beyond −b … b by the bound (R104). -/
def clampTo (b x : Int) : Int := if x < -b then -b else if b < x then b else x

/-! ## Cabinet time (R85, R86) -/

/-- Cabinet time as one number, in units of 2^-32 ns. -/
def CabTime.total (t : CabTime) : Nat := (t.sec * Config.nsPerSec + t.ns) * Config.fracPerNs + t.frac

/-- Units of 2^-32 ns in the whole range of cabinet time. -/
def timeModulus : Nat := Config.secModulus * Config.nsPerSec * Config.fracPerNs

/-- The cabinet time of a number of units, modulo the range. -/
def CabTime.ofTotal (x : Nat) : CabTime :=
  let y := x % timeModulus
  { sec := y / (Config.nsPerSec * Config.fracPerNs), ns := y / Config.fracPerNs % Config.nsPerSec,
    frac := y % Config.fracPerNs }

/-- A time moved by a signed number of units. -/
def CabTime.move (t : CabTime) (amount : Int) : CabTime :=
  CabTime.ofTotal (((t.total : Int) + amount) % (timeModulus : Int)).toNat

/-- `a` less `b` in units of 2^-32 ns, reduced modulo the range and read as signed. R86 gives this reading for the
differences the timing unit takes; that the edge generator and the training exchanges take theirs so too, which tells
only where two times are more than half the range apart, is the model's choice (log entry 55). -/
def CabTime.diff (a b : CabTime) : Int :=
  let d := ((a.total : Int) - (b.total : Int)) % (timeModulus : Int)
  if d < (timeModulus : Int) / 2 then d else d - (timeModulus : Int)

/-- Whole nanoseconds as units. -/
def nsUnits (n : Int) : Int := n * (Config.fracPerNs : Int)

/-- The advance of one core period: 8 ns + D × 2^-32 ns (R85). -/
def CabTime.advance (t : CabTime) (adj : Int) : CabTime :=
  let f := (t.frac : Int) + adj
  let n := ((t.ns : Int) + 8 + f / (Config.fracPerNs : Int)).toNat
  let frac := (f % (Config.fracPerNs : Int)).toNat
  if Config.nsPerSec ≤ n then { sec := (t.sec + 1) % Config.secModulus, ns := n - Config.nsPerSec, frac := frac }
  else { sec := t.sec, ns := n, frac := frac }

/-- Whether the advance of one core period carries into the seconds (R85, R120). -/
def CabTime.carries (t : CabTime) (adj : Int) : Bool :=
  decide (Config.nsPerSec ≤ ((t.ns : Int) + 8 + ((t.frac : Int) + adj) / (Config.fracPerNs : Int)).toNat)

/-- The stamp of a time: low 16 bits of the seconds, nanoseconds (R23, R160). -/
def CabTime.stamp (t : CabTime) : Stamp := { sec := t.sec % 65536, ns := t.ns }

/-- Uptime elapsed since a start, modulo 2^32 (R87). -/
def elapsed (now start : Uptime) : Nat := (now - start).toNat

/-- A natural number as a word. -/
def wordOf (n : Nat) : Word := BitVec.ofNat 32 n

/-- An integer as a word, in two's complement (R182). -/
def wordOfInt (x : Int) : Word := BitVec.ofInt 32 x

/-! ## Accessors of State -/

/-- A slot. -/
def State.slot (s : State) (i : Slot) : SlotState := s.slots[i]

/-- Replace a slot. -/
def State.setSlot (s : State) (i : Slot) (x : SlotState) : State := { s with slots := s.slots.set i x }

/-- Change a slot's port. -/
def State.modPort (s : State) (i : Slot) (f : Port → Port) : State :=
  s.setSlot i { s.slot i with port := f (s.slot i).port }

/-- Change a slot's ingress record. -/
def State.modIng (s : State) (i : Slot) (f : Ingress → Ingress) : State :=
  s.setSlot i { s.slot i with ing := f (s.slot i).ing }

/-- Change a slot's queues and scheduler. -/
def State.modEgr (s : State) (i : Slot) (f : Egress → Egress) : State :=
  s.setSlot i { s.slot i with egr := f (s.slot i).egr }

/-- Change a slot's controller. -/
def State.modCtl (s : State) (i : Slot) (f : Ctl → Ctl) : State :=
  s.setSlot i { s.slot i with ctl := f (s.slot i).ctl }

/-- Change a slot's schedules. -/
def State.modEdges (s : State) (i : Slot) (f : SlotEdges → SlotEdges) : State :=
  s.setSlot i { s.slot i with edges := f (s.slot i).edges }

/-- Replace a slot's chain cursor. -/
def State.setCursor (s : State) (i : Slot) (c : Cursor) : State := s.setSlot i { s.slot i with cursor := c }

/-- Replace a slot's settings. -/
def State.setCfg (s : State) (i : Slot) (c : SlotSettings) : State := s.setSlot i { s.slot i with cfg := c }

/-- Change the pool. -/
def State.modPool (s : State) (f : Pool → Pool) : State := { s with pool := f s.pool }

/-- Change parking memory and the areas. -/
def State.modPark (s : State) (f : Park → Park) : State := { s with park := f s.park }

/-- Change the transit log. -/
def State.modLog (s : State) (f : TransitLog → TransitLog) : State := { s with log := f s.log }

/-- Change the timing unit. -/
def State.modTiming (s : State) (f : Timing → Timing) : State := { s with timing := f s.timing }

/-- Change the alarm unit. -/
def State.modAlarm (s : State) (f : Alarm → Alarm) : State := { s with alarm := f s.alarm }

/-- Change the management unit. -/
def State.modMgmt (s : State) (f : Mgmt → Mgmt) : State := { s with mgmt := f s.mgmt }

/-- Change the chain engine. -/
def State.modChain (s : State) (f : ChainEngine → ChainEngine) : State := { s with chain := f s.chain }

/-- Apply an operation to every slot in ascending order. -/
def State.eachSlot (s : State) (f : Slot → State → State) : State := allSlots.foldl (fun t i => f i t) s

/-- Cabinet time now. -/
def State.now (s : State) : CabTime := s.timing.time

/-- Uptime now. -/
def State.uptime (s : State) : Uptime := s.timing.uptime

/-- The management slot, which MSEL named at the last reset (R180). -/
def State.mgmtSlot (s : State) : Slot := if s.mgmt.msel then 1 else 0

/-- Whether a slot is ADMITTED with sub-mode AWAKE. -/
def State.isAwake (s : State) (i : Slot) : Bool :=
  (s.slot i).ctl.phase == .admitted && (s.slot i).ctl.sub == .awake

/-- Whether a link frames words: UP or RESTING (R4). -/
def LinkState.frames : LinkState → Bool
  | .up => true
  | .resting => true
  | _ => false

/-- Whether the port of a slot frames words. -/
def State.framing (s : State) (i : Slot) : Bool := (s.slot i).port.link.frames

/-- A reference. -/
def Timing.ref (t : Timing) : RefId → Reference
  | .a => t.refA
  | .b => t.refB

/-- Replace a reference. -/
def Timing.setRef (t : Timing) (r : RefId) (x : Reference) : Timing :=
  match r with
  | .a => { t with refA := x }
  | .b => { t with refB := x }

/-- Number of a reference: A 0, B 1 (00_scope.md, Instances). -/
def refNum : RefId → Nat
  | .a => 0
  | .b => 1

/-- A reference as a selection. -/
def refSel : RefId → Sel
  | .a => .a
  | .b => .b

/-- The function of a sideband line (R124). -/
def SlotSettings.fn (c : SlotSettings) : Line → LineFn
  | .sb0 => c.fn0
  | .sb1 => c.fn1

/-- The limit of a class queue (R41). -/
def SlotSettings.limit (c : SlotSettings) : Cls → Nat
  | .stream => c.streamLimit
  | .control => c.controlLimit
  | .bulk => c.bulkLimit

/-- A class queue (R40). -/
def Egress.queue (e : Egress) : Cls → List Nat
  | .stream => e.stream
  | .control => e.control
  | .bulk => e.bulk

/-- Replace a class queue. -/
def Egress.setQueue (e : Egress) (c : Cls) (q : List Nat) : Egress :=
  match c with
  | .stream => { e with stream := q }
  | .control => { e with control := q }
  | .bulk => { e with bulk := q }

/-- The stored parcel of a handle. -/
def State.parcel (s : State) (pid : Nat) : Option Stored := assocGet s.pool.parcels pid

/-- Take the command at the front of the queue off it. -/
def State.withPending (s : State) (p : List Instr) : State := { s with pending := p }

end Sys2Proof.Machine
end

