-- ==== Sys2Proof/Machine/Operands.lean ====
section
/-! DEFINITION. The word formats (R182 to R190): how headers, marks, requests, entries and records stand in words, and how
written images are read back into fields. -/

namespace Sys2Proof.Machine

/-! ## Codes -/

/-- Kind codes (R2). -/
def kindSample : BitVec 3 := 0
/-- TIMING. -/
def kindTiming : BitVec 3 := 3
/-- ALARM. -/
def kindAlarm : BitVec 3 := 4
/-- MGMT. -/
def kindMgmt : BitVec 3 := 5

/-- A yes or no as a number (R182). -/
def boolNat (b : Bool) : Nat := if b then 1 else 0

/-- A yes or no as a word. -/
def boolWord (b : Bool) : Word := wordOf (boolNat b)

/-! ## Parcel header and landing word (R183) -/

/-- Bits 24–0 of a header word; the unused bits are not stored (R182). -/
def Header.ofWord (w : Word) : Header :=
  { kind := w.extractLsb' 22 3, chan := w.extractLsb' 16 6, len := w.extractLsb' 8 8, tag := w.extractLsb' 0 8 }

/-- The header word of a header, with 0 in every unused bit. -/
def Header.toWord (h : Header) : Word := 0#7 ++ h.kind ++ h.chan ++ h.len ++ h.tag

/-- The landing word of a parked parcel (R64, R183). -/
def landingWord (good : Bool) (i : Slot) (h : Header) : Word :=
  BitVec.ofBool good ++ 0#2 ++ BitVec.ofNat 4 i.val ++ h.kind ++ h.chan ++ h.len ++ h.tag

/-- The length field of a landing word, bits 15–8 (R183). -/
def landingLen (w : Word) : Nat := (w.extractLsb' 8 8).toNat

/-! ## Link marks (R184) -/

/-- The mark code of a mark word. -/
def markCode (w : Word) : Nat := (w.extractLsb' 24 8).toNat
/-- The exchange number of a mark word. -/
def markExchange (w : Word) : BitVec 3 := w.extractLsb' 16 3
/-- The turnaround of a mark word. -/
def markTurnaround (w : Word) : BitVec 16 := w.extractLsb' 0 16

/-- A mark word without argument. -/
def markWordOf (code : Nat) : Word := BitVec.ofNat 8 code ++ 0#24
/-- TRAIN-REQ with its exchange number and turnaround 0. -/
def trainReqWord (k : Nat) : Word := 5#8 ++ 0#5 ++ BitVec.ofNat 3 k ++ 0#16

/-- Mark codes. -/
def codeIdle : Nat := 0
/-- HOLD-OFF. -/
def codeHoldOff : Nat := 1
/-- RESUME. -/
def codeResume : Nat := 2
/-- SUSPEND. -/
def codeSuspend : Nat := 3
/-- CONTINUE. -/
def codeContinue : Nat := 4
/-- TRAIN-ECHO. -/
def codeTrainEcho : Nat := 6
/-- REST. -/
def codeRest : Nat := 7
/-- WAKE. -/
def codeWake : Nat := 8
/-- AWAKE. -/
def codeAwake : Nat := 9

/-! ## Management leading words (R185) -/

/-- Status codes (R171). -/
inductive Status where
  | done | busy | badRequest | badTable | badIndex | badValue | readOnly | wrongState
  deriving DecidableEq, Repr

/-- The code of a status. -/
def Status.code : Status → Nat
  | .done => 0
  | .busy => 1
  | .badRequest => 2
  | .badTable => 3
  | .badIndex => 4
  | .badValue => 5
  | .readOnly => 6
  | .wrongState => 7

/-- A word of a request's payload; a word that is not there reads as 0. -/
def Request.word (r : Request) (k : Nat) : Word := r.words.getD k 0
/-- The request code, bits 31–24 of word 0. -/
def Request.code (r : Request) : Nat := ((r.word 0).extractLsb' 24 8).toNat
/-- The table number or action code, bits 7–0 of word 0. -/
def Request.subject (r : Request) : Nat := ((r.word 0).extractLsb' 0 8).toNat
/-- Word 1 as a number: first index, base word, area or first operand. -/
def Request.first (r : Request) : Nat := (r.word 1).toNat
/-- Word 2 as a number: count or starting word. -/
def Request.count (r : Request) : Nat := (r.word 2).toNat

/-- Word 0 of a reply: status code and request code answered. -/
def replyWord (st : Status) (code : Nat) : Word := BitVec.ofNat 8 st.code ++ BitVec.ofNat 8 code ++ 0#16

/-- The reply to a request (R171). -/
def replyTo (r : Request) (st : Status) (data : List Word) : ReplyParcel :=
  { kind := kindMgmt, tag := r.tag, words := replyWord st r.code :: data }

/-- The header of a reply or ALARM parcel: channel 63 (R163, R171). -/
def ReplyParcel.header (p : ReplyParcel) : Header :=
  { kind := p.kind, chan := 63, len := BitVec.ofNat 8 p.words.length, tag := p.tag }

/-- The header of an express parcel: kind TIMING, tag 0 (R116, R120). -/
def ExpressParcel.header (p : ExpressParcel) : Header :=
  { kind := kindTiming, chan := p.chan, len := BitVec.ofNat 8 p.words.length, tag := 0 }

/-! ## Flow entry (R186) -/

/-- The two words of a flow entry. -/
def FlowEntry.words (e : FlowEntry) : List Word :=
  [BitVec.ofBool e.valid ++ e.kinds ++ BitVec.ofBool e.park ++ e.dest ++ e.cls ++ 0#4,
   e.egress ++ e.cut ++ e.area ++ BitVec.ofBool e.log ++ BitVec.ofBool e.alarm ++ 0#10]

/-- The flow entry of two words; unused bits are ignored (R182). -/
def FlowEntry.ofWords (a b : Word) : FlowEntry :=
  { valid := a.getLsbD 31, kinds := a.extractLsb' 23 8, park := a.getLsbD 22, dest := a.extractLsb' 6 16,
    cls := a.extractLsb' 4 2, egress := b.extractLsb' 26 6, cut := b.extractLsb' 18 8, area := b.extractLsb' 12 6,
    log := b.getLsbD 11, alarm := b.getLsbD 10 }

/-- An image is refused when it permits MGMT or a code 6 or 7 (R20): bits 28, 29, 30 of word 0. -/
def flowImageOk (ws : List Word) : Bool :=
  let e := FlowEntry.ofWords (ws.getD 0 0) (ws.getD 1 0)
  !(e.kinds.getLsbD 5 || e.kinds.getLsbD 6 || e.kinds.getLsbD 7)

/-- The class a flow entry governs its parcels as; code 3 governs as BULK (R182). -/
def FlowEntry.govern (e : FlowEntry) : Cls :=
  match e.cls.toNat with
  | 0 => .stream
  | 1 => .control
  | _ => .bulk

/-- Whether an entry permits a kind. -/
def FlowEntry.permits (e : FlowEntry) (k : BitVec 3) : Bool := e.kinds.getLsbD k.toNat

/-! ## Transit log record (R187, R188) -/

/-- Outcome codes. -/
def LogOutcome.code : LogOutcome → Nat
  | .inProgress => 1
  | .forwarded => 2
  | .partialOut => 3
  | .waiting => 4
  | .parked => 5
  | .refused => 6
  | .checkFail => 7
  | .poolEmpty => 8
  | .parkDiscard => 9
  | .noDestination => 10
  | .aborted => 11

/-- The code of a slot in the slot map. -/
def LogRecord.slotCode (r : LogRecord) (i : Slot) : BitVec 2 :=
  if i = r.ingress then 3 else if hasSlot r.enq i then 1 else if hasSlot r.second i then 2 else 0

/-- The slot map: slot s has bits 2s + 1 and 2s. -/
def LogRecord.slotMap (r : LogRecord) : Word :=
  allSlots.foldl (fun w i => w ||| ((r.slotCode i).setWidth 32 <<< (2 * i.val))) 0

/-- The four words of a record. -/
def LogRecord.words (r : LogRecord) : List Word :=
  [BitVec.ofNat 16 r.stamp.sec ++ 0#3 ++ BitVec.ofNat 13 r.loc,
   BitVec.ofNat 2 r.reason ++ BitVec.ofNat 30 r.stamp.ns,
   BitVec.ofNat 4 r.outcome.code ++ BitVec.ofBool r.parked ++ 0#2 ++ (r.hdr.toWord.extractLsb' 0 25),
   if r.parked then 0#18 ++ BitVec.ofNat 6 r.area ++ 0#4 ++ BitVec.ofNat 4 r.ingress.val else r.slotMap]

/-! ## Alarm entry (R189) -/

/-- Severity codes (R153). -/
def Severity.code : Severity → Nat
  | .warning => 0
  | .minor => 1
  | .major => 2
  | .critical => 3

/-- The severity of a code below 4. -/
def Severity.ofCode : Nat → Severity
  | 0 => .warning
  | 1 => .minor
  | 2 => .major
  | _ => .critical

/-- Action codes. -/
def AlarmAction.code : AlarmAction → Nat
  | .raise => 0
  | .clear => 1
  | .event => 2

/-- The four words of an alarm entry. -/
def AlarmEntry.words (e : AlarmEntry) : List Word :=
  [BitVec.ofNat 6 e.cause.val ++ BitVec.ofNat 6 e.inst ++ BitVec.ofNat 2 e.action.code
     ++ BitVec.ofNat 2 e.severity.code ++ 0#8 ++ BitVec.ofNat 8 e.repeats,
   e.param,
   0#2 ++ BitVec.ofNat 30 e.stamp.ns,
   0#16 ++ BitVec.ofNat 16 e.stamp.sec]

/-! ## EDGE and TIME payloads (R190) -/

/-- Seconds as two words, upper 16 bits first. -/
def secWords (sec : Nat) : List Word := [wordOf (sec / 2 ^ 32), wordOf sec]

/-- The payload of an EDGE parcel as it is made: departure fields 0. -/
def edgePayload (e : CabTime) (number : Nat) : List Word :=
  secWords e.sec ++ [wordOf e.ns, wordOf number, 0, 0]

/-- The payload of an EDGE parcel with its departure written (R55). -/
def stampDeparture (ws : List Word) (t : CabTime) : List Word :=
  (ws.set 4 (wordOf t.sec)).set 5 (wordOf t.ns)

/-- The 48-bit seconds value of a time-of-day payload: upper bits of word 0 ignored (R100). -/
def todSeconds (w0 w1 : Word) : Nat := (w0.toNat % 65536) * 2 ^ 32 + w1.toNat

/-! ## Images of settings -/

/-- Every word of an image lies in its field's range. -/
def inRanges (ws : List Word) (rs : List (Nat × Nat)) : Bool :=
  decide (ws.length = rs.length) && (ws.zip rs).all (fun p => decide (p.2.1 ≤ p.1.toNat) && decide (p.1.toNat ≤ p.2.2))

/-- A field of an image as a number. -/
def fieldNat (ws : List Word) (k : Nat) : Nat := (ws.getD (k - 1) 0).toNat
/-- A field of an image as yes or no. -/
def fieldBool (ws : List Word) (k : Nat) : Bool := decide (fieldNat ws k = 1)

/-- Codes of line functions (R124). -/
def LineFn.code : LineFn → Nat
  | .none => 0
  | .alarmIn => 1
  | .pulseIn => 2
  | .wakeIn => 3
  | .strobeOut => 4
  | .resetOut => 5

/-- The line function of a code. -/
def LineFn.ofCode : Nat → LineFn
  | 0 => .none
  | 1 => .alarmIn
  | 2 => .pulseIn
  | 3 => .wakeIn
  | 4 => .strobeOut
  | _ => .resetOut

/-- Codes of edge enrolments (R114). -/
def EdgeEnrol.code : EdgeEnrol → Nat
  | .none => 0
  | .parcel => 1
  | .strobe => 2
  | .both => 3

/-- The enrolment of a code. -/
def EdgeEnrol.ofCode : Nat → EdgeEnrol
  | 0 => .none
  | 1 => .parcel
  | 2 => .strobe
  | _ => .both

/-- Codes of selections (R95). -/
def Sel.code : Sel → Nat
  | .a => 0
  | .b => 1
  | .none => 2

/-- The selection of a code. -/
def Sel.ofCode : Nat → Sel
  | 0 => .a
  | 1 => .b
  | _ => .none

/-- Codes of rounding modes (R88). -/
def Rounding.code : Rounding → Nat
  | .nearestEven => 0
  | .towardZero => 1
  | .up => 2
  | .down => 3

/-- The rounding mode of a code. -/
def Rounding.ofCode : Nat → Rounding
  | 0 => .nearestEven
  | 1 => .towardZero
  | 2 => .up
  | _ => .down

/-- Codes of area modes (R58's table). -/
def AreaMode.code : AreaMode → Nat
  | .off => 0
  | .latest => 1
  | .ring => 2

/-- The area mode of a code. -/
def AreaMode.ofCode : Nat → AreaMode
  | 0 => .off
  | 1 => .latest
  | _ => .ring

/-- Codes of loop states (R96). -/
def LoopState.code : LoopState → Nat
  | .free => 0
  | .acquiring => 1
  | .locked => 2
  | .holdover => 3

/-- Codes of watch relations (R166's table). -/
def Relation.code : Relation → Nat
  | .u => 0
  | .l => 1
  | .e => 2
  | .g => 3

/-- Codes of slot states (R143). -/
def Phase.code : Phase → Nat
  | .empty => 0
  | .seated => 1
  | .powering => 2
  | .training => 3
  | .admitted => 4
  | .draining => 5
  | .quiesced => 6
  | .faulted => 7

/-- Codes of sub-modes (R143). -/
def SubMode.code : SubMode → Nat
  | .awake => 0
  | .resting => 1
  | .waking => 2

/-- Codes of fault reasons (R141). -/
def FaultReason.code : FaultReason → Nat
  | .powerTimeout => 1
  | .powerLost => 2
  | .trainingFailed => 3
  | .delayRange => 4
  | .linkLost => 5

/-- Codes of link states (R143). -/
def LinkState.code : LinkState → Nat
  | .down => 0
  | .training => 1
  | .up => 2
  | .resting => 3

/-- The ranges of table 1 (R124). -/
def slotRanges : List (Nat × Nat) :=
  [(0, 1), (0, 1), (0, 1), (0, 1), (0, 1), (0, 5), (0, 5), (5, 500), (1, 100), (1, 100), (1, 1000), (1, 65535),
   (1, 65535), (0, 8192), (0, 8192), (0, 8192), (0, 1), (0, 65535), (0, 3), (0, 1), (0, 10000), (0, 64), (0, 1)]

/-- The image of slot settings (R124). -/
def SlotSettings.words (c : SlotSettings) : List Word :=
  [boolNat c.autoPower, boolNat c.autoPowerOff, boolNat c.wakeOnTraffic, boolNat c.manualHold,
   if c.policy = .queue then 0 else 1, c.fn0.code, c.fn1.code, c.powerTime, c.releaseTime, c.wakeTime, c.drainTime,
   c.holdOffLimit, c.stallTime, c.streamLimit, c.controlLimit, c.bulkLimit, if c.arb = .controlFirst then 0 else 1,
   c.dwellLimit, c.edgeEnrol.code, boolNat c.timeEnrol, c.strobeAdvance, c.chainHead, boolNat c.chainAuto].map wordOf

/-- The slot settings of an image whose fields are in range (R124). -/
def SlotSettings.ofWords (ws : List Word) : SlotSettings :=
  { autoPower := fieldBool ws 1, autoPowerOff := fieldBool ws 2, wakeOnTraffic := fieldBool ws 3,
    manualHold := fieldBool ws 4, policy := if fieldNat ws 5 = 0 then .queue else .discard,
    fn0 := LineFn.ofCode (fieldNat ws 6), fn1 := LineFn.ofCode (fieldNat ws 7), powerTime := fieldNat ws 8,
    releaseTime := fieldNat ws 9, wakeTime := fieldNat ws 10, drainTime := fieldNat ws 11,
    holdOffLimit := fieldNat ws 12, stallTime := fieldNat ws 13, streamLimit := fieldNat ws 14,
    controlLimit := fieldNat ws 15, bulkLimit := fieldNat ws 16,
    arb := if fieldNat ws 17 = 0 then .controlFirst else .alternate, dwellLimit := fieldNat ws 18,
    edgeEnrol := EdgeEnrol.ofCode (fieldNat ws 19), timeEnrol := fieldBool ws 20, strobeAdvance := fieldNat ws 21,
    chainHead := fieldNat ws 22, chainAuto := fieldBool ws 23 }

/-- The image of a park area entry (R58's table, R59). -/
def Area.words (a : Area) : List Word :=
  [wordOf a.mode.code, wordOf a.base, wordOf a.size, boolWord a.advance, boolWord a.crossing, wordOf a.writeIdx,
   (match a.readable with | none => 3 | some false => 0 | some true => 1), wordOf a.copies,
   wordOf (a.doneSec / 2 ^ 32), wordOf a.doneSec, wordOf a.doneNs, a.doneUp]

/-- The ring sizes (R58's table). -/
def ringSizes : List Nat := [128, 256, 512, 1024, 2048, 4096, 8192]

/-- The checks of R59 on the five setting fields; status fields are not checked. -/
def areaImageOk (ws : List Word) : Bool :=
  let base := fieldNat ws 2
  let size := fieldNat ws 3
  decide (base ≤ 32767) && decide (fieldNat ws 4 ≤ 1) && decide (fieldNat ws 5 ≤ 1) &&
  (match fieldNat ws 1 with
   | 0 => decide (size ≤ 8192)
   | 1 => decide (1 ≤ size) && decide (size ≤ 256) && decide (base + 2 * size ≤ 32768)
   | 2 => ringSizes.contains size && decide (base + size ≤ 32768)
   | _ => false)

/-- The entry a write leaves: settings from the image, status fields reset (R60). -/
def Area.ofWords (ws : List Word) : Area :=
  { Area.zero with
    mode := AreaMode.ofCode (fieldNat ws 1), base := fieldNat ws 2, size := fieldNat ws 3, advance := fieldBool ws 4,
    crossing := fieldBool ws 5 }

/-- The ranges of the nine setting fields of a watch (R166). -/
def watchRanges : List (Nat × Nat) :=
  [(0, 1), (0, 63), (0, 254), (0, 1), (0, 4294967295), (0, 15), (0, 2147483647), (0, 65535), (0, 3)]

/-- The image of a watch, given whether its pair is raised (R166's table). -/
def Watch.words (w : Watch) (raised : Bool) : List Word :=
  [boolWord w.enabled, wordOf w.area.val, wordOf w.offset, boolWord w.isUnsigned, w.threshold, w.mask.setWidth 32,
   wordOf w.margin, wordOf w.stale, wordOf w.severity.code, boolWord raised, wordOf w.lastRel.code, w.lastVal]

/-- An image's setting fields in a watch that keeps its status fields. -/
def Watch.withWords (w : Watch) (ws : List Word) : Watch :=
  { w with
    enabled := fieldBool ws 1, area := Fin.ofNat 64 (fieldNat ws 2), offset := fieldNat ws 3,
    isUnsigned := fieldBool ws 4, threshold := ws.getD 4 0, mask := BitVec.ofNat 4 (fieldNat ws 6),
    margin := fieldNat ws 7, stale := fieldNat ws 8, severity := Severity.ofCode (fieldNat ws 9) }

/-- The ranges of a chain descriptor (R145). -/
def descriptorRanges : List (Nat × Nat) := [(0, 32767), (1, 4096), (0, 63), (1, 2), (0, 63), (0, 1)]

/-- The image of a chain descriptor (R145). -/
def Descriptor.words (d : Descriptor) : List Word :=
  [wordOf d.base, wordOf d.len, d.chan.setWidth 32, d.kind.setWidth 32, wordOf d.next.val, boolWord d.endOfChain]

/-- The checks of R145. -/
def descriptorImageOk (ws : List Word) : Bool :=
  inRanges ws descriptorRanges && decide (fieldNat ws 1 + fieldNat ws 2 ≤ 32768)

/-- The chain descriptor of an image (R145). -/
def Descriptor.ofWords (ws : List Word) : Descriptor :=
  { base := fieldNat ws 1, len := fieldNat ws 2, chan := BitVec.ofNat 6 (fieldNat ws 3),
    kind := BitVec.ofNat 3 (fieldNat ws 4), next := Fin.ofNat 64 (fieldNat ws 5), endOfChain := fieldBool ws 6 }

/-- The ranges of the three setting fields of a cause (R156). -/
def causeRanges : List (Nat × Nat) := [(0, 1), (0, 3), (0, 65535)]

/-- Image of a cause's settings, given its raised instances (R155). -/
def CauseCfg.words (c : CauseCfg) (raised : Word) : List Word :=
  [boolWord c.enable, wordOf c.severity.code, wordOf c.holdOff, raised, wordOf c.suppressed]

/-- The ranges of table 7 (R176); log size and edge period have further checks. -/
def globalRanges : List (Nat × Nat) :=
  [(0, 1), (0, 8192), (0, 8192), (0, 1), (256, 2048), (10, 1000), (1000000, 1000000000), (1, 65535), (0, 1000000),
   (0, 1)] ++ List.replicate 8 (0, 1) ++ List.replicate 8 (1, 255)

/-- The checks of R176. -/
def globalImageOk (ws : List Word) : Bool :=
  inRanges ws globalRanges && [256, 512, 1024, 2048].contains (fieldNat ws 5) &&
  decide (fieldNat ws 2 ≤ fieldNat ws 3) && decide (Config.nsPerSec % fieldNat ws 7 = 0)

/-- The image of the global settings (R176). -/
def GlobalSettings.words (g : GlobalSettings) : List Word :=
  [boolWord g.alarmUnknown, wordOf g.lowMark, wordOf g.clearMark, boolWord g.logEnable, wordOf g.logSize,
   wordOf g.seatTime, wordOf g.edgePeriod, wordOf g.edgeModulus, wordOf g.edgeLead, boolWord g.alarmReporting]
  ++ g.polarity.toList.map boolWord ++ g.debounce.toList.map wordOf

/-- The global settings of an image in range (R176). -/
def GlobalSettings.ofWords (ws : List Word) : GlobalSettings :=
  { alarmUnknown := fieldBool ws 1, lowMark := fieldNat ws 2, clearMark := fieldNat ws 3, logEnable := fieldBool ws 4,
    logSize := fieldNat ws 5, seatTime := fieldNat ws 6, edgePeriod := fieldNat ws 7, edgeModulus := fieldNat ws 8,
    edgeLead := fieldNat ws 9, alarmReporting := fieldBool ws 10,
    polarity := #v[fieldBool ws 11, fieldBool ws 12, fieldBool ws 13, fieldBool ws 14, fieldBool ws 15,
      fieldBool ws 16, fieldBool ws 17, fieldBool ws 18],
    debounce := #v[fieldNat ws 19, fieldNat ws 20, fieldNat ws 21, fieldNat ws 22, fieldNat ws 23, fieldNat ws 24,
      fieldNat ws 25, fieldNat ws 26] }

/-- The ranges of table 8 record 0 (R88). -/
def loopRanges : List (Nat × Nat) :=
  [(0, 2), (0, 1), (2, 15), (1, 255), (1, 1000000), (100, 500000000), (0, 1), (0, 23), (0, 23), (1, 200000), (0, 3),
   (1, 86400)]

/-- The image of the loop settings (R88). -/
def LoopSettings.words (c : LoopSettings) : List Word :=
  [c.preferred.code, boolNat c.revertive, c.qualCount, c.lockCount, c.lockWindow, c.stepThreshold,
   boolNat c.stepInLock, c.kp, c.ki, c.fmax, c.rounding.code, c.holdoverLimit].map wordOf

/-- The loop settings of an image in range (R88). -/
def LoopSettings.ofWords (ws : List Word) : LoopSettings :=
  { preferred := Sel.ofCode (fieldNat ws 1), revertive := fieldBool ws 2, qualCount := fieldNat ws 3,
    lockCount := fieldNat ws 4, lockWindow := fieldNat ws 5, stepThreshold := fieldNat ws 6,
    stepInLock := fieldBool ws 7, kp := fieldNat ws 8, ki := fieldNat ws 9, fmax := fieldNat ws 10,
    rounding := Rounding.ofCode (fieldNat ws 11), holdoverLimit := fieldNat ws 12 }

/-- The image of a reference record (R88); the offset is signed. -/
def RefSettings.words (c : RefSettings) : List Word :=
  [wordOf c.slot, if c.line = .sb0 then 0 else 1, wordOfInt c.offset]

/-- The checks of R88 on a reference record. -/
def refImageOk (ws : List Word) : Bool :=
  decide (fieldNat ws 1 ≤ 16) && decide (fieldNat ws 2 ≤ 1) &&
  decide (-1000000 ≤ (ws.getD 2 0).toInt) && decide ((ws.getD 2 0).toInt ≤ 1000000)

/-- The reference record of an image in range (R88). -/
def RefSettings.ofWords (ws : List Word) : RefSettings :=
  { slot := fieldNat ws 1, line := if fieldNat ws 2 = 0 then .sb0 else .sb1, offset := (ws.getD 2 0).toInt }

end Sys2Proof.Machine
end

