-- ==== Sys2Proof/Machine/Flags.lean ====
section
/-! DEFINITION. The alarm unit: causes, the raised set, events and the repeat hold-off, the alarm queue, ALARM parcels and
the relays (R153 to R164). -/

namespace Sys2Proof.Machine

/-! ## Cause codes (R153) -/

/-- SLOT-FAULT. -/
def causeSlotFault : Fin 64 := 1
/-- CARD-ALARM. -/
def causeCardAlarm : Fin 64 := 2
/-- REF-LOSS. -/
def causeRefLoss : Fin 64 := 3
/-- HOLDOVER. -/
def causeHoldover : Fin 64 := 4
/-- FREE-RUN. -/
def causeFreeRun : Fin 64 := 5
/-- POOL-LOW. -/
def causePoolLow : Fin 64 := 6
/-- CABINET-INPUT. -/
def causeCabinetInput : Fin 64 := 7
/-- WATCH. -/
def causeWatch : Fin 64 := 8
/-- LINK-HELD. -/
def causeLinkHeld : Fin 64 := 9
/-- PARCEL-REFUSED. -/
def causeParcelRefused : Fin 64 := 20
/-- CHECK-FAIL. -/
def causeCheckFail : Fin 64 := 21
/-- POOL-CUT. -/
def causePoolCut : Fin 64 := 22
/-- STALL-DISCARD. -/
def causeStallDiscard : Fin 64 := 23
/-- STREAM-DROP. -/
def causeStreamDrop : Fin 64 := 24
/-- PARK-DISCARD. -/
def causeParkDiscard : Fin 64 := 25
/-- RING-HALF. -/
def causeRingHalf : Fin 64 := 26
/-- RING-WRAP. -/
def causeRingWrap : Fin 64 := 27
/-- LOG-HALF. -/
def causeLogHalf : Fin 64 := 28
/-- LOG-WRAP. -/
def causeLogWrap : Fin 64 := 29
/-- SLOT-ADMITTED. -/
def causeSlotAdmitted : Fin 64 := 30
/-- SLOT-REMOVED. -/
def causeSlotRemoved : Fin 64 := 31
/-- CHAIN-DONE. -/
def causeChainDone : Fin 64 := 32
/-- CHAIN-ABORTED. -/
def causeChainAborted : Fin 64 := 33
/-- TIME-STEP. -/
def causeTimeStep : Fin 64 := 34
/-- FREQ-LIMIT. -/
def causeFreqLimit : Fin 64 := 35
/-- REFERENCE-SWITCH. -/
def causeReferenceSwitch : Fin 64 := 36
/-- SECONDS-MISMATCH. -/
def causeSecondsMismatch : Fin 64 := 37
/-- EDGE-LATE. -/
def causeEdgeLate : Fin 64 := 38
/-- EXPRESS-OVERRUN. -/
def causeExpressOverrun : Fin 64 := 39
/-- QUEUE-WRAPPED. -/
def causeQueueWrapped : Fin 64 := 40
/-- RESTARTED. -/
def causeRestarted : Fin 64 := 41
/-- TIMING-STATE. -/
def causeTimingState : Fin 64 := 42

/-- Codes 1 to 9 are standing causes (R153). -/
def isStanding (c : Fin 64) : Bool := decide (1 ≤ c.val) && decide (c.val ≤ 9)

/-- The key of a (cause, instance) pair. -/
def pairKey (c : Fin 64) (inst : Nat) : Nat := c.val * 64 + inst

/-- The cause of a pair's key. -/
def keyCause (k : Nat) : Fin 64 := Fin.ofNat 64 (k / 64)

/-- Whether a pair is in the raised set (R157). -/
def State.isRaised (s : State) (c : Fin 64) (inst : Nat) : Bool := (assocGet s.alarm.raised (pairKey c inst)).isSome

/-- The settings of a cause. -/
def State.cause (s : State) (c : Fin 64) : CauseCfg := s.alarm.causes[c]

/-- Severity of an entry or pair: the watch's for cause 8, else the cause's (R160, R164). -/
def State.severityOf (s : State) (c : Fin 64) (inst : Nat) : Severity :=
  if c = causeWatch then s.watches[Fin.ofNat 32 inst].severity else (s.cause c).severity

/-! ## Relays (R164) -/

/-- Whether the raised set holds a pair of an enabled cause with a severity. -/
def State.drives (s : State) (sev : Severity) : Bool :=
  s.alarm.raised.any (fun p => (s.cause (keyCause p.1)).enable && s.severityOf (keyCause p.1) (p.1 % 64) == sev)

/-- The relays follow the severities of the enabled raised conditions. -/
def judgeRelays (s : State) : State :=
  s.modAlarm (fun a => { a with crit := s.drives .critical, maj := s.drives .major, min := s.drives .minor })

/-! ## Entries (R160, R161, R163) -/

/-- Places of the reply queue that are taken, the claimed one included (R173). -/
def Mgmt.taken (m : Mgmt) : Nat := m.replies.length + boolNat m.claim

/-- The ALARM parcel of an entry, carrying the entries-posted count (R163). -/
def alarmParcel (count : Word) (e : AlarmEntry) : ReplyParcel :=
  { kind := kindAlarm, tag := 0, words := count :: e.words }

/-- Offer an entry just written as an ALARM parcel (R163, R48). -/
def offerAlarmParcel (e : AlarmEntry) (s : State) : State :=
  if s.glob.alarmReporting && s.isAwake s.mgmtSlot && decide (s.mgmt.taken < Config.replyPlaces) then
    s.modMgmt (fun m => { m with replies := m.replies ++ [alarmParcel s.alarm.count e] })
  else s

/-- Write an entry at the write index and offer it (R161, R163). -/
def writeEntry (e : AlarmEntry) (s : State) : State :=
  offerAlarmParcel e (s.modAlarm (fun a =>
    { a with queue := assocPut a.queue a.idx e, idx := (a.idx + 1) % Config.alarmPlaces, count := a.count + 1 }))

/-- The entry of a report, stamped with cabinet time (R160). -/
def makeEntry (c : Fin 64) (inst : Nat) (act : AlarmAction) (repeats : Nat) (param : Word) (s : State) : AlarmEntry :=
  { cause := c, inst := inst, action := act, severity := s.severityOf c inst, repeats := repeats, param := param,
    stamp := s.now.stamp }

/-- The pending repeat count of a pair (R159). -/
def State.pendingRepeats (s : State) (c : Fin 64) (inst : Nat) : Nat :=
  ((assocGet s.alarm.track (pairKey c inst)).map (·.pending)).getD 0

/-- A posted event makes the current uptime its pair's last-posted uptime, with no pending repeats (R159). -/
def trackPosted (c : Fin 64) (inst : Nat) (s : State) : State :=
  s.modAlarm (fun a => { a with track := assocPut a.track (pairKey c inst) { last := s.uptime, pending := 0 } })

/-- QUEUE-WRAPPED, judged with a hold-off of 0 when the write index has come to 0 (R161). -/
def judgeWrap (s : State) : State :=
  if s.alarm.idx = 0 ∧ (s.cause causeQueueWrapped).enable then
    trackPosted causeQueueWrapped 0
      (writeEntry (makeEntry causeQueueWrapped 0 .event (s.pendingRepeats causeQueueWrapped 0) s.alarm.count s) s)
  else s

/-- Post an entry: write it, offer it, and mark a wrap of the queue. -/
def postEntry (c : Fin 64) (inst : Nat) (act : AlarmAction) (repeats : Nat) (param : Word) (s : State) : State :=
  judgeWrap (writeEntry (makeEntry c inst act repeats param s) s)

/-! ## Reports (R157, R159) -/

/-- A raise of a standing pair. -/
def raiseCond (c : Fin 64) (inst : Nat) (param : Word) (s : State) : State :=
  if s.isRaised c inst then s
  else
    let s1 := s.modAlarm (fun a => { a with raised := assocPut a.raised (pairKey c inst) param })
    judgeRelays (if (s.cause c).enable then postEntry c inst .raise 0 param s1 else s1)

/-- A clear of a standing pair. -/
def clearCond (c : Fin 64) (inst : Nat) (param : Word) (s : State) : State :=
  if s.isRaised c inst then
    let s1 := s.modAlarm (fun a => { a with raised := assocDel a.raised (pairKey c inst) })
    judgeRelays (if (s.cause c).enable then postEntry c inst .clear 0 param s1 else s1)
  else s

/-- Whether an event of a pair comes within the cause's repeat hold-off (R159). -/
def State.heldOff (s : State) (c : Fin 64) (inst : Nat) : Bool :=
  match assocGet s.alarm.track (pairKey c inst) with
  | none => false
  | some t => decide (elapsed s.uptime t.last < (s.cause c).holdOff)

/-- An event suppressed by the hold-off: its pair's pending count and its cause's suppressed count rise (R159). -/
def suppressEvent (c : Fin 64) (inst : Nat) (s : State) : State :=
  s.modAlarm (fun a =>
    { a with
      track := (match assocGet a.track (pairKey c inst) with
        | none => a.track
        | some t => assocPut a.track (pairKey c inst) { t with pending := Nat.min 255 (t.pending + 1) }),
      causes := a.causes.set c.val
        { (a.causes[c]) with suppressed := Nat.min 65535 ((a.causes[c]).suppressed + 1) } })

/-- An event of a pair (R159). -/
def postEvent (c : Fin 64) (inst : Nat) (param : Word) (s : State) : State :=
  if (s.cause c).enable then
    if s.heldOff c inst then suppressEvent c inst s
    else postEntry c inst .event (s.pendingRepeats c inst) param (trackPosted c inst s)
  else s

/-! ## Writes of cause settings (R156, R158) -/

/-- The raised pairs of a cause, in ascending order of instance. -/
def State.raisedOf (s : State) (c : Fin 64) : List (Nat × Word) :=
  (s.alarm.raised.filter (fun p => keyCause p.1 == c)).map (fun p => (p.1 % 64, p.2))

/-- The raised instances of a cause as a word: instance i counted as 2^i (R155). -/
def State.raisedMap (s : State) (c : Fin 64) : Word :=
  (s.raisedOf c).foldl (fun w p => w ||| (1#32 <<< p.1)) 0

/-- A write of a cause's three settings (R156): an enable from no to yes replays the raised pairs of a standing cause,
and the relays are judged. The manual gives no order among the fields of one write: they are all stored first, so that
the replayed entries carry the severity written (log entry 53). -/
def writeCause (c : Fin 64) (enable : Bool) (sev : Severity) (holdOff : Nat) (s : State) : State :=
  let old := s.cause c
  let new : CauseCfg := { enable := enable, severity := sev, holdOff := holdOff, suppressed := old.suppressed }
  let s1 := s.modAlarm (fun a => { a with causes := a.causes.set c.val new })
  judgeRelays (if enable && !old.enable && isStanding c then
      (s1.raisedOf c).foldl (fun t p => postEntry c p.1 .raise 0 p.2 t) s1
    else s1)

/-! ## Cabinet inputs (R165) -/

/-- Judge an input's line against its debounced state: the run timer starts when they differ, stops when they agree
(R165). -/
def CabInput.follow (x : CabInput) (activeLow : Bool) (now : Uptime) : CabInput :=
  if (x.level != activeLow) = x.active then { x with run := none } else { x with run := some (x.run.getD now) }

end Sys2Proof.Machine
end

