-- ==== Sys2Proof/Machine/Pool.lean ====
section
/-! DEFINITION. The buffer manager: block pool, stored parcels, holds, class queues, STREAM head-drop, POOL-LOW, and the
wake sources that enqueues give (R38 to R48, R134). -/

namespace Sys2Proof.Machine

/-! ## The pool (R38, R39, R43) -/

/-- Blocks that a header and `n` payload words take (R25): ceil((n + 1) / 16). -/
def blocksFor (n : Nat) : Nat := (n + 16) / 16

/-- Take `k` of the free blocks; the free value says which (log entry 1). Answers the blocks taken and the blocks left. -/
def pickBlocks (seed : Nat) : Nat → List Nat → List Nat × List Nat
  | 0, free => ([], free)
  | k + 1, free =>
    let j := Config.blockChoice seed k % free.length
    let rest := pickBlocks seed k (free.eraseIdx j)
    (free.getD j 0 :: rest.1, rest.2)

/-- Put a block number into an ascending list. -/
def insertNum (b : Nat) : List Nat → List Nat
  | [] => [b]
  | x :: r => if b ≤ x then b :: x :: r else x :: insertNum b r

/-- POOL-LOW against the two marks (R43). -/
def poolJudge (s : State) : State :=
  if s.isRaised causePoolLow 0 then
    if s.glob.clearMark ≤ s.pool.freeCount then clearCond causePoolLow 0 (wordOf s.pool.freeCount) s else s
  else if s.pool.freeCount < s.glob.lowMark then raiseCond causePoolLow 0 (wordOf s.pool.freeCount) s
  else s

/-- Take the blocks of a new stored parcel from the free set and store it under the next handle (R38). The caller has
seen that enough blocks are free. POOL-LOW is judged. -/
def allocStored (p : Stored) (s : State) : State :=
  poolJudge (s.modPool (fun q =>
    let picked := pickBlocks q.allocs p.nBlocks q.free
    { freeCount := q.freeCount - p.nBlocks, free := picked.2,
      parcels := assocPut q.parcels q.nextId { p with blocks := picked.1 }, nextId := q.nextId + 1,
      allocs := q.allocs + 1 }))

/-- Change a stored parcel. -/
def modStored (pid : Nat) (f : Stored → Stored) (s : State) : State :=
  match s.parcel pid with
  | none => s
  | some p => s.modPool (fun q => { q with parcels := assocPut q.parcels pid (f p) })

/-- Release one hold; at 0 every block returns to the free set, the parcel is deleted and POOL-LOW is judged (R39). -/
def releaseHold (pid : Nat) (s : State) : State :=
  match s.parcel pid with
  | none => s
  | some p =>
    if p.refs ≤ 1 then
      poolJudge (s.modPool (fun q =>
        { q with freeCount := q.freeCount + p.nBlocks, free := p.blocks.foldl (fun f b => insertNum b f) q.free,
                 parcels := assocDel q.parcels pid }))
    else modStored pid (fun x => { x with refs := x.refs - 1 }) s

/-- The first block of a stored parcel (R78). -/
def State.firstBlock (s : State) (pid : Nat) : Nat := ((s.parcel pid).map (fun p => p.blocks.headD 0)).getD 0

/-! ## Class queues (R40) -/

/-- Blocks of a stored parcel. -/
def State.blocksOf (s : State) (pid : Nat) : Nat := ((s.parcel pid).map (·.nBlocks)).getD 0

/-- Occupancy of a class queue: the blocks of every parcel it holds (R40). -/
def State.occupancy (s : State) (i : Slot) (c : Cls) : Nat := (((s.slot i).egr.queue c).map s.blocksOf).sum

/-- Whether the waiting place of ingress slot `j` is pending on a queue (R33, R40). -/
def State.waitsOn (s : State) (i : Slot) (c : Cls) (j : Slot) : Bool :=
  match (s.slot j).ing.waiting with
  | none => false
  | some w => w.cls == c && hasSlot w.pending i

/-- Whether any waiting parcel is pending on a queue. -/
def State.anyWaits (s : State) (i : Slot) (c : Cls) : Bool := allSlots.any (s.waitsOn i c)

/-- Whether `b` more blocks fit under the limit of a queue. -/
def State.fits (s : State) (i : Slot) (c : Cls) (b : Nat) : Bool :=
  decide (s.occupancy i c + b ≤ (s.slot i).cfg.limit c)

/-- The room test of an enqueue request (R40). -/
def State.hasRoom (s : State) (i : Slot) (c : Cls) (b : Nat) : Bool :=
  s.fits i c b && (c == .stream || !s.anyWaits i c)

/-- The parcel in transmission on a link, not counting an inserted one (R53). -/
def Tx.main : Tx → Option TxParcel
  | .idle => none
  | .sending p => some p
  | .insertCalled p _ => some p
  | .bracket p _ => some p
  | .continueDue p => some p

/-- A parcel handed over whose header has not left: it is not in transmission yet (R50). -/
def TxParcel.notLeft (p : TxParcel) : Bool := !p.headerSent

/-- Whether a transmit side has started a queued class parcel: it is in transmission from the word slot of its header
(R30, R50). -/
def Tx.started (tx : Tx) (pid : Nat) : Bool :=
  match tx.main with
  | none => false
  | some p => p.attached && p.headerSent && p.pid == pid && (match p.origin with | .cls _ => true | _ => false)

/-- Whether the transmit side is free: no parcel is in transmission, no insertion waits to resume an interrupted parcel, and
none called for is still to be sent (R49). A parcel handed over by a choice leaves it free until its header leaves (R50; log
entry 12). -/
def Tx.free : Tx → Bool
  | .idle => true
  | .sending p => p.notLeft && !p.called
  | _ => false

/-- A parcel handed over and not in transmission is handed back: an occasion for a choice leaves the choice open (R49, R50;
log entry 31). -/
def Egress.occasion (e : Egress) : Egress := { e with tx := if e.tx.free then .idle else e.tx }

/-- Take back a class parcel handed over and not in transmission, when it leaves its queue (R44, R50). -/
def Tx.forget (c : Cls) (pid : Nat) : Tx → Tx
  | .sending p => if p.notLeft && p.attached && p.origin == .cls c && p.pid == pid then .idle else .sending p
  | t => t

/-- Change the parcel in transmission. -/
def Tx.mapMain (f : TxParcel → TxParcel) : Tx → Tx
  | .idle => .idle
  | .sending p => .sending (f p)
  | .insertCalled p m => .insertCalled (f p) m
  | .bracket p x => .bracket (f p) x
  | .continueDue p => .continueDue (f p)

/-- A class queue without one of its parcels; a choice that had handed that parcel over is void (R44, R50). -/
def Egress.without (e : Egress) (c : Cls) (pid : Nat) : Egress :=
  { e.setQueue c ((e.queue c).erase pid) with tx := e.tx.forget c pid }

/-- Remove a parcel from a class queue and release that queue's hold (R44). -/
def removeRef (i : Slot) (c : Cls) (pid : Nat) (s : State) : State :=
  releaseHold pid (s.modEgr i (fun e => e.without c pid))

/-! ## Wake sources (R134) -/

/-- A wake source other than an AWAKE mark, taken in sub-mode RESTING: the rest request not yet sent is withdrawn, or a
WAKE mark is asked of the port and the wake timer starts. -/
def applyWake (i : Slot) (s : State) : State :=
  if (s.slot i).ctl.phase = .admitted ∧ (s.slot i).ctl.sub = .resting then
    if (s.slot i).ctl.restReq then s.modCtl i (fun c => { c with restReq := false, sub := .awake })
    else
      (s.modPort i (fun p => { p with wakeAsked := true })).modCtl i
        (fun c => { c with sub := .waking, timer := some { kind := .wake, start := s.uptime } })
  else s

/-- A taken enqueue reported as a wake source, when the slot's wake-on-traffic is set (R40, R48). -/
def wakeReport (i : Slot) (s : State) : State := if (s.slot i).cfg.wakeOnTraffic then applyWake i s else s

/-- A taken enqueue: the parcel joins the tail, an occasion for a choice, its count rises by 1, and the enqueue is reported
(R40, R49). -/
def enqueueRef (i : Slot) (c : Cls) (pid : Nat) (s : State) : State :=
  wakeReport i (modStored pid (fun p => { p with refs := p.refs + 1 })
    (s.modEgr i (fun e => (e.setQueue c (e.queue c ++ [pid])).occasion)))

/-- A parcel joins the reply queue; it may be a wake source (R48). -/
def pushReply (p : ReplyParcel) (s : State) : State :=
  wakeReport s.mgmtSlot (s.modMgmt (fun m => { m with replies := m.replies ++ [p] }))

/-! ## STREAM head-drop (R42) -/

/-- Move a slot from the enqueued set to the discarded set of an open parcel's reception (R30). -/
def moveToDiscarded (owner : Slot) (pid : Nat) (i : Slot) (s : State) : State :=
  s.modIng owner (fun g =>
    { g with reception := g.reception.map (fun r =>
        if r.fate = .passed pid then { r with enq := delSlot r.enq i, disc := addSlot r.disc i } else r) })

/-- Remove one parcel from a STREAM queue, post STREAM-DROP, and report an open parcel's removal. -/
def headDropOne (i : Slot) (pid : Nat) (s : State) : State :=
  match s.parcel pid with
  | none => removeRef i .stream pid s
  | some p =>
    let s1 := postEvent causeStreamDrop i.val (wordOf p.owner.val) (removeRef i .stream pid s)
    if p.isOpen then moveToDiscarded p.owner pid i s1 else s1

/-- Head-drop the given parcels, oldest first, until `b` blocks fit. -/
def headDrop (i : Slot) (b : Nat) : List Nat → State → State
  | [], s => s
  | v :: r, s => if s.fits i .stream b then s else headDrop i b r (headDropOne i v s)

/-- Offer a STREAM parcel to a queue, head-dropping when it does not fit: whether it was taken, and the state. A parcel
that still does not fit is dropped with one more STREAM-DROP (R28, R42). -/
def offerStream (i : Slot) (pid : Nat) (owner : Slot) (b : Nat) (s : State) : Bool × State :=
  let s1 := headDrop i b ((s.slot i).egr.stream.filter (fun v => !(s.slot i).egr.tx.started v)) s
  if s1.fits i .stream b then (true, enqueueRef i .stream pid s1)
  else (false, postEvent causeStreamDrop i.val (wordOf owner.val) s1)

/-! ## Flush and drop (R45, R46) -/

/-- Empty a slot's express queue and, on the management slot, the reply queue (R46). -/
def emptySwitchQueues (i : Slot) (s : State) : State :=
  let s1 := s.modEgr i (fun e => { e with express := [] })
  if i = s1.mgmtSlot then s1.modMgmt (fun m => { m with replies := [] }) else s1

/-- Flush: every class parcel's queue hold is released and the queues are emptied (R45). The transmit side has been
abandoned by the link's leaving UP. The manual gives no order among the releases: the STREAM queue goes first, then
CONTROL, then BULK, each from its head (log entry 41). -/
def flushSlot (i : Slot) (s : State) : State :=
  let e := (s.slot i).egr
  let s1 := (e.stream ++ e.control ++ e.bulk).foldl (fun t pid => releaseHold pid t)
    (s.modEgr i (fun e => { e with stream := [], control := [], bulk := [] }))
  emptySwitchQueues i s1

/-- Whether an express or reply parcel is in transmission from its queue's head. -/
def Tx.holdsHead (tx : Tx) (o : Origin) : Bool :=
  match tx with
  | .bracket p x => (p.attached && p.origin == o) || (x.attached && x.origin == o)
  | .sending p => p.attached && p.origin == o
  | .insertCalled p _ => p.attached && p.origin == o
  | .continueDue p => p.attached && p.origin == o
  | .idle => false

/-- Keep the head of a queue where it is in transmission. -/
def keepHead {α : Type} (started : Bool) (q : List α) : List α := if started then q.take 1 else []

/-- Withdraw what is handed over and not in transmission: an insertion whose SUSPEND has not left, and a parcel between
parcels whose header has not left (R45, R50, R53). -/
def Tx.withdraw : Tx → Tx
  | .insertCalled p _ => .sending p
  | .sending p => if p.notLeft then .idle else .sending p
  | t => t

/-- Drop of waiting parcels: everything not in transmission goes, what is handed over and not in transmission among it
(R45, R50, R53). The releases go in the order of a flush (log entry 41). -/
def dropWaiting (i : Slot) (s : State) : State :=
  let s0 := s.modEgr i (fun e => { e with tx := e.tx.withdraw })
  let e := (s0.slot i).egr
  let gone (q : List Nat) : List Nat := q.filter (fun v => !e.tx.started v)
  let s1 := s0.modEgr i (fun e =>
    { e with
      stream := e.stream.filter e.tx.started, control := e.control.filter e.tx.started,
      bulk := e.bulk.filter e.tx.started, express := keepHead (e.tx.holdsHead .express) e.express })
  let s2 := (gone e.stream ++ gone e.control ++ gone e.bulk).foldl (fun t pid => releaseHold pid t) s1
  if i = s2.mgmtSlot then
    s2.modMgmt (fun m => { m with replies := keepHead ((s2.slot i).egr.tx.holdsHead .reply) m.replies })
  else s2

/-- Whether a slot's egress is empty (R46). -/
def State.egressEmpty (s : State) (i : Slot) : Bool :=
  let e := (s.slot i).egr
  e.stream.isEmpty && e.control.isEmpty && e.bulk.isEmpty && e.express.isEmpty && e.tx == .idle &&
  (i != s.mgmtSlot || (s.mgmt.replies.isEmpty && !s.mgmt.claim))

end Sys2Proof.Machine
end

