-- ==== Sys2Proof/Machine/Chain.lean ====
section
/-! DEFINITION. The chain engine: cursors, visits, making, completion and aborts (R145 to R152). -/

namespace Sys2Proof.Machine

/-- Abort reasons (R151). -/
inductive AbortReason where
  | stopped | slotLeft | tooLong
  deriving DecidableEq, Repr

/-- Codes of abort reasons (R151). -/
def AbortReason.code : AbortReason → Nat
  | .stopped => 1
  | .slotLeft => 2
  | .tooLong => 3

/-- A running chain is aborted and CHAIN-ABORTED posted; an IDLE cursor has none (R151). -/
def abortChain (i : Slot) (r : AbortReason) (s : State) : State :=
  let c := (s.slot i).cursor
  if c.state = .idle then s
  else
    postEvent causeChainAborted i.val (wordOf (r.code * 65536 + c.visits * 256 + c.cur.val))
      (s.setCursor i Cursor.idle)

/-- A chain completes: CHAIN-DONE with the number of parcels made (R150). -/
def completeChain (i : Slot) (s : State) : State :=
  postEvent causeChainDone i.val (wordOf (s.slot i).cursor.made) (s.setCursor i Cursor.idle)

/-- The parcels of an end-of-chain descriptor are made (R150). -/
def chainMade (i : Slot) (s : State) : State :=
  let c := (s.slot i).cursor
  match c.last with
  | none => completeChain i s
  | some pid =>
    if (s.slot i).egr.bulk.contains pid then s.setCursor i { c with state := .finishing } else completeChain i s

/-- A visit to a descriptor (R148). -/
def visit (i : Slot) (d : Fin 64) (s : State) : State :=
  let c := (s.slot i).cursor
  s.setCursor i { c with cur := d, copy := s.chain.table[d], visits := c.visits + 1, offset := 0 }

/-- Move on from a block whose parcels are all made (R148). A walk makes at most 64 visits, so 65 rounds are enough. -/
def walk (i : Slot) : Nat → State → State
  | 0, s => s
  | n + 1, s =>
    let c := (s.slot i).cursor
    if c.offset < c.copy.len then s
    else if c.copy.endOfChain then chainMade i s
    else if c.visits < 64 then walk i n (visit i c.copy.next s)
    else abortChain i .tooLong s

/-- Rounds of a walk. -/
def walkRounds : Nat := 65

/-- A chain starts or restarts at a head (R147). -/
def startChain (i : Slot) (head : Fin 64) (s : State) : State :=
  walk i walkRounds (visit i head (s.setCursor i { Cursor.idle with state := .running }))

/-- The slot controller tells of an admission: auto-start (R147). -/
def autoStart (i : Slot) (s : State) : State :=
  let c := (s.slot i).cfg
  if h : c.chainHead < 64 then (if c.chainAuto then startChain i ⟨c.chainHead, h⟩ s else s) else s

/-- Length of a cursor's next parcel (R148). -/
def Cursor.nextLen (c : Cursor) : Nat := Nat.min 255 (c.copy.len - c.offset)

/-- The chain room test (R149). -/
def State.chainRoom (s : State) (i : Slot) (n : Nat) : Bool :=
  s.fits i .bulk (blocksFor n) && !s.anyWaits i .bulk && decide (s.glob.lowMark + blocksFor n ≤ s.pool.freeCount)

/-- Whether a slot's cursor is ready (R149). -/
def State.chainReady (s : State) (i : Slot) : Bool :=
  (s.slot i).cursor.state == .running && s.chainRoom i (s.slot i).cursor.nextLen

/-- Slots in rotation order from the pointer (R149). -/
def State.chainOrder (s : State) : List Slot := allSlots.map (fun k => s.chain.rotation + k)

/-- The first ready cursor at or after the rotation pointer (R149). -/
def State.chainTurn (s : State) : Option Slot := s.chainOrder.find? s.chainReady

/-- The parcel a cursor makes next, its words read now (R148). -/
def State.chainParcel (s : State) (i : Slot) : Stored :=
  let c := (s.slot i).cursor
  let n := c.nextLen
  { hdr := { kind := c.copy.kind, chan := c.copy.chan, len := BitVec.ofNat 8 n, tag := BitVec.ofNat 8 c.made },
    cls := .bulk, egress := c.copy.chan, owner := i, nBlocks := blocksFor n, blocks := [],
    words := parkReadN s.park.mem (c.copy.base + c.offset) n, isOpen := false, refs := 1 }

/-- The serving of a ready cursor (R149). -/
def makeChainParcel (i : Slot) (s : State) : State :=
  let pid := s.pool.nextId
  let n := (s.slot i).cursor.nextLen
  let s1 := allocStored (s.chainParcel i) (s.modEgr i (fun e => { e with bulk := e.bulk ++ [pid] }.occasion))
  let s2 := wakeReport i s1
  let c := (s2.slot i).cursor
  let s3 := s2.setCursor i { c with made := c.made + 1, last := some pid, offset := c.offset + n }
  walk i walkRounds (s3.modChain (fun x => { x with rotation := i + 1, busy := some (s.timing.core, n + 1) }))

/-- A cursor that waits for its last parcel completes at that parcel's end (R150). -/
def chainSent (i : Slot) (pid : Nat) (s : State) : State :=
  let c := (s.slot i).cursor
  if c.state = .finishing ∧ c.last = some pid then completeChain i s else s

end Sys2Proof.Machine
end

