-- ==== Sys2Proof/Machine/Log.lean ====
section
/-! DEFINITION. The transit log: reservation, crossings, the standing test, hand-overs and emptying (R75 to R84, R188). -/

namespace Sys2Proof.Machine

/-- Reserve a record at the write index: IN-PROGRESS, location 0, both sets empty, the parked flag from the entry copy
(R76, R188). Answers the handle; none while the log is off. Crossings are judged on the index it leaves (R77). -/
def logReserve (i : Slot) (h : Header) (st : Stamp) (park : Bool) (s : State) : Option LogHandle × State :=
  if s.glob.logEnable then
    let rec0 : LogRecord :=
      { outcome := .inProgress, reason := 0, ingress := i, hdr := h, stamp := st, loc := 0, parked := park, area := 0,
        enq := 0, second := 0 }
    let at0 := s.log.idx
    let next := (at0 + 1) % s.glob.logSize
    let count := s.log.count + 1
    let s1 := s.modLog (fun l => { recs := assocPut l.recs at0 rec0, idx := next, count := count })
    let s2 :=
      if next = s.glob.logSize / 2 then postEvent causeLogHalf 0 count s1
      else if next = 0 then postEvent causeLogWrap 0 count s1
      else s1
    (some { idx := at0, count := count }, s2)
  else (none, s)

/-- The standing test (R79): record `r`, saved count `c0`, against the current count and the log size. -/
def logStands (size r : Nat) (c0 count : Word) : Bool :=
  decide ((count - c0).toNat ≤ (r + size - c0.toNat % size) % size)

/-- What a hand-over carries (R78). -/
structure HandOver where
  outcome : LogOutcome
  reason : Nat
  loc : Nat
  area : Nat
  enq : SlotSet
  second : SlotSet
  deriving DecidableEq, Repr

/-- A hand-over that names no sets and no location. -/
def HandOver.plain (o : LogOutcome) (reason : Nat) : HandOver :=
  { outcome := o, reason := reason, loc := 0, area := 0, enq := 0, second := 0 }

/-- Rewrite the fields a hand-over rewrites (R188). -/
def LogRecord.take (r : LogRecord) (h : HandOver) : LogRecord :=
  if r.parked then { r with outcome := h.outcome, reason := h.reason, loc := h.loc, area := h.area }
  else { r with outcome := h.outcome, reason := h.reason, loc := h.loc, enq := h.enq, second := h.second }

/-- The ring with a hand-over written into record `r`. -/
def takeRecord (recs : Assoc LogRecord) (r : Nat) (h : HandOver) : Assoc LogRecord :=
  match assocGet recs r with
  | none => recs
  | some x => assocPut recs r (x.take h)

/-- A hand-over: applied when the record stands, else gone (R79). -/
def logHandOver (r : Nat) (c0 : Word) (h : HandOver) (s : State) : Bool × State :=
  if logStands s.glob.logSize r c0 s.log.count then
    (true, s.modLog (fun l => { l with recs := takeRecord l.recs r h }))
  else (false, s)

/-- A hand-over made with a parcel's handle; dropped where no record was reserved (R76). -/
def handOver (hd : Option LogHandle) (h : HandOver) (s : State) : State :=
  match hd with
  | none => s
  | some x => (logHandOver x.idx x.count h s).2

/-- Empty the log (R81): every place reads 0, the index is 0, and the count is raised to the smallest multiple of 2,048
that is at least the count plus 2,048. -/
def emptyLog (s : State) : State :=
  s.modLog (fun l =>
    { recs := [], idx := 0, count := wordOf ((l.count.toNat + 2048 + 2047) / 2048 * 2048) })

/-- The four words of a record place (R75). -/
def State.logWords (s : State) (k : Nat) : List Word :=
  match assocGet s.log.recs k with
  | none => [0, 0, 0, 0]
  | some r => r.words

end Sys2Proof.Machine
end

