-- ==== Sys2Proof/Machine/Watch.lean ====
section
/-! DEFINITION. The watch unit: relations, the decision to raise or clear, and writes of watches (R166 to R169). -/

namespace Sys2Proof.Machine

/-- First word of the half of a LATEST area: half 0 at the base, half 1 at the base plus the copy size (R58's table).
-/
def Area.halfStart (a : Area) (half : Bool) : Nat := if half then a.base + a.size else a.base

/-- A word of parking memory as a watch reads it; beyond the last word it is a free value (log entry 4). -/
def State.watchWord (s : State) (addr : Nat) : Word :=
  if addr < Config.parkWords then parkRead s.park.mem addr else Config.parkBeyond addr s.timing.core

/-- Whether a copy completed at an uptime is stale (R167): limit 0 means never. -/
def staleAt (limit : Nat) (now done : Uptime) : Bool := decide (limit ≠ 0) && decide (limit ≤ elapsed now done)

/-- A word read in the watch's type (R167). -/
def Watch.read (w : Watch) (v : Word) : Int := if w.isUnsigned then (v.toNat : Int) else v.toInt

/-- The relation of a value to the threshold (R167). -/
def Watch.compare (w : Watch) (v : Word) : Relation :=
  if w.read v < w.read w.threshold then .l else if w.read v = w.read w.threshold then .e else .g

/-- The relation of a watch and the value judged; the value is 0 for U (R167). -/
def State.relation (s : State) (w : Watch) : Relation × Word :=
  let a := s.park.areas[w.area]
  match a.mode, a.readable with
  | .latest, some half =>
    if staleAt w.stale s.uptime a.doneUp then (.u, 0)
    else if landingLen (s.watchWord (a.halfStart half)) ≤ w.offset then (.u, 0)
    else
      let v := s.watchWord (a.halfStart half + 1 + w.offset)
      (w.compare v, v)
  | _, _ => (.u, 0)

/-- The magnitude of a value less the threshold, exact in the watch's type (R168). -/
def Watch.distance (w : Watch) (v : Word) : Nat := (w.read v - w.read w.threshold).natAbs

/-- Replace a watch. -/
def State.setWatch (s : State) (n : Fin 32) (w : Watch) : State := { s with watches := s.watches.set n w }

/-- Evaluate a watch: the status fields, and the raise or clear (R167, R168). -/
def evalWatch (n : Fin 32) (s : State) : State :=
  let w := s.watches[n]
  let r := s.relation w
  let s1 := s.setWatch n { w with lastRel := r.1, lastVal := r.2 }
  if s.isRaised causeWatch n.val then
    if w.mask.getLsbD r.1.code then s1
    else if r.1 = .u ∨ w.margin ≤ w.distance r.2 then clearCond causeWatch n.val r.2 s1
    else s1
  else if w.mask.getLsbD r.1.code then raiseCond causeWatch n.val r.2 s1
  else s1

/-- The watches in ascending order. -/
def allWatches : List (Fin 32) :=
  [0, 1, 2, 3, 4, 5, 6, 7, 8, 9, 10, 11, 12, 13, 14, 15, 16, 17, 18, 19, 20, 21, 22, 23, 24, 25, 26, 27, 28, 29, 30, 31]

/-- Evaluate a watch when it is enabled and on an area. -/
def evalOn (a : Fin 64) (n : Fin 32) (s : State) : State :=
  if s.watches[n].enabled && s.watches[n].area == a then evalWatch n s else s

/-- Evaluate every enabled watch on an area, ascending (R169). -/
def evalArea (a : Fin 64) (s : State) : State := allWatches.foldl (fun t n => evalOn a n t) s

/-- Whether a watch's copy has turned stale (R169 occasion 2). -/
def State.copyStale (s : State) (n : Fin 32) : Bool :=
  let w := s.watches[n]
  let a := s.park.areas[w.area]
  w.enabled && a.mode == .latest && a.readable.isSome && staleAt w.stale s.uptime a.doneUp

/-- A write of a watch that is taken (R166, R169): store the settings, then evaluate the watch, or for a disabled one
clear its pair and reset its status fields. R169 says so of a disabled watch whose pair is in the raised set, and
leaves open whether its last relation and value change where it is not: they become U and 0 in every case (log entry
56). A changed severity has the relays judged (R164). -/
def writeWatch (n : Fin 32) (ws : List Word) (s : State) : State :=
  let old := s.watches[n]
  let new := old.withWords ws
  let s1 := s.setWatch n new
  let s2 :=
    if new.enabled then evalWatch n s1
    else clearCond causeWatch n.val 0 (s1.setWatch n { new with lastRel := .u, lastVal := 0 })
  if new.severity = old.severity then s2 else judgeRelays s2

/-- An image that is enabled names an area in LATEST mode (R166). -/
def State.watchAreaOk (s : State) (ws : List Word) : Bool :=
  !fieldBool ws 1 || s.park.areas[Fin.ofNat 64 (fieldNat ws 2)].mode == .latest

end Sys2Proof.Machine
end

