-- ==== Sys2Proof/Machine/Parking.lean ====
section
/-! DEFINITION. The parking unit: landing records, LATEST and RING landings, crossings, area writes (R58 to R74). -/

namespace Sys2Proof.Machine

/-- How a parcel in reception ends (R4). -/
inductive PEnd where
  | good | bad | aborted
  deriving DecidableEq, Repr

/-- Replace a slot's landing record. -/
def State.setLanding (s : State) (i : Slot) (l : Landing) : State := s.modIng i (fun g => { g with landing := l })

/-- Replace an area. -/
def State.setArea (s : State) (a : Fin 64) (x : Area) : State :=
  s.modPark (fun p => { p with areas := p.areas.set a x })

/-- PARK-DISCARD: parameter reason × 65,536 + ingress slot × 256 + ingress channel (R62). -/
def parkDiscard (i : Slot) (a : Fin 64) (chan : BitVec 6) (reason : Nat) (s : State) : State :=
  postEvent causeParkDiscard a.val (wordOf (reason * 65536 + i.val * 256 + chan.toNat)) s

/-- A parked parcel's report to the transit log (R71). -/
def parkReport (hd : Option LogHandle) (o : LogOutcome) (reason : Nat) (a : Fin 64) (offset : Nat) (s : State) : State :=
  handOver hd { outcome := o, reason := reason, loc := offset, area := a.val, enq := 0, second := 0 } s

/-- The judgement of an area on a footprint: none accepts, else the reason code (R62). -/
def Area.judge (a : Area) (footprint : Nat) : Option Nat :=
  match a.mode with
  | .off => some 1
  | .latest => if a.size < footprint then some 2 else none
  | .ring => if a.size - 1 < footprint then some 2 else none

/-- Header arrival of a PARK parcel (R62). -/
def parkHeader (i : Slot) (a : Fin 64) (h : Header) (hd : Option LogHandle) (s : State) : State :=
  match s.park.areas[a].judge (h.len.toNat + 1) with
  | none => s.setLanding i (.landing a h [] false)
  | some reason =>
    parkReport hd .parkDiscard reason a 0 (parkDiscard i a h.chan reason (s.setLanding i .discarding))

/-- A payload word of a PARK parcel (R63). -/
def parkPayload (i : Slot) (w : Word) (s : State) : State :=
  s.modIng i (fun g =>
    { g with landing := (match g.landing with
        | .landing a h ws c => .landing a h (ws ++ [w]) c
        | l => l) })

/-- The words of a footprint: the landing word, then the payload, with 0 where no word arrived (R64). -/
def footprintWords (good : Bool) (i : Slot) (h : Header) (ws : List Word) : List Word :=
  landingWord good i h :: (List.range h.len.toNat).map (fun j => ws.getD j 0)

/-- Write words at consecutive addresses. -/
def parkWriteSeq (m : Assoc Word) (a : Nat) : List Word → Assoc Word
  | [] => m
  | w :: r => parkWriteSeq (parkWrite m a w) (a + 1) r

/-- Write words round a ring from a position onward (R67). -/
def parkWriteRing (m : Assoc Word) (base size : Nat) (k : Nat) : List Word → Assoc Word
  | [] => m
  | w :: r => parkWriteRing (parkWrite m (base + k % size) w) base size (k + 1) r

/-- The completion fields of a landing that is a new copy (R64). -/
def Area.complete (a : Area) (t : CabTime) (u : Uptime) : Area :=
  { a with copies := (a.copies + 1) % 65536, doneSec := t.sec, doneNs := t.ns, doneUp := u }

/-- The half a LATEST landing writes: the one that is not readable, half 0 when the readable half is NONE (R65). -/
def Area.writeHalf (a : Area) : Bool :=
  match a.readable with
  | none => false
  | some b => !b

/-- A LATEST landing (R65, R66). -/
def landLatest (good : Bool) (i : Slot) (n : Fin 64) (h : Header) (ws : List Word) (s : State) : State :=
  let a := s.park.areas[n]
  let s1 := s.modPark (fun p =>
    { p with mem := parkWriteSeq p.mem (a.halfStart a.writeHalf) (footprintWords good i h ws) })
  if good then evalArea n (s1.setArea n ({ a with readable := some a.writeHalf }.complete s.now s.uptime)) else s1

/-- Whether a position lies in the range of positions an advance from `i` by `f` covers (R69). -/
def inAdvance (i f x : Nat) : Bool := decide (i < x) && decide (x ≤ i + f)

/-- The crossings of an advance, in the order of their positions (R69). -/
def postCrossings (n : Fin 64) (size i f new : Nat) (s : State) : State :=
  let cross (c : Fin 64) (x : Nat) (t : State) : State :=
    if inAdvance i f x then postEvent c n.val (wordOf new) t else t
  cross causeRingHalf (size + size / 2) (cross causeRingWrap size (cross causeRingHalf (size / 2) s))

/-- A RING landing (R67 to R69). -/
def landRing (good : Bool) (i : Slot) (n : Fin 64) (h : Header) (ws : List Word) (s : State) : State :=
  let a := s.park.areas[n]
  let f := h.len.toNat + 1
  let new := (a.writeIdx + f) % a.size
  let s1 := s.modPark (fun p =>
    { p with mem := parkWriteRing p.mem a.base a.size a.writeIdx (footprintWords good i h ws) })
  if good || a.advance then
    let s2 := s1.setArea n ({ a with writeIdx := new }.complete s.now s.uptime)
    if a.crossing then postCrossings n a.size a.writeIdx f new s2 else s2
  else s1

/-- Offset of the landing word of a landing made now (R71). -/
def Area.landOffset (a : Area) : Nat :=
  match a.mode with
  | .off => 0
  | .latest => if a.writeHalf then a.size else 0
  | .ring => a.writeIdx

/-- A landing that is not marked changed (R64). A write always marks the landing changed, so the mode is never OFF
here. -/
def land (good : Bool) (i : Slot) (n : Fin 64) (h : Header) (ws : List Word) (s : State) : State :=
  match s.park.areas[n].mode with
  | .off => s
  | .latest => landLatest good i n h ws s
  | .ring => landRing good i n h ws s

/-- The end of a PARK parcel (R61, R63, R64, R71). -/
def parkEnd (i : Slot) (e : PEnd) (hd : Option LogHandle) (s : State) : State :=
  let s0 := s.setLanding i .clear
  match (s.slot i).ing.landing with
  | .clear => s0
  | .discarding => s0
  | .landing n h ws changed =>
    if e = .aborted then parkReport hd .aborted 0 n 0 s0
    else if changed then parkReport hd .parkDiscard 3 n 0 (parkDiscard i n h.chan 3 s0)
    else
      parkReport hd (if e = .good then .parked else .checkFail) 0 n s0.park.areas[n].landOffset
        (land (decide (e = .good)) i n h ws s0)

/-- Mark a slot's landing changed when it names an area (R60). -/
def markChanged (n : Fin 64) (i : Slot) (s : State) : State :=
  s.modIng i (fun g =>
    { g with landing := (match g.landing with
        | .landing a h ws c => .landing a h ws (c || a == n)
        | l => l) })

/-- A write of an area entry (R60). -/
def writeArea (n : Fin 64) (ws : List Word) (s : State) : State :=
  evalArea n ((s.setArea n (Area.ofWords ws)).eachSlot (markChanged n))

end Sys2Proof.Machine
end

