-- ==== Sys2Proof/Machine/Edge.lean ====
section
/-! DEFINITION. The edge generator: the next edge instant, slot schedules, EDGE and TIME parcels, the express queues and
insertions called for (R47, R53, R112 to R121). -/

namespace Sys2Proof.Machine

/-! ## Instants (R113) -/

/-- The first edge instant strictly after a time (R113). -/
def edgeAfter (period : Nat) (t : CabTime) : CabTime :=
  let n := (t.ns / period + 1) * period
  if Config.nsPerSec ≤ n then { sec := (t.sec + 1) % Config.secModulus, ns := n - Config.nsPerSec, frac := 0 }
  else { sec := t.sec, ns := n, frac := 0 }

/-- The number of an edge instant (R113). -/
def edgeNumber (period modulus : Nat) (e : CabTime) : Nat :=
  (e.sec * (Config.nsPerSec / period) + e.ns / period) % modulus

/-- Whether cabinet time is at or past an instant. That an instant more than half the range ahead counts as past, as
the signed reading of the difference has it, is the model's choice (log entry 55). -/
def State.reached (s : State) (t : CabTime) : Bool := decide (0 ≤ s.now.diff t)

/-! ## Schedules (R115) -/

/-- Edges skipped when a schedule's first time is `d` units after now: none when it lies ahead, else as many as bring
it past now. That `d` is the signed difference modulo the range is the model's choice (log entry 55). -/
def edgesSkipped (period : Nat) (d : Int) : Nat :=
  if 0 < d then 0 else ((-d) / nsUnits period).toNat + 1

/-- Make a schedule whose time lies `back` ns before its edge, from the next edge instant, skipping edges whose time is
at or before now (R115). -/
def makeSched (period back : Nat) (next now : CabTime) : Sched :=
  let first := next.move (nsUnits (-(back : Int)))
  let k := edgesSkipped period (first.diff now)
  { edge := next.move (nsUnits ((k * period : Nat) : Int)), due := first.move (nsUnits ((k * period : Nat) : Int)) }

/-- A schedule moved on by one edge period. -/
def Sched.next (d : Sched) (period : Nat) : Sched :=
  { edge := d.edge.move (nsUnits period), due := d.due.move (nsUnits period) }

/-- Whether an enrolment has a parcel schedule. -/
def EdgeEnrol.hasParcel : EdgeEnrol → Bool
  | .parcel => true
  | .both => true
  | _ => false

/-- Whether an enrolment has a strobe schedule. -/
def EdgeEnrol.hasStrobe : EdgeEnrol → Bool
  | .strobe => true
  | .both => true
  | _ => false

/-- Make a slot's schedules again (R114, R115). -/
def makeSchedules (i : Slot) (s : State) : State :=
  let c := (s.slot i).cfg
  s.modEdges i (fun _ =>
    { parcel := if c.edgeEnrol.hasParcel then
        some (makeSched s.glob.edgePeriod (s.glob.edgeLead + (s.slot i).ctl.delay) s.nextEdge s.now) else none,
      strobe := if c.edgeEnrol.hasStrobe then
        some (makeSched s.glob.edgePeriod c.strobeAdvance s.nextEdge s.now) else none })

/-- A reschedule: the next edge instant found afresh, then every slot's schedules (R113, R121). -/
def reschedule (s : State) : State :=
  ({ s with nextEdge := edgeAfter s.glob.edgePeriod s.now }).eachSlot makeSchedules

/-- Set a slot's measured delay; a change has the slot's schedules made again (R114, R132, R133). -/
def setDelay (i : Slot) (d : Nat) (s : State) : State :=
  if (s.slot i).ctl.delay = d then s else makeSchedules i (s.modCtl i (fun c => { c with delay := d }))

/-! ## Insertion (R14, R53) -/

/-- Words of a parcel in transmission that come before its check word. -/
def TxParcel.wordsBeforeCheck (p : TxParcel) : Nat := p.len - p.sent

/-- Whether a parcel may be interrupted: CONTROL or BULK, in transmission, and not being ended early (R49, R53). -/
def TxParcel.interruptible (p : TxParcel) : Bool :=
  p.headerSent && !p.early && (p.origin == .cls .control || p.origin == .cls .bulk)

/-- How an insertion called for now is placed: after the parcel when its check word is among the next two words (R14).
-/
def TxParcel.insertMode (p : TxParcel) : InsertMode := if p.wordsBeforeCheck ≤ 1 then .follow else .wordOwed

/-- Call for an insertion when R53's conditions hold. -/
def callInsertion (i : Slot) (s : State) : State :=
  match (s.slot i).egr.tx with
  | .sending p =>
    if !(s.slot i).egr.express.isEmpty && p.interruptible && !(s.slot i).ctl.restReq then
      s.modEgr i (fun e => { e with tx := .insertCalled p p.insertMode })
    else s
  | _ => s

/-- Offer a parcel to a slot's express queue: it joins the tail, an occasion for a choice, and may call for an
insertion, or EXPRESS-OVERRUN is posted with the given parameter (R47, R49, R117). -/
def offerExpress (i : Slot) (p : ExpressParcel) (lost : Word) (s : State) : State :=
  if (s.slot i).egr.express.length < Config.expressPlaces then
    callInsertion i (s.modEgr i (fun e => { e with express := e.express ++ [p] }.occasion))
  else postEvent causeExpressOverrun i.val lost s

/-! ## EDGE and TIME parcels (R116, R120) -/

/-- The EDGE parcel of an edge instant: channel 61, with the instant, the path delay and the core period of its making
kept beside it (R116, R118). -/
def edgeParcel (e : CabTime) (number delay made : Nat) : ExpressParcel :=
  { chan := 61, words := edgePayload e number, edge := some { instant := e, delay := delay, made := made } }

/-- Serve a slot's dispatch time: an EDGE parcel when the slot is ADMITTED and AWAKE; the schedule advances by E either
way (R116). -/
def dispatchEdge (i : Slot) (d : Sched) (s : State) : State :=
  let number := edgeNumber s.glob.edgePeriod s.glob.edgeModulus d.edge
  let s1 := s.modEdges i (fun x => { x with parcel := some (d.next s.glob.edgePeriod) })
  if s.isAwake i then 
    offerExpress i (edgeParcel d.edge number (s.slot i).ctl.delay s.timing.core) (wordOf number) s1
  else s1

/-- Holdover seconds: whole seconds of uptime since the holdover timer started; 0 outside HOLDOVER (R98). -/
def State.holdoverSeconds (s : State) : Nat :=
  match s.timing.loop, s.timing.holdover with
  | .holdover, some u => elapsed s.uptime u / 1000
  | _, _ => 0

/-- F in whole ppb, rounded toward zero (R98, R120). -/
def Timing.ppb (t : Timing) : Int := t.freq.tdiv 65536

/-- The TIME parcel of the second that has begun: channel 62 (R120). -/
def State.timeParcel (s : State) : ExpressParcel :=
  { chan := 62,
    words := secWords s.now.sec ++ [wordOf s.timing.loop.code, wordOf s.timing.sel.code, wordOfInt s.timing.ppb,
      wordOf s.holdoverSeconds],
    edge := none }

/-- Make the TIME parcel of a slot that is time-enrolled, ADMITTED and AWAKE (R120). -/
def offerTime (p : ExpressParcel) (lost : Word) (i : Slot) (s : State) : State :=
  if (s.slot i).cfg.timeEnrol && s.isAwake i then offerExpress i p lost s else s

/-- TIME parcels for every slot that takes them (R117, R120). The manual gives no order among the slots, which the
order of EXPRESS-OVERRUN entries shows: they go in ascending order. They are made in the event that advances cabinet
time, so that an EDGE parcel of the same core period joins after them, where R117 allows either order (log entry 44).
-/
def makeTimeParcels (s : State) : State :=
  s.eachSlot (offerTime s.timeParcel (wordOf (65536 + s.now.sec % 65536)))

/-! ## Strobes (R119) -/

/-- Give or pass a strobe: a pulse on every STROBE-OUT line when PWR-EN is asserted and the slot is not POWERING; the
schedule advances by E either way. -/
def giveStrobe (i : Slot) (d : Sched) (s : State) : State :=
  let s1 := s.modEdges i (fun x => { x with strobe := some (d.next s.glob.edgePeriod) })
  let x := s.slot i
  if x.ctl.pwrEn && x.ctl.phase != .powering then
    s1.modCtl i (fun c =>
      { c with
        pulse0 := if x.cfg.fn0 = .strobeOut then some s.timing.core else c.pulse0,
        pulse1 := if x.cfg.fn1 = .strobeOut then some s.timing.core else c.pulse1 })
  else s1

end Sys2Proof.Machine
end

