-- ==== Sys2Proof/Machine/Timing.lean ====
section
/-! DEFINITION. The timing unit: moves of cabinet time, references, selection, the discipline loop and holdover
(R86 to R109). -/

namespace Sys2Proof.Machine

/-! ## Moves of cabinet time (R86) -/

/-- An exchange in progress at a move of cabinet time counts as no answer (R131). -/
def voidExchange (i : Slot) (s : State) : State :=
  s.modCtl i (fun c =>
    { c with train := { c.train with step := (match c.train.step with
        | .wait d t _ => .wait d t true
        | x => x) } })

/-- Move cabinet time to a value that lies `amount` units from the old one: the last accepted captures move by the same
amount, the edges are rescheduled, and the slot controller is told (R86). -/
def moveTimeTo (t : CabTime) (amount : Int) (s : State) : State :=
  let shift (r : Reference) : Reference := { r with last := r.last.map (fun c => c.move amount) }
  (reschedule (s.modTiming (fun x => { x with time := t, refA := shift x.refA, refB := shift x.refB }))).eachSlot
    voidExchange

/-- Move cabinet time by an amount (R86). -/
def moveTime (amount : Int) (s : State) : State := moveTimeTo (s.now.move amount) amount s

/-! ## The increment adjustment (R105) -/

/-- D of a frequency: F × 524,288 / 10^9 rounded in the current mode. -/
def adjOf (m : Rounding) (freq : Int) : Int := roundDiv m (freq * 524288) 1000000000

/-- Set I and F and recompute D. -/
def setFreq (intg freq : Int) (s : State) : State :=
  s.modTiming (fun t => { t with intg := intg, freq := freq, adj := adjOf t.cfg.rounding freq })

/-- The frequency bound B (R88). -/
def LoopSettings.bound (c : LoopSettings) : Int := (c.fmax : Int) * 65536

/-! ## Loop states (R96 to R98) -/

/-- Change the loop state, posting TIMING-STATE when it is a change (R96). -/
def changeLoop (new : LoopState) (s : State) : State :=
  if s.timing.loop = new then s
  else postEvent causeTimingState 0 (wordOf (s.timing.loop.code * 256 + new.code))
    (s.modTiming (fun t => { t with loop := new }))

/-- A reference becomes selected (R97). -/
def enterAcquiring (s : State) : State :=
  let s1 := s.modTiming (fun t => { t with lock := 0 })
  match s.timing.loop with
  | .free | .holdover =>
    changeLoop .acquiring (clearCond causeFreeRun 0 0 (clearCond causeHoldover 0 0
      (s1.modTiming (fun t => { t with holdover := none }))))
  | _ => changeLoop .acquiring s1

/-- The selection becomes NONE while ACQUIRING or LOCKED (R98). -/
def enterHoldover (s : State) : State :=
  let s1 := (setFreq s.timing.intg s.timing.intg s).modTiming
    (fun t => { t with lock := 0, holdover := some t.uptime })
  let s2 := changeLoop .holdover s1
  raiseCond causeHoldover 0 (wordOfInt s2.timing.ppb) s2

/-! ## Selection (R95) -/

/-- The reference a selection names. -/
def Timing.selected (t : Timing) : Sel → Option Reference
  | .a => some t.refA
  | .b => some t.refB
  | .none => none

/-- Whether a selection names a qualified reference. -/
def Timing.selQualified (t : Timing) (x : Sel) : Bool := ((t.selected x).map (·.qualified)).getD false

/-- The other reference. -/
def Sel.other : Sel → Sel
  | .a => .b
  | .b => .a
  | .none => .none

/-- The judgement of R95. -/
def Timing.judged (t : Timing) : Sel :=
  if t.cfg.preferred = .none then .none
  else if !t.cfg.revertive && t.selQualified t.sel then t.sel
  else if t.selQualified t.cfg.preferred then t.cfg.preferred
  else if t.selQualified t.cfg.preferred.other then t.cfg.preferred.other
  else .none

/-- Judge the selection; a change posts REFERENCE-SWITCH and moves the loop state (R95 to R98). -/
def judgeSelection (s : State) : State :=
  let new := s.timing.judged
  if new = s.timing.sel then s
  else
    let s1 := postEvent causeReferenceSwitch 0 (wordOf (s.timing.sel.code * 256 + new.code))
      (s.modTiming (fun t => { t with sel := new }))
    match new with
    | .none =>
      (match s1.timing.loop with
       | .acquiring | .locked => enterHoldover s1
       | _ => s1)
    | _ => enterAcquiring s1

/-! ## References (R91 to R94) -/

/-- Change a reference. -/
def modRef (r : RefId) (f : Reference → Reference) (s : State) : State :=
  s.modTiming (fun t => t.setRef r (f (t.ref r)))

/-- A reference is qualified: REF-LOSS is cleared and selection is judged (R92). -/
def qualify (r : RefId) (s : State) : State :=
  judgeSelection (clearCond causeRefLoss (refNum r) (wordOf (s.timing.ref r).cfg.slot)
    (modRef r (fun x => { x with qualified := true }) s))

/-- The loss deadline of a reference has passed (R93). -/
def loseReference (r : RefId) (s : State) : State :=
  let old := s.timing.ref r
  let s1 := raiseCond causeRefLoss (refNum r) (wordOf old.cfg.slot)
    (modRef r (fun x => { x with qualified := false, run := 0, last := none, staged := none }) s)
  if old.qualified then judgeSelection s1 else s1

/-- Whether a reference's loss deadline, 1,100,000,000 ns after its last accepted capture, is past (R93). The fraction
of cabinet time counts: at the deadline's nanoseconds with a fraction above 0 it is past (log entry 46). -/
def State.deadlinePast (s : State) (r : RefId) : Bool :=
  match (s.timing.ref r).last with
  | none => false
  | some c => decide (nsUnits 1100000000 < s.now.diff c)

/-- Whether a pulse of a reference is captured (R90). -/
def State.captures (s : State) (r : RefId) : Bool :=
  let c := (s.timing.ref r).cfg
  if h : c.slot < 16 then
    let x := s.slot ⟨c.slot, h⟩
    x.cfg.fn c.line == .pulseIn && x.ctl.inputsEn
  else false

/-! ## Processing a pulse (R99 to R106) -/

/-- The lag of a capture (R102). -/
def lagOf (offset : Int) (ns : Nat) : Int :=
  let x := (offset - ns) % 1000000000
  if x < 500000000 then x else x - 1000000000

/-- The boundary seconds of a capture with lag L (R101). -/
def boundarySeconds (c : CabTime) (lag offset : Int) : Nat :=
  ((((c.sec * Config.nsPerSec + c.ns : Nat) : Int) + lag - offset) / (Config.nsPerSec : Int)
    % (Config.secModulus : Int)).toNat

/-- `a` less `b` modulo 2^48, read as a signed 48-bit number (R101). -/
def secDiff (a b : Nat) : Int := (BitVec.ofInt 48 ((a : Int) - (b : Int))).toInt

/-- Limit a value to −2^31 … 2^31 − 1 (R101). -/
def limit32 (x : Int) : Int := if x < -2147483648 then -2147483648 else if 2147483647 < x then 2147483647 else x

/-- Compare the staged value of a reference with the boundary seconds; the staged value is then gone (R101). -/
def checkSeconds (r : RefId) (boundary : Nat) (s : State) : State :=
  match (s.timing.ref r).staged with
  | none => s
  | some v =>
    let d := secDiff v boundary
    let s1 := modRef r (fun x => { x with staged := none }) s
    if d = 0 then s1
    else postEvent causeSecondsMismatch 0 (wordOfInt (limit32 d)) (moveTime (nsUnits (d * 1000000000)) s1)

/-- The shift of L by k places (R104). -/
def shiftBy (m : Rounding) (lag : Int) (k : Nat) : Int :=
  if k ≤ 16 then lag * 2 ^ (16 - k) else roundDiv m lag (2 ^ (k - 16))

/-- A step of cabinet time by L (R103). -/
def stepTime (lag : Int) (s : State) : State :=
  (postEvent causeTimeStep 0 (wordOfInt lag)
    (setFreq s.timing.intg s.timing.intg (moveTime (nsUnits lag) s))).modTiming (fun t => { t with lock := 0 })

/-- A slew: P, I and F with their clamps, D, and FREQ-LIMIT when a clamp replaced a value (R104). -/
def slew (lag : Int) (s : State) : State :=
  let c := s.timing.cfg
  let b := c.bound
  let i0 := s.timing.intg + shiftBy c.rounding lag c.ki
  let i1 := clampTo b i0
  let f0 := shiftBy c.rounding lag c.kp + i1
  let f1 := clampTo b f0
  let s1 := setFreq i1 f1 s
  if i1 = i0 ∧ f1 = f0 then s1 else postEvent causeFreqLimit 0 (wordOfInt s1.timing.ppb) s1

/-- Lock count and loop state after a step (R106). -/
def lockAfterStep (lag : Int) (s : State) : State :=
  if s.timing.loop = .locked ∧ s.timing.cfg.lockWindow < lag.natAbs then changeLoop .acquiring s else s

/-- Lock count and loop state after a slew (R106). -/
def lockAfterSlew (lag : Int) (s : State) : State :=
  if lag.natAbs ≤ s.timing.cfg.lockWindow then
    let n := Nat.min 255 (s.timing.lock + 1)
    let s1 := s.modTiming (fun t => { t with lock := n })
    if s.timing.loop = .acquiring ∧ s.timing.cfg.lockCount ≤ n then changeLoop .locked s1 else s1
  else
    let s1 := s.modTiming (fun t => { t with lock := 0 })
    if s.timing.loop = .locked then changeLoop .acquiring s1 else s1

/-- Whether the loop steps at a lag (R103). -/
def Timing.steps (t : Timing) (lag : Int) : Bool :=
  decide (t.cfg.stepThreshold < lag.natAbs) &&
  (t.loop == .acquiring || (t.loop == .locked && t.cfg.stepInLock))

/-- Process a pulse of the reference that was selected before it (R99). -/
def processPulse (r : RefId) (c : CabTime) (s : State) : State :=
  let offset := (s.timing.ref r).cfg.offset
  let lag := lagOf offset c.ns
  let s1 := checkSeconds r (boundarySeconds c lag offset) s
  if s.timing.steps lag then lockAfterStep lag (stepTime lag s1) else lockAfterSlew lag (slew lag s1)

/-- An accepted pulse (R91, R92, R99). -/
def acceptPulse (r : RefId) (c : CabTime) (run : Nat) (s : State) : State :=
  let was := s.timing.sel
  let s1 := modRef r (fun x => { x with run := run, last := some c }) s
  let s2 := if !(s.timing.ref r).qualified && decide (s.timing.cfg.qualCount ≤ run) then qualify r s1 else s1
  if was = refSel r then processPulse r c s2 else modRef r (fun x => { x with staged := none }) s2

/-- A captured pulse is judged by its spacing (R91). -/
def judgePulse (r : RefId) (s : State) : State :=
  let c : CabTime := { s.now with frac := 0 }
  match (s.timing.ref r).last with
  | none => acceptPulse r c 1 s
  | some p =>
    let gap := c.diff p
    if gap < nsUnits 999000000 then modRef r (fun x => { x with early := Nat.min 65535 (x.early + 1) }) s
    else if gap ≤ nsUnits 1001000000 then acceptPulse r c (Nat.min 15 ((s.timing.ref r).run + 1)) s
    else acceptPulse r c 1 s

/-- A complete time-of-day parcel stages its seconds value for each reference that names its slot (R100). -/
def stageTimeOfDay (i : Slot) (ws : List Word) (s : State) : State :=
  match ws with
  | w0 :: w1 :: _ =>
    let put (x : Reference) : Reference :=
      if x.cfg.slot = i.val then { x with staged := some (todSeconds w0 w1) } else x
    s.modTiming (fun t => { t with refA := put t.refA, refB := put t.refB })
  | _ => s

/-! ## Writes of table 8 (R89, R94) -/

/-- The loop settings are written (R89). The manual gives no order among the effects of one write: selection is judged
first, then I and F are clamped to a changed bound with FREQ-LIMIT, then D is recomputed in a changed rounding mode
(log entry 43). -/
def writeLoop (c : LoopSettings) (s : State) : State :=
  let old := s.timing.cfg
  let s1 := s.modTiming (fun t => { t with cfg := c })
  let s2 := if c.preferred ≠ old.preferred ∨ c.revertive ≠ old.revertive then judgeSelection s1 else s1
  let i1 := clampTo c.bound s2.timing.intg
  let f1 := clampTo c.bound s2.timing.freq
  let s3 :=
    if c.fmax ≠ old.fmax ∧ (i1 ≠ s2.timing.intg ∨ f1 ≠ s2.timing.freq) then
      let t := setFreq i1 f1 s2
      postEvent causeFreqLimit 0 (wordOfInt t.timing.ppb) t
    else s2
  if c.rounding ≠ old.rounding then setFreq s3.timing.intg s3.timing.freq s3 else s3

/-- A reference record is written (R94). -/
def writeRef (r : RefId) (c : RefSettings) (s : State) : State :=
  let old := (s.timing.ref r).cfg
  if c.slot ≠ old.slot ∨ c.line ≠ old.line then
    judgeSelection (modRef r (fun _ => Reference.fresh c) s)
  else modRef r (fun x => { x with cfg := c }) s

/-! ## Actions (R107 to R109) -/

/-- SET-TIME: a move to the given seconds and nanoseconds with fraction 0 (R107). -/
def setTimeTo (sec ns : Nat) (s : State) : State :=
  let t : CabTime := { sec := sec, ns := ns, frac := 0 }
  moveTimeTo t (t.diff s.now) s

/-- TIMING-RESTART up to its RESTARTED entry (R109). The landing records stay as they are: R61 has them CLEAR after
every reset, which is read as every reset that ends receptions (log entry 51). -/
def timingRestart (s : State) : State :=
  let s1 := if s.timing.sel = .none then s
    else postEvent causeReferenceSwitch 0 (wordOf (s.timing.sel.code * 256 + Sel.none.code))
      (s.modTiming (fun t => { t with sel := .none }))
  let s2 := changeLoop .free s1
  let s3 := s2.modTiming (fun t =>
    { t with
      refA := Reference.fresh t.refA.cfg, refB := Reference.fresh t.refB.cfg, intg := 0, freq := 0, adj := 0,
      lock := 0, holdover := none })
  reschedule (clearCond causeFreeRun 0 0 (clearCond causeHoldover 0 0 s3))

end Sys2Proof.Machine
end

