-- ==== Sys2Proof/Machine/Forward.lean ====
section
/-! DEFINITION. The forwarding unit: header arrival, payload, ends, resolution, cut-through and the waiting place
(R17 to R36). -/

namespace Sys2Proof.Machine

/-! ## Diverted parcels (R18, R19, R172) -/

/-- A complete management request is offered to the request queue (R172). -/
def offerRequest (r : Request) (s : State) : State :=
  if s.mgmt.queue.length < Config.requestPlaces then s.modMgmt (fun m => { m with queue := m.queue ++ [r] })
  else if s.mgmt.taken < Config.replyPlaces then pushReply (replyTo r .busy []) s
  else s

/-! ## Resolution and enqueue (R27, R28) -/

/-- Treatments of a destination (R27). -/
inductive Treatment where
  | queued | discarded | undeliverable
  deriving DecidableEq, Repr

/-- The treatment of a destination by its state and manual hold (R27's table). -/
def State.treatment (s : State) (d : Slot) : Treatment :=
  let x := s.slot d
  match x.ctl.phase with
  | .admitted => if x.cfg.manualHold ∧ x.cfg.policy = .discard then .discarded else .queued
  | .draining => .discarded
  | .powering | .training =>
    if x.cfg.manualHold then (if x.cfg.policy = .queue then .queued else .discarded) else .undeliverable
  | .empty | .seated | .quiesced | .faulted => .undeliverable

/-- What became of a parcel's destinations. -/
structure Offered where
  enq : SlotSet
  disc : SlotSet
  blocked : SlotSet
  deriving DecidableEq, Repr

/-- Offer a parcel to one destination (R27, R28). -/
def offerOne (pid : Nat) (c : Cls) (owner : Slot) (b : Nat) (d : Slot) (o : Offered) (s : State) : Offered × State :=
  match s.treatment d with
  | .undeliverable => (o, s)
  | .discarded => ({ o with disc := addSlot o.disc d }, s)
  | .queued =>
    match c with
    | .stream =>
      let r := offerStream d pid owner b s
      (if r.1 then { o with enq := addSlot o.enq d } else { o with disc := addSlot o.disc d }, r.2)
    | _ =>
      if s.hasRoom d c b then ({ o with enq := addSlot o.enq d }, enqueueRef d c pid s)
      else ({ o with blocked := addSlot o.blocked d }, s)

/-- Offer a parcel to a list of destinations, one after another. -/
def offerEach (pid : Nat) (c : Cls) (owner : Slot) (b : Nat) : List Slot → Offered → State → Offered × State
  | [], o, s => (o, s)
  | d :: r, o, s =>
    let x := offerOne pid c owner b d o s
    offerEach pid c owner b r x.1 x.2

/-- Resolve and offer a stored parcel to a destination set. R28 leaves the order of the destinations open, and with it the
order of their STREAM-DROP entries: they go in ascending order of slot (log entry 38). -/
def offerAll (pid : Nat) (c : Cls) (owner : Slot) (dest : SlotSet) (s : State) : Offered × State :=
  offerEach pid c owner (s.blocksOf pid) (slotsOf dest) { enq := 0, disc := 0, blocked := 0 } s

/-! ## Outcomes (R29, R78) -/

/-- The outcome of a parcel that reached its good end (R29). -/
def outcomeOf (enq disc : SlotSet) : LogOutcome :=
  if disc ≠ 0 then .partialOut else if enq = 0 then .noDestination else .forwarded

/-- The location of a passed parcel: its first block when a queue took it, else 0 (R78). -/
def State.location (s : State) (pid : Nat) (enq : SlotSet) : Nat := if enq = 0 then 0 else s.firstBlock pid

/-- Release the reception or waiting hold and hand over an outcome with its sets. -/
def settleAs (o : LogOutcome) (pid : Nat) (hd : Option LogHandle) (enq disc : SlotSet) (s : State) : State :=
  handOver hd { outcome := o, reason := 0, loc := s.location pid enq, area := 0, enq := enq, second := disc }
    (releaseHold pid s)

/-- Settle the outcome of a parcel that waits for no destination (R29, R32). -/
def settle (pid : Nat) (hd : Option LogHandle) (enq disc : SlotSet) (s : State) : State :=
  settleAs (outcomeOf enq disc) pid hd enq disc s

/-! ## The waiting place (R32 to R36) -/

/-- The end of a wait (R36). -/
def waitEnd (j : Slot) (w : Waiting) (s : State) : State :=
  settle w.pid w.log w.enq w.disc
    ((s.modIng j (fun g => { g with waiting := none })).modPort j (fun p => { p with holdReq := false }))

/-- Store a changed waiting record; when its pending set is empty the wait ends. -/
def putWaiting (j : Slot) (w : Waiting) (s : State) : State :=
  if w.pending = 0 then waitEnd j w s else s.modIng j (fun g => { g with waiting := some w })

/-- STALL-DISCARD for every slot of a set (R32, R35). Neither rule orders the entries of one event: they go in ascending order
of slot (log entry 38). -/
def postStalls (j : Slot) (m : SlotSet) (s : State) : State :=
  (slotsOf m).foldl (fun t d => postEvent causeStallDiscard d.val (wordOf j.val) t) s

/-- A parcel with blocked destinations at its good end (R32). With the waiting place taken, the STALL-DISCARD entries of the
blocked destinations go in ascending order of slot (log entry 38). The WAITING hand-over is judged with the parcel's handle;
when it is applied the record index is kept with the count saved at entry (R80). -/
def enterWaiting (i : Slot) (pid : Nat) (c : Cls) (hd : Option LogHandle) (o : Offered) (s : State) : State :=
  match (s.slot i).ing.waiting with
  | some _ => settle pid hd o.enq (o.disc ||| o.blocked) (postStalls i o.blocked s)
  | none =>
    let h : HandOver :=
      { outcome := .waiting, reason := 0, loc := s.firstBlock pid, area := 0, enq := o.enq, second := o.blocked }
    let r : Option LogHandle × State :=
      match hd with
      | none => (none, s)
      | some x =>
        let a := logHandOver x.idx x.count h s
        (if a.1 then some { idx := x.idx, count := s.log.count } else none, a.2)
    let w : Waiting :=
      { pid := pid, cls := c, pending := o.blocked, enq := o.enq, disc := o.disc, since := s.timing.core, log := r.1 }
    (r.2.modIng i (fun g => { g with waiting := some w })).modPort i (fun p => { p with holdReq := true })

/-- A slot pending in a waiting place is resolved again (R34). -/
def reresolveIn (d : Slot) (j : Slot) (s : State) : State :=
  match (s.slot j).ing.waiting with
  | none => s
  | some w =>
    if hasSlot w.pending d then
      match s.treatment d with
      | .queued => s
      | .discarded => putWaiting j { w with pending := delSlot w.pending d, disc := addSlot w.disc d } s
      | .undeliverable => putWaiting j { w with pending := delSlot w.pending d } s
    else s

/-- A slot whose state or hold has changed is resolved again in every waiting place (R34). The manual gives no order among the
waiting places: they go in ascending order of ingress slot (log entry 45). -/
def reresolve (d : Slot) (s : State) : State := s.eachSlot (reresolveIn d)

/-- The ingress slots whose waiting place is pending on a queue, in ascending order. -/
def State.waiters (s : State) (d : Slot) (c : Cls) : List Slot := allSlots.filter (s.waitsOn d c)

/-- When a slot's waiting place was entered. -/
def State.waitingSince (s : State) (j : Slot) : Nat := ((s.slot j).ing.waiting.map (·.since)).getD 0

/-- The older of two waiting places: the earlier entry, and of equal ones the lower slot (R33). The second argument is
the higher slot. -/
def State.older (s : State) (j k : Slot) : Slot := if s.waitingSince k < s.waitingSince j then k else j

/-- The oldest waiting place pending on a queue (R33). -/
def State.oldestWaiter (s : State) (d : Slot) (c : Cls) : Option Slot :=
  match s.waiters d c with
  | [] => none
  | j :: r => some (r.foldl s.older j)

/-- Serve one pending parcel: enqueue it, and move its destination to the enqueued set (R33). -/
def serveWaiter (d : Slot) (c : Cls) (j : Slot) (w : Waiting) (s : State) : State :=
  putWaiting j { w with pending := delSlot w.pending d, enq := addSlot w.enq d } (enqueueRef d c w.pid s)

/-- Offer a queue's room to the parcels pending on it, oldest first, stopping at the first that does not fit (R33). At
most 16 waiting places exist, so 16 rounds are enough. -/
def servePending (d : Slot) (c : Cls) : Nat → State → State
  | 0, s => s
  | n + 1, s =>
    match s.oldestWaiter d c with
    | none => s
    | some j =>
      match (s.slot j).ing.waiting with
      | none => s
      | some w =>
        if s.fits d c (s.blocksOf w.pid) then servePending d c n (serveWaiter d c j w s) else s

/-- Stall timer expiry (R35). -/
def stallExpire (j : Slot) (w : Waiting) (s : State) : State :=
  waitEnd j { w with pending := 0, disc := w.disc ||| w.pending } (postStalls j w.pending s)

/-! ## Ends of passed parcels (R26, R30, R31) -/

/-- At the failure of an open parcel, deal with one slot's STREAM queue (R31). -/
def failAt (pid : Nat) (d : Slot) (s : State) : State :=
  let e := (s.slot d).egr
  if e.stream.contains pid then
    if e.tx.started pid then s.modEgr d (fun x => { x with tx := x.tx.mapMain (fun p => { p with early := true }) })
    else removeRef d .stream pid s
  else s

/-- The T-th payload word has arrived: the parcel opens and is resolved and enqueued (R30). -/
def openParcel (i : Slot) (r : Reception) (pid : Nat) (s : State) : State :=
  let x := offerAll pid .stream i r.entry.dest (modStored pid (fun p => { p with isOpen := true }) s)
  x.2.modIng i (fun g =>
    { g with reception := g.reception.map (fun q => { q with enq := x.1.enq, disc := x.1.disc }) })

/-- A payload word of a passed parcel (R25, R30). -/
def passedPayload (i : Slot) (r : Reception) (pid : Nat) (w : Word) (s : State) : State :=
  let s1 := modStored pid (fun p => { p with words := p.words ++ [w] }) s
  let n := ((s1.parcel pid).map (fun p => p.words.length)).getD 0
  let t := r.entry.cut.toNat
  if r.entry.govern = .stream ∧ 0 < t ∧ t ≤ r.hdr.len.toNat ∧ n = t then openParcel i r pid s1 else s1

/-- The good end of a passed parcel (R26). -/
def passedGood (i : Slot) (r : Reception) (pid : Nat) (isOpen : Bool) (s : State) : State :=
  if isOpen then settle pid r.log r.enq r.disc (modStored pid (fun p => { p with isOpen := false }) s)
  else
    let x := offerAll pid r.entry.govern i r.entry.dest s
    if x.1.blocked = 0 then settle pid r.log x.1.enq x.1.disc x.2
    else enterWaiting i pid r.entry.govern r.log x.1 x.2

/-- CHECK-FAIL with the ingress slot as instance and the channel as parameter (R18, R19, R24, R26). -/
def postCheckFail (i : Slot) (chan : BitVec 6) (s : State) : State :=
  postEvent causeCheckFail i.val (wordOf chan.toNat) s

/-- The slots of a set whose STREAM queue holds a parcel now (R78). -/
def State.holding (s : State) (pid : Nat) (m : SlotSet) : SlotSet :=
  (slotsOf m).foldl (fun a d => if (s.slot d).egr.stream.contains pid then addSlot a d else a) 0

/-- A bad or ABORTED end of a passed parcel (R26, R31). The enqueued set handed over is the slots of the reception's set
whose queue holds the parcel at the failure, as R78's table says; a slot that lost it to a flush or a drop before is in
neither set (log entry 39). -/
def passedFail (i : Slot) (r : Reception) (pid : Nat) (isOpen bad : Bool) (s : State) : State :=
  let held := s.holding pid r.enq
  let loc := s.location pid held
  let s1 := releaseHold pid (if isOpen then s.eachSlot (failAt pid) else s)
  let s2 := if bad then postCheckFail i r.hdr.chan s1 else s1
  handOver r.log
    { outcome := if bad then .checkFail else .aborted, reason := 0, loc := loc, area := 0, enq := held,
      second := r.disc } s2

/-- The end of a passed parcel in reception (R26). -/
def passedEnd (i : Slot) (r : Reception) (pid : Nat) (e : PEnd) (s : State) : State :=
  let isOpen := ((s.parcel pid).map (·.isOpen)).getD false
  match e with
  | .good => passedGood i r pid isOpen s
  | .bad => passedFail i r pid isOpen true s
  | .aborted => passedFail i r pid isOpen false s

/-! ## The three events of a parcel (R17 to R26) -/

/-- The end of the parcel in reception of a slot. At a bad end CHECK-FAIL is posted before the entries of a ring that the
end advances, an order R154 leaves open (log entry 42). -/
def parcelEnd (i : Slot) (e : PEnd) (s : State) : State :=
  match (s.slot i).ing.reception with
  | none => s
  | some r =>
    let s1 := s.modIng i (fun g => { g with reception := none })
    match r.fate with
    | .mgmt =>
      let s2 := s1.modMgmt (fun m => { m with store := [] })
      (match e with
       | .good => offerRequest { tag := r.hdr.tag, words := s1.mgmt.store } s2
       | .bad => postCheckFail i r.hdr.chan s2
       | .aborted => s2)
    | .timeOfDay =>
      let s2 := s1.modIng i (fun g => { g with todStage := [] })
      (match e with
       | .good => stageTimeOfDay i (s1.slot i).ing.todStage s2
       | .bad => postCheckFail i r.hdr.chan s2
       | .aborted => s2)
    | .refused => s1
    | .poolCut => s1
    | .parked => parkEnd i e r.log (if e = .bad then postCheckFail i r.hdr.chan s1 else s1)
    | .passed pid => passedEnd i r pid e s1

/-- A payload word of the parcel in reception. -/
def parcelPayload (i : Slot) (w : Word) (s : State) : State :=
  match (s.slot i).ing.reception with
  | none => s
  | some r =>
    match r.fate with
    | .mgmt => s.modMgmt (fun m => { m with store := m.store ++ [w] })
    | .timeOfDay => s.modIng i (fun g => { g with todStage := g.todStage ++ [w] })
    | .refused => s
    | .poolCut => s
    | .parked => parkPayload i w s
    | .passed pid => passedPayload i r pid w s

/-- Open a slot's reception. -/
def beginReception (i : Slot) (h : Header) (e : FlowEntry) (st : Stamp) (hd : Option LogHandle) (f : Fate) (s : State) :
    State :=
  s.modIng i (fun g =>
    { g with reception := some { hdr := h, stamp := st, entry := e, log := hd, fate := f, enq := 0, disc := 0 } })

/-- The refusal reason of a flow entry for a kind (R17, R22): none accepts. -/
def FlowEntry.refusal (e : FlowEntry) (k : BitVec 3) : Option Nat :=
  if !e.valid then some 1 else if 6 ≤ k.toNat then some 2 else if !e.permits k then some 3 else none

/-- PARCEL-REFUSED where the entry or the global setting asks for it (R22). -/
def reportRefusal (i : Slot) (h : Header) (e : FlowEntry) (reason : Nat) (s : State) : State :=
  if (if reason = 1 then s.glob.alarmUnknown else e.alarm) then
    postEvent causeParcelRefused i.val (wordOf (reason * 65536 + h.chan.toNat * 256 + h.kind.toNat)) s
  else s

/-- A passed parcel asks for its blocks (R25). -/
def passHeader (i : Slot) (h : Header) (e : FlowEntry) (st : Stamp) (hd : Option LogHandle) (s : State) : State :=
  let b := blocksFor h.len.toNat
  if b ≤ s.pool.freeCount then
    allocStored
      { hdr := h, cls := e.govern, egress := e.egress, owner := i, nBlocks := b, blocks := [], words := [],
        isOpen := false, refs := 1 }
      (beginReception i h e st hd (.passed s.pool.nextId) s)
  else
    handOver hd (HandOver.plain .poolEmpty 0)
      (postEvent causePoolCut i.val (wordOf b) (beginReception i h e st hd .poolCut s))

/-- The flow entry of an ingress slot and channel (R17): an entry that is not listed is the zero entry (R20). -/
def State.flowAt (s : State) (k : Nat) : FlowEntry := (assocGet s.flow k).getD FlowEntry.zero

/-- Header arrival of a parcel that is looked up (R17 test 3, R21 to R25). The entry of the log's crossing comes before
PARCEL-REFUSED, PARK-DISCARD, POOL-CUT and a POOL-LOW raise of the same arrival, an order R154 leaves open (log entry
42). -/
def lookupHeader (i : Slot) (h : Header) (s : State) : State :=
  let e0 := s.flowAt (i.val * 64 + h.chan.toNat)
  let e := { e0 with dest := delSlot e0.dest i }
  let st := s.now.stamp
  let x := if e.valid && e.log then logReserve i h st e.park s else (none, s)
  match e.refusal h.kind with
  | some reason =>
    handOver x.1 (HandOver.plain .refused reason)
      (reportRefusal i h e reason (beginReception i h e st x.1 .refused x.2))
  | none =>
    if e.park then
      parkHeader i (Fin.ofNat 64 e.area.toNat) h x.1 (beginReception i h e st x.1 .parked x.2)
    else passHeader i h e st x.1 x.2

/-- Whether a parcel is diverted to the management unit (R17 test 1). -/
def State.isMgmtParcel (s : State) (i : Slot) (h : Header) : Bool :=
  i == s.mgmtSlot && h.chan == 63 && h.kind == kindMgmt

/-- Whether a parcel is diverted to the timing unit (R17 test 2). -/
def State.isTodParcel (s : State) (i : Slot) (h : Header) : Bool :=
  h.chan == 62 && h.kind == kindTiming && (s.timing.refA.cfg.slot == i.val || s.timing.refB.cfg.slot == i.val)

/-- Header arrival (R17). -/
def parcelHeader (i : Slot) (h : Header) (s : State) : State :=
  let st : Stamp := { sec := 0, ns := 0 }
  if s.isMgmtParcel i h then
    beginReception i h FlowEntry.zero st none .mgmt (s.modMgmt (fun m => { m with store := [] }))
  else if s.isTodParcel i h then
    beginReception i h FlowEntry.zero st none .timeOfDay (s.modIng i (fun g => { g with todStage := [] }))
  else lookupHeader i h s

end Sys2Proof.Machine
end

