-- ==== Sys2Proof/Machine/Slots.lean ====
section
/-! DEFINITION. The slot controller: power, seating, training, admission, draining, removal and faults, with what the
port, the schedulers and the forwarding unit do at each change of state (R6, R123 to R142). -/

namespace Sys2Proof.Machine

/-! ## The link leaves UP and RESTING (R6, R54) -/

/-- The transmit side abandons its parcel (R5, R54): it stays at the head of its queue, but for a class parcel being
ended early, which is removed. -/
def abandonTx (i : Slot) (s : State) : State :=
  let s1 := s.modEgr i (fun e => { e with tx := .idle })
  match (s.slot i).egr.tx.main with
  | none => s1
  | some p =>
    match p.origin with
    | .cls c => if p.early && p.attached then removeRef i c p.pid s1 else s1
    | _ => s1

/-- The receive side ends a parcel in reception as ABORTED and awaits a header (R4). -/
def abortReception (i : Slot) (s : State) : State :=
  (parcelEnd i .aborted s).modPort i (fun p => { p with rx := .awaitHeader })

/-- Set the link state; leaving UP and RESTING, and leaving TRAINING, have the effects of R6 and R15. A POOL-LOW clear
that the ABORTED end or the abandonment brings comes before the LINK-HELD clear, a place the manual leaves open (log
entry 41). -/
def setLink (i : Slot) (dst : LinkState) (s : State) : State :=
  let was := (s.slot i).port.link
  let s1 := s.modPort i (fun p =>
    { p with link := dst, trainReq := if dst = .training then p.trainReq else none })
  if was.frames && !dst.frames then
    clearCond causeLinkHeld i.val 0 ((abandonTx i (abortReception i s1)).modPort i (fun p =>
      { p with announcedHeld := false, cardHold := false, holdTimer := none, wakeAsked := false }))
  else s1

/-! ## Power and sideband inputs (R127 to R129) -/

/-- Whether a slot has a line debounced active among its ALARM-IN lines. -/
def SlotState.alarmActive (x : SlotState) : Bool :=
  (x.cfg.fn0 == .alarmIn && x.ctl.deb0.active) || (x.cfg.fn1 == .alarmIn && x.ctl.deb1.active)

/-- A debouncer judged against its line at a change: the run starts when they differ, and stops when they agree (R128).
-/
def Debounce.follow (d : Debounce) (level : Bool) (now : Uptime) : Debounce :=
  if level = d.active then { d with run := none }
  else { d with run := some (d.run.getD now) }

/-- The debouncers of a slot's ALARM-IN lines follow their lines while the inputs are enabled (R128). -/
def followLines (i : Slot) (s : State) : State :=
  let x := s.slot i
  s.modCtl i (fun c =>
    { c with
      deb0 := if c.inputsEn && x.cfg.fn0 == .alarmIn then c.deb0.follow c.lev0 s.uptime else c.deb0,
      deb1 := if c.inputsEn && x.cfg.fn1 == .alarmIn then c.deb1.follow c.lev1 s.uptime else c.deb1 })

/-- PWR-EN goes off: the inputs are disabled, RESET-OUT and strobe pulses end, and CARD-ALARM is cleared
(R119, R127, R128). -/
def powerOffLines (i : Slot) (s : State) : State :=
  clearCond causeCardAlarm i.val 0 (s.modCtl i (fun c =>
    { c with pwrEn := false, inputsEn := false, resetOut := false, pulse0 := none, pulse1 := none,
             deb0 := Debounce.rest, deb1 := Debounce.rest }))

/-- PWR-GOOD is seen in POWERING: the release timer starts and the inputs are enabled (R128, R129). -/
def goodSeen (i : Slot) (s : State) : State :=
  followLines i (s.modCtl i (fun c =>
    { c with inputsEn := true, timer := some { kind := .release, start := s.uptime } }))

/-! ## Entries to states -/

/-- Start a slot timer at the current uptime (R130). -/
def startTimer (i : Slot) (k : TimerKind) (s : State) : State :=
  s.modCtl i (fun c => { c with timer := some { kind := k, start := s.uptime } })

/-- Set the slot state: timers stop, the rest request and the training in progress are gone, and the slot is resolved
again in every pending set (R34, R130). -/
def setPhase (i : Slot) (ph : Phase) (s : State) : State :=
  reresolve i (s.modCtl i (fun c =>
    { c with phase := ph, sub := .awake, restReq := false, timer := none, train := Training.none, reason := none }))

/-- The management slot's request queue and request storage are emptied with its reply queue (R46, R179). -/
def emptyMgmt (i : Slot) (s : State) : State :=
  if i = s.mgmtSlot then s.modMgmt (fun m => { m with queue := [], store := [], replies := [] }) else s

/-- Entry to EMPTY, SEATED, QUIESCED or FAULTED: the express queue, and for the management slot the reply and request
queues, are emptied (R46, R179). -/
def enterOut (i : Slot) (ph : Phase) (s : State) : State :=
  emptyMgmt i (emptySwitchQueues i (setPhase i ph s))

/-- The part that POWER-OFF, removal and faulting share (R139 to R141): power off, chain abort, link DOWN, flush, and
the new state. The manual does not place a POOL-LOW clear among the entries: one that the link's leaving UP brings
comes after CHAIN-ABORTED and before the LINK-HELD clear, one that the flush or the slot's leaving the waiting places
brings after the LINK-HELD clear and before SLOT-FAULT or SLOT-REMOVED (log entry 41). -/
def takeDown (i : Slot) (ph : Phase) (s : State) : State :=
  enterOut i ph (flushSlot i (setLink i .down (abortChain i .slotLeft (powerOffLines i s))))

/-- Entry to EMPTY: the seat timer starts when both contacts are made (R126). -/
def seatDebounce (i : Slot) (s : State) : State :=
  let c := (s.slot i).ctl
  if c.phase = .empty ∧ c.presL ∧ c.presS then startTimer i .seat s else s

/-- Entry to EMPTY from SEATED or FAULTED, whose link is DOWN and whose queues are empty. -/
def enterEmpty (i : Slot) (s : State) : State := seatDebounce i (enterOut i .empty s)

/-- Entry to POWERING (R129). -/
def enterPowering (i : Slot) (s : State) : State :=
  let s1 := startTimer i .power ((setPhase i .powering s).modCtl i (fun c => { c with pwrEn := true, resetOut := true }))
  if (s.slot i).ctl.pwrGood then goodSeen i s1 else s1

/-- Entry to SEATED, and on to POWERING with auto-power (R126). -/
def enterSeated (i : Slot) (s : State) : State :=
  let s1 := enterOut i .seated s
  if (s.slot i).cfg.autoPower then enterPowering i s1 else s1

/-- Ask the port for a TRAIN-REQ (R15, R131). -/
def askTrain (i : Slot) (t : Training) (s : State) : State :=
  (s.modCtl i (fun c => { c with train := { t with step := .request } })).modPort i
    (fun p => { p with trainReq := some t.exchange })

/-- Entry to TRAINING with attempt 1; the queues are kept (R131, R135, R136). CHAIN-ABORTED and the LINK-HELD clear are
posted before the slot leaves ADMITTED, so that an AWAKE management slot is offered their ALARM parcels, a point the
manual leaves open (log entry 48). -/
def enterTraining (i : Slot) (s : State) : State :=
  askTrain i { attempt := 1, exchange := 0, step := .request, samples := [] }
    (setPhase i .training (setLink i .training (abortChain i .slotLeft s)))

/-- Entry to FAULTED (R141). -/
def fault (i : Slot) (r : FaultReason) (s : State) : State :=
  raiseCond causeSlotFault i.val (wordOf r.code)
    ((takeDown i .faulted s).modCtl i (fun c => { c with reason := some r }))

/-- A removal, with its parameter (R140). -/
def remove (i : Slot) (param : Nat) (s : State) : State :=
  postEvent causeSlotRemoved i.val (wordOf param) (seatDebounce i (takeDown i .empty s))

/-- Admission (R133). -/
def admitSlot (i : Slot) (d : Nat) (s : State) : State :=
  let s1 := setPhase i .admitted (setDelay i d s)
  autoStart i (postEvent causeSlotAdmitted i.val (wordOf d) (setLink i .up s1))

/-- The smallest of a list of samples. -/
def smallest : List Nat → Nat
  | [] => 0
  | [x] => x
  | x :: r => Nat.min x (smallest r)

/-- The end of a training attempt (R132). -/
def attemptEnd (i : Slot) (s : State) : State :=
  let t := (s.slot i).ctl.train
  let s1 := s.modCtl i (fun c => { c with lastAnswers := t.samples.length })
  if 4 ≤ t.samples.length then
    let d := smallest t.samples / 2
    if 10000 < d then fault i .delayRange (setDelay i d s1) else admitSlot i d s1
  else if t.attempt < 3 then startTimer i .gap (s1.modCtl i (fun c => { c with train := { t with step := .gap } }))
  else fault i .trainingFailed s1

/-- The exchange in progress is over, answered or not (R131). -/
def nextExchange (i : Slot) (s : State) : State :=
  let t := (s.slot i).ctl.train
  if t.exchange < 7 then askTrain i { t with exchange := t.exchange + 1 } s else attemptEnd i s

/-- An answered exchange adds its sample (R131). -/
def addSample (i : Slot) (x : Nat) (s : State) : State :=
  s.modCtl i (fun c => { c with train := { c.train with samples := c.train.samples ++ [x] } })

/-- Round trip of an exchange in whole nanoseconds of cabinet time (R131). -/
def roundTrip (arrival departure : CabTime) : Int :=
  CabTime.diff { arrival with frac := 0 } { departure with frac := 0 } / (Config.fracPerNs : Int)

/-- A slot that enters DRAINING with an empty egress is QUIESCED in the same event (R46, R138): with auto-power-off its
power goes off there, and the CARD-ALARM clear is posted ahead of CHAIN-ABORTED (R123). -/
def powerOffAtOnce (i : Slot) (s : State) : State :=
  if s.egressEmpty i && (s.slot i).cfg.autoPowerOff then powerOffLines i s else s

/-- Entry to DRAINING (R137). -/
def enterDraining (i : Slot) (s : State) : State :=
  let c := (s.slot i).ctl
  let s1 := startTimer i .drain (abortChain i .slotLeft (powerOffAtOnce i (setPhase i .draining s)))
  if c.sub = .resting ∧ !c.restReq then s1.modPort i (fun p => { p with wakeAsked := true }) else s1

/-- Entry to QUIESCED from DRAINING (R138). -/
def quiesce (i : Slot) (s : State) : State :=
  let s1 := if (s.slot i).cfg.autoPowerOff then powerOffLines i s else s
  enterOut i .quiesced (setLink i .down s1)

/-- The first DRAINING slot whose egress is empty. -/
def State.drained (s : State) : Option Slot :=
  allSlots.find? (fun i => (s.slot i).ctl.phase == .draining && s.egressEmpty i)

/-- Egress-empty reports: every DRAINING slot whose egress has become empty enters QUIESCED (R46, R138). A slot
quiesces once, so 16 rounds are enough. -/
def settleRounds : Nat → State → State
  | 0, s => s
  | n + 1, s =>
    match s.drained with
    | none => s
    | some i => settleRounds n (quiesce i s)

/-- The egress-empty reports at the end of an event. -/
def settleDrains (s : State) : State := settleRounds 16 s

end Sys2Proof.Machine
end

