-- ==== Sys2Proof/Machine/Transmit.lean ====
section
/-! DEFINITION. The egress schedulers and the transmit side of a port: choices, word slots, ends, insertions and marks
(R5, R8, R11, R14, R49 to R55). -/

namespace Sys2Proof.Machine

/-! ## The current word slot (R1, R8) -/

/-- Put a word on the link: the current word slot is taken, and carries no other (R1). -/
def sendWord (i : Slot) (w : LinkWord) (s : State) : State :=
  s.modPort i (fun p => { p with out := some w, slotTaken := true })

/-- Send a mark without argument. -/
def sendMark (i : Slot) (code : Nat) (s : State) : State := sendWord i (.mark (markWordOf code)) s

/-- Whether the current word slot of a link is still free (R1). -/
def State.slotFree (s : State) (i : Slot) : Bool := !(s.slot i).port.slotTaken

/-- Whether a HOLD-OFF or RESUME waits to be sent (R11). -/
def State.holdMarkWaits (s : State) (i : Slot) : Bool :=
  s.framing i && (s.slot i).port.holdReq != (s.slot i).port.announcedHeld

/-- Whether a SUSPEND or CONTINUE waits to be sent (R14). -/
def Tx.markWaits : Tx → Bool
  | .insertCalled _ .suspendDue => true
  | .continueDue _ => true
  | _ => false

/-- Whether REST waits to be sent: it is asked for on a link that is UP, with no parcel in transmission and no
insertion called for still to be sent (R8, R49). -/
def State.restWaits (s : State) (i : Slot) : Bool :=
  (s.slot i).ctl.restReq && (s.slot i).port.link == .up && (s.slot i).egr.tx.free

/-- Whether a mark waits on a link that is UP: it goes ahead of any further parcel word (R8). -/
def State.markWaits (s : State) (i : Slot) : Bool :=
  s.holdMarkWaits i || (s.slot i).egr.tx.markWaits || s.restWaits i

/-- Whether the current word slot of a link is open to a word of a parcel: the link is UP, the slot is free and no mark
waits (R8). -/
def State.parcelSlot (s : State) (i : Slot) : Bool :=
  (s.slot i).port.link == .up && s.slotFree i && !s.markWaits i

/-! ## Parcels on the transmit side -/

/-- A class parcel as it is sent, with its egress channel (R5, R28). -/
def txClass (c : Cls) (pid : Nat) (p : Stored) : TxParcel :=
  { origin := .cls c, edge := none, pid := pid, attached := true,
    header := Header.toWord { p.hdr with chan := p.egress }, len := p.hdr.len.toNat, headerSent := false, sent := 0,
    crc := crcPreset, early := false, called := false }

/-- An express parcel as it is sent. -/
def txExpress (p : ExpressParcel) : TxParcel :=
  { origin := .express, edge := p.edge, pid := 0, attached := true, header := p.header.toWord, len := p.words.length,
    headerSent := false, sent := 0, crc := crcPreset, early := false, called := false }

/-- A reply or ALARM parcel as it is sent. -/
def txReply (p : ReplyParcel) : TxParcel :=
  { origin := .reply, edge := none, pid := 0, attached := true, header := p.header.toWord, len := p.words.length,
    headerSent := false, sent := 0, crc := crcPreset, early := false, called := false }

/-- The payload words a parcel in transmission has to send so far; none when it is ended early, since every word still
due is then 0 (R5). -/
def State.txSource (s : State) (i : Slot) (p : TxParcel) : List Word :=
  match p.origin with
  | .express => ((s.slot i).egr.express.head?.map (·.words)).getD []
  | .reply => (s.mgmt.replies.head?.map (·.words)).getD []
  | .cls _ => ((s.parcel p.pid).map (·.words)).getD []

/-- Whether a parcel's next payload word is at hand: a following egress waits for the word to be stored (R30). -/
def State.txReady (s : State) (i : Slot) (p : TxParcel) : Bool :=
  p.early || decide (p.sent < (s.txSource i p).length)

/-- The next payload word: 0 when the parcel is ended early (R5). -/
def State.txNext (s : State) (i : Slot) (p : TxParcel) : Word :=
  if p.early then 0 else (s.txSource i p).getD p.sent 0

/-- Whether a parcel may send its check word: a following egress waits for the good end (R30). -/
def State.txClosed (s : State) (p : TxParcel) : Bool :=
  p.early || !(((s.parcel p.pid).map (·.isOpen)).getD false && (match p.origin with | .cls _ => true | _ => false))

/-- The header has left: it is fed into the preset check register (R3). -/
def TxParcel.sendHeader (p : TxParcel) : TxParcel := { p with headerSent := true, crc := crcWord crcPreset p.header }

/-- The last word of a parcel whose every word has left: its check word, poisoned when it is ended early (R5). -/
def TxParcel.lastWord (p : TxParcel) : Word := if p.early then poisonedWord p.crc else checkWord p.crc

/-- The parcel whose words leave next. -/
def Tx.current : Tx → Option TxParcel
  | .idle => none
  | .sending p => some p
  | .insertCalled p _ => some p
  | .bracket _ x => some x
  | .continueDue p => some p

/-- Replace the parcel whose words leave next. -/
def Tx.setCurrent (q : TxParcel) : Tx → Tx
  | .idle => .idle
  | .sending _ => .sending q
  | .insertCalled _ m => .insertCalled q m
  | .bracket p _ => .bracket p q
  | .continueDue _ => .continueDue q

/-- After one word of the interrupted parcel its SUSPEND is due (R14). -/
def Tx.wordGone : Tx → Tx
  | .insertCalled p .wordOwed => .insertCalled p .suspendDue
  | t => t

/-! ## Words of a parcel (R3, R5, R51, R52) -/

/-- Whether a parcel may be started now: a card that holds the switch off lets only express parcels start (R12, R49).
-/
def State.mayStart (s : State) (i : Slot) (p : TxParcel) : Bool := p.origin == .express || !(s.slot i).port.cardHold

/-- One word of the parcel whose words leave next, where one may leave now: the header, but for an EDGE parcel's, whose
departure is an event of its own; or the next payload word. The word, and the parcel after it. -/
def State.nextWord (s : State) (i : Slot) (p : TxParcel) : Option (LinkWord × TxParcel) :=
  if p.notLeft then
    if p.edge.isSome || !s.mayStart i p then none else some (.header p.header, p.sendHeader)
  else if p.sent < p.len ∧ s.txReady i p then
    let w := s.txNext i p
    some (.body w, { p with sent := p.sent + 1, crc := crcWord p.crc w })
  else none

/-- The dwell and alternation effects of a start, in the word slot of the header (R51, R52). -/
def Egress.startOf (e : Egress) : Origin → Egress
  | .cls .control => { e with dwell := 0, bulkTurn := true }
  | .cls .bulk => { e with dwell := 0, bulkTurn := false }
  | _ => e

/-- A header or payload word of the parcel whose words leave next goes on the link, where one may leave (R5, R8). -/
def sendParcelWord (i : Slot) (s : State) : State :=
  let tx := (s.slot i).egr.tx
  match tx.current with
  | none => s
  | some p =>
    if s.parcelSlot i then
      match s.nextWord i p with
      | none => s
      | some (w, q) =>
        sendWord i w (s.modEgr i (fun e =>
          { (if p.notLeft then e.startOf p.origin else e) with tx := (tx.setCurrent q).wordGone }))
    else s

/-! ## Choices (R49 to R52) -/

/-- Whether a choice is open (R49). The choice made last stands until the next occasion, which hands back what it
handed over; with nothing handed over the choice is open. A reply that joins is an occasion too: it finds a class
parcel handed over only if it joined since, for no choice passes a reply over for one (R50). -/
def State.choiceOpen (s : State) (i : Slot) : Bool :=
  match (s.slot i).egr.tx with
  | .idle => true
  | .sending p =>
    p.notLeft && !p.called && (match p.origin with | .cls _ => true | _ => false) && i == s.mgmtSlot &&
      !s.mgmt.replies.isEmpty && !(s.slot i).port.cardHold
  | _ => false

/-- Whether a scheduler may make a choice: its slot may transmit, a choice is open and no rest is asked for (R49). -/
def State.mayChoose (s : State) (i : Slot) : Bool :=
  let x := s.slot i
  (s.isAwake i || x.ctl.phase == .draining) && x.port.link == .up && s.choiceOpen i && !x.ctl.restReq

/-- Whether step 3 of R50 is passed over (R52). -/
def Egress.dwellCalls (e : Egress) (limit : Nat) : Bool :=
  (!e.control.isEmpty || !e.bulk.isEmpty) && decide (limit ≠ 0) && decide (limit ≤ e.dwell)

/-- The class whose head is taken at step 4 (R51). -/
def Egress.turn (e : Egress) (a : Arbitration) : Option Cls :=
  match e.control, e.bulk with
  | [], [] => none
  | _ :: _, [] => some .control
  | [], _ :: _ => some .bulk
  | _ :: _, _ :: _ =>
    match a with
    | .controlFirst => some .control
    | .alternate => some (if e.bulkTurn then .bulk else .control)

/-- The class whose head a choice takes among the class queues (R50 steps 3 and 4). -/
def Egress.classChoice (e : Egress) (limit : Nat) (a : Arbitration) : Option Cls :=
  if !e.stream.isEmpty && !e.dwellCalls limit then some .stream else e.turn a

/-- Hand over the head of a class queue, with its egress channel (R50). -/
def startClass (i : Slot) (c : Cls) (s : State) : State :=
  match (s.slot i).egr.queue c with
  | [] => s
  | pid :: _ =>
    match s.parcel pid with
    | none => s
    | some p => s.modEgr i (fun e => { e with tx := .sending (txClass c pid p) })

/-- Hand over the head of the express queue. -/
def startExpress (i : Slot) (s : State) : State :=
  match (s.slot i).egr.express with
  | [] => s
  | p :: _ => s.modEgr i (fun e => { e with tx := .sending (txExpress p) })

/-- Hand over the head of the reply queue. -/
def startReply (i : Slot) (s : State) : State :=
  match s.mgmt.replies with
  | [] => s
  | p :: _ => s.modEgr i (fun e => { e with tx := .sending (txReply p) })

/-- What every choice does first: a parcel handed over before and not in transmission is handed back, and the dwell
count is set to 0 when neither CONTROL nor BULK holds a parcel (R50, R52). -/
def Egress.atChoice (e : Egress) : Egress :=
  { e with tx := .idle, dwell := if e.control.isEmpty && e.bulk.isEmpty then 0 else e.dwell }

/-- A choice (R50). -/
def choose (i : Slot) (s : State) : State :=
  let s1 := s.modEgr i Egress.atChoice
  let x := s1.slot i
  if !x.egr.express.isEmpty then startExpress i s1
  else if x.port.cardHold then s1
  else if i == s1.mgmtSlot && !s1.mgmt.replies.isEmpty then startReply i s1
  else
    match x.egr.classChoice x.cfg.dwellLimit x.cfg.arb with
    | none => s1
    | some c => startClass i c s1

/-- A choice, where one may be made (R49, R50). -/
def makeChoice (i : Slot) (s : State) : State := if s.mayChoose i then choose i s else s

/-! ## Ends of transmission (R54) -/

/-- A parcel that has sent its last word leaves its queue (R44, R47, R48, R52, R54). Where the end returns blocks and
completes a chain, a POOL-LOW clear comes before CHAIN-DONE, an order R154 leaves open (log entry 50). -/
def leaveQueue (i : Slot) (p : TxParcel) (s : State) : State :=
  match p.origin with
  | .express => if p.attached then s.modEgr i (fun e => { e with express := e.express.tail }) else s
  | .reply => if p.attached then s.modMgmt (fun m => { m with replies := m.replies.tail }) else s
  | .cls c =>
    let s1 := if c = .stream then s.modEgr i (fun e => { e with dwell := Nat.min 65535 (e.dwell + p.len + 2) }) else s
    if p.attached then
      let s2 := removeRef i c p.pid s1
      if p.early then s2 else chainSent i p.pid s2
    else s1

/-- Replies that joined after the drop of a DRAINING management slot are removed at the end that frees the transmit
side (R138): in DRAINING no timer runs once the drop is made. -/
def dropLateReplies (i : Slot) (s : State) : State :=
  let c := (s.slot i).ctl
  if i = s.mgmtSlot ∧ c.phase = .draining ∧ c.timer = none ∧ (s.slot i).egr.tx = .idle then
    s.modMgmt (fun m => { m with replies := [] })
  else s

/-- Whether a parcel may send its last word now: its header and every payload word have left, the word slot is open to
it, and a followed parcel has reached its good end (R5, R8, R30). -/
def State.mayEnd (s : State) (i : Slot) (p : TxParcel) : Bool :=
  s.parcelSlot i && p.headerSent && decide (p.len ≤ p.sent) && s.txClosed p

/-- The express parcel of an insertion that follows a finished parcel (R14). -/
def Egress.following (e : Egress) : Tx :=
  (e.express.head?.map (fun x => Tx.sending { txExpress x with called := true })).getD .idle

/-- The last word of the parcel whose words leave next, and what follows it on the transmit side: nothing, the express
parcel that follows a finished one, or the CONTINUE after a bracket (R14, R54). -/
def endOf (i : Slot) (s : State) : State :=
  let finish (p : TxParcel) (next : Tx) : State :=
    if s.mayEnd i p then
      leaveQueue i p (sendWord i (.body p.lastWord) (s.modEgr i (fun e => { e with tx := next })))
    else s
  match (s.slot i).egr.tx with
  | .idle => s
  | .sending p => dropLateReplies i (finish p .idle)
  | .insertCalled p .follow =>
    finish p (s.slot i).egr.following
  | .insertCalled _ _ => s
  | .bracket p x => finish x (.continueDue p)
  | .continueDue _ => s

/-! ## Insertions (R14, R53) -/

/-- SUSPEND is sent, after the one further word, and the express parcel is in transmission from its word slot (R14,
R53). -/
def sendSuspend (i : Slot) (s : State) : State :=
  match (s.slot i).egr.tx, (s.slot i).egr.express with
  | .insertCalled p .suspendDue, x :: _ =>
    if s.slotFree i && !s.holdMarkWaits i then
      sendMark i codeSuspend (s.modEgr i (fun e => { e with tx := .bracket p (txExpress x) }))
    else s
  | _, _ => s

/-- CONTINUE is sent and the interrupted parcel resumes; a further insertion may be called for (R14, R53). -/
def sendContinue (i : Slot) (s : State) : State :=
  match (s.slot i).egr.tx with
  | .continueDue p =>
    if s.slotFree i && !s.holdMarkWaits i then
      callInsertion i (sendMark i codeContinue (s.modEgr i (fun e => { e with tx := .sending p })))
    else s
  | _ => s

/-! ## Departures of EDGE parcels (R55, R118) -/

/-- EDGE-LATE when a departure is later than the edge instant less the path delay (R118). R118 takes the difference
across the seconds; that it is read as signed modulo the range, so that a departure more than half the range after the
edge posts nothing, is the model's choice (log entry 55). -/
def judgeLate (i : Slot) (edge : CabTime) (delay : Nat) (s : State) : State :=
  let late := CabTime.diff { s.now with frac := 0 } (edge.move (nsUnits (-(delay : Int)))) / (Config.fracPerNs : Int)
  if 0 < late then postEvent causeEdgeLate i.val (wordOf (Nat.min 4294967295 late.toNat)) s else s

/-- The header of an EDGE parcel leaves: its departure fields are written and its lateness is judged (R55, R118). -/
def departEdge (i : Slot) (p : TxParcel) (n : EdgeNote) (s : State) : State :=
  let stamp (q : List ExpressParcel) : List ExpressParcel :=
    match q with
    | [] => []
    | x :: r => { x with words := stampDeparture x.words s.now } :: r
  let s1 := s.modEgr i (fun e =>
    { e with tx := e.tx.setCurrent p.sendHeader, express := if p.attached then stamp e.express else e.express })
  judgeLate i n.instant n.delay (sendWord i (.header p.header) s1)

/-- The departure of the EDGE parcel whose header leaves next, at least one word slot after the parcel was made (R55,
R118). -/
def departNext (i : Slot) (s : State) : State :=
  let tx := (s.slot i).egr.tx
  match tx.current with
  | none => s
  | some p =>
    match p.edge with
    | none => s
    | some n =>
      if p.notLeft && s.parcelSlot i && decide (n.made < s.timing.core) then departEdge i p n s else s

/-! ## Marks (R8, R11, R15) -/

/-- HOLD-OFF or RESUME is sent (R11). -/
def sendHoldMark (i : Slot) (s : State) : State :=
  if s.slotFree i && s.holdMarkWaits i then
    let held := (s.slot i).port.holdReq
    sendMark i (if held then codeHoldOff else codeResume) (s.modPort i (fun p => { p with announcedHeld := held }))
  else s

/-- REST is sent: the rest request clears and the link is RESTING; a parcel handed over and not in transmission is
handed back (R6, R8, R50, R134). -/
def sendRest (i : Slot) (s : State) : State :=
  if s.slotFree i && s.restWaits i && !s.holdMarkWaits i then
    sendMark i codeRest (((s.modCtl i (fun c => { c with restReq := false })).modPort i
      (fun p => { p with link := .resting })).modEgr i (fun e => { e with tx := .idle }))
  else s

/-- WAKE is sent (R8). -/
def sendWake (i : Slot) (s : State) : State :=
  let p := (s.slot i).port
  if s.slotFree i && p.wakeAsked && p.link == .resting && !s.holdMarkWaits i then
    sendMark i codeWake (s.modPort i (fun x => { x with wakeAsked := false }))
  else s

/-- TRAIN-REQ is sent: its departure is handed to the slot controller, whose wait begins (R15, R131). -/
def sendTrainReq (i : Slot) (s : State) : State :=
  let x := s.slot i
  match x.port.trainReq with
  | none => s
  | some k =>
    if s.slotFree i ∧ x.port.link = .training ∧ x.ctl.phase = .training then
      (sendWord i (.mark (trainReqWord k)) (s.modPort i (fun p => { p with trainReq := none }))).modCtl i
        (fun c => { c with train := { c.train with step := .wait s.now s.timing.core false } })
    else s

/-! ## The word slot of a core period (R1, R8) -/

/-- What a word slot has still to carry, in the order of R8: a choice that may be made is made, then the first of the
waiting marks, and else of the parcel words, goes on the link. Once the slot is taken the others leave it alone. -/
def fillSlot (i : Slot) (s : State) : State :=
  endOf i (departNext i (sendParcelWord i (sendContinue i (sendSuspend i (sendWake i (sendRest i (sendTrainReq i
    (sendHoldMark i (makeChoice i s)))))))))

/-- What a link carries in a word slot with nothing to send: IDLE, and nothing in RESTING (R1, R8). -/
def LinkState.idleWord : LinkState → Option LinkWord
  | .resting => none
  | _ => some (.mark (markWordOf codeIdle))

/-- The word slot of one core period passes: what is due in it goes on the link, else IDLE, and the next slot is free.
-/
def wordSlot (i : Slot) (s : State) : State :=
  (fillSlot i s).modPort i (fun p =>
    { p with slotTaken := false, out := if p.slotTaken then p.out else p.link.idleWord })

end Sys2Proof.Machine
end

