-- ==== Sys2Proof/Machine/EgressCmds.lean ====
section
/-! DEFINITION. The commands of the egress schedulers and of a port's transmit side. -/

namespace Sys2Proof.Machine

/-- SCHEDULER_CHOICE (R49 to R52): the parcel it hands over is in transmission from the word slot of its header (R50). -/
def execSchedulerChoice (i : Slot) (s : State) : Host.Outcome State Fault Refusal :=
  .next (makeChoice i s)

/-- TRANSMISSION_END (R5, R44, R54). -/
def execTransmissionEnd (i : Slot) (s : State) : Host.Outcome State Fault Refusal := .next (settleDrains (endOf i s))

/-- EDGE_DEPARTURE (R55, R118). -/
def execEdgeDeparture (i : Slot) (s : State) : Host.Outcome State Fault Refusal := .next (departNext i s)

/-- HOLD_MARK_SENT (R11). -/
def execHoldMarkSent (i : Slot) (s : State) : Host.Outcome State Fault Refusal := .next (sendHoldMark i s)

/-- REST_MARK_SENT (R8). -/
def execRestMarkSent (i : Slot) (s : State) : Host.Outcome State Fault Refusal := .next (sendRest i s)

/-- TRAIN_REQ_SENT (R15, R131). -/
def execTrainReqSent (i : Slot) (s : State) : Host.Outcome State Fault Refusal := .next (sendTrainReq i s)

/-- SUSPEND_SENT (R14, R53). -/
def execSuspendSent (i : Slot) (s : State) : Host.Outcome State Fault Refusal := .next (sendSuspend i s)

/-- CONTINUE_SENT (R14, R53). -/
def execContinueSent (i : Slot) (s : State) : Host.Outcome State Fault Refusal := .next (sendContinue i s)

/-- WAKE_MARK_SENT (R8). -/
def execWakeMarkSent (i : Slot) (s : State) : Host.Outcome State Fault Refusal := .next (sendWake i s)

end Sys2Proof.Machine
end

