-- ==== Sys2Proof/Machine/Mgmt.lean ====
section
/-! DEFINITION. The management unit: service of the head of the request queue, the tables, their images, and the judgement
of requests (R171 to R178). -/

namespace Sys2Proof.Machine

/-! ## Which row of the table a request is -/

/-- The rows that requests belong to: a read or a write of a table, READ-PARK, READ-LATEST, or an action. -/
inductive ReqRow where
  | read (table : Nat)
  | write (table : Nat)
  | readPark
  | readLatest
  | action (code : Nat)
  deriving DecidableEq, Repr

/-- The action codes (Actions). -/
def actionCodes : List Nat := [1, 2, 3, 4, 5, 6, 7, 8, 9, 16, 17, 18, 24, 25]

/-- The row of a request (R171); a write of a read-only table belongs to that table's row. None for a request that names
no row: an empty payload, an unknown code, table or action. -/
def Request.row (r : Request) : Option ReqRow :=
  if r.words = [] then none
  else
    match r.code with
    | 1 => if 1 ≤ r.subject ∧ r.subject ≤ 13 then some (.read r.subject) else none
    | 2 =>
      if 1 ≤ r.subject ∧ r.subject ≤ 8 then some (.write r.subject)
      else if 9 ≤ r.subject ∧ r.subject ≤ 13 then some (.read r.subject)
      else none
    | 3 => some .readPark
    | 4 => some .readLatest
    | 5 => if actionCodes.contains r.subject then some (.action r.subject) else none
    | _ => none

/-- The status of a request that names no row (R174 tests 1 and 2). -/
def Request.badStatus (r : Request) : Status :=
  if r.words ≠ [] ∧ (r.code = 2 ∨ (r.code = 1 ∧ r.words.length = 3)) then .badTable else .badRequest

/-! ## Service (R173) -/

/-- What a service answers: status, reply data, and the state with the effects taken. -/
structure Served where
  status : Status
  data : List Word
  state : State
  deriving DecidableEq, Repr

/-- A refusal without data; the request has no effect. -/
def refuse (st : Status) (s : State) : Served := { status := st, data := [], state := s }

/-- DONE without data. -/
def doneWith (s : State) : Served := { status := .done, data := [], state := s }

/-- Whether no reply is made, because the management slot is EMPTY, SEATED, QUIESCED or FAULTED (R173). -/
def State.mgmtOut (s : State) : Bool :=
  [Phase.empty, Phase.seated, Phase.quiesced, Phase.faulted].contains (s.slot s.mgmtSlot).ctl.phase

/-- Place the reply in the claimed place, or let the claim lapse (R173). -/
def giveReply (p : ReplyParcel) (s : State) : State :=
  let s1 := s.modMgmt (fun m => { m with claim := false })
  if s1.mgmtOut then s1 else pushReply p s1

/-- Take the head off the request queue and claim a place of the reply queue (R173). -/
def takeRequest (rest : List Request) (s : State) : State := s.modMgmt (fun m => { m with queue := rest, claim := true })

/-- The service of the head of the request queue by a row: nothing happens when there is no request, when the reply queue
has no room, or when the head belongs to another row. A head that names no row is answered by whichever row serves. The
reply comes after every effect, egress-empty reports among them (R173). -/
def serve (row : ReqRow) (f : Request → State → Served) (s : State) : State :=
  match s.mgmt.queue with
  | [] => s
  | r :: rest =>
    if s.mgmt.taken < Config.replyPlaces ∧ (r.row = some row ∨ r.row = none) then
      let s1 := takeRequest rest s
      let x := if r.row = none then refuse r.badStatus s1 else f r s1
      giveReply (replyTo r x.status x.data) (settleDrains x.state)
    else s

/-! ## Reads (R174, R175) -/

/-- The words a READ-ENTRIES reply can carry beside its status word. -/
def replyRoom : Nat := 254

/-- Whether the first index and the count name entries a table does not have (R174 test 4). -/
def Request.badIndex (r : Request) (entries : Nat) : Bool :=
  decide (0 < r.count) && (decide (entries ≤ r.first) || decide (entries < r.first + r.count))

/-- A read of a table of `entries` entries with the given images (R174, R175). -/
def readTable (entries : Nat) (image : Nat → List Word) (r : Request) (s : State) : Served :=
  if r.code = 2 then refuse .readOnly s
  else if r.words.length ≠ 3 then refuse .badRequest s
  else if r.badIndex entries then refuse .badIndex s
  else
    let data := (List.range r.count).flatMap (fun k => image (r.first + k))
    if replyRoom < data.length then refuse .badValue s else { status := .done, data := data, state := s }

/-- The words of a signed 64-bit number, upper first (R110). -/
def words64 (x : Int) : List Word := [wordOfInt (x / 4294967296), wordOfInt x]

/-- The level of a sideband line: what the switch drives on an output, what the card drives otherwise (R119, R127). -/
def SlotState.lineLevel (x : SlotState) (l : Line) : Bool :=
  match x.cfg.fn l, l with
  | .strobeOut, .sb0 => x.ctl.pulse0.isSome
  | .strobeOut, .sb1 => x.ctl.pulse1.isSome
  | .resetOut, _ => x.ctl.resetOut
  | _, .sb0 => x.ctl.lev0
  | _, .sb1 => x.ctl.lev1

/-- A slot status entry (R143). -/
def State.slotStatus (s : State) (i : Slot) : List Word :=
  let x := s.slot i
  [wordOf x.ctl.phase.code, wordOf (if x.ctl.phase = .admitted then x.ctl.sub.code else 0),
   wordOf ((x.ctl.reason.map FaultReason.code).getD 0), wordOf x.port.link.code, boolWord x.ctl.presL,
   boolWord x.ctl.presS, boolWord x.ctl.pwrEn, boolWord x.ctl.pwrGood, boolWord x.ctl.inputsEn,
   boolWord (x.lineLevel .sb0), boolWord (x.lineLevel .sb1), wordOf x.ctl.delay, wordOf x.ctl.train.attempt,
   wordOf x.ctl.lastAnswers, wordOf x.port.errTotal, boolWord x.port.cardHold, boolWord x.port.announcedHeld,
   wordOf (s.occupancy i .stream), wordOf x.egr.stream.length, wordOf (s.occupancy i .control),
   wordOf x.egr.control.length, wordOf (s.occupancy i .bulk), wordOf x.egr.bulk.length, wordOf x.egr.express.length,
   wordOf (if i = s.mgmtSlot then s.mgmt.replies.length else 0), boolWord (x.cursor.state != .idle)]

/-- The seven fields of a reference in timing status (R110). -/
def Reference.status (x : Reference) : List Word :=
  let t : CabTime := x.last.getD { sec := 0, ns := 0, frac := 0 }
  [boolWord x.qualified, wordOf x.run, wordOf x.early, wordOf t.sec, wordOf t.ns, boolWord x.staged.isSome,
   wordOf (x.staged.getD 0)]

/-- The timing status record (R110). -/
def State.timingStatus (s : State) : List Word :=
  let t := s.timing
  [wordOf t.loop.code, wordOf t.sel.code, wordOf t.lock, wordOf s.holdoverSeconds] ++ words64 t.intg ++ words64 t.freq
  ++ [wordOfInt t.adj] ++ secWords t.time.sec ++ [wordOf t.time.ns, wordOf t.time.frac, t.uptime]
  ++ t.refA.status ++ t.refB.status

/-- The ingress slots whose waiting place holds a parcel, slot i counted as 2^i (R177). -/
def State.waitingMap (s : State) : SlotSet :=
  allSlots.foldl (fun m i => if (s.slot i).ing.waiting.isSome then addSlot m i else m) 0

/-- The straps as a number: the MSEL slot, plus 2 for RETAIN (R170, R177). -/
def strapsNat (msel retain : Bool) : Nat := boolNat msel + 2 * boolNat retain

/-- The fabric status record (R177). -/
def State.fabricStatus (s : State) : List Word :=
  [wordOf s.pool.freeCount, wordOf s.log.idx, s.log.count, wordOf s.alarm.idx, s.alarm.count, boolWord s.alarm.crit,
   boolWord s.alarm.maj, boolWord s.alarm.min, s.waitingMap.setWidth 32, wordOf s.mgmt.queue.length,
   wordOf (strapsNat s.mgmt.msel s.mgmt.retain)]

/-- The image of an alarm queue place; a place that holds no entry reads as four words of 0 (R162, R170). -/
def State.alarmWords (s : State) (k : Nat) : List Word :=
  match assocGet s.alarm.queue k with
  | none => [0, 0, 0, 0]
  | some e => e.words

/-- The image of a timing settings record (R88). -/
def Timing.record (t : Timing) : Nat → List Word
  | 0 => t.cfg.words
  | 1 => t.refA.cfg.words
  | _ => t.refB.cfg.words

/-- READ-PARK (R72). -/
def readParkWords (r : Request) (s : State) : Served :=
  if r.words.length ≠ 3 then refuse .badRequest s
  else if 254 < r.count ∨ (0 < r.count ∧ Config.parkWords < r.first + r.count) then refuse .badValue s
  else { status := .done, data := parkReadN s.park.mem r.first r.count, state := s }

/-- The words of a readable copy, limited to the copy size (R73). -/
def State.copyWords (s : State) (a : Area) (half : Bool) : List Word :=
  let n := Nat.min (landingLen (parkRead s.park.mem (a.halfStart half)) + 1) a.size
  parkReadN s.park.mem (a.halfStart half) n

/-- READ-LATEST (R73). -/
def readLatestCopy (r : Request) (s : State) : Served :=
  if r.words.length ≠ 3 then refuse .badRequest s
  else if h : r.first < 64 then
    if 255 < r.count then refuse .badValue s
    else
      let a := s.park.areas[r.first]
      if a.mode ≠ .latest then refuse .wrongState s
      else
        let copy := match a.readable with
          | none => []
          | some half => ((s.copyWords a half).drop r.count).take 248
        let half : Word := match a.readable with
          | none => 3
          | some false => 0
          | some true => 1
        { status := .done,
          data := [half, wordOf a.copies] ++ secWords a.doneSec ++ [wordOf a.doneNs, wordOf copy.length] ++ copy,
          state := s }
  else refuse .badIndex s

/-! ## Writes (R174, R175) -/

/-- A writable table: its entries, image sizes, checks of values and of state, and the effect of one entry's write. -/
structure WriteTable where
  entries : Nat
  size : Nat → Nat
  ok : Nat → List Word → Bool
  allowed : State → Nat → List Word → Bool
  put : Nat → List Word → State → State

/-- The images of a write request, each with its index. -/
def splitImages (size : Nat → Nat) (k : Nat) : Nat → List Word → List (Nat × List Word)
  | 0, _ => []
  | n + 1, ws => (k, ws.take (size k)) :: splitImages size (k + 1) n (ws.drop (size k))

/-- The image words of `n` entries from the first index on. -/
def imagesLength (size : Nat → Nat) (k n : Nat) : Nat := ((List.range n).map (fun j => size (k + j))).sum

/-- The index of the first image a check refuses. -/
def firstRefused (ok : Nat → List Word → Bool) (im : List (Nat × List Word)) : Option Nat :=
  (im.find? (fun p => !ok p.1 p.2)).map (·.1)

/-- A refused image: the status, and the index of the first entry refused as the one data word (R174). -/
def refuseAt (st : Status) (k : Nat) (s : State) : Served := { status := st, data := [wordOf k], state := s }

/-- A write of a table (R174, R175): every image is judged before any is written, in ascending order. -/
def writeTable (t : WriteTable) (r : Request) (s : State) : Served :=
  if r.badIndex t.entries then refuse .badIndex s
  else if r.words.length ≠ 3 + imagesLength t.size r.first r.count then refuse .badRequest s
  else
    let im := splitImages t.size r.first r.count (r.words.drop 3)
    match firstRefused t.ok im with
    | some k => refuseAt .badValue k s
    | none =>
      match firstRefused (t.allowed s) im with
      | some k => refuseAt .wrongState k s
      | none => doneWith (im.foldl (fun u p => t.put p.1 p.2 u) s)

/-- No check of state. -/
def always (_ : State) (_ : Nat) (_ : List Word) : Bool := true

/-- Whether a slot's line functions may change: EMPTY, SEATED, or QUIESCED with PWR-EN off (R125). -/
def Ctl.linesFree (c : Ctl) : Bool :=
  c.phase == .empty || c.phase == .seated || (c.phase == .quiesced && !c.pwrEn)

/-- The check of line functions (R125). -/
def State.linesOk (s : State) (k : Nat) (ws : List Word) : Bool :=
  let x := s.slot (Fin.ofNat 16 k)
  let c := SlotSettings.ofWords ws
  (c.fn0 == x.cfg.fn0 && c.fn1 == x.cfg.fn1) || x.ctl.linesFree

/-- A raised queue limit offers the room that becomes free (R41). -/
def offerRaised (i : Slot) (c : Cls) (old new : Nat) (s : State) : State :=
  if old < new then servePending i c 16 s else s

/-- A write of slot settings that is taken (R41, R114, R125). The manual gives no order among the effects of one entry's
write: a changed hold is resolved again first, then the room of raised limits is offered, CONTROL before BULK, then the
schedules are made again (log entry 40). -/
def writeSlot (i : Slot) (c : SlotSettings) (s : State) : State :=
  let old := (s.slot i).cfg
  let s1 := s.setCfg i c
  let s2 := if c.manualHold ≠ old.manualHold ∨ c.policy ≠ old.policy then reresolve i s1 else s1
  let s3 := offerRaised i .bulk old.bulkLimit c.bulkLimit (offerRaised i .control old.controlLimit c.controlLimit s2)
  if c.edgeEnrol ≠ old.edgeEnrol ∨ c.strobeAdvance ≠ old.strobeAdvance then makeSchedules i s3 else s3

/-- Table 1 (R124, R125). -/
def slotTable : WriteTable :=
  { entries := 16, size := fun _ => 23, ok := fun _ ws => inRanges ws slotRanges, allowed := State.linesOk,
    put := fun k ws s => writeSlot (Fin.ofNat 16 k) (SlotSettings.ofWords ws) s }

/-- Store a flow entry; the zero entry is not listed (R20). -/
def putFlow (k : Nat) (e : FlowEntry) (s : State) : State :=
  { s with flow := if e = FlowEntry.zero then assocDel s.flow k else assocPut s.flow k e }

/-- Table 2 (R20). -/
def flowTable : WriteTable :=
  { entries := 1024, size := fun _ => 2, ok := fun _ ws => flowImageOk ws, allowed := always,
    put := fun k ws s => putFlow k (FlowEntry.ofWords (ws.getD 0 0) (ws.getD 1 0)) s }

/-- Table 3 (R59, R60). -/
def areaTable : WriteTable :=
  { entries := 64, size := fun _ => 12, ok := fun _ ws => areaImageOk ws, allowed := always,
    put := fun k ws s => writeArea (Fin.ofNat 64 k) ws s }

/-- Table 4 (R166). -/
def watchTable : WriteTable :=
  { entries := 32, size := fun _ => 12, ok := fun _ ws => inRanges (ws.take 9) watchRanges,
    allowed := fun s _ ws => s.watchAreaOk ws, put := fun k ws s => writeWatch (Fin.ofNat 32 k) ws s }

/-- Table 5 (R145). -/
def chainTable : WriteTable :=
  { entries := 64, size := fun _ => 6, ok := fun _ ws => descriptorImageOk ws, allowed := always,
    put := fun k ws s =>
      s.modChain (fun c => { c with table := c.table.set (Fin.ofNat 64 k) (Descriptor.ofWords ws) }) }

/-- Table 6 (R156). -/
def causeTable : WriteTable :=
  { entries := 64, size := fun _ => 5, ok := fun _ ws => inRanges (ws.take 3) causeRanges, allowed := always,
    put := fun k ws s =>
      writeCause (Fin.ofNat 64 k) (fieldBool ws 1) (Severity.ofCode (fieldNat ws 2)) (fieldNat ws 3) s }

/-- The eight cabinet inputs. -/
def allInputs : List (Fin 8) := [0, 1, 2, 3, 4, 5, 6, 7]

/-- An input whose polarity a write has changed is judged afresh (R165). -/
def judgePolarity (old : GlobalSettings) (n : Fin 8) (s : State) : State :=
  if s.glob.polarity[n] = old.polarity[n] then s
  else s.modAlarm (fun a => { a with inputs := a.inputs.set n (a.inputs[n].follow s.glob.polarity[n] s.uptime) })

/-- A write of the global settings that is taken: each changed field in field order (R176). -/
def writeGlobal (g : GlobalSettings) (s : State) : State :=
  let old := s.glob
  let s1 : State :=
    { s with glob := { old with alarmUnknown := g.alarmUnknown, lowMark := g.lowMark, clearMark := g.clearMark } }
  let s2 := if g.lowMark ≠ old.lowMark ∨ g.clearMark ≠ old.clearMark then poolJudge s1 else s1
  let s3 : State :=
    { s2 with glob := { g with alarmReporting := old.alarmReporting, polarity := old.polarity } }
  let s4 := if g.logSize ≠ old.logSize then emptyLog s3 else s3
  let s5 := if g.edgePeriod ≠ old.edgePeriod ∨ g.edgeLead ≠ old.edgeLead then reschedule s4 else s4
  allInputs.foldl (fun t n => judgePolarity old n t) { s5 with glob := g }

/-- Table 7 (R176). -/
def globalTable : WriteTable :=
  { entries := 1, size := fun _ => 26, ok := fun _ ws => globalImageOk ws, allowed := always,
    put := fun _ ws s => writeGlobal (GlobalSettings.ofWords ws) s }

/-- Table 8 (R88, R89, R94). -/
def timingTable : WriteTable :=
  { entries := 3, size := fun k => if k = 0 then 12 else 3,
    ok := fun k ws => if k = 0 then inRanges ws loopRanges else refImageOk ws, allowed := always,
    put := fun k ws s =>
      match k with
      | 0 => writeLoop (LoopSettings.ofWords ws) s
      | 1 => writeRef .a (RefSettings.ofWords ws) s
      | _ => writeRef .b (RefSettings.ofWords ws) s }

/-! ## Actions (R174, R178) -/

/-- An action whose one operand is a slot (R174 tests 1 and 4). -/
def slotAction (f : Slot → State → Served) (r : Request) (s : State) : Served :=
  if r.words.length ≠ 2 then refuse .badRequest s
  else if h : r.first < 16 then f ⟨r.first, h⟩ s
  else refuse .badIndex s

/-- POWER-ON (R139). -/
def actPowerOn (i : Slot) (s : State) : Served :=
  let c := (s.slot i).ctl
  if c.phase = .seated ∨ (c.phase = .quiesced ∧ c.presL ∧ c.presS) then doneWith (enterPowering i s)
  else refuse .wrongState s

/-- POWER-OFF (R139). -/
def actPowerOff (i : Slot) (s : State) : Served :=
  match (s.slot i).ctl.phase with
  | .empty | .seated | .faulted => doneWith s
  | .quiesced => doneWith (if (s.slot i).ctl.pwrEn then powerOffLines i s else s)
  | .powering | .training | .admitted | .draining => doneWith (takeDown i .quiesced s)

/-- DRAIN (R137). -/
def actDrain (i : Slot) (s : State) : Served :=
  if (s.slot i).ctl.phase = .admitted then doneWith (enterDraining i s) else refuse .wrongState s

/-- REST (R134). What is handed over and not in transmission is handed back: nothing is started while a rest is requested,
and its withdrawal is an occasion for a choice (R49). -/
def actRest (i : Slot) (s : State) : Served :=
  if s.isAwake i then
    doneWith ((s.modCtl i (fun c => { c with sub := .resting, restReq := true })).modEgr i Egress.occasion)
  else refuse .wrongState s

/-- WAKE (R134). -/
def actWake (i : Slot) (s : State) : Served :=
  if (s.slot i).ctl.phase = .admitted ∧ (s.slot i).ctl.sub = .resting then doneWith (applyWake i s)
  else refuse .wrongState s

/-- CLEAR (R142). -/
def actClear (i : Slot) (s : State) : Served :=
  let c := (s.slot i).ctl
  if c.phase = .faulted then
    let s1 := clearCond causeSlotFault i.val 0 s
    doneWith (if c.presL && c.presS then enterSeated i s1 else enterEmpty i s1)
  else refuse .wrongState s

/-- RETRAIN (R136). -/
def actRetrain (i : Slot) (s : State) : Served :=
  if (s.slot i).ctl.phase = .admitted then doneWith (enterTraining i s) else refuse .wrongState s

/-- CHAIN-START (R147). -/
def actChainStart (i : Slot) (s : State) : Served :=
  if (s.slot i).ctl.phase = .admitted then
    if h : (s.slot i).cfg.chainHead < 64 then doneWith (startChain i ⟨(s.slot i).cfg.chainHead, h⟩ s)
    else refuse .badValue s
  else refuse .wrongState s

/-- CHAIN-STOP (R147). -/
def actChainStop (i : Slot) (s : State) : Served := doneWith (abortChain i .stopped s)

/-- SET-TIME (R107). -/
def actSetTime (r : Request) (s : State) : Served :=
  if r.words.length ≠ 4 then refuse .badRequest s
  else if 65535 < (r.word 1).toNat ∨ 999999999 < (r.word 3).toNat then refuse .badValue s
  else doneWith (setTimeTo ((r.word 1).toNat * 2 ^ 32 + (r.word 2).toNat) (r.word 3).toNat s)

/-- SET-FREQUENCY (R108). -/
def actSetFrequency (r : Request) (s : State) : Served :=
  if r.words.length ≠ 3 then refuse .badRequest s
  else
    let v := ((r.word 1) ++ (r.word 2)).toInt
    if s.timing.loop ≠ .free then refuse .wrongState s
    else if s.timing.cfg.bound < v ∨ v < -s.timing.cfg.bound then refuse .badValue s
    else doneWith (setFreq v v s)

/-- An action without operands (R174 test 1). -/
def plainAction (f : State → State) (r : Request) (s : State) : Served :=
  if r.words.length ≠ 1 then refuse .badRequest s else doneWith (f s)

/-- RESTARTED with an instance and a parameter (R170). -/
def postRestarted (inst param : Nat) (s : State) : State := postEvent causeRestarted inst (wordOf param) s

/-- TIMING-RESTART with its RESTARTED entry (R109, R178). -/
def timingRestartAll (s : State) : State := postRestarted 3 0 (timingRestart s)

/-! ## FABRIC-RESTART (R56, R178) -/

/-- A parcel in transmission whose queue is emptied is ended early (R5, R56). -/
def TxParcel.cut (p : TxParcel) : TxParcel := { p with attached := false, early := true }

/-- Parcels in transmission are ended early; an insertion whose SUSPEND has not left, and a parcel between parcels whose
header has not, are withdrawn (R16, R50, R53, R56). -/
def Tx.cut : Tx → Tx
  | .idle => .idle
  | .sending p => if p.notLeft then .idle else .sending p.cut
  | .insertCalled p _ => .sending p.cut
  | .bracket p x => .bracket p.cut x.cut
  | .continueDue p => .continueDue p.cut

/-- What a FABRIC-RESTART does to one slot: its reception ends, its waiting place and queues are emptied (R16, R37, R56). -/
def fabricSlot (i : Slot) (s : State) : State :=
  let x := s.slot i
  s.setSlot i
    { x with
      port := { x.port with
        rx := (match x.port.rx with | .inParcel _ _ _ => .skip | r => r), holdReq := false },
      ing := { reception := none, waiting := none, todStage := [], landing := .clear },
      egr := { x.egr with stream := [], control := [], bulk := [], express := [], dwell := 0, tx := x.egr.tx.cut } }

/-- Every stored parcel is deleted and every block is free; POOL-LOW is cleared (R56). -/
def fabricPool (s : State) : State :=
  clearCond causePoolLow 0 (wordOf Config.poolBlocks) (s.modPool (fun q =>
    { q with freeCount := Config.poolBlocks, free := List.range Config.poolBlocks, parcels := [] }))

/-- FABRIC-RESTART in the order of R178; a DRAINING slot whose egress it empties is reported with the emptying of the queues
(R46, R144). R152 does not order the CHAIN-ABORTED entries: they go in ascending order of slot (log entry 49). -/
def fabricRestart (s : State) : State :=
  let s1 := settleDrains
    (fabricPool ((s.eachSlot fabricSlot).modMgmt (fun m => { m with replies := [], store := [] })))
  let s2 := (s1.eachSlot (fun i t => abortChain i .stopped t)).modChain (fun c => { c with busy := none })
  postRestarted 2 0 (emptyLog s2)

end Sys2Proof.Machine
end

