-- ==== Sys2Proof/Machine/MgmtCmds.lean ====
section
/-! DEFINITION. The commands of the management channel: each is the service of the request at the head of the request
queue by its row (R171 to R178). -/

namespace Sys2Proof.Machine

/-! ## Reads -/

/-- READ-ENTRIES on table 1 (R124). -/
def execReadSlotSettings (s : State) : Host.Outcome State Fault Refusal :=
  .next (serve (.read 1) (fun r s => readTable 16 (fun k => (s.slot (Fin.ofNat 16 k)).cfg.words) r s) s)

/-- READ-ENTRIES on table 2 (R20, R186). -/
def execReadFlowTable (s : State) : Host.Outcome State Fault Refusal :=
  .next (serve (.read 2) (fun r s => readTable 1024 (fun k => (s.flowAt k).words) r s) s)

/-- READ-ENTRIES on table 3 (R59). -/
def execReadParkAreas (s : State) : Host.Outcome State Fault Refusal :=
  .next (serve (.read 3) (fun r s => readTable 64 (fun k => (s.park.areas[Fin.ofNat 64 k]).words) r s) s)

/-- READ-ENTRIES on table 4 (R166). -/
def execReadWatches (s : State) : Host.Outcome State Fault Refusal :=
  .next (serve (.read 4) (fun r s => readTable 32 (fun k => (s.watches[Fin.ofNat 32 k]).words (s.isRaised causeWatch k)) r s) s)

/-- READ-ENTRIES on table 5 (R145). -/
def execReadChainDescriptors (s : State) : Host.Outcome State Fault Refusal :=
  .next (serve (.read 5) (fun r s => readTable 64 (fun k => (s.chain.table[Fin.ofNat 64 k]).words) r s) s)

/-- READ-ENTRIES on table 6 (R155, R156). -/
def execReadCauseSettings (s : State) : Host.Outcome State Fault Refusal :=
  .next (serve (.read 6) (fun r s => readTable 64 (fun k => (s.cause (Fin.ofNat 64 k)).words (s.raisedMap (Fin.ofNat 64 k))) r s) s)

/-- READ-ENTRIES on table 7 (R176). -/
def execReadGlobalSettings (s : State) : Host.Outcome State Fault Refusal :=
  .next (serve (.read 7) (fun r s => readTable 1 (fun _ => s.glob.words) r s) s)

/-- READ-ENTRIES on table 8 (R88). -/
def execReadTimingSettings (s : State) : Host.Outcome State Fault Refusal :=
  .next (serve (.read 8) (fun r s => readTable 3 s.timing.record r s) s)

/-- READ-ENTRIES on table 9, or the refusal of a write of it (R162). -/
def execReadAlarmQueue (s : State) : Host.Outcome State Fault Refusal :=
  .next (serve (.read 9) (fun r s => readTable 128 s.alarmWords r s) s)

/-- READ-ENTRIES on table 10, or the refusal of a write of it (R83). -/
def execReadTransitLog (s : State) : Host.Outcome State Fault Refusal :=
  .next (serve (.read 10) (fun r s => readTable s.glob.logSize s.logWords r s) s)

/-- READ-ENTRIES on table 11, or the refusal of a write of it (R143). -/
def execReadSlotStatus (s : State) : Host.Outcome State Fault Refusal :=
  .next (serve (.read 11) (fun r s => readTable 16 (fun k => s.slotStatus (Fin.ofNat 16 k)) r s) s)

/-- READ-ENTRIES on table 12, or the refusal of a write of it (R110). -/
def execReadTimingStatus (s : State) : Host.Outcome State Fault Refusal :=
  .next (serve (.read 12) (fun r s => readTable 1 (fun _ => s.timingStatus) r s) s)

/-- READ-ENTRIES on table 13, or the refusal of a write of it (R177). -/
def execReadFabricStatus (s : State) : Host.Outcome State Fault Refusal :=
  .next (serve (.read 13) (fun r s => readTable 1 (fun _ => s.fabricStatus) r s) s)

/-! ## Writes -/

/-- WRITE-ENTRIES on table 1 (R125). -/
def execWriteSlotSettings (s : State) : Host.Outcome State Fault Refusal := .next (serve (.write 1) (writeTable slotTable) s)

/-- WRITE-ENTRIES on table 2 (R20). -/
def execWriteFlowTable (s : State) : Host.Outcome State Fault Refusal := .next (serve (.write 2) (writeTable flowTable) s)

/-- WRITE-ENTRIES on table 3 (R59, R60). -/
def execWriteParkAreas (s : State) : Host.Outcome State Fault Refusal := .next (serve (.write 3) (writeTable areaTable) s)

/-- WRITE-ENTRIES on table 4 (R166). -/
def execWriteWatches (s : State) : Host.Outcome State Fault Refusal := .next (serve (.write 4) (writeTable watchTable) s)

/-- WRITE-ENTRIES on table 5 (R145). -/
def execWriteChainDescriptors (s : State) : Host.Outcome State Fault Refusal := .next (serve (.write 5) (writeTable chainTable) s)

/-- WRITE-ENTRIES on table 6 (R156). -/
def execWriteCauseSettings (s : State) : Host.Outcome State Fault Refusal := .next (serve (.write 6) (writeTable causeTable) s)

/-- WRITE-ENTRIES on table 7 (R176). -/
def execWriteGlobalSettings (s : State) : Host.Outcome State Fault Refusal := .next (serve (.write 7) (writeTable globalTable) s)

/-- WRITE-ENTRIES on table 8 (R89, R94). -/
def execWriteTimingSettings (s : State) : Host.Outcome State Fault Refusal := .next (serve (.write 8) (writeTable timingTable) s)

/-! ## Parking memory -/

/-- READ-PARK (R72). -/
def execReadPark (s : State) : Host.Outcome State Fault Refusal := .next (serve .readPark readParkWords s)

/-- READ-LATEST (R73). -/
def execReadLatest (s : State) : Host.Outcome State Fault Refusal := .next (serve .readLatest readLatestCopy s)

/-! ## Actions -/

/-- POWER-ON (R139). -/
def execPowerOn (s : State) : Host.Outcome State Fault Refusal := .next (serve (.action 1) (slotAction actPowerOn) s)

/-- POWER-OFF (R139). -/
def execPowerOff (s : State) : Host.Outcome State Fault Refusal := .next (serve (.action 2) (slotAction actPowerOff) s)

/-- DRAIN (R137). -/
def execDrain (s : State) : Host.Outcome State Fault Refusal := .next (serve (.action 3) (slotAction actDrain) s)

/-- REST (R134). -/
def execRest (s : State) : Host.Outcome State Fault Refusal := .next (serve (.action 4) (slotAction actRest) s)

/-- WAKE (R134). -/
def execWake (s : State) : Host.Outcome State Fault Refusal := .next (serve (.action 5) (slotAction actWake) s)

/-- CLEAR (R142). -/
def execClear (s : State) : Host.Outcome State Fault Refusal := .next (serve (.action 6) (slotAction actClear) s)

/-- RETRAIN (R136). -/
def execRetrain (s : State) : Host.Outcome State Fault Refusal := .next (serve (.action 7) (slotAction actRetrain) s)

/-- CHAIN-START (R147). -/
def execChainStart (s : State) : Host.Outcome State Fault Refusal := .next (serve (.action 8) (slotAction actChainStart) s)

/-- CHAIN-STOP (R147). -/
def execChainStop (s : State) : Host.Outcome State Fault Refusal := .next (serve (.action 9) (slotAction actChainStop) s)

/-- SET-TIME (R107). -/
def execSetTime (s : State) : Host.Outcome State Fault Refusal := .next (serve (.action 16) actSetTime s)

/-- SET-FREQUENCY (R108). -/
def execSetFrequency (s : State) : Host.Outcome State Fault Refusal := .next (serve (.action 17) actSetFrequency s)

/-- TIMING-RESTART (R109). -/
def execTimingRestart (s : State) : Host.Outcome State Fault Refusal := .next (serve (.action 18) (plainAction timingRestartAll) s)

/-- FABRIC-RESTART (R178). -/
def execFabricRestart (s : State) : Host.Outcome State Fault Refusal := .next (serve (.action 24) (plainAction fabricRestart) s)

/-- LOG-CLEAR (R81). -/
def execLogClear (s : State) : Host.Outcome State Fault Refusal := .next (serve (.action 25) (plainAction emptyLog) s)

end Sys2Proof.Machine
end

