-- ==== Sys2Proof/Machine/Receive.lean ====
section
/-! DEFINITION. The receive side of a port: framing, check words, link errors and flow control from the card
(R4, R7, R9 to R13). -/

namespace Sys2Proof.Machine

/-- Set a port's receive state. -/
def State.setRx (s : State) (i : Slot) (r : RxState) : State := s.modPort i (fun p => { p with rx := r })

/-- A link error: the window count and the total rise; at 8 in one window the link goes DOWN and the slot is FAULTED with
LINK-LOST (R9, R10, R141). -/
def linkError (i : Slot) (s : State) : State :=
  let n := (s.slot i).port.windowErrs + 1
  let s1 := s.modPort i (fun p => { p with windowErrs := n, errTotal := Nat.min 65535 (p.errTotal + 1) })
  if Config.windowLimit ≤ n then fault i .linkLost s1 else s1

/-- End a parcel in reception with a bad check, if there is one (R4). -/
def endDamaged (i : Slot) (s : State) : State :=
  match (s.slot i).port.rx with
  | .inParcel _ _ _ => parcelEnd i .bad s
  | _ => s

/-- A new header begins a parcel (R4): the check register is preset and fed the header word as it arrived, and the fields
of the header are held (R182). -/
def beginParcel (i : Slot) (w : Word) (s : State) : State :=
  let h := Header.ofWord w
  parcelHeader i h (s.setRx i (.inParcel h h.len.toNat (crcWord crcPreset w)))

/-- A header word on a link that frames words (R4). -/
def rxHeader (i : Slot) (w : Word) (s : State) : State :=
  match (s.slot i).port.rx with
  | .inParcel _ _ _ =>
    let s1 := linkError i ((parcelEnd i .bad s).setRx i .skip)
    if s1.framing i then beginParcel i w s1 else s1
  | _ => beginParcel i w s

/-- A body word on a link that frames words (R4). -/
def rxBody (i : Slot) (w : Word) (s : State) : State :=
  match (s.slot i).port.rx with
  | .awaitHeader => linkError i (s.setRx i .skip)
  | .skip => s
  | .inParcel h (n + 1) crc => parcelPayload i w (s.setRx i (.inParcel h n (crcWord crc w)))
  | .inParcel _ 0 crc => parcelEnd i (if w = checkWord crc then .good else .bad) (s.setRx i .awaitHeader)

/-- An undecodable word on a link that frames words (R4, R9). -/
def rxUndecodable (i : Slot) (s : State) : State := linkError i ((endDamaged i s).setRx i .skip)

/-- A mark that is a link error: it ends a parcel in reception with a bad check and gives SKIP; with no parcel in
reception the receive state stays (R4, R7). -/
def rxBadMark (i : Slot) (s : State) : State :=
  match (s.slot i).port.rx with
  | .inParcel _ _ _ => linkError i ((parcelEnd i .bad s).setRx i .skip)
  | _ => linkError i s

/-- HOLD-OFF from the card (R12). -/
def cardHoldOff (i : Slot) (s : State) : State :=
  if s.framing i && !(s.slot i).port.cardHold then
    s.modPort i (fun p => { p with cardHold := true, holdTimer := some s.uptime })
  else s

/-- RESUME from the card; the clearing of the flag is an occasion for a choice (R12, R13, R49). -/
def cardResume (i : Slot) (s : State) : State :=
  if s.framing i && (s.slot i).port.cardHold then
    clearCond causeLinkHeld i.val 0
      ((s.modPort i (fun p => { p with cardHold := false, holdTimer := none })).modEgr i Egress.occasion)
  else s

/-- AWAKE from the card in RESTING (R7, R134, R135, R137): the link goes UP; a RESTING or WAKING slot is AWAKE. -/
def cardAwake (i : Slot) (s : State) : State :=
  if (s.slot i).port.link = .resting then
    let s1 := s.modPort i (fun p => { p with link := .up, wakeAsked := false })
    if (s.slot i).ctl.phase = .admitted then s1.modCtl i (fun c => { c with sub := .awake, timer := none }) else s1
  else s

/-- A TRAIN-ECHO handed to the slot controller (R131): the first echo of the exchange in progress within its wait answers
it; one whose round trip is smaller than its turnaround counts as no answer. -/
def trainAnswer (i : Slot) (k : Nat) (turnaround : Nat) (s : State) : State :=
  let x := s.slot i
  match x.ctl.train.step with
  | .wait departure since void =>
    if x.port.link = .training ∧ x.ctl.phase = .training ∧ k = x.ctl.train.exchange ∧ !void
        ∧ s.timing.core - since ≤ Config.exchangePeriods then
      let trip := roundTrip s.now departure
      if trip < turnaround then
        s.modCtl i (fun c => { c with train := { c.train with step := .wait departure since true } })
      else nextExchange i (addSample i (trip - turnaround).toNat s)
    else s
  | _ => s

/-- Whether a mark code is a link error while the link frames words (R7). -/
def badMark (code : Nat) : Bool := !([0, 1, 2, 6, 9].contains code)

/-- Any mark word, by its code (R7). -/
def rxMark (i : Slot) (w : Word) (s : State) : State :=
  let code := markCode w
  if code = codeHoldOff then cardHoldOff i s
  else if code = codeResume then cardResume i s
  else if code = codeTrainEcho then trainAnswer i (markExchange w).toNat (markTurnaround w).toNat s
  else if code = codeAwake then cardAwake i s
  else if s.framing i && badMark code then rxBadMark i s
  else s

end Sys2Proof.Machine
end

