-- ==== Sys2Proof/Machine/PortCmds.lean ====
section
/-! DEFINITION. The commands of a port's receive side and of the forwarding unit. -/

namespace Sys2Proof.Machine

/-- HEADER_WORD (R4): DOWN and TRAINING discard it. -/
def execHeaderWord (i : Slot) (w : Word) (s : State) : Host.Outcome State Fault Refusal :=
  .next (if s.framing i then settleDrains (rxHeader i w s) else s)

/-- BODY_WORD (R4): DOWN and TRAINING discard it. -/
def execBodyWord (i : Slot) (w : Word) (s : State) : Host.Outcome State Fault Refusal :=
  .next (if s.framing i then settleDrains (rxBody i w s) else s)

/-- UNDECODABLE_WORD (R4, R9): DOWN and TRAINING discard it. -/
def execUndecodableWord (i : Slot) (s : State) : Host.Outcome State Fault Refusal :=
  .next (if s.framing i then settleDrains (rxUndecodable i s) else s)

/-- MARK_WORD (R7), by the code of the word; a mark that has a row of its own is taken as that row takes it. -/
def execMarkWord (i : Slot) (w : Word) (s : State) : Host.Outcome State Fault Refusal :=
  .next (settleDrains (rxMark i w s))

/-- HOLD_OFF (R12). -/
def execHoldOff (i : Slot) (s : State) : Host.Outcome State Fault Refusal := .next (cardHoldOff i s)

/-- RESUME (R12, R13). -/
def execResume (i : Slot) (s : State) : Host.Outcome State Fault Refusal := .next (cardResume i s)

/-- TRAIN_ECHO (R15, R131). -/
def execTrainEcho (i : Slot) (k : BitVec 3) (t : BitVec 16) (s : State) : Host.Outcome State Fault Refusal :=
  .next (settleDrains (trainAnswer i k.toNat t.toNat s))

/-- AWAKE (R7, R134, R135). -/
def execAwake (i : Slot) (s : State) : Host.Outcome State Fault Refusal := .next (cardAwake i s)

/-- Whether a slot's hold-off timer has reached the hold-off limit (R13). -/
def State.holdOffDue (s : State) (i : Slot) : Bool :=
  match (s.slot i).port.holdTimer with
  | none => false
  | some u => decide ((s.slot i).cfg.holdOffLimit ≤ elapsed s.uptime u)

/-- HOLD_OFF_TIMER_EXPIRY (R13): the flag stays set and the timer does not run again. -/
def execHoldOffTimerExpiry (i : Slot) (s : State) : Host.Outcome State Fault Refusal :=
  .next (if s.holdOffDue i then
      raiseCond causeLinkHeld i.val 0 (s.modPort i (fun p => { p with holdTimer := none }))
    else s)

/-- MGMT_REQUEST (R18, R172): the good end of a whole request parcel, where the management slot's link frames words. The
port's receive state and the parcel in reception stay as they are (log entry 15). -/
def execMgmtRequest (tag : BitVec 8) (payload : List Word) (s : State) : Host.Outcome State Fault Refusal :=
  if 255 < payload.length then .refused .overlongPayload
  else .next (if s.framing s.mgmtSlot then offerRequest { tag := tag, words := payload } s else s)

/-- TIME_OF_DAY_PARCEL (R19, R100): the good end of a whole time-of-day parcel, where the slot's link frames words.
The port's receive state and the parcel in reception stay as they are (log entry 15). -/
def execTimeOfDayParcel (i : Slot) (payload : List Word) (s : State) : Host.Outcome State Fault Refusal :=
  if 255 < payload.length then .refused .overlongPayload
  else .next (if s.framing i then stageTimeOfDay i payload s else s)

/-- PENDING_SERVED (R33): the room of a queue is offered to the parcels pending on it. -/
def execPendingServed (i : Slot) (c : Cls) (s : State) : Host.Outcome State Fault Refusal :=
  .next (servePending i c 16 s)

/-- Whether a waiting place's stall timer has reached the stall time (R35). -/
def State.stallDue (s : State) (i : Slot) (w : Waiting) : Bool :=
  decide ((s.slot i).cfg.stallTime * Config.periodsPerMicro ≤ s.timing.core - w.since)

/-- STALL_TIMER_EXPIRY (R35). -/
def execStallTimerExpiry (i : Slot) (s : State) : Host.Outcome State Fault Refusal :=
  .next (match (s.slot i).ing.waiting with
    | none => s
    | some w => if s.stallDue i w then stallExpire i w s else s)

end Sys2Proof.Machine
end

