-- ==== Sys2Proof/Machine/Resets.lean ====
section
/-! DEFINITION. POWER-ON and PIN reset (R16, R37, R57, R74, R84, R111, R122, R144, R152, R170, R180, R181). -/

namespace Sys2Proof.Machine

/-- Whether a slot keeps its power over a PIN reset with RETAIN (R144). -/
def State.retains (s : State) (pin retain : Bool) (i : Slot) : Bool := pin && retain && (s.slot i).ctl.pwrEn

/-- A slot after a reset: its lines keep their levels; a retained one keeps PWR-EN and its line functions (R144). -/
def State.resetSlot (s : State) (pin msel retain : Bool) (i : Slot) : SlotState :=
  let x := s.slot i
  let y := SlotState.reset (i.val == boolNat msel)
    (Ctl.reset x.ctl.presL x.ctl.presS x.ctl.pwrGood x.ctl.lev0 x.ctl.lev1)
  if s.retains pin retain i then
    { y with cfg := { y.cfg with fn0 := x.cfg.fn0, fn1 := x.cfg.fn1 }, ctl := { y.ctl with pwrEn := true } }
  else y

/-- The cabinet inputs after a reset, with the levels of their lines (R170). -/
def Alarm.resetInputs (a : Alarm) : Vector CabInput 8 :=
  allInputs.foldl (fun v (n : Fin 8) => v.set n (CabInput.reset a.inputs[n].level)) a.inputs

/-- The alarm unit after a reset; a PIN reset keeps the queue, its write index and its count (R170). -/
def Alarm.reset (a : Alarm) (pin : Bool) : Alarm :=
  { causes := defaultCauses, raised := [], track := [], queue := if pin then a.queue else [],
    idx := if pin then a.idx else 0, count := if pin then a.count else 0, crit := false, maj := false, min := false,
    inputs := a.resetInputs }

/-- Every block in its reset state, with the straps latched (R180, R181 steps 1 to 3). The commands that wait are not the
switch's, and the model's own handles of stored parcels and allocations go on. -/
def resetBlocks (pin msel retain : Bool) (s : State) : State :=
  { slots := allSlots.foldl (fun v (i : Slot) => v.set i (s.resetSlot pin msel retain i)) s.slots,
    flow := [],
    pool := { Pool.reset with nextId := s.pool.nextId, allocs := s.pool.allocs },
    park := { mem := if pin then s.park.mem else [], areas := Vector.replicate 64 Area.zero },
    log := TransitLog.reset,
    timing := Timing.reset,
    nextEdge := edgeAfter GlobalSettings.default.edgePeriod { sec := 0, ns := 0, frac := 0 },
    chain := ChainEngine.reset,
    watches := Vector.replicate 32 Watch.zero,
    alarm := s.alarm.reset pin,
    mgmt := { store := [], queue := [], replies := [], claim := false, msel := msel, retain := retain },
    glob := GlobalSettings.default,
    pending := s.pending }

/-- The judgement of a retained slot on its lines (R144). -/
def judgeRetained (i : Slot) (s : State) : State :=
  let c := (s.slot i).ctl
  if c.pwrEn then
    if c.presL && c.presS then
      if c.pwrGood then followLines i (enterTraining i (s.modCtl i (fun x => { x with inputsEn := true })))
      else fault i .powerLost s
    else powerOffLines i s
  else s

/-- The start-up after a reset (R181 steps 4 to 6): RESTARTED, the retained slots, the seat debounce. The manual gives no order
among the slots, which the order of SLOT-FAULT entries shows: they are judged in ascending order (log entry 47). -/
def startUp (inst : Nat) (msel retain : Bool) (s : State) : State :=
  ((postRestarted inst (strapsNat msel retain) s).eachSlot judgeRetained).eachSlot seatDebounce

/-- POWER_ON_RESET (R181), with the levels of the straps. -/
def execPowerOnReset (msel retain : Bool) (s : State) : Host.Outcome State Fault Refusal :=
  .next (startUp 0 msel retain (resetBlocks false msel retain s))

/-- PIN_RESET (R144, R181), with the levels of the straps. -/
def execPinReset (msel retain : Bool) (s : State) : Host.Outcome State Fault Refusal :=
  .next (startUp 1 msel retain (resetBlocks true msel retain s))

end Sys2Proof.Machine
end

