-- ==== Sys2Proof/Machine/SlotCmds.lean ====
section
/-! DEFINITION. The commands of the slot controller, of the cabinet inputs, of the watches and of the chain engine. -/

namespace Sys2Proof.Machine

/-! ## Contacts and power -/

/-- Whether a contact is made. -/
def Ctl.made (c : Ctl) : Contact → Bool
  | .long => c.presL
  | .short => c.presS

/-- Set the level of a contact. -/
def Ctl.setMade (c : Ctl) (k : Contact) (b : Bool) : Ctl :=
  match k with
  | .long => { c with presL := b }
  | .short => { c with presS := b }

/-- CONTACT_MADE (R126): in EMPTY the second contact made starts the seat timer. -/
def execContactMade (i : Slot) (k : Contact) (s : State) : Host.Outcome State Fault Refusal :=
  .next (if (s.slot i).ctl.made k then s else seatDebounce i (s.modCtl i (fun c => c.setMade k true)))

/-- A contact lost, by state (R140's table). Its prose has both contacts lost from ADMITTED end in SURPRISE in either
order; with an empty egress and the short contact first, the slot is QUIESCED at its entry to DRAINING (R46, R138), and
the table's row for QUIESCED then gives ORDERLY (log entry 54). -/
def contactGone (i : Slot) (k : Contact) (s : State) : State :=
  match (s.slot i).ctl.phase, k with
  | .empty, _ => s.modCtl i (fun c => { c with timer := none })
  | .seated, _ => enterEmpty i s
  | .powering, .short => remove i 2 s
  | .powering, .long => remove i 1 s
  | .training, .short => remove i 2 s
  | .training, .long => remove i 1 s
  | .admitted, .short => enterDraining i s
  | .admitted, .long => remove i 1 s
  | .draining, .short => s
  | .draining, .long => remove i 1 s
  | .quiesced, .short => s
  | .quiesced, .long => remove i 0 s
  | .faulted, _ => clearCond causeSlotFault i.val 0 (enterEmpty i s)

/-- CONTACT_LOST (R126, R137, R140, R142). -/
def execContactLost (i : Slot) (k : Contact) (s : State) : Host.Outcome State Fault Refusal :=
  .next (if (s.slot i).ctl.made k then settleDrains (contactGone i k (s.modCtl i (fun c => c.setMade k false))) else s)

/-- Whether a slot timer of a kind is running and has reached a limit (R130). -/
def State.timerDue (s : State) (i : Slot) (k : TimerKind) (limit : Nat) : Bool :=
  match (s.slot i).ctl.timer with
  | none => false
  | some t => t.kind == k && decide (limit ≤ elapsed s.uptime t.start)

/-- Whether a slot timer of a kind is running. -/
def Ctl.runs (c : Ctl) (k : TimerKind) : Bool := (c.timer.map (·.kind)) == some k

/-- SEAT_TIMER_EXPIRY (R126). -/
def execSeatTimerExpiry (i : Slot) (s : State) : Host.Outcome State Fault Refusal :=
  .next (if (s.slot i).ctl.phase = .empty ∧ s.timerDue i .seat s.glob.seatTime then enterSeated i s else s)

/-- PWR_GOOD_ACTIVE (R128, R129): in POWERING, while the power timer runs, it is seen. -/
def execPwrGoodActive (i : Slot) (s : State) : Host.Outcome State Fault Refusal :=
  .next (if (s.slot i).ctl.pwrGood then s
    else
      let s1 := s.modCtl i (fun c => { c with pwrGood := true })
      if (s.slot i).ctl.phase = .powering ∧ (s.slot i).ctl.runs .power then goodSeen i s1 else s1)

/-- Whether PWR-GOOD is judged: in every powered state, but for POWERING before it was seen (R129). -/
def Ctl.judgesGood (c : Ctl) : Bool := c.pwrEn && (c.phase != .powering || c.runs .release)

/-- PWR_GOOD_LOST (R129, R141). -/
def execPwrGoodLost (i : Slot) (s : State) : Host.Outcome State Fault Refusal :=
  .next (if (s.slot i).ctl.pwrGood then
      let s1 := s.modCtl i (fun c => { c with pwrGood := false })
      if (s.slot i).ctl.judgesGood then settleDrains (fault i .powerLost s1) else s1
    else s)

/-- POWER_TIMER_EXPIRY (R129). -/
def execPowerTimerExpiry (i : Slot) (s : State) : Host.Outcome State Fault Refusal :=
  .next (if (s.slot i).ctl.phase = .powering ∧ s.timerDue i .power (s.slot i).cfg.powerTime then
      settleDrains (fault i .powerTimeout s)
    else s)

/-- RELEASE_TIMER_EXPIRY (R129, R131). -/
def execReleaseTimerExpiry (i : Slot) (s : State) : Host.Outcome State Fault Refusal :=
  .next (if (s.slot i).ctl.phase = .powering ∧ s.timerDue i .release (s.slot i).cfg.releaseTime then
      settleDrains (enterTraining i (s.modCtl i (fun c => { c with resetOut := false })))
    else s)

/-! ## Training, rest and drain -/

/-- Whether an exchange's wait of 12,500 core periods has run out (R131). -/
def State.exchangeDue (s : State) (i : Slot) : Bool :=
  match (s.slot i).ctl.train.step with
  | .wait _ since _ => decide (Config.exchangePeriods ≤ s.timing.core - since)
  | _ => false

/-- EXCHANGE_WAIT_EXPIRY (R131, R132). -/
def execExchangeWaitExpiry (i : Slot) (s : State) : Host.Outcome State Fault Refusal :=
  .next (if (s.slot i).ctl.phase = .training ∧ s.exchangeDue i then settleDrains (nextExchange i s) else s)

/-- TRAINING_GAP_EXPIRY (R132): 10 ms after a failed attempt the next one begins. -/
def execTrainingGapExpiry (i : Slot) (s : State) : Host.Outcome State Fault Refusal :=
  .next (if (s.slot i).ctl.phase = .training ∧ s.timerDue i .gap 10 then
      askTrain i
        { attempt := (s.slot i).ctl.train.attempt + 1, exchange := 0, step := .request, samples := [] }
        (s.modCtl i (fun c => { c with timer := none }))
    else s)

/-- WAKE_TIMER_EXPIRY (R135). -/
def execWakeTimerExpiry (i : Slot) (s : State) : Host.Outcome State Fault Refusal :=
  .next (if (s.slot i).ctl.phase = .admitted ∧ s.timerDue i .wake (s.slot i).cfg.wakeTime then
      settleDrains (enterTraining i s)
    else s)

/-- DRAIN_TIMER_EXPIRY (R45, R138). -/
def execDrainTimerExpiry (i : Slot) (s : State) : Host.Outcome State Fault Refusal :=
  .next (if (s.slot i).ctl.phase = .draining ∧ s.timerDue i .drain (s.slot i).cfg.drainTime then
      settleDrains (dropWaiting i (s.modCtl i (fun c => { c with timer := none })))
    else s)

/-! ## Sideband lines and cabinet inputs -/

/-- The level a card drives on a line. -/
def Ctl.level (c : Ctl) : Line → Bool
  | .sb0 => c.lev0
  | .sb1 => c.lev1

/-- Set the level of a line. -/
def Ctl.setLevel (c : Ctl) (l : Line) (b : Bool) : Ctl :=
  match l with
  | .sb0 => { c with lev0 := b }
  | .sb1 => { c with lev1 := b }

/-- SIDEBAND_INPUT_CHANGE (R127, R128, R134): an enabled WAKE-IN line that becomes active is a wake source; an ALARM-IN
line's debounce follows it. -/
def execSidebandInputChange (i : Slot) (l : Line) (level : Bool) (s : State) : Host.Outcome State Fault Refusal :=
  .next (if (s.slot i).ctl.level l = level then s
    else
      let s1 := followLines i (s.modCtl i (fun c => c.setLevel l level))
      if (s.slot i).ctl.inputsEn && (s.slot i).cfg.fn l == .wakeIn && level then applyWake i s1 else s1)

/-- A debounce whose 20 ms have passed takes the line's level (R128). -/
def Debounce.expire (d : Debounce) (now : Uptime) : Debounce :=
  match d.run with
  | none => d
  | some u => if 20 ≤ elapsed now u then { active := !d.active, run := none } else d

/-- CARD-ALARM is raised or cleared when the lines debounced active come to be some or none (R128). -/
def judgeCardAlarm (i : Slot) (was : Bool) (s : State) : State :=
  let x := s.slot i
  if !was && x.alarmActive then
    raiseCond causeCardAlarm i.val (if x.cfg.fn0 == .alarmIn && x.ctl.deb0.active then 0 else 1) s
  else if was && !x.alarmActive then clearCond causeCardAlarm i.val 0 s
  else s

/-- CARD_ALARM_DEBOUNCE_EXPIRY (R128): every ALARM-IN line of the slot whose debounce is over, in one event. -/
def execCardAlarmDebounceExpiry (i : Slot) (s : State) : Host.Outcome State Fault Refusal :=
  let x := s.slot i
  .next (if x.ctl.inputsEn then
      judgeCardAlarm i x.alarmActive (s.modCtl i (fun c =>
        { c with deb0 := if x.cfg.fn0 == .alarmIn then c.deb0.expire s.uptime else c.deb0,
                 deb1 := if x.cfg.fn1 == .alarmIn then c.deb1.expire s.uptime else c.deb1 }))
    else s)

/-- Replace a cabinet input. -/
def State.setInput (s : State) (n : Fin 8) (x : CabInput) : State :=
  s.modAlarm (fun a => { a with inputs := a.inputs.set n x })

/-- CABINET_INPUT_CHANGE (R165). -/
def execCabinetInputChange (n : Fin 8) (level : Bool) (s : State) : Host.Outcome State Fault Refusal :=
  .next (s.setInput n (({ s.alarm.inputs[n] with level := level }).follow s.glob.polarity[n] s.uptime))

/-- CABINET_INPUT_DEBOUNCE_EXPIRY (R165). -/
def execCabinetInputDebounceExpiry (n : Fin 8) (s : State) : Host.Outcome State Fault Refusal :=
  let x := s.alarm.inputs[n]
  .next (match x.run with
    | none => s
    | some u =>
      if s.glob.debounce[n] ≤ elapsed s.uptime u then
        let s1 := s.setInput n { x with active := !x.active, run := none }
        if x.active then clearCond causeCabinetInput n.val 0 s1 else raiseCond causeCabinetInput n.val 0 s1
      else s)

/-! ## Watches and the chain engine -/

/-- WATCH_STALE (R169 occasion 2). -/
def execWatchStale (n : Fin 32) (s : State) : Host.Outcome State Fault Refusal :=
  .next (if s.copyStale n then evalWatch n s else s)

/-- CHAIN_PARCEL_MAKE (R148, R149): the free engine serves the first ready cursor in rotation. -/
def execChainParcelMake (s : State) : Host.Outcome State Fault Refusal :=
  .next (match s.chain.busy, s.chainTurn with
    | none, some i => makeChainParcel i s
    | _, _ => s)

/-- CHAIN_ENGINE_FREE (R149): the n + 1 busy core periods are over. -/
def execChainEngineFree (s : State) : Host.Outcome State Fault Refusal :=
  .next (match s.chain.busy with
    | none => s
    | some (t, n) => if n ≤ s.timing.core - t then s.modChain (fun c => { c with busy := none }) else s)

end Sys2Proof.Machine
end

