-- ==== Sys2Proof/Machine/TimeCmds.lean ====
section
/-! DEFINITION. The commands of time: the core period, the uptime, the references, the edges and the strobes. -/

namespace Sys2Proof.Machine

/-- Whether an advance of the uptime is due: one every 125,000 core periods since the last reset, modulo 2^32 (R87). -/
def Timing.uptimeDue (t : Timing) : Bool := t.uptime != wordOf (t.core / Config.uptimePeriods)

/-- An advance of the uptime that is due: the uptime rises by 1 and every window count returns to 0 (R10, R87). -/
def takeUptime (s : State) : State :=
  if s.timing.uptimeDue then
    (s.modTiming (fun t => { t with uptime := t.uptime + 1 })).eachSlot
      (fun i t => t.modPort i (fun p => { p with windowErrs := 0 }))
  else s

/-- One core period: an advance of the uptime still due is taken, every port's word slot passes in ascending order of slot,
DRAINING slots whose egress has become empty are reported, cabinet time advances, and a carry into the seconds makes TIME
parcels, ahead of an EDGE parcel of the same core period (R1, R46, R85, R87, R117, R120; log entries 8, 10 and 44). -/
def corePeriod (s : State) : State :=
  let s1 := settleDrains ((takeUptime s).eachSlot wordSlot)
  let carry := s1.now.carries s1.timing.adj
  let s2 := s1.modTiming (fun t => { t with core := t.core + 1, time := t.time.advance t.adj })
  if carry then makeTimeParcels s2 else s2

/-- CABINET_TIME_ADVANCE (R85): one core period. -/
def execCabinetTimeAdvance (s : State) : Host.Outcome State Fault Refusal := .next (corePeriod s)

/-- SECOND_CARRY (R85, R120): the core period whose advance carries into the seconds. -/
def execSecondCarry (s : State) : Host.Outcome State Fault Refusal :=
  .next (if s.now.carries s.timing.adj then corePeriod s else s)

/-- UPTIME_ADVANCE (R10, R87): the advance that is due after every 125,000 core periods. -/
def execUptimeAdvance (s : State) : Host.Outcome State Fault Refusal := .next (takeUptime s)

/-- REFERENCE_PULSE (R90, R91): a rising edge on the reference's line, captured for that reference alone; an edge on a line
that both records name is two commands, one for each (log entry 18). -/
def execReferencePulse (r : RefId) (s : State) : Host.Outcome State Fault Refusal :=
  .next (if s.captures r then judgePulse r s else s)

/-- LOSS_DEADLINE_EXPIRY (R93). -/
def execLossDeadlineExpiry (r : RefId) (s : State) : Host.Outcome State Fault Refusal :=
  .next (if s.deadlinePast r then loseReference r s else s)

/-- Whether the holdover timer has reached the holdover limit (R98). -/
def State.holdoverDue (s : State) : Bool :=
  match s.timing.loop, s.timing.holdover with
  | .holdover, some u => decide (s.timing.cfg.holdoverLimit * 1000 ≤ elapsed s.uptime u)
  | _, _ => false

/-- HOLDOVER_TIMER_EXPIRY (R98): HOLDOVER cleared, FREE-RUN raised, then the change of loop state. -/
def execHoldoverTimerExpiry (s : State) : Host.Outcome State Fault Refusal :=
  .next (if s.holdoverDue then
      (changeLoop .free (raiseCond causeFreeRun 0 (wordOfInt s.timing.ppb)
        (clearCond causeHoldover 0 (wordOf s.holdoverSeconds) s))).modTiming (fun t => { t with holdover := none })
    else s)

/-- EDGE_INSTANT (R113): the next edge instant advances by E. -/
def execEdgeInstant (s : State) : Host.Outcome State Fault Refusal :=
  .next (if s.reached s.nextEdge then { s with nextEdge := s.nextEdge.move (nsUnits s.glob.edgePeriod) } else s)

/-- EDGE_DISPATCH (R116). -/
def execEdgeDispatch (i : Slot) (s : State) : Host.Outcome State Fault Refusal :=
  .next (match (s.slot i).edges.parcel with
    | none => s
    | some d => if s.reached d.due then dispatchEdge i d s else s)

/-- STROBE (R119). -/
def execStrobe (i : Slot) (s : State) : Host.Outcome State Fault Refusal :=
  .next (match (s.slot i).edges.strobe with
    | none => s
    | some d => if s.reached d.due then giveStrobe i d s else s)

/-- Whether a strobe pulse has lasted its 125 core periods (R119). -/
def pulseOver (core : Nat) : Option Nat → Bool
  | none => false
  | some t => decide (Config.strobePeriods ≤ core - t)

/-- STROBE_PULSE_END (R119): the line returns to its inactive level. -/
def execStrobePulseEnd (i : Slot) (l : Line) (s : State) : Host.Outcome State Fault Refusal :=
  .next (match l with
    | .sb0 =>
      if pulseOver s.timing.core (s.slot i).ctl.pulse0 then s.modCtl i (fun c => { c with pulse0 := none }) else s
    | .sb1 =>
      if pulseOver s.timing.core (s.slot i).ctl.pulse1 then s.modCtl i (fun c => { c with pulse1 := none }) else s)

end Sys2Proof.Machine
end

