-- ==== Sys2Proof/Machine/Dispatch.lean ====
section
/-! DEFINITION. One arm per command: each calls its meaning. -/

namespace Sys2Proof.Machine

/-- The effect of a command on everything but the queue of commands. -/
def exec (i : Instr) (s : State) : Host.Outcome State Fault Refusal :=
  match i with
  | .headerWord k w => Sys2Proof.Machine.execHeaderWord k w s
  | .bodyWord k w => Sys2Proof.Machine.execBodyWord k w s
  | .undecodableWord k => Sys2Proof.Machine.execUndecodableWord k s
  | .markWord k w => Sys2Proof.Machine.execMarkWord k w s
  | .holdOff k => Sys2Proof.Machine.execHoldOff k s
  | .resume k => Sys2Proof.Machine.execResume k s
  | .trainEcho k exchange turnaround => Sys2Proof.Machine.execTrainEcho k exchange turnaround s
  | .awake k => Sys2Proof.Machine.execAwake k s
  | .uptimeAdvance => Sys2Proof.Machine.execUptimeAdvance s
  | .holdOffTimerExpiry k => Sys2Proof.Machine.execHoldOffTimerExpiry k s
  | .mgmtRequest tag payload => Sys2Proof.Machine.execMgmtRequest tag payload s
  | .timeOfDayParcel k payload => Sys2Proof.Machine.execTimeOfDayParcel k payload s
  | .pendingServed k c => Sys2Proof.Machine.execPendingServed k c s
  | .stallTimerExpiry k => Sys2Proof.Machine.execStallTimerExpiry k s
  | .schedulerChoice k => Sys2Proof.Machine.execSchedulerChoice k s
  | .transmissionEnd k => Sys2Proof.Machine.execTransmissionEnd k s
  | .edgeDeparture k => Sys2Proof.Machine.execEdgeDeparture k s
  | .holdMarkSent k => Sys2Proof.Machine.execHoldMarkSent k s
  | .restMarkSent k => Sys2Proof.Machine.execRestMarkSent k s
  | .trainReqSent k => Sys2Proof.Machine.execTrainReqSent k s
  | .referencePulse r => Sys2Proof.Machine.execReferencePulse r s
  | .lossDeadlineExpiry r => Sys2Proof.Machine.execLossDeadlineExpiry r s
  | .holdoverTimerExpiry => Sys2Proof.Machine.execHoldoverTimerExpiry s
  | .secondCarry => Sys2Proof.Machine.execSecondCarry s
  | .edgeInstant => Sys2Proof.Machine.execEdgeInstant s
  | .edgeDispatch k => Sys2Proof.Machine.execEdgeDispatch k s
  | .strobe k => Sys2Proof.Machine.execStrobe k s
  | .strobePulseEnd k l => Sys2Proof.Machine.execStrobePulseEnd k l s
  | .contactMade k c => Sys2Proof.Machine.execContactMade k c s
  | .contactLost k c => Sys2Proof.Machine.execContactLost k c s
  | .seatTimerExpiry k => Sys2Proof.Machine.execSeatTimerExpiry k s
  | .pwrGoodActive k => Sys2Proof.Machine.execPwrGoodActive k s
  | .pwrGoodLost k => Sys2Proof.Machine.execPwrGoodLost k s
  | .powerTimerExpiry k => Sys2Proof.Machine.execPowerTimerExpiry k s
  | .releaseTimerExpiry k => Sys2Proof.Machine.execReleaseTimerExpiry k s
  | .exchangeWaitExpiry k => Sys2Proof.Machine.execExchangeWaitExpiry k s
  | .trainingGapExpiry k => Sys2Proof.Machine.execTrainingGapExpiry k s
  | .wakeTimerExpiry k => Sys2Proof.Machine.execWakeTimerExpiry k s
  | .drainTimerExpiry k => Sys2Proof.Machine.execDrainTimerExpiry k s
  | .sidebandInputChange k l level => Sys2Proof.Machine.execSidebandInputChange k l level s
  | .cardAlarmDebounceExpiry k => Sys2Proof.Machine.execCardAlarmDebounceExpiry k s
  | .cabinetInputChange n level => Sys2Proof.Machine.execCabinetInputChange n level s
  | .cabinetInputDebounceExpiry n => Sys2Proof.Machine.execCabinetInputDebounceExpiry n s
  | .watchStale w => Sys2Proof.Machine.execWatchStale w s
  | .chainParcelMake => Sys2Proof.Machine.execChainParcelMake s
  | .chainEngineFree => Sys2Proof.Machine.execChainEngineFree s
  | .readSlotSettings => Sys2Proof.Machine.execReadSlotSettings s
  | .readFlowTable => Sys2Proof.Machine.execReadFlowTable s
  | .readParkAreas => Sys2Proof.Machine.execReadParkAreas s
  | .readWatches => Sys2Proof.Machine.execReadWatches s
  | .readChainDescriptors => Sys2Proof.Machine.execReadChainDescriptors s
  | .readCauseSettings => Sys2Proof.Machine.execReadCauseSettings s
  | .readGlobalSettings => Sys2Proof.Machine.execReadGlobalSettings s
  | .readTimingSettings => Sys2Proof.Machine.execReadTimingSettings s
  | .readAlarmQueue => Sys2Proof.Machine.execReadAlarmQueue s
  | .readTransitLog => Sys2Proof.Machine.execReadTransitLog s
  | .readSlotStatus => Sys2Proof.Machine.execReadSlotStatus s
  | .readTimingStatus => Sys2Proof.Machine.execReadTimingStatus s
  | .readFabricStatus => Sys2Proof.Machine.execReadFabricStatus s
  | .writeSlotSettings => Sys2Proof.Machine.execWriteSlotSettings s
  | .writeFlowTable => Sys2Proof.Machine.execWriteFlowTable s
  | .writeParkAreas => Sys2Proof.Machine.execWriteParkAreas s
  | .writeWatches => Sys2Proof.Machine.execWriteWatches s
  | .writeChainDescriptors => Sys2Proof.Machine.execWriteChainDescriptors s
  | .writeCauseSettings => Sys2Proof.Machine.execWriteCauseSettings s
  | .writeGlobalSettings => Sys2Proof.Machine.execWriteGlobalSettings s
  | .writeTimingSettings => Sys2Proof.Machine.execWriteTimingSettings s
  | .readPark => Sys2Proof.Machine.execReadPark s
  | .readLatest => Sys2Proof.Machine.execReadLatest s
  | .powerOn => Sys2Proof.Machine.execPowerOn s
  | .powerOff => Sys2Proof.Machine.execPowerOff s
  | .drain => Sys2Proof.Machine.execDrain s
  | .rest => Sys2Proof.Machine.execRest s
  | .wake => Sys2Proof.Machine.execWake s
  | .clear => Sys2Proof.Machine.execClear s
  | .retrain => Sys2Proof.Machine.execRetrain s
  | .chainStart => Sys2Proof.Machine.execChainStart s
  | .chainStop => Sys2Proof.Machine.execChainStop s
  | .setTime => Sys2Proof.Machine.execSetTime s
  | .setFrequency => Sys2Proof.Machine.execSetFrequency s
  | .timingRestart => Sys2Proof.Machine.execTimingRestart s
  | .fabricRestart => Sys2Proof.Machine.execFabricRestart s
  | .logClear => Sys2Proof.Machine.execLogClear s
  | .powerOnReset msel retain => Sys2Proof.Machine.execPowerOnReset msel retain s
  | .pinReset msel retain => Sys2Proof.Machine.execPinReset msel retain s
  | .cabinetTimeAdvance => Sys2Proof.Machine.execCabinetTimeAdvance s
  | .suspendSent k => Sys2Proof.Machine.execSuspendSent k s
  | .continueSent k => Sys2Proof.Machine.execContinueSent k s
  | .wakeMarkSent k => Sys2Proof.Machine.execWakeMarkSent k s

end Sys2Proof.Machine
end

