-- ==== Sys2Proof/Safety.lean ====
section
/-! DEFINITION. What counts as a sound state of the switch, and what it is for a command to leave parts of the state
alone: the terms in which claims are stated. -/

namespace Sys2Proof.Machine

/-! ## Frames -/

/-- The parts of the state: units that exist once, and what exists once per slot. -/
inductive Part where
  | flow | pool | park | log | timing | nextEdge | chain | watches | alarm | mgmt | glob
  | cfg | port | ing | egr | ctl | edges | cursor
  deriving DecidableEq, Repr

/-- A part is the same in two states. -/
def Part.Same (p : Part) (s t : State) : Prop :=
  match p with
  | .flow => t.flow = s.flow
  | .pool => t.pool = s.pool
  | .park => t.park = s.park
  | .log => t.log = s.log
  | .timing => t.timing = s.timing
  | .nextEdge => t.nextEdge = s.nextEdge
  | .chain => t.chain = s.chain
  | .watches => t.watches = s.watches
  | .alarm => t.alarm = s.alarm
  | .mgmt => t.mgmt = s.mgmt
  | .glob => t.glob = s.glob
  | .cfg => ∀ j, (t.slot j).cfg = (s.slot j).cfg
  | .port => ∀ j, (t.slot j).port = (s.slot j).port
  | .ing => ∀ j, (t.slot j).ing = (s.slot j).ing
  | .egr => ∀ j, (t.slot j).egr = (s.slot j).egr
  | .ctl => ∀ j, (t.slot j).ctl = (s.slot j).ctl
  | .edges => ∀ j, (t.slot j).edges = (s.slot j).edges
  | .cursor => ∀ j, (t.slot j).cursor = (s.slot j).cursor

/-- Every part but the listed ones is the same in two states, and so are the commands that wait. -/
def KeepsBut (ps : List Part) (s t : State) : Prop := (∀ p, p ∉ ps → p.Same s t) ∧ t.pending = s.pending

/-- Every slot but one is the same in two states. -/
def OtherSlots (i : Slot) (s t : State) : Prop := ∀ j, j ≠ i → t.slot j = s.slot j

/-- Reports to the alarm unit leave of the management unit everything but the reply queue (R163). -/
def OnlyReplies (s t : State) : Prop := t.mgmt = { s.mgmt with replies := t.mgmt.replies }

/-! ## Sound states -/

/-- Parking memory has its canonical form. -/
def State.parkOk (s : State) : Prop := parkWf s.park.mem = true

/-- The alarm queue's write index is its entries-posted count modulo 128 (R161). -/
def State.alarmIndexOk (s : State) : Prop := s.alarm.idx = s.alarm.count.toNat % Config.alarmPlaces

/-- The log size is one of R75's four and the write index is the records-written count modulo it (R75). -/
def State.logIndexOk (s : State) : Prop :=
  s.glob.logSize ∈ [256, 512, 1024, 2048] ∧ s.log.idx = s.log.count.toNat % s.glob.logSize

/-- No queue holds more than its places, and no reply place is claimed between commands (R47, R48, R172, R173). -/
def State.queuesOk (s : State) : Prop :=
  (∀ i, (s.slot i).egr.express.length ≤ Config.expressPlaces) ∧ s.mgmt.replies.length ≤ Config.replyPlaces ∧
  s.mgmt.queue.length ≤ Config.requestPlaces ∧ s.mgmt.claim = false

/-- A cabinet time whose fields are in range (R85). -/
def CabTime.inRange (t : CabTime) : Prop :=
  t.sec < Config.secModulus ∧ t.ns < Config.nsPerSec ∧ t.frac < Config.fracPerNs

/-- Cabinet time is in range, I and F lie within the bound B, Fmax is a value it may have, and D is the adjustment of F
(R85, R104, R105). -/
def State.timeOk (s : State) : Prop :=
  s.timing.time.inRange ∧ s.timing.intg.natAbs ≤ s.timing.cfg.fmax * 65536 ∧
  s.timing.freq.natAbs ≤ s.timing.cfg.fmax * 65536 ∧ s.timing.cfg.fmax ≤ 200000 ∧
  s.timing.adj = adjOf s.timing.cfg.rounding s.timing.freq

/-- The uptime is the number of whole 125,000 core periods since the last reset, modulo 2^32, or one less while its
advance is due (R87). -/
def State.uptimeOk (s : State) : Prop :=
  s.timing.uptime = wordOf (s.timing.core / Config.uptimePeriods) ∨
  s.timing.uptime + 1 = wordOf (s.timing.core / Config.uptimePeriods)

/-- The loop state and the selection agree, a selected reference is qualified, F is I outside ACQUIRING and LOCKED, and
the holdover timer runs and HOLDOVER is raised in HOLDOVER alone (R96 to R98). -/
def State.loopOk (s : State) : Prop :=
  (s.timing.sel = .none ↔ s.timing.loop = .free ∨ s.timing.loop = .holdover) ∧
  (s.timing.sel ≠ .none → s.timing.selQualified s.timing.sel = true) ∧
  (s.timing.sel = .none → s.timing.freq = s.timing.intg) ∧
  (s.timing.holdover.isSome ↔ s.timing.loop = .holdover) ∧
  (s.isRaised causeHoldover 0 = true ↔ s.timing.loop = .holdover)

/-- A capture is remembered exactly when the run count is above 0 (R91). -/
def State.capturesOk (s : State) : Prop := ∀ r, ((s.timing.ref r).last = none ↔ (s.timing.ref r).run = 0)

/-- Each relay is asserted exactly while an enabled raised condition has its severity (R164). -/
def State.relaysOk (s : State) : Prop :=
  s.alarm.crit = s.drives .critical ∧ s.alarm.maj = s.drives .major ∧ s.alarm.min = s.drives .minor

/-- The raised set holds each of its pairs once, and only pairs of standing causes (R157). -/
def State.raisedOk (s : State) : Prop :=
  assocWf s.alarm.raised = true ∧ ∀ p ∈ s.alarm.raised, isStanding (keyCause p.1) = true

/-- The marks are in range, and POOL-LOW stands where R43 leaves it against them. -/
def State.poolLowOk (s : State) : Prop :=
  s.glob.lowMark ≤ s.glob.clearMark ∧ s.glob.clearMark ≤ Config.poolBlocks ∧
  if s.isRaised causePoolLow 0 then s.pool.freeCount < s.glob.clearMark else s.glob.lowMark ≤ s.pool.freeCount

/-- Every block of the pool is free or held by exactly one stored parcel (R38): the free blocks and the parcels' blocks
together are the blocks 0 to 8,191, each once; the free-block count is the number of the free ones. -/
def State.poolOk (s : State) : Prop :=
  assocWf s.pool.parcels = true ∧ (∀ p ∈ s.pool.parcels, p.1 < s.pool.nextId) ∧
  (∀ p ∈ s.pool.parcels, p.2.blocks.length = p.2.nBlocks) ∧ s.pool.freeCount = s.pool.free.length ∧
  (s.pool.free ++ s.pool.parcels.flatMap (fun p => p.2.blocks)).Perm (List.range Config.poolBlocks)

/-- The link state that goes with a slot state (R123's table). -/
def Phase.linkFits : Phase → LinkState → Bool
  | .training, l => l == .training
  | .admitted, l => l.frames
  | .draining, l => l.frames
  | _, l => l == .down

/-- Every link state fits its slot's state (R6, R123). -/
def State.linksOk (s : State) : Prop := ∀ i, (s.slot i).ctl.phase.linkFits (s.slot i).port.link = true

/-- A hold request stands exactly while a waiting place is taken, and a waiting parcel waits for some slot (R32, R36).
-/
def State.holdsOk (s : State) : Prop :=
  ∀ i, (s.slot i).port.holdReq = (s.slot i).ing.waiting.isSome ∧ ∀ w, (s.slot i).ing.waiting = some w → w.pending ≠ 0

/-- Chains run on ADMITTED slots alone (R146). -/
def State.chainsOk (s : State) : Prop := ∀ i, (s.slot i).cursor.state ≠ .idle → (s.slot i).ctl.phase = .admitted

/-- The slot state a slot timer belongs to (R130). -/
def TimerKind.phase : TimerKind → Phase
  | .seat => .empty
  | .power => .powering
  | .release => .powering
  | .gap => .training
  | .wake => .admitted
  | .drain => .draining

/-- A running slot timer belongs to the state of its slot (R130). -/
def State.timersOk (s : State) : Prop := ∀ i t, (s.slot i).ctl.timer = some t → t.kind.phase = (s.slot i).ctl.phase

/-- RESTING and WAKING are sub-modes of ADMITTED, whose link is UP while it is AWAKE; a rest request not yet sent is
found in RESTING with the link UP (R123, R134). -/
def State.restsOk (s : State) : Prop :=
  ∀ i, ((s.slot i).ctl.sub ≠ .awake → (s.slot i).ctl.phase = .admitted) ∧
    (s.isAwake i = true → (s.slot i).port.link = .up) ∧
    ((s.slot i).ctl.restReq = true → (s.slot i).ctl.sub = .resting ∧ (s.slot i).port.link = .up)

/-- The states in which a slot has no part in traffic (R46, R123). -/
def Phase.isOut : Phase → Bool
  | .empty => true
  | .seated => true
  | .quiesced => true
  | .faulted => true
  | _ => false

/-- PWR-EN stands as R123's table says; the inputs are enabled only under power; RESET-OUT is active in POWERING alone
(R123, R127, R128). -/
def State.powerOk (s : State) : Prop :=
  ∀ i, ((s.slot i).ctl.phase.isOut = false → (s.slot i).ctl.pwrEn = true) ∧
    ((s.slot i).ctl.phase.isOut = true → (s.slot i).ctl.phase ≠ .quiesced → (s.slot i).ctl.pwrEn = false) ∧
    ((s.slot i).ctl.inputsEn = true → (s.slot i).ctl.pwrEn = true) ∧
    ((s.slot i).ctl.resetOut = true ↔ (s.slot i).ctl.phase = .powering)

/-- A slot out of traffic has empty queues; a waiting parcel waits only for slots that queue it; a parcel is in
transmission only on a link that is UP (R27, R34, R49, R123). -/
def State.trafficOk (s : State) : Prop :=
  (∀ i, (s.slot i).ctl.phase.isOut = true →
    (s.slot i).egr.stream = [] ∧ (s.slot i).egr.control = [] ∧ (s.slot i).egr.bulk = [] ∧ (s.slot i).egr.express = []) ∧
  (∀ j w d, (s.slot j).ing.waiting = some w → hasSlot w.pending d = true → s.treatment d = .queued) ∧
  (∀ i, (s.slot i).egr.tx ≠ .idle → (s.slot i).port.link = .up)

/-- SLOT-FAULT is raised, and a fault reason held, exactly for the FAULTED slots (R123, R141, R142). -/
def State.faultsOk (s : State) : Prop :=
  ∀ i : Slot, (s.isRaised causeSlotFault i.val = true ↔ (s.slot i).ctl.phase = .faulted) ∧
    ((s.slot i).ctl.reason.isSome ↔ (s.slot i).ctl.phase = .faulted)

/-- The hold-off timer runs only under a card hold-off flag, and LINK-HELD stands only under the flag with the timer
stopped (R12, R13). -/
def State.heldOk (s : State) : Prop :=
  ∀ i : Slot, ((s.slot i).port.holdTimer.isSome → (s.slot i).port.cardHold = true) ∧
    (s.isRaised causeLinkHeld i.val = true → (s.slot i).port.cardHold = true ∧ (s.slot i).port.holdTimer = none)

/-- The parcels on a transmit side: the one in transmission or handed over, and an inserted one. -/
def Tx.parcels : Tx → List TxParcel
  | .idle => []
  | .sending p => [p]
  | .insertCalled p _ => [p]
  | .bracket p x => [p, x]
  | .continueDue p => [p]

/-- The queue a parcel was taken from holds it at its head; one whose queue a FABRIC-RESTART has emptied is held by
none (R40, R47, R48, R56). -/
def State.holdsAtHead (s : State) (i : Slot) (p : TxParcel) : Prop :=
  p.attached = true →
  match p.origin with
  | .express => (s.slot i).egr.express ≠ []
  | .reply => i = s.mgmtSlot ∧ s.mgmt.replies ≠ []
  | .cls c => ((s.slot i).egr.queue c).head? = some p.pid

/-- What is on a transmit side is at the head of its queue; a parcel whose header has not left stands alone there and
has its queue; only a CONTROL or BULK parcel is interrupted, and only an express parcel is inserted (R14, R40, R50,
R53). -/
def State.sendsOk (s : State) : Prop :=
  ∀ i, (∀ p, p ∈ (s.slot i).egr.tx.parcels → s.holdsAtHead i p) ∧
    (∀ p, (s.slot i).egr.tx.main = some p →
      (p.headerSent = false → (s.slot i).egr.tx = .sending p ∧ p.attached = true) ∧
      ((s.slot i).egr.tx ≠ .sending p → p.origin = .cls .control ∨ p.origin = .cls .bulk)) ∧
    (∀ p x, (s.slot i).egr.tx = .bracket p x → x.origin = .express)

/-- Whether a slot's reception or waiting place holds a stored parcel (R39). -/
def Ingress.holds (g : Ingress) (pid : Nat) : Nat :=
  (if g.reception.map (·.fate) = some (.passed pid) then 1 else 0) + (if g.waiting.map (·.pid) = some pid then 1 else 0)

/-- The holds on a stored parcel: the class queues holding it, its reception and its waiting place (R39). -/
def State.holdCount (s : State) (pid : Nat) : Nat :=
  (allSlots.map (fun i =>
    (s.slot i).egr.stream.count pid + (s.slot i).egr.control.count pid + (s.slot i).egr.bulk.count pid +
    (s.slot i).ing.holds pid)).sum

/-- A parcel is in reception exactly in IN-PARCEL; a stored parcel's reference count is the number of its holds, and at
least one; nothing holds a parcel that is not stored, and none is stored under a handle not yet given (R4, R39). -/
def State.countsOk (s : State) : Prop :=
  (∀ i, ((s.slot i).ing.reception.isSome ↔ ∃ h n c, (s.slot i).port.rx = .inParcel h n c)) ∧
  (∀ pid p, s.parcel pid = some p → p.refs = s.holdCount pid ∧ 0 < p.refs) ∧
  (∀ pid, s.parcel pid = none → s.holdCount pid = 0) ∧ ∀ pid, s.pool.nextId ≤ pid → s.parcel pid = none

/-- No DRAINING slot has an empty egress: each was taken to QUIESCED in the event that emptied it (R46, R138). -/
def State.settled (s : State) : Prop := s.drained = none

/-- A state in which everything above holds. -/
def State.sound (s : State) : Prop :=
  s.parkOk ∧ s.alarmIndexOk ∧ s.logIndexOk ∧ s.queuesOk ∧ s.timeOk ∧ s.uptimeOk ∧ s.loopOk ∧ s.capturesOk ∧
  s.relaysOk ∧ s.raisedOk ∧ s.poolLowOk ∧ s.poolOk ∧ s.linksOk ∧ s.holdsOk ∧ s.chainsOk ∧ s.timersOk ∧ s.restsOk ∧
  s.powerOk ∧ s.trafficOk ∧ s.sendsOk ∧ s.countsOk ∧ s.faultsOk ∧ s.heldOk ∧ s.settled

end Sys2Proof.Machine
end

