-- ==== Sys2Proof/Certificates/Slice0/Obligations.lean ====
section
/-! DEFINITION. The statements about the switch, from the numbered rules of spec/: steps and resets, invariants that
every step keeps, and for every command what it does where it takes its own effect. -/

open Sys2Proof Sys2Proof.Machine

/-! ## Steps -/

/-- A step takes the command at the front of the queue and answers what that command's effect is on the state with the
rest of the queue. -/
def Obligations.StepRunsFront : Prop :=
  ∀ (c : Instr) (rest : List Instr) (s : State),
    s.pending = c :: rest → step s = exec c { s with pending := rest }

/-! ## Invariants (tier 3) and the state after reset -/

/-- An invariant that every step keeps, from every state that has it. -/
def StepKeeps (inv : State → Prop) : Prop := ∀ s t : State, inv s → step s = .next t → inv t

/-- The state after POWER-ON is sound in every respect that the invariants below name. -/
def Obligations.ResetIsSound : Prop := State.reset.sound

/-- Parking memory keeps its canonical form, the alarm queue's write index stays the entries-posted count modulo 128
(R161), the log's write index the records-written count modulo the log size (R75); no express queue holds more than 4
parcels, the reply queue no more than 8, the request queue no more than 4, and no reply place stays claimed (R47, R48,
R172, R173). -/
def Obligations.StepKeepsIndexesAndBounds : Prop :=
  StepKeeps (fun s => s.parkOk ∧ s.alarmIndexOk ∧ s.logIndexOk ∧ s.queuesOk)

/-- Cabinet time stays in range, I and F within B, D the adjustment of F, and the uptime the number of whole 125,000
core periods since reset, modulo 2^32, or one less while its advance is due (R85, R87, R104, R105). That an advance is
taken no later than the next core period is the model's choice (log entry 8). -/
def Obligations.StepKeepsTimeInRange : Prop := StepKeeps (fun s => s.timeOk ∧ s.uptimeOk)

/-- The loop is ACQUIRING or LOCKED exactly when a reference is selected, a selected reference is qualified, F is I
otherwise, the holdover timer and HOLDOVER stand in HOLDOVER alone, and a capture is remembered exactly when the run
count is above 0 (R91, R96 to R98). -/
def Obligations.StepKeepsLoop : Prop := StepKeeps (fun s => s.loopOk ∧ s.capturesOk)

/-- At the end of every step the relays follow the enabled raised conditions, each in its own severity, a WATCH pair in
its watch's, and the raised set holds each of its pairs once and only pairs of standing causes. A raise of a pair that
is not in the raised set puts it there with the raise's parameter and makes a RAISE entry when its cause is enabled,
and one of a pair in the set has no effect; a clear of a pair in the set takes it out and makes a CLEAR entry with the
clear's parameter when its cause is enabled, and one of a pair that is not in the set has no effect (R157, R164). -/
def Obligations.StepKeepsRelays : Prop :=
  StepKeeps (fun s => s.relaysOk ∧ s.raisedOk) ∧
  ∀ (c : Fin 64) (inst : Nat) (w : Word) (s : State),
    (s.isRaised c inst = true → raiseCond c inst w s = s) ∧
    (s.isRaised c inst = false → ∃ t u, t = raiseCond c inst w s ∧
      u = (if (s.cause c).enable = true then postEntry c inst .raise 0 w s else s) ∧ t.relaysOk ∧
      (∀ k, assocGet t.alarm.raised k = if k = pairKey c inst then some w else assocGet s.alarm.raised k) ∧
      t.alarm.queue = u.alarm.queue ∧ t.alarm.idx = u.alarm.idx ∧ t.alarm.count = u.alarm.count ∧
      KeepsBut [.alarm] u t) ∧
    (s.isRaised c inst = false → clearCond c inst w s = s) ∧
    (s.isRaised c inst = true → ∃ t u, t = clearCond c inst w s ∧
      u = (if (s.cause c).enable = true then postEntry c inst .clear 0 w s else s) ∧ t.relaysOk ∧
      (∀ k, assocGet t.alarm.raised k = if k = pairKey c inst then none else assocGet s.alarm.raised k) ∧
      t.alarm.queue = u.alarm.queue ∧ t.alarm.idx = u.alarm.idx ∧ t.alarm.count = u.alarm.count ∧
      KeepsBut [.alarm] u t)

/-- POOL-LOW stands where its two marks leave it (R43). -/
def Obligations.StepKeepsPoolLow : Prop := StepKeeps State.poolLowOk

/-- Every block is free or held by exactly one stored parcel, and the blocks number 8,192 (R38). -/
def Obligations.StepKeepsPool : Prop := StepKeeps State.poolOk

/-- The link state, the power lines, the slot timers, the rest and the chains of every slot fit its slot state
(R6, R123, R127 to R130, R134, R146). -/
def Obligations.StepKeepsSlots : Prop :=
  StepKeeps (fun s => s.linksOk ∧ s.powerOk ∧ s.timersOk ∧ s.restsOk ∧ s.chainsOk)

/-- A hold request stands exactly while a waiting place is taken (R32, R36). -/
def Obligations.StepKeepsHolds : Prop := StepKeeps State.holdsOk

/-- A slot out of traffic has empty queues, waiting parcels wait only for slots that queue them, and parcels are in
transmission only on links that are UP (R27, R34, R49, R123). -/
def Obligations.StepKeepsTraffic : Prop := StepKeeps (fun s => s.linksOk ∧ s.restsOk ∧ s.chainsOk ∧ s.trafficOk)

/-- SLOT-FAULT and the fault reason stand exactly for FAULTED slots; LINK-HELD stands only under a card hold-off flag
whose timer has run out (R12, R13, R141, R142). -/
def Obligations.StepKeepsFaults : Prop := StepKeeps (fun s => s.faultsOk ∧ s.heldOk)

/-- No DRAINING slot is left with an empty egress: the event that empties it takes it to QUIESCED (R46, R138). It is
kept together with what fits the slot states (R123, R134) and with what a transmit side holds being at the head of its
queue (R40, R50). -/
def Obligations.StepKeepsSettled : Prop :=
  StepKeeps (fun s => s.linksOk ∧ s.restsOk ∧ s.chainsOk ∧ s.trafficOk ∧ s.sendsOk ∧ s.settled)

/-- A stored parcel's reference count is the number of class queues, receptions and waiting places that hold it, and at
least 1, so that its blocks return exactly when the last of them lets go; nothing holds a parcel that is not stored,
and a parcel is in reception exactly in IN-PARCEL (R4, R39, R44). -/
def Obligations.StepKeepsHoldCounts : Prop :=
  StepKeeps (fun s => s.linksOk ∧ s.restsOk ∧ s.chainsOk ∧ s.trafficOk ∧ s.sendsOk ∧ s.countsOk)

/-! ## Resets -/

/-- Whether a slot keeps its power over a PIN reset with RETAIN (R144). -/
def KeepsPower (pin retain : Bool) (s : State) (i : Slot) : Bool := pin && retain && (s.slot i).ctl.pwrEn

/-- Whether such a slot is judged FAULTED after it: both contacts made and PWR-GOOD inactive (R144). -/
def LosesPower (pin retain : Bool) (s : State) (i : Slot) : Bool :=
  KeepsPower pin retain s i && (s.slot i).ctl.presL && (s.slot i).ctl.presS && !(s.slot i).ctl.pwrGood

/-- POWER_ON_RESET and PIN_RESET complete in every state. Units that exist once: the timing unit, the pool, the log,
the tables and the global settings are as the rules give them after a reset; the straps are latched; parking memory is
zero after POWER-ON and kept after PIN; nothing is raised but SLOT-FAULT of a slot judged FAULTED. RESTARTED carries
the straps: after POWER-ON it is the first entry; after a PIN reset that judges no slot FAULTED it is the next entry of
a queue that is kept, short of a wrap (R20, R57, R58, R74, R84, R111, R152, R170, R180, R181). Every slot: empty
queues, no parcel in reception or waiting, no chain, no measured delay. One that keeps no power: EMPTY with power off,
link DOWN, default settings, and its seat timer runs when both contacts are made. One that keeps its power: default
settings but for the functions of its lines; with both contacts made it is in TRAINING with the inputs enabled when
PWR-GOOD is active and FAULTED with POWER-LOST and no power when it is not; with a contact missing it is EMPTY with
power off (R16, R37, R57, R144). The model's choices among these: the core periods at 0 and the fields of an idle port,
training and chain cursor (log entry 36), and the levels of the lines and the waiting commands, which a reset keeps
(log entry 24). -/
def Obligations.ResetsLeave : Prop :=
  ∀ (pin msel retain : Bool) (s : State),
    ∃ t, exec (if pin then .pinReset msel retain else .powerOnReset msel retain) s = .next t ∧
      (t.timing = Timing.reset ∧ t.flow = [] ∧ t.log = { recs := [], idx := 0, count := 0 } ∧
        t.glob = GlobalSettings.default ∧ t.park.mem = (if pin then s.park.mem else []) ∧
        t.park.areas = Vector.replicate 64 Area.zero ∧ t.watches = Vector.replicate 32 Watch.zero ∧
        t.chain = { table := Vector.replicate 64 Descriptor.zero, rotation := 0, busy := none } ∧
        t.mgmt = { store := [], queue := [], replies := [], claim := false, msel := msel, retain := retain } ∧
        t.pool.freeCount = 8192 ∧ t.pool.parcels = [] ∧ t.pending = s.pending) ∧
      ((∀ i : Slot, t.isRaised causeSlotFault i.val = LosesPower pin retain s i) ∧
        ∀ c m, c ≠ causeSlotFault → m < 64 → t.isRaised c m = false) ∧
      (pin = false → t.alarm.idx = 1 ∧ t.alarm.count = 1 ∧
        assocGet t.alarm.queue 0 = some
          { cause := 41, inst := 0, action := .event, severity := .warning, repeats := 0,
            param := wordOf (strapsNat msel retain), stamp := { sec := 0, ns := 0 } }) ∧
      (pin = true → (∀ i, LosesPower pin retain s i = false) → s.alarm.idx < 127 →
        t.alarm.idx = s.alarm.idx + 1 ∧ t.alarm.count = s.alarm.count + 1 ∧
        assocGet t.alarm.queue s.alarm.idx = some
          { cause := 41, inst := 1, action := .event, severity := .warning, repeats := 0,
            param := wordOf (strapsNat msel retain), stamp := { sec := 0, ns := 0 } } ∧
        ∀ k, k ≠ s.alarm.idx → assocGet t.alarm.queue k = assocGet s.alarm.queue k) ∧
      ∀ i, (t.slot i).ing = Ingress.reset ∧ (t.slot i).egr = Egress.reset ∧ (t.slot i).cursor = Cursor.idle ∧
        (t.slot i).ctl.delay = 0 ∧
        (KeepsPower pin retain s i = false →
          (t.slot i).ctl.phase = .empty ∧ (t.slot i).ctl.pwrEn = false ∧ (t.slot i).port = Port.reset ∧
          (t.slot i).cfg = SlotSettings.default (i.val == boolNat msel) ∧
          (t.slot i).ctl.timer =
            (if (s.slot i).ctl.presL && (s.slot i).ctl.presS then some { kind := .seat, start := 0 } else none)) ∧
        (KeepsPower pin retain s i = true →
          (t.slot i).ctl.timer = none ∧
          (t.slot i).cfg = { SlotSettings.default (i.val == boolNat msel) with
            fn0 := (s.slot i).cfg.fn0, fn1 := (s.slot i).cfg.fn1 } ∧
          if ((s.slot i).ctl.presL && (s.slot i).ctl.presS) = true then
            if (s.slot i).ctl.pwrGood = true then
              (t.slot i).ctl.phase = .training ∧ (t.slot i).ctl.pwrEn = true ∧ (t.slot i).ctl.inputsEn = true ∧
              (t.slot i).ctl.resetOut = false ∧
              (t.slot i).ctl.train = { attempt := 1, exchange := 0, step := .request, samples := [] } ∧
              (t.slot i).port = { Port.reset with link := .training, trainReq := some 0 }
            else
              (t.slot i).ctl.phase = .faulted ∧ (t.slot i).ctl.reason = some .powerLost ∧
              (t.slot i).ctl.pwrEn = false ∧ (t.slot i).port = Port.reset
          else (t.slot i).ctl.phase = .empty ∧ (t.slot i).ctl.pwrEn = false ∧ (t.slot i).port = Port.reset)


/-! ## Words from the cards (R4, R7, R9, R10, R17 to R25, R63 to R65) -/

/-- HEADER_WORD, a parcel looked up at an invalid entry: it is refused whole. The receive state is IN-PARCEL with the
header and the check register fed the header word; the ingress record holds the header, the entry copy without the
ingress slot in its destination set and the arrival stamp, and is refused; no block is taken. With "alarm on unknown
flow" set to no nothing is reported; with yes PARCEL-REFUSED is posted with reason 1, the channel and the kind (R4,
R17, R21, R22). -/
def Obligations.HeaderAtInvalidEntryIsRefused : Prop :=
  ∀ (i : Slot) (w : Word) (s : State),
    s.framing i = true → (∀ h n c, (s.slot i).port.rx ≠ .inParcel h n c) → s.settled →
    s.isMgmtParcel i (Header.ofWord w) = false → s.isTodParcel i (Header.ofWord w) = false →
    (s.flowAt (i.val * 64 + (Header.ofWord w).chan.toNat)).valid = false →
    ∃ t, exec (.headerWord i w) s = .next t ∧
      (t.slot i).port = { (s.slot i).port with
        rx := .inParcel (Header.ofWord w) (Header.ofWord w).len.toNat (crcWord 0xFFFFFFFF#32 w) } ∧
      (t.slot i).ing = { (s.slot i).ing with
        reception := some
          { hdr := Header.ofWord w, stamp := { sec := s.timing.time.sec % 65536, ns := s.timing.time.ns },
            entry := { s.flowAt (i.val * 64 + (Header.ofWord w).chan.toNat) with
              dest := delSlot (s.flowAt (i.val * 64 + (Header.ofWord w).chan.toNat)).dest i },
            log := none, fate := .refused, enq := 0, disc := 0 } } ∧
      (s.glob.alarmUnknown = false → KeepsBut [.port, .ing] s t) ∧
      (s.glob.alarmUnknown = true →
        t.alarm = (postEvent causeParcelRefused i.val
          (wordOf (65536 + (Header.ofWord w).chan.toNat * 256 + (Header.ofWord w).kind.toNat)) s).alarm ∧
        KeepsBut [.port, .ing, .alarm, .mgmt] s t ∧ OnlyReplies s t) ∧
      OtherSlots i s t

/-- HEADER_WORD, a parcel passed by its entry: its ceil((length + 1) / 16) blocks are taken at once for a new stored
parcel with the header as it arrived, the entry's class and egress channel and reference count 1, and the free-block
count falls by as many; the ingress slot is out of the entry copy's destination set. With fewer blocks free none is
taken: the parcel is discarded whole and POOL-CUT is posted with the number of blocks it asked for. With no log record
asked for; POOL-LOW may be reported. BODY_WORD, a payload word of a passed CONTROL or BULK parcel: it is written into
the stored parcel and fed into the check register, and one word fewer is due; the words of a parcel discarded so are
fed into the check register and thrown away (R3, R4, R17, R21, R25, R38, R39, R43). -/
def Obligations.PassedParcelsAreStored : Prop :=
  (∀ (i : Slot) (w : Word) (s : State) (h : Header) (e : FlowEntry),
    h = Header.ofWord w → e = s.flowAt (i.val * 64 + h.chan.toNat) →
    s.framing i = true → (∀ h n c, (s.slot i).port.rx ≠ .inParcel h n c) → s.settled →
    s.isMgmtParcel i h = false → s.isTodParcel i h = false →
    e.valid = true → e.log = false → e.park = false → h.kind.toNat < 6 → e.permits h.kind = true →
    ((h.len.toNat + 16) / 16 ≤ s.pool.freeCount →
      ∃ t, exec (.headerWord i w) s = .next t ∧
        (t.slot i).port.rx = .inParcel h h.len.toNat (crcWord 0xFFFFFFFF#32 w) ∧
        (∃ r, (t.slot i).ing.reception = some r ∧ r.hdr = h ∧ r.fate = .passed s.pool.nextId ∧
          r.entry = { e with dest := delSlot e.dest i }) ∧
        t.pool.freeCount = s.pool.freeCount - (h.len.toNat + 16) / 16 ∧
        (∃ p, t.parcel s.pool.nextId = some p ∧ p.hdr = h ∧ p.cls = e.govern ∧ p.egress = e.egress ∧ p.owner = i ∧
          p.nBlocks = (h.len.toNat + 16) / 16 ∧ p.words = [] ∧ p.isOpen = false ∧ p.refs = 1) ∧
        (∀ k, k ≠ s.pool.nextId → t.parcel k = s.parcel k) ∧
        KeepsBut [.port, .ing, .pool, .alarm, .mgmt] s t ∧ OnlyReplies s t ∧ OtherSlots i s t) ∧
    (s.pool.freeCount < (h.len.toNat + 16) / 16 →
      ∃ t, exec (.headerWord i w) s = .next t ∧
        (t.slot i).port = { (s.slot i).port with rx := .inParcel h h.len.toNat (crcWord 0xFFFFFFFF#32 w) } ∧
        (t.slot i).ing = { (s.slot i).ing with
          reception := some
            { hdr := h, stamp := { sec := s.timing.time.sec % 65536, ns := s.timing.time.ns },
              entry := { e with dest := delSlot e.dest i }, log := none, fate := .poolCut, enq := 0, disc := 0 } } ∧
        t.alarm = (postEvent causePoolCut i.val (wordOf ((h.len.toNat + 16) / 16)) s).alarm ∧
        KeepsBut [.port, .ing, .alarm, .mgmt] s t ∧ OnlyReplies s t ∧ OtherSlots i s t)) ∧
  (∀ (i : Slot) (w crc : Word) (hw : Header) (n : Nat) (s : State) (r : Reception),
    s.framing i = true → s.settled → (s.slot i).port.rx = .inParcel hw (n + 1) crc →
    (s.slot i).ing.reception = some r →
    (∀ (pid : Nat) (p : Stored), r.fate = .passed pid → r.entry.govern ≠ .stream → s.parcel pid = some p →
      ∃ t, exec (.bodyWord i w) s = .next t ∧
        (t.slot i).port = { (s.slot i).port with rx := .inParcel hw n (crcWord crc w) } ∧
        t.parcel pid = some { p with words := p.words ++ [w] } ∧ (∀ k, k ≠ pid → t.parcel k = s.parcel k) ∧
        t.pool.free = s.pool.free ∧ t.pool.freeCount = s.pool.freeCount ∧
        KeepsBut [.port, .pool] s t ∧ OtherSlots i s t) ∧
    (r.fate = .poolCut →
      ∃ t, exec (.bodyWord i w) s = .next t ∧
        (t.slot i).port = { (s.slot i).port with rx := .inParcel hw n (crcWord crc w) } ∧
        KeepsBut [.port] s t ∧ OtherSlots i s t))

/-- HEADER_WORD of a parcel that its entry parks, with no log record asked for: the area is judged as it stands. An
area that is OFF discards it with reason 1, and one whose copy size, or ring size less 1, is below the footprint, the
length plus 1, with reason 2: the landing record is DISCARDING and PARK-DISCARD is posted at once with the area as
instance and the reason, the ingress slot and the channel. Else it is accepted: the landing record names the area and
the header, with no words and the changed mark clear. BODY_WORD of a parcel so discarded, its end among them: nothing
is written (R61, R62, R63). -/
def Obligations.ParkHeaderIsJudged : Prop :=
  (∀ (i : Slot) (w : Word) (s : State) (h : Header) (e : FlowEntry) (n : Fin 64) (a : Area) (reason : Nat),
    h = Header.ofWord w → e = s.flowAt (i.val * 64 + h.chan.toNat) →
    s.framing i = true → (∀ h n c, (s.slot i).port.rx ≠ .inParcel h n c) → s.settled →
    s.isMgmtParcel i h = false → s.isTodParcel i h = false →
    e.valid = true → e.log = false → e.park = true → h.kind.toNat < 6 → e.permits h.kind = true →
    e.area.toNat = n.val → a = s.park.areas[n] →
    reason = (if a.mode = .off then 1
      else if (a.mode = .latest ∧ a.size < h.len.toNat + 1) ∨ (a.mode = .ring ∧ a.size < h.len.toNat + 2) then 2
      else 0) →
    ∃ t, exec (.headerWord i w) s = .next t ∧
      (t.slot i).port = { (s.slot i).port with rx := .inParcel h h.len.toNat (crcWord 0xFFFFFFFF#32 w) } ∧
      (∃ r, (t.slot i).ing = { (s.slot i).ing with
          reception := some r, landing := if reason = 0 then .landing n h [] false else .discarding } ∧
        r.hdr = h ∧ r.fate = .parked ∧ r.log = none ∧ r.entry = { e with dest := delSlot e.dest i }) ∧
      t.alarm = (if reason = 0 then s.alarm
        else (postEvent causeParkDiscard n.val (wordOf (reason * 65536 + i.val * 256 + h.chan.toNat)) s).alarm) ∧
      (reason = 0 → KeepsBut [.port, .ing] s t) ∧
      KeepsBut [.port, .ing, .alarm, .mgmt] s t ∧ OnlyReplies s t ∧ OtherSlots i s t) ∧
  ∀ (i : Slot) (w crc : Word) (hw : Header) (r : Reception) (s : State),
    s.framing i = true → s.settled → (s.slot i).ing.reception = some r → r.fate = .parked → r.log = none →
    (s.slot i).ing.landing = .discarding →
    (∀ m, (s.slot i).port.rx = .inParcel hw (m + 1) crc →
      ∃ t, exec (.bodyWord i w) s = .next t ∧
        (t.slot i).port = { (s.slot i).port with rx := .inParcel hw m (crcWord crc w) } ∧
        KeepsBut [.port] s t ∧ OtherSlots i s t) ∧
    ((s.slot i).port.rx = .inParcel hw 0 crc →
      ∃ t, exec (.bodyWord i w) s = .next t ∧ (t.slot i).port = { (s.slot i).port with rx := .awaitHeader } ∧
        (t.slot i).ing = { (s.slot i).ing with reception := none, landing := .clear } ∧
        t.alarm = (if w = ~~~crc then s.alarm
          else (postEvent causeCheckFail i.val (wordOf r.hdr.chan.toNat) s).alarm) ∧
        KeepsBut [.port, .ing, .alarm, .mgmt] s t ∧ OnlyReplies s t ∧ OtherSlots i s t)

/-- BODY_WORD, the check word of a parcel landing in a LATEST area, with no log record: the footprint goes to the half
that is not readable, its landing word marked good or bad; every word of parking memory outside the footprint keeps
what it held; the landing record is CLEAR. At a good end that half becomes the readable one, the copy count rises by 1
and the completion fields take the time and the uptime; watches on the area may report. At a bad end the halves do not
swap, the area's fields and every watch stay as they were, and CHECK-FAIL is posted with the ingress channel (R3, R4,
R24, R61, R64 to R66). -/
def Obligations.GoodLatestLanding : Prop :=
  ∀ (i : Slot) (w crc : Word) (hw : Header) (s : State) (r : Reception) (n : Fin 64) (h : Header) (ws : List Word)
    (a : Area) (start : Nat),
    s.framing i = true → s.settled → (s.slot i).port.rx = .inParcel hw 0 crc →
    (s.slot i).ing.reception = some r → r.fate = .parked → r.log = none →
    (s.slot i).ing.landing = .landing n h ws false → ws.length = h.len.toNat → a = s.park.areas[n] → a.mode = .latest →
    h.len.toNat + 1 ≤ a.size → a.base + 2 * a.size ≤ 32768 →
    start = (if a.readable = some false then a.base + a.size else a.base) →
    ∃ t, exec (.bodyWord i w) s = .next t ∧
      (w = ~~~crc → t.park.areas = s.park.areas.set n
        { a with
          readable := some (decide (a.readable = some false)), copies := (a.copies + 1) % 65536,
          doneSec := s.timing.time.sec, doneNs := s.timing.time.ns, doneUp := s.timing.uptime }) ∧
      (w ≠ ~~~crc → t.park.areas = s.park.areas ∧ t.watches = s.watches ∧
        t.alarm = (postEvent causeCheckFail i.val (wordOf r.hdr.chan.toNat) s).alarm) ∧
      parkRead t.park.mem start = landingWord (decide (w = ~~~crc)) i h ∧
      (∀ j, j < ws.length → parkRead t.park.mem (start + 1 + j) = ws.getD j 0) ∧
      (∀ b, b < 32768 → b < start ∨ start + ws.length < b → parkRead t.park.mem b = parkRead s.park.mem b) ∧
      (t.slot i).port.rx = .awaitHeader ∧ (t.slot i).ing.reception = none ∧ (t.slot i).ing.landing = .clear ∧
      KeepsBut [.port, .ing, .park, .watches, .alarm, .mgmt] s t ∧ OnlyReplies s t ∧ OtherSlots i s t

/-- A closed stored parcel has come to a bad end: its reception hold is released, the blocks of a parcel that nothing
else holds return, and CHECK-FAIL is posted; POOL-LOW may be cleared where blocks return (R26, R39, R43). -/
def EndsBad (i : Slot) (chan : BitVec 6) (pid : Nat) (p : Stored) (s t : State) : Prop :=
  (1 < p.refs → t.parcel pid = some { p with refs := p.refs - 1 } ∧ t.pool.freeCount = s.pool.freeCount ∧
    t.alarm = (postEvent causeCheckFail i.val (wordOf chan.toNat) s).alarm) ∧
  (p.refs = 1 → t.parcel pid = none ∧ t.pool.freeCount = s.pool.freeCount + p.nBlocks ∧
    (s.isRaised causePoolLow 0 = false → s.glob.lowMark ≤ s.pool.freeCount →
      t.alarm = (postEvent causeCheckFail i.val (wordOf chan.toNat) s).alarm))

/-- Link errors, with fewer than 7 in the window: each counts one in the window count and in the total, which stops at
65,535. With no parcel in reception: an undecodable word leaves the receive state SKIP, and so does a body word in
AWAIT-HEADER; a mark that is a link error leaves it as it was, the model's reading (log entry 19); a body word in SKIP
is thrown away and counts as none. With a passed parcel in reception, not yet enqueued and with no log record: an
undecodable word or a mark that is a link error ends it with a bad check and leaves SKIP, and a header word ends it so
and begins the parcel of the new header, here one refused without a report. The eighth error of a window takes the link
DOWN and the slot to FAULTED with LINK-LOST: its power is off, its queues are empty and SLOT-FAULT is raised (R4, R7,
R9, R10, R26, R141). -/
def Obligations.LinkErrorIsCounted : Prop :=
  (∀ (i : Slot) (w : Word) (s : State),
    s.framing i = true → s.settled → (∀ h n c, (s.slot i).port.rx ≠ .inParcel h n c) →
    ((s.slot i).port.windowErrs < 7 →
      (∃ t, exec (.undecodableWord i) s = .next t ∧
        (t.slot i).port = { (s.slot i).port with
          rx := .skip, windowErrs := (s.slot i).port.windowErrs + 1,
          errTotal := Nat.min 65535 ((s.slot i).port.errTotal + 1) } ∧
        KeepsBut [.port] s t ∧ OtherSlots i s t) ∧
      (badMark (markCode w) = true →
        ∃ t, exec (.markWord i w) s = .next t ∧
          (t.slot i).port = { (s.slot i).port with
            windowErrs := (s.slot i).port.windowErrs + 1, errTotal := Nat.min 65535 ((s.slot i).port.errTotal + 1) } ∧
          KeepsBut [.port] s t ∧ OtherSlots i s t) ∧
      ((s.slot i).port.rx = .awaitHeader →
        ∃ t, exec (.bodyWord i w) s = .next t ∧
          (t.slot i).port = { (s.slot i).port with
            rx := .skip, windowErrs := (s.slot i).port.windowErrs + 1,
            errTotal := Nat.min 65535 ((s.slot i).port.errTotal + 1) } ∧
          KeepsBut [.port] s t ∧ OtherSlots i s t)) ∧
    ((s.slot i).port.rx = .skip → exec (.bodyWord i w) s = .next s) ∧
    ((s.slot i).port.windowErrs = 7 → (s.slot i).ing.reception = none →
      ∃ t, exec (.undecodableWord i) s = .next t ∧ (t.slot i).port.link = .down ∧
        (t.slot i).port.errTotal = Nat.min 65535 ((s.slot i).port.errTotal + 1) ∧
        (t.slot i).ctl.phase = .faulted ∧ (t.slot i).ctl.reason = some .linkLost ∧ (t.slot i).ctl.pwrEn = false ∧
        (t.slot i).ctl.timer = none ∧ t.isRaised causeSlotFault i.val = true ∧ (t.slot i).egr.stream = [] ∧
        (t.slot i).egr.control = [] ∧ (t.slot i).egr.bulk = [] ∧ (t.slot i).egr.express = [] ∧
        (t.slot i).cursor.state = .idle ∧
        KeepsBut [.pool, .log, .alarm, .mgmt, .port, .ing, .egr, .ctl, .cursor] s t)) ∧
  ∀ (i : Slot) (w crc : Word) (hw : Header) (m pid : Nat) (r : Reception) (p : Stored) (port : Port) (s : State),
    s.framing i = true → s.settled → (s.slot i).port.rx = .inParcel hw m crc → (s.slot i).port.windowErrs < 7 →
    (s.slot i).ing.reception = some r → r.fate = .passed pid → r.log = none → s.parcel pid = some p →
    p.isOpen = false → 1 ≤ p.refs →
    port = { (s.slot i).port with
      rx := .skip, windowErrs := (s.slot i).port.windowErrs + 1,
      errTotal := Nat.min 65535 ((s.slot i).port.errTotal + 1) } →
    (∃ t, exec (.undecodableWord i) s = .next t ∧ (t.slot i).port = port ∧
      (t.slot i).ing = { (s.slot i).ing with reception := none } ∧ EndsBad i r.hdr.chan pid p s t ∧
      KeepsBut [.port, .ing, .pool, .alarm, .mgmt] s t ∧ OnlyReplies s t ∧ OtherSlots i s t) ∧
    (badMark (markCode w) = true →
      ∃ t, exec (.markWord i w) s = .next t ∧ (t.slot i).port = port ∧
        (t.slot i).ing = { (s.slot i).ing with reception := none } ∧ EndsBad i r.hdr.chan pid p s t ∧
        KeepsBut [.port, .ing, .pool, .alarm, .mgmt] s t ∧ OnlyReplies s t ∧ OtherSlots i s t) ∧
    (∀ h, h = Header.ofWord w → s.isMgmtParcel i h = false → s.isTodParcel i h = false →
      (s.flowAt (i.val * 64 + h.chan.toNat)).valid = false → s.glob.alarmUnknown = false →
      ∃ t, exec (.headerWord i w) s = .next t ∧
        (t.slot i).port = { port with rx := .inParcel h h.len.toNat (crcWord 0xFFFFFFFF#32 w) } ∧
        (∃ x, (t.slot i).ing = { (s.slot i).ing with reception := some x } ∧ x.hdr = h ∧ x.fate = .refused) ∧
        EndsBad i r.hdr.chan pid p s t ∧
        KeepsBut [.port, .ing, .pool, .alarm, .mgmt] s t ∧ OnlyReplies s t ∧ OtherSlots i s t)

/-! ## Ends of parcels (R26 to R32, R40, R42, R67 to R69) -/

/-- Whether a destination takes a copy of a CONTROL or BULK parcel of `b` blocks: it is in the set, queued by R27,
within the queue's limit, and no waiting parcel is pending on that queue (R28, R40). -/
def Takes (s : State) (m : SlotSet) (c : Cls) (b : Nat) (k : Slot) : Bool :=
  hasSlot m k && s.treatment k == .queued && (decide (s.occupancy k c + b ≤ (s.slot k).cfg.limit c) && !s.anyWaits k c)

/-- Whether a destination is blocked for it: queued, and without room (R32). -/
def Blocks (s : State) (m : SlotSet) (c : Cls) (b : Nat) (k : Slot) : Bool :=
  hasSlot m k && s.treatment k == .queued && !(decide (s.occupancy k c + b ≤ (s.slot k).cfg.limit c) && !s.anyWaits k c)

/-- STALL-DISCARD of a parcel from ingress slot `j` at each slot of a set, in ascending order (R32, R35; log entry 38).
-/
def stallEntries (j : Slot) (m : SlotSet) (s : State) : State :=
  (slotsOf m).foldl (fun u d => postEvent causeStallDiscard d.val (wordOf j.val) u) s

/-- The set of the slots that pass a test. -/
def slotsThat (f : Slot → Bool) : SlotSet := allSlots.foldl (fun m k => if f k then addSlot m k else m) 0

/-- BODY_WORD, the check word of a stored CONTROL or BULK parcel with no log record, held by the reception alone or by
more. The treatment of a destination is that of the table of destinations. At a good end every destination that is
queued and has room holds the parcel at the tail of its queue, counted once for each; a slot in rest that wakes on
traffic is WAKING, and a parcel handed over there whose header has not left is handed back, for a parcel that joins is
an occasion for a choice (R49; log entries 12 and 31). With no destination blocked the reception hold is released, and
a parcel that nothing holds returns its blocks. With a destination blocked and the waiting place empty, the parcel
enters it with its pending, enqueued and discarded sets, and the hold request is set; with the waiting place taken, the
reception hold is released likewise, STALL-DISCARD is posted for each blocked slot and the parcel in it is not
disturbed. That the STALL-DISCARD entries go in ascending order of slot is the model's choice (log entry 38). At a bad
end the reception hold is released, no queue takes it and CHECK-FAIL is posted (R26, R27, R28, R32, R39, R40). -/
def Obligations.CheckWordEndsStoredParcel : Prop :=
  (∀ (k : Slot) (s : State), s.treatment k =
    (if (s.slot k).ctl.phase = .draining then .discarded
      else if (s.slot k).ctl.phase = .admitted then
        (if (s.slot k).cfg.manualHold = true ∧ (s.slot k).cfg.policy = .discard then .discarded else .queued)
      else if (s.slot k).ctl.phase = .powering ∨ (s.slot k).ctl.phase = .training then
        (if (s.slot k).cfg.manualHold = false then .undeliverable
          else if (s.slot k).cfg.policy = .queue then .queued else .discarded)
      else .undeliverable)) ∧
  ∀ (i : Slot) (w crc : Word) (hw : Header) (r : Reception) (pid : Nat) (c : Cls) (p : Stored) (n : Nat) (s : State),
    s.framing i = true → s.settled → (s.slot i).port.rx = .inParcel hw 0 crc →
    (s.slot i).ing.reception = some r → r.fate = .passed pid → r.log = none → r.entry.govern = c → c ≠ .stream →
    s.parcel pid = some p → p.isOpen = false → 1 ≤ p.refs →
    (w = ~~~crc → n = (slotsOf (slotsThat (Takes s r.entry.dest c p.nBlocks))).length →
      ∃ t, exec (.bodyWord i w) s = .next t ∧ (t.slot i).port.rx = .awaitHeader ∧ (t.slot i).ing.reception = none ∧
        (∀ k, (t.slot k).egr = (if Takes s r.entry.dest c p.nBlocks k = true
          then ((s.slot k).egr.setQueue c ((s.slot k).egr.queue c ++ [pid])).occasion else (s.slot k).egr)) ∧
        (∀ k, (t.slot k).ctl = (if Takes s r.entry.dest c p.nBlocks k = true ∧ (s.slot k).cfg.wakeOnTraffic = true
          then ((applyWake k s).slot k).ctl else (s.slot k).ctl)) ∧
        (slotsThat (Blocks s r.entry.dest c p.nBlocks) = 0 →
          (t.slot i).ing.waiting = (s.slot i).ing.waiting ∧ (t.slot i).port.holdReq = (s.slot i).port.holdReq ∧
          (1 < p.refs + n → t.parcel pid = some { p with refs := p.refs + n - 1 } ∧ t.alarm = s.alarm ∧
            t.pool.freeCount = s.pool.freeCount) ∧
          (p.refs + n = 1 → t.parcel pid = none ∧ t.pool.freeCount = s.pool.freeCount + p.nBlocks ∧
            (s.isRaised causePoolLow 0 = false → s.glob.lowMark ≤ s.pool.freeCount → t.alarm = s.alarm))) ∧
        (slotsThat (Blocks s r.entry.dest c p.nBlocks) ≠ 0 → (s.slot i).ing.waiting = none →
          (t.slot i).ing.waiting = some
            { pid := pid, cls := c, pending := slotsThat (Blocks s r.entry.dest c p.nBlocks),
              enq := slotsThat (Takes s r.entry.dest c p.nBlocks),
              disc := slotsThat (fun k => hasSlot r.entry.dest k && s.treatment k == .discarded),
              since := s.timing.core, log := none } ∧
          (t.slot i).port.holdReq = true ∧ t.parcel pid = some { p with refs := p.refs + n } ∧ t.alarm = s.alarm ∧
          t.pool.freeCount = s.pool.freeCount) ∧
        (∀ v, slotsThat (Blocks s r.entry.dest c p.nBlocks) ≠ 0 → (s.slot i).ing.waiting = some v →
          (t.slot i).ing.waiting = some v ∧ (t.slot i).port.holdReq = (s.slot i).port.holdReq ∧
          (1 < p.refs + n → t.parcel pid = some { p with refs := p.refs + n - 1 } ∧
            t.alarm = (stallEntries i (slotsThat (Blocks s r.entry.dest c p.nBlocks)) s).alarm ∧
            t.pool.freeCount = s.pool.freeCount) ∧
          (p.refs + n = 1 → t.parcel pid = none ∧ t.pool.freeCount = s.pool.freeCount + p.nBlocks ∧
            (s.isRaised causePoolLow 0 = false → s.glob.lowMark ≤ s.pool.freeCount →
              t.alarm = (stallEntries i (slotsThat (Blocks s r.entry.dest c p.nBlocks)) s).alarm))) ∧
        (∀ k, k ≠ i → (t.slot k).ing = (s.slot k).ing) ∧ (∀ v, v ≠ pid → t.parcel v = s.parcel v) ∧
        KeepsBut [.port, .ing, .egr, .ctl, .pool, .alarm, .mgmt] s t ∧ OnlyReplies s t) ∧
    (w ≠ ~~~crc →
      ∃ t, exec (.bodyWord i w) s = .next t ∧ (t.slot i).port = { (s.slot i).port with rx := .awaitHeader } ∧
        (t.slot i).ing = { (s.slot i).ing with reception := none } ∧ EndsBad i r.hdr.chan pid p s t ∧
        KeepsBut [.port, .ing, .pool, .alarm, .mgmt] s t ∧ OnlyReplies s t ∧ OtherSlots i s t)

/-- The blocks of a list of stored parcels. -/
def blocksSum (s : State) (q : List Nat) : Nat := (q.map s.blocksOf).sum

/-- STREAM-DROP at a slot for each parcel of a list in order, with the parcel's ingress slot as parameter (R42). -/
def dropEntries (d : Slot) (q : List Nat) (s : State) : State :=
  q.foldl (fun u v => postEvent causeStreamDrop d.val (wordOf (((s.parcel v).map (·.owner.val)).getD 0)) u) s

/-- BODY_WORD, the good check word of a STREAM parcel that was not enqueued before, with one destination, which queues
it and has nothing in transmission. The queue's oldest parcels are head-dropped one after another until the parcel
fits, each with a STREAM-DROP, and it joins the tail; when it does not fit in an empty queue it is dropped too, with
one more STREAM-DROP for its own ingress slot. The parcels dropped are held elsewhere, so that no block returns by them
(R27, R28, R30, R42). -/
def Obligations.StreamHeadDropMakesRoom : Prop :=
  ∀ (i d : Slot) (w crc : Word) (hw : Header) (r : Reception) (pid k : Nat) (p : Stored) (q : List Nat) (s : State),
    s.framing i = true → s.settled → (s.slot i).port.rx = .inParcel hw 0 crc → w = ~~~crc →
    (s.slot i).ing.reception = some r → r.fate = .passed pid → r.log = none → r.entry.govern = .stream →
    r.entry.dest = slotBit d → s.parcel pid = some p → p.isOpen = false → p.refs = 1 → s.treatment d = .queued →
    (s.slot d).egr.tx = .idle → q = (s.slot d).egr.stream → q.Nodup → pid ∉ q →
    (∀ v, v ∈ q → ∃ x, s.parcel v = some x ∧ 1 < x.refs ∧ x.isOpen = false) →
    k ≤ q.length → (∀ j, j < k → (s.slot d).cfg.streamLimit < blocksSum s (q.drop j) + p.nBlocks) →
    (k = q.length ∨ blocksSum s (q.drop k) + p.nBlocks ≤ (s.slot d).cfg.streamLimit) →
    ∃ t, exec (.bodyWord i w) s = .next t ∧ (t.slot i).port.rx = .awaitHeader ∧ (t.slot i).ing.reception = none ∧
      (∀ v, v ∈ q.take k → ∃ x, s.parcel v = some x ∧ t.parcel v = some { x with refs := x.refs - 1 }) ∧
      (blocksSum s (q.drop k) + p.nBlocks ≤ (s.slot d).cfg.streamLimit →
        (t.slot d).egr = { (s.slot d).egr with stream := q.drop k ++ [pid] } ∧ t.parcel pid = some p ∧
        t.alarm = (dropEntries d (q.take k) s).alarm ∧ t.pool.freeCount = s.pool.freeCount) ∧
      ((s.slot d).cfg.streamLimit < blocksSum s (q.drop k) + p.nBlocks →
        (t.slot d).egr = { (s.slot d).egr with stream := [] } ∧ t.parcel pid = none ∧
        t.pool.freeCount = s.pool.freeCount + p.nBlocks ∧
        (s.isRaised causePoolLow 0 = false → s.glob.lowMark ≤ s.pool.freeCount →
          t.alarm = (postEvent causeStreamDrop d.val (wordOf i.val) (dropEntries d q s)).alarm)) ∧
      (∀ j, j ≠ d → (t.slot j).egr = (s.slot j).egr) ∧
      KeepsBut [.port, .ing, .egr, .ctl, .pool, .alarm, .mgmt] s t ∧ OnlyReplies s t

/-- BODY_WORD of a STREAM parcel with cut threshold T, with no log record. The T-th payload word opens it: it joins the
STREAM queue of its one destination, which queues it and has room, and the reception's enqueued set is that slot. At
the good check word the open parcel is closed and the reception hold released. At a bad one CHECK-FAIL is posted and
the reception hold is released: a queue whose egress has sent its header keeps it, to be ended early; a queue whose
egress has not loses it at once (R5, R26, R30, R31). That a parcel handed over whose header has not left counts as not
started, so that the choice is void and at a join is handed back, is the model's reading of R50 and R49 (log entries 12
and 31). -/
def Obligations.CutThroughOpensAndEnds : Prop :=
  ∀ (i d : Slot) (w crc : Word) (hw : Header) (r : Reception) (pid : Nat) (p : Stored) (s : State),
    s.framing i = true → s.settled → (s.slot i).ing.reception = some r → r.fate = .passed pid → r.log = none →
    r.entry.govern = .stream → s.parcel pid = some p →
    (∀ m, (s.slot i).port.rx = .inParcel hw (m + 1) crc → r.entry.dest = slotBit d → p.isOpen = false →
      p.words.length + 1 = r.entry.cut.toNat → r.entry.cut.toNat ≤ r.hdr.len.toNat → s.treatment d = .queued →
      s.occupancy d .stream + p.nBlocks ≤ (s.slot d).cfg.streamLimit →
      ∃ t, exec (.bodyWord i w) s = .next t ∧
        t.parcel pid = some { p with words := p.words ++ [w], isOpen := true, refs := p.refs + 1 } ∧
        (t.slot d).egr = { (s.slot d).egr with stream := (s.slot d).egr.stream ++ [pid] }.occasion ∧
        (t.slot i).ing = { (s.slot i).ing with reception := some { r with enq := slotBit d, disc := 0 } } ∧
        (t.slot i).port.rx = .inParcel hw m (crcWord crc w) ∧ (∀ j, j ≠ d → (t.slot j).egr = (s.slot j).egr) ∧
        KeepsBut [.port, .ing, .egr, .ctl, .pool] s t) ∧
    ((s.slot i).port.rx = .inParcel hw 0 crc → w = ~~~crc → p.isOpen = true → 1 < p.refs →
      ∃ t, exec (.bodyWord i w) s = .next t ∧ t.parcel pid = some { p with isOpen := false, refs := p.refs - 1 } ∧
        (t.slot i).ing = { (s.slot i).ing with reception := none } ∧
        (t.slot i).port = { (s.slot i).port with rx := .awaitHeader } ∧
        KeepsBut [.port, .ing, .pool] s t ∧ OtherSlots i s t) ∧
    (∀ q rest, (s.slot i).port.rx = .inParcel hw 0 crc → w ≠ ~~~crc → p.isOpen = true → p.refs = 2 →
      (s.slot d).ctl.phase = .admitted → (s.slot d).egr.stream = pid :: rest →
      (∀ j, j ≠ d → (s.slot j).egr.stream.contains pid = false) →
      (s.slot d).egr.tx = .sending q → q.attached = true → q.origin = .cls .stream → q.pid = pid →
      ∃ t, exec (.bodyWord i w) s = .next t ∧ (t.slot i).ing = { (s.slot i).ing with reception := none } ∧
        (q.headerSent = true → (t.slot d).egr = { (s.slot d).egr with tx := .sending { q with early := true } } ∧
          t.parcel pid = some { p with refs := 1 } ∧
          t.alarm = (postEvent causeCheckFail i.val (wordOf r.hdr.chan.toNat) s).alarm) ∧
        (q.headerSent = false → (t.slot d).egr = { (s.slot d).egr with stream := rest, tx := .idle } ∧
          t.parcel pid = none ∧ t.pool.freeCount = s.pool.freeCount + p.nBlocks ∧
          (s.isRaised causePoolLow 0 = false → s.glob.lowMark ≤ s.pool.freeCount →
            t.alarm = (postEvent causeCheckFail i.val (wordOf r.hdr.chan.toNat) s).alarm)) ∧
        (∀ j, j ≠ d → (t.slot j).egr = (s.slot j).egr) ∧
        KeepsBut [.port, .ing, .egr, .pool, .alarm, .mgmt] s t ∧ OnlyReplies s t)

/-- The crossings of an advance of a ring of a size from index `i` by `f`, in the order of their positions (R69). -/
def crossings (size i f : Nat) : List (Fin 64) :=
  (if i < size / 2 ∧ size / 2 ≤ i + f then [causeRingHalf] else []) ++
  (if i < size ∧ size ≤ i + f then [causeRingWrap] else []) ++
  (if i < size + size / 2 ∧ size + size / 2 ≤ i + f then [causeRingHalf] else [])

/-- BODY_WORD, the check word of a parcel landing in a RING area that fits it: the footprint, with the check-good flag
of its end, goes to the write index and on round the ring, and no other word of parking memory changes. At a good end,
and at a bad one with advance-on-error set, the write index advances by the footprint modulo the ring size, the copy
count rises by 1, the completion fields take the time and the uptime, and with crossing alarms set each crossing is
posted with the new index; else the area stays as it was. A bad end posts CHECK-FAIL, the model's choice before the
crossings (log entry 42). No log record (R61, R63, R64, R67, R68, R69). -/
def Obligations.RingLandingAdvances : Prop :=
  ∀ (i : Slot) (w crc : Word) (hw : Header) (s : State) (r : Reception) (n : Fin 64) (h : Header) (ws : List Word)
    (a : Area),
    s.framing i = true → s.settled → (s.slot i).port.rx = .inParcel hw 0 crc →
    (s.slot i).ing.reception = some r → r.fate = .parked → r.log = none →
    (s.slot i).ing.landing = .landing n h ws false → ws.length = h.len.toNat → a = s.park.areas[n] → a.mode = .ring →
    ws.length + 1 < a.size → a.writeIdx < a.size → a.base + a.size ≤ 32768 →
    ∃ t, exec (.bodyWord i w) s = .next t ∧
      parkRead t.park.mem (a.base + a.writeIdx) = landingWord (decide (w = ~~~crc)) i h ∧
      (∀ j, j < ws.length → parkRead t.park.mem (a.base + (a.writeIdx + 1 + j) % a.size) = ws.getD j 0) ∧
      (∀ b, b < 32768 → (∀ j, j ≤ ws.length → b ≠ a.base + (a.writeIdx + j) % a.size) →
        parkRead t.park.mem b = parkRead s.park.mem b) ∧
      t.park.areas = (if w = ~~~crc ∨ a.advance = true
        then s.park.areas.set n
          { a with
            writeIdx := (a.writeIdx + ws.length + 1) % a.size, copies := (a.copies + 1) % 65536,
            doneSec := s.timing.time.sec, doneNs := s.timing.time.ns, doneUp := s.timing.uptime }
        else s.park.areas) ∧
      t.alarm = ((if (w = ~~~crc ∨ a.advance = true) ∧ a.crossing = true
        then crossings a.size a.writeIdx (ws.length + 1) else []).foldl
        (fun u c => postEvent c n.val (wordOf ((a.writeIdx + ws.length + 1) % a.size)) u)
        (if w = ~~~crc then s else postEvent causeCheckFail i.val (wordOf r.hdr.chan.toNat) s)).alarm ∧
      (t.slot i).port.rx = .awaitHeader ∧ (t.slot i).ing.reception = none ∧ (t.slot i).ing.landing = .clear ∧
      KeepsBut [.port, .ing, .park, .alarm, .mgmt] s t ∧ OnlyReplies s t ∧ OtherSlots i s t

/-! ## The transit log and the alarm queue (R75 to R80, R157 to R163) -/

/-- HEADER_WORD of a logged parcel that its valid entry refuses for its kind, with no report asked for: the log is on,
so a record is reserved at the write index, which advances by 1 modulo the log size while the count rises by 1;
LOG-HALF is posted when the index comes to half the size and LOG-WRAP when it comes to 0, with the count; and the
record is completed REFUSED with reason 2 for a malformed kind or 3 for one not permitted, location 0 and empty sets
(R22, R23, R76, R77, R78). A hand-over for record r with saved count c0 stands when the records reserved since, modulo
2^32, are at most the d places from c0's write index to r: it rewrites the outcome's fields in record r and no other;
else it writes nothing (R79). -/
def Obligations.LogRecordsFollowR79 : Prop :=
  (∀ (i : Slot) (w : Word) (s : State) (h : Header) (e : FlowEntry),
    h = Header.ofWord w → e = s.flowAt (i.val * 64 + h.chan.toNat) →
    s.framing i = true → (∀ h n c, (s.slot i).port.rx ≠ .inParcel h n c) → s.settled →
    s.isMgmtParcel i h = false → s.isTodParcel i h = false → s.logIndexOk →
    e.valid = true → e.log = true → e.alarm = false → s.glob.logEnable = true →
    6 ≤ h.kind.toNat ∨ e.permits h.kind = false →
    ∃ t, exec (.headerWord i w) s = .next t ∧
      t.log.idx = (s.log.idx + 1) % s.glob.logSize ∧ t.log.count = s.log.count + 1 ∧
      assocGet t.log.recs s.log.idx = some
        { outcome := .refused, reason := if 6 ≤ h.kind.toNat then 2 else 3, ingress := i, hdr := h,
          stamp := { sec := s.timing.time.sec % 65536, ns := s.timing.time.ns }, loc := 0, parked := e.park, area := 0,
          enq := 0, second := 0 } ∧
      (∀ k, k ≠ s.log.idx → assocGet t.log.recs k = assocGet s.log.recs k) ∧
      t.alarm = (if t.log.idx = s.glob.logSize / 2 then (postEvent causeLogHalf 0 t.log.count s).alarm
        else if t.log.idx = 0 then (postEvent causeLogWrap 0 t.log.count s).alarm else s.alarm) ∧
      KeepsBut [.port, .ing, .log, .alarm, .mgmt] s t ∧ OnlyReplies s t ∧ OtherSlots i s t) ∧
  ∀ (r d : Nat) (c0 : Word) (h : HandOver) (x : LogRecord) (s : State),
    r < s.glob.logSize → d < s.glob.logSize → (c0.toNat + d) % s.glob.logSize = r → assocGet s.log.recs r = some x →
    ((s.log.count - c0).toNat ≤ d →
      (logHandOver r c0 h s).1 = true ∧
      assocGet (logHandOver r c0 h s).2.log.recs r = some
        { x with
          outcome := h.outcome, reason := h.reason, loc := h.loc, area := if x.parked then h.area else x.area,
          enq := if x.parked then x.enq else h.enq, second := if x.parked then x.second else h.second } ∧
      (∀ k, k ≠ r → assocGet (logHandOver r c0 h s).2.log.recs k = assocGet s.log.recs k) ∧
      KeepsBut [.log] s (logHandOver r c0 h s).2) ∧
    (d < (s.log.count - c0).toNat → logHandOver r c0 h s = (false, s))

/-- The repeat hold-off of a pair's cause has passed since its last posted event, if it has one (R160). -/
def NotHeldOff (s : State) (c : Fin 64) (inst : Nat) : Prop :=
  ∀ x, assocGet s.alarm.track (pairKey c inst) = some x → (s.cause c).holdOff ≤ (s.timing.uptime - x.last).toNat

/-- An event reported for a pair: with its cause disabled nothing happens; within the cause's repeat hold-off of the
pair's last posted event no entry is made, the pair's pending count rises by 1 up to 255 and the cause's suppressed
count by 1 up to 65,535; else an EVENT entry is made with the cause's severity, the pending count as its repeats, the
parameter and the stamp of now, and the pair's last-posted uptime is now with no pending repeats. A raise of a standing
pair that is not raised makes a RAISE entry when the cause is enabled. An entry is written at the write index, which
advances by 1, with the count, and is offered as an ALARM parcel with the count when alarm reporting is on, the
management slot is ADMITTED and AWAKE and the reply queue has room; the entry that takes the index from 127 to 0 is
followed at place 0 by QUEUE-WRAPPED with the count, when that cause is enabled (R153, R157, R159, R160, R161, R163).
-/
def Obligations.EntriesAreMadeAndQueued : Prop :=
  (∀ (c : Fin 64) (inst : Nat) (w : Word) (s : State),
    ((s.cause c).enable = false → postEvent c inst w s = s) ∧
    (∀ u n, (s.cause c).enable = true → assocGet s.alarm.track (pairKey c inst) = some { last := u, pending := n } →
      (s.timing.uptime - u).toNat < (s.cause c).holdOff →
      ∃ t, t = postEvent c inst w s ∧
        assocGet t.alarm.track (pairKey c inst) = some { last := u, pending := Nat.min 255 (n + 1) } ∧
        t.alarm.causes = s.alarm.causes.set c.val
          { s.cause c with suppressed := Nat.min 65535 ((s.cause c).suppressed + 1) } ∧
        t.alarm.queue = s.alarm.queue ∧ t.alarm.idx = s.alarm.idx ∧ t.alarm.count = s.alarm.count ∧
        KeepsBut [.alarm] s t) ∧
    ((s.cause c).enable = true → NotHeldOff s c inst → s.alarm.idx < 127 →
      ∃ t, t = postEvent c inst w s ∧
        assocGet t.alarm.queue s.alarm.idx = some
          { cause := c, inst := inst, action := .event, severity := s.severityOf c inst,
            repeats := ((assocGet s.alarm.track (pairKey c inst)).map (·.pending)).getD 0, param := w,
            stamp := { sec := s.timing.time.sec % 65536, ns := s.timing.time.ns } } ∧
        (∀ k, k ≠ s.alarm.idx → assocGet t.alarm.queue k = assocGet s.alarm.queue k) ∧
        t.alarm.idx = s.alarm.idx + 1 ∧ t.alarm.count = s.alarm.count + 1 ∧
        assocGet t.alarm.track (pairKey c inst) = some { last := s.timing.uptime, pending := 0 } ∧
        KeepsBut [.alarm, .mgmt] s t ∧ OnlyReplies s t) ∧
    (s.isRaised c inst = false → s.alarm.idx < 127 →
      ∃ t, t = raiseCond c inst w s ∧ t.isRaised c inst = true ∧
        assocGet t.alarm.queue s.alarm.idx = (if (s.cause c).enable = true
          then some { cause := c, inst := inst, action := .raise, severity := s.severityOf c inst, repeats := 0,
                      param := w, stamp := { sec := s.timing.time.sec % 65536, ns := s.timing.time.ns } }
          else assocGet s.alarm.queue s.alarm.idx) ∧
        (∀ k, k ≠ s.alarm.idx → assocGet t.alarm.queue k = assocGet s.alarm.queue k) ∧ t.relaysOk ∧
        KeepsBut [.alarm, .mgmt] s t ∧ OnlyReplies s t)) ∧
  (∀ (e : AlarmEntry) (s : State),
    if s.glob.alarmReporting = true ∧ s.isAwake s.mgmtSlot = true ∧
        s.mgmt.replies.length + (if s.mgmt.claim then 1 else 0) < 8 then
      (writeEntry e s).mgmt = { s.mgmt with
        replies := s.mgmt.replies ++ [{ kind := 4, tag := 0, words := (s.alarm.count + 1) :: e.words }] }
    else (writeEntry e s).mgmt = s.mgmt) ∧
  ∀ (c : Fin 64) (inst : Nat) (a : AlarmAction) (n : Nat) (w : Word) (s : State),
    s.alarm.idx = 127 → (s.cause causeQueueWrapped).enable = true →
    ∃ t, t = postEntry c inst a n w s ∧ t.alarm.idx = 1 ∧ t.alarm.count = s.alarm.count + 2 ∧
      assocGet t.alarm.queue 127 = some (makeEntry c inst a n w s) ∧
      ∃ e, assocGet t.alarm.queue 0 = some e ∧ e.cause = causeQueueWrapped ∧ e.inst = 0 ∧ e.action = .event ∧
        e.param = s.alarm.count + 1

/-! ## Marks from the cards and the port's timers (R7, R12, R13, R134, R135) -/

/-- HOLD_OFF with the flag clear sets it and starts the hold-off timer, and with the flag set has no effect; RESUME
with the flag set clears it, stops the timer and clears LINK-HELD, and with the flag clear has no effect (R12, R13);
the clearing is an occasion for a choice, at which a parcel handed over whose header has not left is handed back (R49;
log entries 12 and 31). HOLD_OFF_TIMER_EXPIRY, once the uptime elapsed since the timer's start, modulo 2^32, has
reached the hold-off limit: LINK-HELD is raised, the flag stays set and the timer does not run (R13). AWAKE on a
RESTING link takes it UP; a slot RESTING or WAKING in ADMITTED is AWAKE with its wake timer stopped (R7, R134, R135).
That a WAKE asked for and not sent is withdrawn there is the model's choice (log entry 32). -/
def Obligations.CardMarksAct : Prop :=
  (∀ (i : Slot) (s : State), s.framing i = true →
    (∃ t, exec (.holdOff i) s = .next t ∧
      (t.slot i).port = (if (s.slot i).port.cardHold then (s.slot i).port
        else { (s.slot i).port with cardHold := true, holdTimer := some s.timing.uptime }) ∧
      KeepsBut [.port] s t ∧ OtherSlots i s t) ∧
    (∃ t, exec (.resume i) s = .next t ∧
      ((s.slot i).port.cardHold = false → t = s) ∧
      ((s.slot i).port.cardHold = true →
        (t.slot i).port = { (s.slot i).port with cardHold := false, holdTimer := none } ∧
        (t.slot i).egr = (s.slot i).egr.occasion ∧ t.isRaised causeLinkHeld i.val = false) ∧
      (∀ c m, c ≠ causeLinkHeld → m < 64 → t.isRaised c m = s.isRaised c m) ∧
      KeepsBut [.port, .egr, .alarm, .mgmt] s t ∧ OnlyReplies s t ∧ OtherSlots i s t)) ∧
  (∀ (i : Slot) (u : Uptime) (s : State),
    (s.slot i).port.holdTimer = some u → (s.slot i).cfg.holdOffLimit ≤ (s.timing.uptime - u).toNat →
    ∃ t, exec (.holdOffTimerExpiry i) s = .next t ∧ t.isRaised causeLinkHeld i.val = true ∧
      (t.slot i).port = { (s.slot i).port with holdTimer := none } ∧
      (∀ c m, c ≠ causeLinkHeld → m < 64 → t.isRaised c m = s.isRaised c m) ∧
      KeepsBut [.port, .alarm, .mgmt] s t ∧ OnlyReplies s t ∧ OtherSlots i s t) ∧
  (∀ (i : Slot) (s : State), (s.slot i).port.link = .resting →
    ∃ t, exec (.awake i) s = .next t ∧
      (t.slot i).port = { (s.slot i).port with link := .up, wakeAsked := false } ∧
      (t.slot i).ctl = (if (s.slot i).ctl.phase = .admitted
        then { (s.slot i).ctl with sub := .awake, timer := none } else (s.slot i).ctl) ∧
      KeepsBut [.port, .ctl] s t ∧ OtherSlots i s t)

/-! ## Training (R131 to R133) -/

/-- No waiting place is taken: a change of a slot's state has then no pending parcel to resolve again. -/
def NoneWaits (s : State) : Prop := ∀ j, (s.slot j).ing.waiting = none

/-- TRAIN_ECHO for the exchange in progress, within its wait and before the eighth exchange: its sample is the round
trip less the turnaround and the next exchange is asked for at once; EXCHANGE_WAIT_EXPIRY asks for it without a sample;
and TRAINING_GAP_EXPIRY, 10 ms of uptime after a failed attempt, begins the next attempt. The end of the eighth
exchange ends the attempt. With at least 4 answers, D half the smallest sample rounded down: the slot is ADMITTED with
measured delay D, its link is UP and SLOT-ADMITTED carries D; with D above 10,000 it is FAULTED with DELAY-RANGE. With
fewer answers the gap runs before the third attempt, and the third failure is FAULTED with TRAINING-FAILED. The slot
has no chain started by its admission (R131, R132, R133, R141). -/
def Obligations.TrainingGoesOn : Prop :=
  (∀ (i : Slot) (turn : BitVec 16) (dep : CabTime) (since : Nat) (s : State),
    (s.slot i).port.link = .training → (s.slot i).ctl.phase = .training → s.settled →
    (s.slot i).ctl.train.step = .wait dep since false → s.timing.core - since ≤ 12500 →
    (s.slot i).ctl.train.exchange < 7 → (turn.toNat : Int) ≤ roundTrip s.timing.time dep →
    ∃ t, exec (.trainEcho i (BitVec.ofNat 3 (s.slot i).ctl.train.exchange) turn) s = .next t ∧
      (t.slot i).ctl.train =
        { (s.slot i).ctl.train with
          exchange := (s.slot i).ctl.train.exchange + 1, step := .request,
          samples := (s.slot i).ctl.train.samples ++ [(roundTrip s.timing.time dep - turn.toNat).toNat] } ∧
      (t.slot i).port = { (s.slot i).port with trainReq := some ((s.slot i).ctl.train.exchange + 1) } ∧
      KeepsBut [.port, .ctl] s t ∧ OtherSlots i s t) ∧
  (∀ (i : Slot) (dep : CabTime) (since : Nat) (void : Bool) (s : State),
    (s.slot i).ctl.phase = .training → s.settled → (s.slot i).ctl.train.step = .wait dep since void →
    12500 ≤ s.timing.core - since → (s.slot i).ctl.train.exchange < 7 →
    ∃ t, exec (.exchangeWaitExpiry i) s = .next t ∧
      (t.slot i).ctl.train =
        { (s.slot i).ctl.train with exchange := (s.slot i).ctl.train.exchange + 1, step := .request } ∧
      (t.slot i).port = { (s.slot i).port with trainReq := some ((s.slot i).ctl.train.exchange + 1) } ∧
      KeepsBut [.port, .ctl] s t ∧ OtherSlots i s t) ∧
  (∀ (i : Slot) (u : Uptime) (s : State),
    (s.slot i).ctl.phase = .training → (s.slot i).ctl.timer = some { kind := .gap, start := u } →
    10 ≤ (s.timing.uptime - u).toNat →
    ∃ t, exec (.trainingGapExpiry i) s = .next t ∧
      (t.slot i).ctl = { (s.slot i).ctl with
        timer := none,
        train := { attempt := (s.slot i).ctl.train.attempt + 1, exchange := 0, step := .request, samples := [] } } ∧
      (t.slot i).port = { (s.slot i).port with trainReq := some 0 } ∧
      KeepsBut [.port, .ctl] s t ∧ OtherSlots i s t) ∧
  (∀ (i : Slot) (dep : CabTime) (since : Nat) (void : Bool) (s : State),
    NoneWaits s → s.settled → (s.slot i).ctl.phase = .training → (s.slot i).port.link = .training →
    (s.slot i).ing.reception = none → (s.slot i).ctl.train.step = .wait dep since void →
    12500 ≤ s.timing.core - since → (s.slot i).ctl.train.exchange = 7 →
    (∀ m, m ∈ (s.slot i).ctl.train.samples → (∀ x, x ∈ (s.slot i).ctl.train.samples → m ≤ x) →
      4 ≤ (s.slot i).ctl.train.samples.length →
      (m / 2 ≤ 10000 → (s.slot i).cfg.chainAuto = false →
        ∃ t, exec (.exchangeWaitExpiry i) s = .next t ∧
          (t.slot i).ctl = { (s.slot i).ctl with
            phase := .admitted, sub := .awake, restReq := false, timer := none, train := Training.none, reason := none,
            delay := m / 2, lastAnswers := (s.slot i).ctl.train.samples.length } ∧
          (t.slot i).port = { (s.slot i).port with link := .up, trainReq := none } ∧
          t.alarm = (postEvent causeSlotAdmitted i.val (wordOf (m / 2)) s).alarm ∧
          KeepsBut [.port, .ctl, .edges, .alarm, .mgmt] s t ∧ OnlyReplies s t ∧ OtherSlots i s t) ∧
      (10000 < m / 2 →
        ∃ t, exec (.exchangeWaitExpiry i) s = .next t ∧ (t.slot i).ctl.phase = .faulted ∧
          (t.slot i).ctl.reason = some .delayRange ∧ (t.slot i).ctl.pwrEn = false ∧ (t.slot i).port.link = .down ∧
          t.isRaised causeSlotFault i.val = true)) ∧
    ((s.slot i).ctl.train.samples.length < 4 →
      ((s.slot i).ctl.train.attempt < 3 →
        ∃ t, exec (.exchangeWaitExpiry i) s = .next t ∧
          (t.slot i).ctl = { (s.slot i).ctl with
            lastAnswers := (s.slot i).ctl.train.samples.length,
            train := { (s.slot i).ctl.train with step := .gap },
            timer := some { kind := .gap, start := s.timing.uptime } } ∧
          KeepsBut [.ctl] s t ∧ OtherSlots i s t) ∧
      (3 ≤ (s.slot i).ctl.train.attempt →
        ∃ t, exec (.exchangeWaitExpiry i) s = .next t ∧ (t.slot i).ctl.phase = .faulted ∧
          (t.slot i).ctl.reason = some .trainingFailed ∧ (t.slot i).ctl.pwrEn = false ∧
          (t.slot i).port.link = .down ∧ t.isRaised causeSlotFault i.val = true)))

/-! ## Requests and time-of-day (R172, R100) -/

/-- MGMT_REQUEST, where the management slot's link frames words: with fewer than 4 requests queued it joins the tail;
with 4 queued it is discarded, and answered BUSY with its tag when the reply queue holds fewer than 8 parcels (R172).
TIME_OF_DAY_PARCEL of two words or more: each reference whose record names the slot stages the 48-bit value of the low
16 bits of word 0 and the 32 bits of word 1, in place of what it had staged (R100). That each stands for the good end
of a whole parcel, and leaves the receive state and a parcel in reception as they are, is the model's choice (log entry
15). -/
def Obligations.DivertedParcelsAreTaken : Prop :=
  (∀ (tag : BitVec 8) (ws : List Word) (s : State), ws.length ≤ 255 → s.framing s.mgmtSlot = true →
    ∃ t, exec (.mgmtRequest tag ws) s = .next t ∧
      (s.mgmt.queue.length < 4 →
        t.mgmt = { s.mgmt with queue := s.mgmt.queue ++ [{ tag := tag, words := ws }] } ∧ KeepsBut [.mgmt] s t) ∧
      (4 ≤ s.mgmt.queue.length → s.mgmt.replies.length < 8 → s.mgmt.claim = false →
        t.mgmt = { s.mgmt with
          replies := s.mgmt.replies ++
            [ReplyParcel.mk 5 tag [1#8 ++ (ws.getD 0 0).extractLsb' 24 8 ++ 0#16]] } ∧
        KeepsBut [.mgmt, .port, .ctl] s t ∧ OtherSlots s.mgmtSlot s t) ∧
      (4 ≤ s.mgmt.queue.length → 8 ≤ s.mgmt.replies.length → t = s)) ∧
  (∀ (i : Slot) (w0 w1 : Word) (rest : List Word) (s : State), rest.length ≤ 253 → s.framing i = true →
    ∃ t, exec (.timeOfDayParcel i (w0 :: w1 :: rest)) s = .next t ∧
      (∀ r, t.timing.ref r = (if (s.timing.ref r).cfg.slot = i.val
        then { s.timing.ref r with staged := some (w0.toNat % 65536 * 4294967296 + w1.toNat) }
        else s.timing.ref r)) ∧
      { t.timing with refA := s.timing.refA, refB := s.timing.refB } = s.timing ∧ KeepsBut [.timing] s t)


/-! ## The waiting place (R33, R35, R36) -/

/-- The waiting place of slot j is the oldest of those pending on a queue: the earliest core period of entry, and of
equal ones the lowest slot (R33; log entry 29). -/
def OldestPending (s : State) (d : Slot) (c : Cls) (j : Slot) : Prop :=
  s.waitsOn d c j = true ∧ ∀ k, k ≠ j → s.waitsOn d c k = true →
    s.waitingSince j < s.waitingSince k ∨ (s.waitingSince j = s.waitingSince k ∧ j < k)

/-- PENDING_SERVED, for the one waiting parcel pending on a queue, which fits and goes on waiting for another slot: it
joins the queue's tail, its destination moves from the pending set to the enqueued set, and its reference count rises
by 1; a parcel handed over at that slot whose header has not left is handed back (R33, R40, R49; log entries 12 and
31). With several pending, the oldest is served: as above, or, where it waits for no other slot, its wait ends, with
its waiting place empty, its hold request clear and its reference count as it was; then the room left is offered again
in the same way. An oldest one that does not fit leaves all as it is, whatever younger ones would fit (R33, R36, R40).
That the order of entry is by core periods, and that one command apart from the freeing of the room serves all that
fit, is the model's reading (log entries 13 and 29). STALL_TIMER_EXPIRY, once the stall time has passed in core
periods: the wait ends. The waiting place is empty, the hold request is clear and the waiting hold is released: a
parcel that queues still hold counts one hold fewer, one that nothing else holds returns its blocks, where POOL-LOW may
be cleared. STALL-DISCARD is posted for each slot still pending; that these go in ascending order of slot is the
model's choice (R35, R36, R39, R43; log entry 38). -/
def Obligations.WaitingPlacesEmpty : Prop :=
  (∀ (d j : Slot) (c : Cls) (w : Waiting) (p : Stored) (s : State),
    (s.slot j).ing.waiting = some w → w.cls = c → hasSlot w.pending d = true → delSlot w.pending d ≠ 0 →
    (∀ k, k ≠ j → s.waitsOn d c k = false) → s.parcel w.pid = some p →
    s.occupancy d c + p.nBlocks ≤ (s.slot d).cfg.limit c →
    ∃ t, exec (.pendingServed d c) s = .next t ∧
      (t.slot d).egr = ((s.slot d).egr.setQueue c ((s.slot d).egr.queue c ++ [w.pid])).occasion ∧
      (∀ k, (t.slot k).ing = (if k = j
        then { (s.slot j).ing with
          waiting := some { w with pending := delSlot w.pending d, enq := addSlot w.enq d } }
        else (s.slot k).ing)) ∧
      t.parcel w.pid = some { p with refs := p.refs + 1 } ∧ t.pool.freeCount = s.pool.freeCount ∧
      (∀ k, k ≠ d → (t.slot k).egr = (s.slot k).egr ∧ (t.slot k).ctl = (s.slot k).ctl) ∧
      KeepsBut [.egr, .ing, .pool, .port, .ctl] s t) ∧
  (∀ (d j : Slot) (c : Cls) (w : Waiting) (p : Stored) (s : State),
    OldestPending s d c j → (s.slot j).ing.waiting = some w → s.parcel w.pid = some p →
    ((s.slot d).cfg.limit c < s.occupancy d c + p.nBlocks → exec (.pendingServed d c) s = .next s) ∧
    (∀ u, u = serveWaiter d c j w s → s.occupancy d c + p.nBlocks ≤ (s.slot d).cfg.limit c → 1 ≤ p.refs →
      ∃ t, exec (.pendingServed d c) s = .next t ∧ exec (.pendingServed d c) u = .next t ∧
        (u.slot d).egr = ((s.slot d).egr.setQueue c ((s.slot d).egr.queue c ++ [w.pid])).occasion ∧
        (u.slot j).ing.waiting = (if delSlot w.pending d = 0 then none
          else some { w with pending := delSlot w.pending d, enq := addSlot w.enq d }) ∧
        (∀ k, k ≠ j → (u.slot k).ing = (s.slot k).ing) ∧
        (u.slot j).port.holdReq = (if delSlot w.pending d = 0 then false else (s.slot j).port.holdReq) ∧
        u.parcel w.pid = some (if delSlot w.pending d = 0 then p else { p with refs := p.refs + 1 }) ∧
        u.pool.freeCount = s.pool.freeCount ∧
        (∀ k, k ≠ d → (u.slot k).egr = (s.slot k).egr ∧ (u.slot k).ctl = (s.slot k).ctl) ∧
        (w.log = none → u.log = s.log) ∧ KeepsBut [.egr, .ing, .pool, .log, .port, .ctl] s u)) ∧
  (∀ (j : Slot) (w : Waiting) (p : Stored) (s : State),
    (s.slot j).ing.waiting = some w → (s.slot j).cfg.stallTime * 125 ≤ s.timing.core - w.since →
    s.parcel w.pid = some p → 1 ≤ p.refs →
    ∃ t, exec (.stallTimerExpiry j) s = .next t ∧
      (t.slot j).ing = { (s.slot j).ing with waiting := none } ∧
      (t.slot j).port = { (s.slot j).port with holdReq := false } ∧
      (1 < p.refs → t.parcel w.pid = some { p with refs := p.refs - 1 } ∧ t.pool.freeCount = s.pool.freeCount ∧
        t.alarm = (stallEntries j w.pending s).alarm) ∧
      (p.refs = 1 → t.parcel w.pid = none ∧ t.pool.freeCount = s.pool.freeCount + p.nBlocks ∧
        (s.isRaised causePoolLow 0 = false → s.glob.lowMark ≤ s.pool.freeCount →
          t.alarm = (stallEntries j w.pending s).alarm)) ∧
      (w.log = none → t.log = s.log) ∧
      KeepsBut [.ing, .port, .pool, .log, .alarm, .mgmt] s t ∧ OnlyReplies s t ∧ OtherSlots j s t)

/-! ## The egress schedulers (R49 to R55) -/

/-- The link of a slot has nothing to send and its scheduler nothing to choose: no parcel handed over, no mark waiting,
and empty queues with a dwell count of 0 where a choice may be made. -/
def QuietSlot (s : State) (j : Slot) : Prop :=
  (s.slot j).egr.tx = .idle ∧ (s.slot j).port.holdReq = (s.slot j).port.announcedHeld ∧
  (s.slot j).ctl.restReq = false ∧ (s.slot j).port.wakeAsked = false ∧ (s.slot j).port.trainReq = none ∧
  (s.mayChoose j = true → (s.slot j).egr.express = [] ∧ (s.slot j).egr.stream = [] ∧ (s.slot j).egr.control = [] ∧
    (s.slot j).egr.bulk = [] ∧ (s.slot j).egr.dwell = 0 ∧ (j = s.mgmtSlot → s.mgmt.replies = []))

/-- A core period in which no advance of the uptime is due and cabinet time does not carry, with every slot but one
quiet and no egress-empty report outstanding. -/
def PlainPeriod (i : Slot) (s : State) : Prop :=
  s.settled ∧ (∀ j, j ≠ i → QuietSlot s j) ∧ s.timing.uptime = BitVec.ofNat 32 (s.timing.core / 125000) ∧
  s.timing.time.inRange ∧ s.timing.adj.natAbs ≤ 6871948 ∧ s.timing.time.ns + 9 < 1000000000

/-- SCHEDULER_CHOICE among CONTROL and BULK, where nothing of a higher place is taken (no STREAM parcel waits, or the
dwell count has reached a limit other than 0): under CONTROL-FIRST the CONTROL head if there is one, else the BULK
head; under ALTERNATE the head of the queue the alternation bit names when both hold a parcel, else the only head. The
parcel stays at the head of its queue. In the next free word slot with no mark waiting its header leaves with the
egress channel, and with that start the dwell count is 0 and the bit names BULK after CONTROL and CONTROL after BULK.
ALTERNATE is the default (R50, R51, R52). That a start is the header's word slot is the model's reading (log entry 12).
-/
def Obligations.ArbitrationChoosesByR51 : Prop :=
  (∀ auto, (SlotSettings.default auto).arb = .alternate) ∧
  ∀ (i : Slot) (c : Cls) (pid : Nat) (p : Stored) (q : TxParcel) (s : State),
    s.mayChoose i = true → (s.slot i).egr.express = [] → (s.slot i).port.cardHold = false →
    (i = s.mgmtSlot → s.mgmt.replies = []) →
    (s.slot i).egr.stream = [] ∨ (s.slot i).cfg.dwellLimit ≠ 0 ∧ (s.slot i).cfg.dwellLimit ≤ (s.slot i).egr.dwell →
    (s.slot i).egr.control ≠ [] ∨ (s.slot i).egr.bulk ≠ [] →
    c = (if (s.slot i).egr.bulk = [] then .control
      else if (s.slot i).egr.control = [] then .bulk
      else if (s.slot i).cfg.arb = .controlFirst then .control
      else if (s.slot i).egr.bulkTurn then .bulk else .control) →
    ((s.slot i).egr.queue c).head? = some pid → s.parcel pid = some p → q = txClass c pid p →
    (∃ t, exec (.schedulerChoice i) s = .next t ∧ (t.slot i).egr = { (s.slot i).egr with tx := .sending q } ∧
      KeepsBut [.egr] s t ∧ OtherSlots i s t) ∧
    (PlainPeriod i s → (s.slot i).port.slotTaken = false → (s.slot i).port.holdReq = (s.slot i).port.announcedHeld →
      ∃ t, exec .cabinetTimeAdvance s = .next t ∧
        (t.slot i).egr = { (s.slot i).egr with
          tx := .sending { q with headerSent := true, crc := crcWord 0xFFFFFFFF#32 q.header },
          dwell := 0, bulkTurn := decide (c = .control) } ∧
        q.header = Header.toWord { p.hdr with chan := p.egress } ∧
        (t.slot i).port = { (s.slot i).port with out := some (.header q.header) } ∧
        (∀ j, j ≠ i → (t.slot j).egr = (s.slot j).egr) ∧ KeepsBut [.timing, .port, .egr] s t)

/-- SCHEDULER_CHOICE takes the head of the express queue before all else; while the card holds the switch off it takes
nothing else; on the management slot the head of the reply queue goes before the class queues; and the head of the
STREAM queue before CONTROL and BULK unless one of these waits and the dwell count has reached a limit other than 0
(R49, R50, R52). The choice stands until the next occasion: with a class parcel handed over whose header has not left a
further SCHEDULER_CHOICE has no effect, but on the management slot where a reply has joined. That a parcel handed over
is not in transmission until its header leaves, and that each occasion hands it back, is the model's reading (log
entries 12 and 31). -/
def Obligations.ChoicesGoByR50 : Prop :=
  ∀ (i : Slot) (s : State),
    (s.mayChoose i = true →
      (∀ x rest, (s.slot i).egr.express = x :: rest →
        ∃ t, exec (.schedulerChoice i) s = .next t ∧ (t.slot i).egr.tx = .sending (txExpress x) ∧
          (t.slot i).egr.express = x :: rest ∧ (t.slot i).egr.bulkTurn = (s.slot i).egr.bulkTurn ∧
          KeepsBut [.egr] s t ∧ OtherSlots i s t) ∧
      ((s.slot i).egr.express = [] → (s.slot i).port.cardHold = true →
        ∃ t, exec (.schedulerChoice i) s = .next t ∧ (t.slot i).egr.tx = .idle ∧ KeepsBut [.egr] s t ∧
          OtherSlots i s t) ∧
      (∀ x rest, (s.slot i).egr.express = [] → (s.slot i).port.cardHold = false → i = s.mgmtSlot →
        s.mgmt.replies = x :: rest →
        ∃ t, exec (.schedulerChoice i) s = .next t ∧ (t.slot i).egr.tx = .sending (txReply x) ∧
          (t.slot i).egr.bulkTurn = (s.slot i).egr.bulkTurn ∧ KeepsBut [.egr] s t ∧ OtherSlots i s t) ∧
      (∀ pid rest p, (s.slot i).egr.express = [] → (s.slot i).port.cardHold = false →
        (i = s.mgmtSlot → s.mgmt.replies = []) → (s.slot i).egr.stream = pid :: rest → s.parcel pid = some p →
        (s.slot i).cfg.dwellLimit = 0 ∨ (s.slot i).egr.dwell < (s.slot i).cfg.dwellLimit ∨
          ((s.slot i).egr.control = [] ∧ (s.slot i).egr.bulk = []) →
        ∃ t, exec (.schedulerChoice i) s = .next t ∧ (t.slot i).egr.tx = .sending (txClass .stream pid p) ∧
          (t.slot i).egr.stream = pid :: rest ∧ (t.slot i).egr.bulkTurn = (s.slot i).egr.bulkTurn ∧
          KeepsBut [.egr] s t ∧ OtherSlots i s t)) ∧
    (∀ q, (s.slot i).egr.tx = .sending q → q.headerSent = false → i ≠ s.mgmtSlot ∨ s.mgmt.replies = [] →
      exec (.schedulerChoice i) s = .next s)

/-- TRANSMISSION_END of a parcel whose header and every payload word have left, in a free word slot with no mark
waiting, on an ADMITTED slot: the check word, the complement of the check register, leaves and the transmit side is
free. A class parcel leaves the head of its queue and the queue's hold is released: the reference count falls by 1, or
the blocks of a parcel that nothing else holds return, where POOL-LOW may be cleared; a STREAM parcel adds its length +
2 to the dwell count, which stops at 65,535. A BULK parcel that a FINISHING chain waits for completes it, with
CHAIN-DONE and the number of parcels made. An express parcel leaves its queue, and a reply, which the management slot
sends, the reply queue (R3, R5, R8, R39, R43, R44, R47, R48, R52, R54, R150). While the header or a payload word has
still to leave, nothing happens, the model's reading of the words of R5 as leaving one by one (log entries 5 and 11).
-/
def Obligations.TransmissionEndRemovesTheHead : Prop :=
  (∀ (i : Slot) (q : TxParcel) (port : Port) (s : State),
    s.settled → (s.slot i).ctl.phase = .admitted → (s.slot i).port.link = .up → (s.slot i).port.slotTaken = false →
    (s.slot i).port.holdReq = (s.slot i).port.announcedHeld → (s.slot i).egr.tx = .sending q → q.attached = true →
    q.early = false → q.headerSent = true → q.sent = q.len →
    port = { (s.slot i).port with out := some (.body (~~~q.crc)), slotTaken := true } →
    (∀ c p rest, q.origin = .cls c → (s.slot i).egr.queue c = q.pid :: rest → s.parcel q.pid = some p →
      p.isOpen = false → 1 ≤ p.refs →
      ∃ t, exec (.transmissionEnd i) s = .next t ∧ (t.slot i).port = port ∧
        (t.slot i).egr = { (s.slot i).egr.setQueue c rest with
          tx := .idle,
          dwell := if c = .stream then Nat.min 65535 ((s.slot i).egr.dwell + q.len + 2) else (s.slot i).egr.dwell } ∧
        (1 < p.refs → t.parcel q.pid = some { p with refs := p.refs - 1 } ∧ t.pool.freeCount = s.pool.freeCount) ∧
        (p.refs = 1 → t.parcel q.pid = none ∧ t.pool.freeCount = s.pool.freeCount + p.nBlocks) ∧
        (∀ k, k ≠ q.pid → t.parcel k = s.parcel k) ∧
        ((s.slot i).cursor.state = .idle → (t.slot i).cursor = (s.slot i).cursor ∧
          (1 < p.refs → t.alarm = s.alarm ∧ t.mgmt = s.mgmt)) ∧
        ((s.slot i).cursor.state = .finishing → (s.slot i).cursor.last = some q.pid →
          (t.slot i).cursor = Cursor.idle ∧ (1 < p.refs →
            t.alarm = (postEvent causeChainDone i.val (wordOf (s.slot i).cursor.made) s).alarm)) ∧
        KeepsBut [.port, .egr, .pool, .cursor, .alarm, .mgmt] s t ∧ OnlyReplies s t ∧ OtherSlots i s t) ∧
    (∀ x rest, q.origin = .express → (s.slot i).egr.express = x :: rest →
      ∃ t, exec (.transmissionEnd i) s = .next t ∧ (t.slot i).port = port ∧
        (t.slot i).egr = { (s.slot i).egr with express := rest, tx := .idle } ∧
        KeepsBut [.port, .egr] s t ∧ OtherSlots i s t) ∧
    (q.origin = .reply → i = s.mgmtSlot →
      ∃ t, exec (.transmissionEnd i) s = .next t ∧ (t.slot i).port = port ∧
        (t.slot i).egr = { (s.slot i).egr with tx := .idle } ∧
        t.mgmt = { s.mgmt with replies := s.mgmt.replies.tail } ∧
        KeepsBut [.port, .egr, .mgmt] s t ∧ OtherSlots i s t)) ∧
  ∀ (i : Slot) (q : TxParcel) (s : State), s.settled → (s.slot i).egr.tx = .sending q →
    q.headerSent = false ∨ q.sent < q.len → exec (.transmissionEnd i) s = .next s

/-- EDGE_DEPARTURE, in a free word slot with no mark waiting: the header of the EDGE parcel handed over leaves, its
departure fields, payload words 4 and 5, take the seconds and nanoseconds of cabinet time, and EDGE-LATE is posted with
the lateness when the departure is later than the edge instant less the path delay. In the core period the parcel was
made in its header does not leave (R55, R118). How times more than half the range of cabinet time apart compare is the
model's choice (log entry 55). -/
def Obligations.EdgeDepartureIsStamped : Prop :=
  ∀ (i : Slot) (q : TxParcel) (x : ExpressParcel) (rest : List ExpressParcel) (n : EdgeNote) (late : Int)
      (s : State),
    (s.slot i).egr.tx = .sending q → q.edge = some n → q.headerSent = false → q.attached = true →
    late = CabTime.diff { s.timing.time with frac := 0 } (n.instant.move (-(n.delay : Int) * 4294967296))
      / 4294967296 →
    (s.timing.core ≤ n.made → exec (.edgeDeparture i) s = .next s) ∧
    (n.made < s.timing.core → (s.slot i).port.link = .up → (s.slot i).port.slotTaken = false →
      (s.slot i).ctl.restReq = false → (s.slot i).port.holdReq = (s.slot i).port.announcedHeld →
      (s.slot i).egr.express = x :: rest →
      ∃ t, exec (.edgeDeparture i) s = .next t ∧
        (t.slot i).egr = { (s.slot i).egr with
          tx := .sending { q with headerSent := true, crc := crcWord 0xFFFFFFFF#32 q.header },
          express := { x with
            words := (x.words.set 4 (wordOf s.timing.time.sec)).set 5 (wordOf s.timing.time.ns) } :: rest } ∧
        (t.slot i).port = { (s.slot i).port with out := some (.header q.header), slotTaken := true } ∧
        t.alarm = (if 0 < late then (postEvent causeEdgeLate i.val (wordOf (Nat.min 4294967295 late.toNat)) s).alarm
          else s.alarm) ∧
        KeepsBut [.egr, .port, .alarm, .mgmt] s t ∧ OnlyReplies s t ∧ OtherSlots i s t)

/-! ## Marks sent (R8, R11, R14, R15, R53) -/

/-- In a free word slot. HOLD_MARK_SENT: while hold request and announced state disagree on a link that frames words,
HOLD-OFF or RESUME leaves and the announced state follows the request. With no such mark waiting: REST_MARK_SENT: with
a rest request and nothing in transmission on a link that is UP, REST leaves, the request clears, the link is RESTING
and a parcel handed over whose header has not left is handed back. WAKE_MARK_SENT: a WAKE asked for leaves a RESTING
link. SUSPEND_SENT, with the one further word gone: SUSPEND leaves and the head of the express queue is taken inside
the bracket. CONTINUE_SENT: CONTINUE leaves and the interrupted parcel goes on, with a further insertion called for
when the express queue still holds a parcel and no rest is requested. TRAIN_REQ_SENT: the request asked for leaves and
the exchange's wait begins at its departure (R8, R11, R14, R15, R53, R131). That REST may go with a parcel handed over
whose header has not left, and hands it back, is the model's reading of R50 (log entry 12). -/
def Obligations.MarksLeave : Prop :=
  ∀ (i : Slot) (s : State), (s.slot i).port.slotTaken = false →
    (s.framing i = true → (s.slot i).port.holdReq ≠ (s.slot i).port.announcedHeld →
      ∃ t, exec (.holdMarkSent i) s = .next t ∧
        (t.slot i).port = { (s.slot i).port with
          announcedHeld := (s.slot i).port.holdReq, slotTaken := true,
          out := some (.mark (if (s.slot i).port.holdReq then 0x01000000#32 else 0x02000000#32)) } ∧
        KeepsBut [.port] s t ∧ OtherSlots i s t) ∧
    ((s.slot i).ctl.restReq = true → (s.slot i).port.link = .up → (s.slot i).egr.tx.free = true →
      (s.slot i).port.holdReq = (s.slot i).port.announcedHeld →
      ∃ t, exec (.restMarkSent i) s = .next t ∧
        (t.slot i).port = { (s.slot i).port with
          link := .resting, slotTaken := true, out := some (.mark 0x07000000#32) } ∧
        (t.slot i).ctl = { (s.slot i).ctl with restReq := false } ∧
        (t.slot i).egr = { (s.slot i).egr with tx := .idle } ∧
        KeepsBut [.port, .ctl, .egr] s t ∧ OtherSlots i s t) ∧
    ((s.slot i).port.wakeAsked = true → (s.slot i).port.link = .resting →
      (s.slot i).port.holdReq = (s.slot i).port.announcedHeld →
      ∃ t, exec (.wakeMarkSent i) s = .next t ∧
        (t.slot i).port = { (s.slot i).port with
          wakeAsked := false, slotTaken := true, out := some (.mark 0x08000000#32) } ∧
        KeepsBut [.port] s t ∧ OtherSlots i s t) ∧
    (∀ q x rest, (s.slot i).egr.tx = .insertCalled q .suspendDue → (s.slot i).egr.express = x :: rest →
      (s.slot i).port.holdReq = (s.slot i).port.announcedHeld →
      ∃ t, exec (.suspendSent i) s = .next t ∧
        (t.slot i).egr = { (s.slot i).egr with tx := .bracket q (txExpress x) } ∧
        (t.slot i).port = { (s.slot i).port with slotTaken := true, out := some (.mark 0x03000000#32) } ∧
        KeepsBut [.egr, .port] s t ∧ OtherSlots i s t) ∧
    (∀ q, (s.slot i).egr.tx = .continueDue q → (s.slot i).port.holdReq = (s.slot i).port.announcedHeld →
      ∃ t, exec (.continueSent i) s = .next t ∧
        (t.slot i).egr = { (s.slot i).egr with
          tx := if (s.slot i).egr.express ≠ [] ∧ q.interruptible = true ∧ (s.slot i).ctl.restReq = false
            then .insertCalled q q.insertMode else .sending q } ∧
        (t.slot i).port = { (s.slot i).port with slotTaken := true, out := some (.mark 0x04000000#32) } ∧
        KeepsBut [.egr, .port] s t ∧ OtherSlots i s t) ∧
    (∀ k, (s.slot i).port.trainReq = some k → (s.slot i).port.link = .training → (s.slot i).ctl.phase = .training →
      ∃ t, exec (.trainReqSent i) s = .next t ∧
        (t.slot i).port = { (s.slot i).port with
          trainReq := none, slotTaken := true,
          out := some (.mark (0x05#8 ++ 0#5 ++ BitVec.ofNat 3 k ++ 0#16)) } ∧
        (t.slot i).ctl = { (s.slot i).ctl with
          train := { (s.slot i).ctl.train with step := .wait s.timing.time s.timing.core false } } ∧
        KeepsBut [.port, .ctl] s t ∧ OtherSlots i s t)

/-- One word leaves a port in a word slot. In a slot that a word has taken, none of the commands that send a word has
an effect. A core period passes one word slot: a taken slot keeps its word and the next is free; in a free one a
HOLD-OFF or RESUME that waits leaves, and with no mark waiting the next payload word of the parcel in transmission
leaves, fed into the check register (R1, R3, R5, R8). That a mark or a word still due leaves in the core period itself
is the model's choice (log entry 10). The other slots have nothing to send. -/
def Obligations.WordSlotsCarryOneWord : Prop :=
  (∀ (i : Slot) (s : State), (s.slot i).port.slotTaken = true →
    (∀ c, c ∈ [Instr.edgeDeparture i, .holdMarkSent i, .restMarkSent i, .trainReqSent i, .suspendSent i,
        .continueSent i, .wakeMarkSent i] → exec c s = .next s) ∧
    (s.settled → (s.slot i).egr.tx ≠ .idle → exec (.transmissionEnd i) s = .next s)) ∧
  ∀ (i : Slot) (s : State), PlainPeriod i s → (s.slot i).egr.tx = .idle ∨ s.mayChoose i = false →
    ((s.slot i).port.slotTaken = true →
      ∃ t, exec .cabinetTimeAdvance s = .next t ∧ (t.slot i).port = { (s.slot i).port with slotTaken := false } ∧
        (s.mayChoose i = false → KeepsBut [.timing, .port] s t) ∧ KeepsBut [.timing, .port, .egr] s t) ∧
    ((s.slot i).port.slotTaken = false → s.framing i = true →
      (s.slot i).port.holdReq ≠ (s.slot i).port.announcedHeld →
      ∃ t, exec .cabinetTimeAdvance s = .next t ∧
        (t.slot i).port = { (s.slot i).port with
          announcedHeld := (s.slot i).port.holdReq,
          out := some (.mark (if (s.slot i).port.holdReq then 0x01000000#32 else 0x02000000#32)) } ∧
        (s.mayChoose i = false → KeepsBut [.timing, .port] s t) ∧ KeepsBut [.timing, .port, .egr] s t) ∧
    (∀ q, (s.slot i).port.slotTaken = false → (s.slot i).port.link = .up →
      (s.slot i).port.holdReq = (s.slot i).port.announcedHeld → (s.slot i).egr.tx = .sending q → q.headerSent = true →
      q.sent < q.len → s.txReady i q = true →
      ∃ t, exec .cabinetTimeAdvance s = .next t ∧
        (t.slot i).port = { (s.slot i).port with out := some (.body (s.txNext i q)) } ∧
        (t.slot i).egr = { (s.slot i).egr with
          tx := .sending { q with sent := q.sent + 1, crc := crcWord q.crc (s.txNext i q) } } ∧
        (∀ j, j ≠ i → (t.slot j).egr = (s.slot j).egr) ∧ KeepsBut [.timing, .port, .egr] s t)

/-! ## Time (R85, R87, R10, R120) -/

/-- CABINET_TIME_ADVANCE: cabinet time moves by 8 ns + D × 2^-32 ns and stays in range, and one core period is counted;
D, I, F, the loop and the references stay as they were. With nothing to send on any link and no carry, nothing else
changes but the ports, each of which sends IDLE, or nothing in RESTING, in a word slot still free. SECOND_CARRY is that
core period where the advance carries into the seconds: the seconds rise by 1 modulo 2^48; and with nothing to send on
any link a slot that is time-enrolled, ADMITTED and AWAKE is given a TIME parcel: channel 62 and the payload seconds,
loop state, selected reference, F in whole ppb rounded toward zero, and holdover seconds; a slot that is not enrolled
is given none. It has no effect where the advance does not carry. The amount is stated for a D of at most 6,871,948 in
magnitude and a time in range. UPTIME_ADVANCE, with an advance due after a further 125,000 core periods: the uptime
rises by 1, wrapping at 2^32, and every window count returns to 0; with none due it has no effect (R1, R8, R10, R85,
R87, R116, R120). That SECOND_CARRY counts as the core period that carries is the model's reading (log entry 9), and
that an advance of the uptime still due is taken by the next core period its choice (log entry 8). -/
def Obligations.CoreTimeAdvances : Prop :=
  (∀ s : State, s.timing.time.inRange → s.timing.adj.natAbs ≤ 6871948 →
    (∃ t, exec .cabinetTimeAdvance s = .next t ∧ t.timing.time.inRange ∧
      t.timing.time.total =
        (((s.timing.time.total : Int) + 8 * 4294967296 + s.timing.adj) % (timeModulus : Int)).toNat ∧
      t.timing = { s.timing with
        time := t.timing.time, core := s.timing.core + 1,
        uptime := if s.timing.uptime = BitVec.ofNat 32 (s.timing.core / 125000) then s.timing.uptime
          else s.timing.uptime + 1 } ∧
      (s.settled → (∀ j, QuietSlot s j) → s.timing.time.ns + 9 < 1000000000 →
        KeepsBut [.timing, .port] s t ∧
        ∀ j, (t.slot j).port = { (s.slot j).port with
          slotTaken := false,
          out := if (s.slot j).port.slotTaken = true then (s.slot j).port.out
            else if (s.slot j).port.link = .resting then none else some (.mark 0#32),
          windowErrs := if s.timing.uptime = BitVec.ofNat 32 (s.timing.core / 125000) then (s.slot j).port.windowErrs
            else 0 })) ∧
    (s.timing.time.carries s.timing.adj = true →
      ∃ t, exec .secondCarry s = .next t ∧
        t.timing.time.sec = (s.timing.time.sec + 1) % 281474976710656 ∧ t.timing.time.ns < 9 ∧
        t.timing.core = s.timing.core + 1 ∧
        (s.settled → (∀ j, QuietSlot s j) →
          (∀ i, ((s.slot i).cfg.timeEnrol = true → s.isAwake i = true → (s.slot i).egr.express = [] →
              (t.slot i).egr.express =
                [{ chan := 62,
                   words := [wordOf (t.timing.time.sec / 4294967296), wordOf t.timing.time.sec,
                     wordOf s.timing.loop.code, wordOf s.timing.sel.code, wordOfInt (s.timing.freq.tdiv 65536),
                     wordOf t.holdoverSeconds],
                   edge := none }]) ∧
            ((s.slot i).cfg.timeEnrol = false → (t.slot i).egr = (s.slot i).egr)) ∧
          KeepsBut [.timing, .port, .egr, .alarm, .mgmt] s t ∧ OnlyReplies s t)) ∧
    (s.timing.time.carries s.timing.adj = false → exec .secondCarry s = .next s)) ∧
  ∀ s : State,
    (s.timing.uptime ≠ BitVec.ofNat 32 (s.timing.core / 125000) →
      ∃ t, exec .uptimeAdvance s = .next t ∧
        t.timing = { s.timing with uptime := s.timing.uptime + 1 } ∧
        (∀ i, (t.slot i).port = { (s.slot i).port with windowErrs := 0 }) ∧ KeepsBut [.timing, .port] s t) ∧
    (s.timing.uptime = BitVec.ofNat 32 (s.timing.core / 125000) → exec .uptimeAdvance s = .next s)

/-! ## References and the loop (R90 to R106) -/

/-- An integer is the quotient of two numbers rounded in a mode: within one of the quotient, exact when the quotient is
an integer, on the side the mode names, and in NEAREST-EVEN the nearer one, at a tie the even one (R104). -/
def RoundsTo (m : Rounding) (num den q : Int) : Prop :=
  (q * den - num).natAbs < den ∧ (m = .up → num ≤ q * den) ∧ (m = .down → q * den ≤ num) ∧
  (m = .towardZero → (q * den).natAbs ≤ num.natAbs) ∧
  (m = .nearestEven → 2 * (q * den - num).natAbs ≤ den ∧ (2 * (q * den - num).natAbs = den → q % 2 = 0))

/-- The lag of a processed pulse: with x = offset − captured nanoseconds, 1,000,000,000 is taken from x while it is
500,000,000 or more and added while it is below −500,000,000; L is an integer from −500,000,000 to 499,999,999. The
shift of L by k places is L × 2^(16 − k) for a k of at most 16, and L / 2^(k − 16) rounded in the mode above that. The
increment adjustment of F is F × 524,288 / 10^9 rounded in the mode, and never beyond 6,871,948 for an F within the
largest bound (R102, R104, R105). -/
def Obligations.LagAndAdjustment : Prop :=
  (∀ (offset : Int) (ns : Nat),
    -500000000 ≤ lagOf offset ns ∧ lagOf offset ns ≤ 499999999 ∧
    ∃ k : Int, lagOf offset ns = offset - ns - k * 1000000000) ∧
  (∀ (m : Rounding) (lag : Int) (k : Nat),
    (k ≤ 16 → shiftBy m lag k = lag * 2 ^ (16 - k)) ∧ (16 < k → RoundsTo m lag (2 ^ (k - 16)) (shiftBy m lag k))) ∧
  ∀ (m : Rounding) (f : Int),
    RoundsTo m (f * 524288) 1000000000 (adjOf m f) ∧ (f.natAbs ≤ 13107200000 → (adjOf m f).natAbs ≤ 6871948)

/-- REFERENCE_PULSE, a captured pulse of a reference that is not selected. With no accepted capture, or one that
follows by more than 1,001,000,000 ns, it is accepted and the run count is 1; one that follows within 999,000,000 to
1,001,000,000 ns raises the run count, which stops at 15. An accepted pulse is the remembered capture without its
fraction, and a staged value is set aside; nothing else changes where the reference is qualified or the run stays below
Q. One nearer than 999,000,000 ns counts as early and changes nothing else. One in the window that brings the run of an
unqualified reference to Q qualifies it: REF-LOSS is cleared and selection is judged: NONE when no reference is
preferred; a selected reference still qualified when revertive is no; else the preferred reference if qualified, else
the other if qualified, else NONE. With the selection unchanged nothing else changes but the reference's own fields;
with a reference newly selected the loop is ACQUIRING with lock count 0, from FREE or HOLDOVER with HOLDOVER and
FREE-RUN cleared and the holdover timer stopped, and the pulse is not processed: cabinet time, I, F and D are kept
(R91, R92, R95, R97, R99). That a command captures for the named reference alone, where both records name its line too,
and leaves the line's level as it was, is the model's choice (log entry 18). -/
def Obligations.PulsesAreJudged : Prop :=
  ∀ (r : RefId) (gap : Int) (s : State), s.captures r = true → s.timing.sel ≠ refSel r → 2 ≤ s.timing.cfg.qualCount →
    ((s.timing.ref r).last = none ∨
        (s.timing.ref r).last.map (CabTime.diff { s.timing.time with frac := 0 }) = some gap ∧
          1001000000 * 4294967296 < gap →
      ∃ t, exec (.referencePulse r) s = .next t ∧
        t.timing.ref r = { s.timing.ref r with
          run := 1, last := some { s.timing.time with frac := 0 }, staged := none } ∧
        t.timing = s.timing.setRef r (t.timing.ref r) ∧ KeepsBut [.timing] s t) ∧
    ((s.timing.ref r).last.map (CabTime.diff { s.timing.time with frac := 0 }) = some gap →
      (gap < 999000000 * 4294967296 →
        ∃ t, exec (.referencePulse r) s = .next t ∧
          t.timing.ref r = { s.timing.ref r with early := Nat.min 65535 ((s.timing.ref r).early + 1) } ∧
          t.timing = s.timing.setRef r (t.timing.ref r) ∧ KeepsBut [.timing] s t) ∧
      (999000000 * 4294967296 ≤ gap → gap ≤ 1001000000 * 4294967296 →
        (s.timing.ref r).qualified = true ∨ Nat.min 15 ((s.timing.ref r).run + 1) < s.timing.cfg.qualCount →
        ∃ t, exec (.referencePulse r) s = .next t ∧
          t.timing.ref r = { s.timing.ref r with
            run := Nat.min 15 ((s.timing.ref r).run + 1), last := some { s.timing.time with frac := 0 },
            staged := none } ∧
          t.timing = s.timing.setRef r (t.timing.ref r) ∧ KeepsBut [.timing] s t) ∧
      (∀ (n : Nat) (x : Reference) (q : Sel → Bool) (sel : Sel),
        999000000 * 4294967296 ≤ gap → gap ≤ 1001000000 * 4294967296 → (s.timing.ref r).qualified = false →
        n = Nat.min 15 ((s.timing.ref r).run + 1) → s.timing.cfg.qualCount ≤ n →
        x = { s.timing.ref r with
          qualified := true, run := n, last := some { s.timing.time with frac := 0 }, staged := none } →
        q = (fun y => y == refSel r || s.timing.selQualified y) →
        sel = (if s.timing.cfg.preferred = .none then .none
          else if s.timing.cfg.revertive = false ∧ q s.timing.sel = true then s.timing.sel
          else if q s.timing.cfg.preferred = true then s.timing.cfg.preferred
          else if q s.timing.cfg.preferred.other = true then s.timing.cfg.preferred.other else .none) →
        ∃ t, exec (.referencePulse r) s = .next t ∧ t.isRaised causeRefLoss (refNum r) = false ∧
          (sel = s.timing.sel → t.timing = s.timing.setRef r x) ∧
          (sel ≠ s.timing.sel → sel ≠ .none →
            t.timing = { s.timing.setRef r x with
              sel := sel, loop := .acquiring, lock := 0,
              holdover := if s.timing.loop = .free ∨ s.timing.loop = .holdover then none else s.timing.holdover } ∧
            (s.timing.loop = .free ∨ s.timing.loop = .holdover →
              t.isRaised causeHoldover 0 = false ∧ t.isRaised causeFreeRun 0 = false)) ∧
          KeepsBut [.timing, .alarm, .mgmt] s t ∧ OnlyReplies s t))

/-- The first entry a command posts for a pair, its cause enabled and not held off, with a parameter. -/
def PostsFirst (c : Fin 64) (inst : Nat) (param : Word) (s t : State) : Prop :=
  (s.cause c).enable = true → NotHeldOff s c inst → s.alarm.idx < 120 →
    ∃ e, assocGet t.alarm.queue s.alarm.idx = some e ∧ e.cause = c ∧ e.inst = inst ∧ e.action = .event ∧ e.param = param

/-- REFERENCE_PULSE, an accepted pulse of the selected reference in ACQUIRING or LOCKED. With a lag within the step
threshold, or in LOCKED with step-in-lock set to no, the loop slews: I becomes I plus the shift of L by ki, and F the
shift of L by kp plus the new I, each clamped to ±B, with one FREQ-LIMIT of F in whole ppb where a clamp replaced a
value; D is recomputed. With a lag within the lock window the lock count rises by 1, stopping at 255, and ACQUIRING
becomes LOCKED when it reaches N; with one outside it the lock count is 0 and LOCKED becomes ACQUIRING. With no staged
value cabinet time is not moved; with one that differs from the boundary seconds by d, as a signed 48-bit number, it
moves by d seconds and SECONDS-MISMATCH carries d within 32 bits; the staged value is gone either way. With a lag above
the step threshold, in ACQUIRING or with step-in-lock set to yes, the loop steps: cabinet time moves by L ns, and with
it the remembered captures of both references; I is kept, F is I, D is recomputed, the lock count is 0, LOCKED becomes
ACQUIRING when the lag is outside the window and TIME-STEP carries L; the next edge instant is found afresh (R86, R99,
R101 to R106). That a command captures for the named reference alone, where both records name its line too, and leaves
the line's level as it was, is the model's choice (log entry 18). -/
def Obligations.SlewFollowsTheLag : Prop :=
  ∀ (r : RefId) (c cap : CabTime) (b lag i0 i1 f0 f1 : Int) (lock run : Nat) (loop : LoopState) (s : State),
    s.captures r = true → s.timing.sel = refSel r → (s.timing.ref r).qualified = true →
    (s.timing.ref r).last = some c → s.timing.loop = .acquiring ∨ s.timing.loop = .locked →
    cap = { s.timing.time with frac := 0 } → 999000000 * 4294967296 ≤ cap.diff c →
    run = (if cap.diff c ≤ 1001000000 * 4294967296 then Nat.min 15 ((s.timing.ref r).run + 1) else 1) →
    lag = lagOf (s.timing.ref r).cfg.offset s.timing.time.ns → b = s.timing.cfg.fmax * 65536 →
    i0 = s.timing.intg + shiftBy s.timing.cfg.rounding lag s.timing.cfg.ki → i1 = max (-b) (min b i0) →
    f0 = shiftBy s.timing.cfg.rounding lag s.timing.cfg.kp + i1 → f1 = max (-b) (min b f0) →
    lock = (if lag.natAbs ≤ s.timing.cfg.lockWindow then Nat.min 255 (s.timing.lock + 1) else 0) →
    loop = (if s.timing.cfg.lockWindow < lag.natAbs then .acquiring
      else if s.timing.cfg.lockCount ≤ lock then .locked else s.timing.loop) →
    (lag.natAbs ≤ s.timing.cfg.stepThreshold ∨ (s.timing.loop = .locked ∧ s.timing.cfg.stepInLock = false) →
      ((s.timing.ref r).staged = none →
        ∃ t, exec (.referencePulse r) s = .next t ∧
          t.timing = { s.timing.setRef r { s.timing.ref r with run := run, last := some cap } with
            intg := i1, freq := f1, adj := adjOf s.timing.cfg.rounding f1, lock := lock, loop := loop } ∧
          (i1 ≠ i0 ∨ f1 ≠ f0 → PostsFirst causeFreqLimit 0 (wordOfInt (f1.tdiv 65536)) s t) ∧
          (i1 = i0 → f1 = f0 → loop = s.timing.loop → t.alarm = s.alarm) ∧
          KeepsBut [.timing, .alarm, .mgmt] s t ∧ OnlyReplies s t) ∧
      (∀ (v : Nat) (d : Int), (s.timing.ref r).staged = some v →
        d = (BitVec.ofInt 48 ((v : Int) - ((s.timing.time.sec * 1000000000 + s.timing.time.ns : Nat) + lag
          - (s.timing.ref r).cfg.offset) / 1000000000)).toInt →
        ∃ t, exec (.referencePulse r) s = .next t ∧ (t.timing.ref r).staged = none ∧
          t.timing.time = (if d = 0 then s.timing.time else s.timing.time.move (d * 1000000000 * 4294967296)) ∧
          t.timing.intg = i1 ∧ t.timing.freq = f1 ∧ t.timing.adj = adjOf s.timing.cfg.rounding f1 ∧
          t.timing.lock = lock ∧ t.timing.loop = loop ∧ t.timing.sel = s.timing.sel ∧
          (d ≠ 0 → PostsFirst causeSecondsMismatch 0 (wordOfInt (max (-2147483648) (min 2147483647 d))) s t) ∧
          KeepsBut [.timing, .nextEdge, .edges, .ctl, .alarm, .mgmt] s t ∧ OnlyReplies s t)) ∧
    (s.timing.cfg.stepThreshold < lag.natAbs → s.timing.loop = .acquiring ∨ s.timing.cfg.stepInLock = true →
      (s.timing.ref r).staged = none →
      ∃ t, exec (.referencePulse r) s = .next t ∧
        t.timing.time = s.timing.time.move (lag * 4294967296) ∧ t.timing.intg = s.timing.intg ∧
        t.timing.freq = s.timing.intg ∧ t.timing.adj = adjOf s.timing.cfg.rounding s.timing.intg ∧
        t.timing.lock = 0 ∧ t.timing.sel = s.timing.sel ∧
        t.timing.loop = (if s.timing.cfg.lockWindow < lag.natAbs then .acquiring else s.timing.loop) ∧
        (t.timing.ref r).last = some (cap.move (lag * 4294967296)) ∧
        (∀ x, x ≠ r → (t.timing.ref x).last = (s.timing.ref x).last.map (·.move (lag * 4294967296))) ∧
        t.nextEdge = edgeAfter s.glob.edgePeriod t.timing.time ∧ PostsFirst causeTimeStep 0 (wordOfInt lag) s t ∧
        KeepsBut [.timing, .nextEdge, .edges, .ctl, .alarm, .mgmt] s t ∧ OnlyReplies s t)

/-- LOSS_DEADLINE_EXPIRY of an unqualified reference: its run count is 0, its capture and staged value are gone, its
early count is kept and REF-LOSS is raised. Of the selected reference, with none to take its place: the selection is
NONE, the loop is in HOLDOVER with F equal to I, D recomputed, the lock count 0 and the holdover timer started, and
HOLDOVER is raised (R93, R95, R98). HOLDOVER_TIMER_EXPIRY, once the holdover limit has passed: the loop is FREE,
HOLDOVER is cleared and FREE-RUN raised, the holdover timer stops, and I, F and D stay as they were (R98). That a
deadline counts as past in the core period whose nanoseconds stand at it with a fraction above 0 is the model's choice
(log entry 46). -/
def Obligations.LossAndHoldover : Prop :=
  (∀ (r : RefId) (c : CabTime) (s : State),
    (s.timing.ref r).last = some c → 1100000000 * 4294967296 < s.timing.time.diff c →
    ((s.timing.ref r).qualified = false →
      ∃ t, exec (.lossDeadlineExpiry r) s = .next t ∧ t.isRaised causeRefLoss (refNum r) = true ∧
        t.timing = s.timing.setRef r { s.timing.ref r with run := 0, last := none, staged := none } ∧
        KeepsBut [.timing, .alarm, .mgmt] s t ∧ OnlyReplies s t) ∧
    ((s.timing.ref r).qualified = true → s.timing.sel = refSel r →
      s.timing.selQualified (refSel r).other = false → s.timing.loop = .acquiring ∨ s.timing.loop = .locked →
      ∃ t, exec (.lossDeadlineExpiry r) s = .next t ∧ t.isRaised causeRefLoss (refNum r) = true ∧
        t.isRaised causeHoldover 0 = true ∧ t.timing.sel = .none ∧ t.timing.loop = .holdover ∧
        t.timing.freq = s.timing.intg ∧ t.timing.intg = s.timing.intg ∧
        t.timing.adj = adjOf s.timing.cfg.rounding s.timing.intg ∧ t.timing.lock = 0 ∧
        t.timing.holdover = some s.timing.uptime ∧
        t.timing.ref r = { s.timing.ref r with qualified := false, run := 0, last := none, staged := none } ∧
        KeepsBut [.timing, .alarm, .mgmt] s t ∧ OnlyReplies s t)) ∧
  (∀ (u : Uptime) (s : State), s.timing.loop = .holdover → s.timing.holdover = some u →
    s.timing.cfg.holdoverLimit * 1000 ≤ (s.timing.uptime - u).toNat →
    ∃ t, exec .holdoverTimerExpiry s = .next t ∧ t.timing = { s.timing with loop := .free, holdover := none } ∧
      t.isRaised causeHoldover 0 = false ∧ t.isRaised causeFreeRun 0 = true ∧
      (∀ c m, c ≠ causeHoldover → c ≠ causeFreeRun → m < 64 → t.isRaised c m = s.isRaised c m) ∧
      KeepsBut [.timing, .alarm, .mgmt] s t ∧ OnlyReplies s t)

/-! ## Edges and strobes (R113, R115, R116, R119) -/

/-- EDGE_INSTANT, once cabinet time has reached the next edge instant: that instant advances by E. EDGE_DISPATCH, once
it has reached the dispatch time: an EDGE parcel on channel 61 with the edge's seconds, nanoseconds and number and zero
departure fields joins the express queue of a slot that is ADMITTED and AWAKE and has nothing in transmission, the path
delay and the core period of its making kept with it; another slot is given none; either way the schedule advances by
E. STROBE, once cabinet time has reached the strobe time: each STROBE-OUT line of a slot that is powered and not in
POWERING starts a pulse of 125 core periods, and the schedule advances by E; a slot that is not powered, or is in
POWERING, gives none. STROBE_PULSE_END, 125 core periods after the start: the line is inactive again (R113, R115, R116,
R119). How times more than half the range of cabinet time apart compare is the model's choice (log entry 55). -/
def Obligations.EdgesAndStrobesAreServed : Prop :=
  (∀ s : State, 0 ≤ s.timing.time.diff s.nextEdge →
    ∃ t, exec .edgeInstant s = .next t ∧ t.nextEdge = s.nextEdge.move (s.glob.edgePeriod * 4294967296) ∧
      KeepsBut [.nextEdge] s t) ∧
  (∀ (i : Slot) (d : Sched) (s : State), (s.slot i).edges.parcel = some d → 0 ≤ s.timing.time.diff d.due →
    (∃ t, exec (.edgeDispatch i) s = .next t ∧
      (t.slot i).edges = { (s.slot i).edges with
        parcel := some { edge := d.edge.move (s.glob.edgePeriod * 4294967296),
                         due := d.due.move (s.glob.edgePeriod * 4294967296) } } ∧
      (s.isAwake i = false → KeepsBut [.edges] s t) ∧
      (s.isAwake i = true → (s.slot i).egr.tx = .idle → (s.slot i).egr.express.length < 4 →
        (t.slot i).egr = { (s.slot i).egr with
          express := (s.slot i).egr.express ++
            [ExpressParcel.mk 61
              [wordOf (d.edge.sec / 4294967296), wordOf d.edge.sec, wordOf d.edge.ns,
               wordOf ((d.edge.sec * (1000000000 / s.glob.edgePeriod) + d.edge.ns / s.glob.edgePeriod)
                 % s.glob.edgeModulus), 0, 0]
              (some { instant := d.edge, delay := (s.slot i).ctl.delay, made := s.timing.core })] } ∧
        KeepsBut [.edges, .egr] s t) ∧
      OtherSlots i s t)) ∧
  (∀ (i : Slot) (d : Sched) (s : State), (s.slot i).edges.strobe = some d → 0 ≤ s.timing.time.diff d.due →
    ∃ t, exec (.strobe i) s = .next t ∧
      (t.slot i).edges = { (s.slot i).edges with
        strobe := some { edge := d.edge.move (s.glob.edgePeriod * 4294967296),
                         due := d.due.move (s.glob.edgePeriod * 4294967296) } } ∧
      (t.slot i).ctl = (if (s.slot i).ctl.pwrEn = true ∧ (s.slot i).ctl.phase ≠ .powering
        then { (s.slot i).ctl with
          pulse0 := if (s.slot i).cfg.fn0 = .strobeOut then some s.timing.core else (s.slot i).ctl.pulse0,
          pulse1 := if (s.slot i).cfg.fn1 = .strobeOut then some s.timing.core else (s.slot i).ctl.pulse1 }
        else (s.slot i).ctl) ∧
      KeepsBut [.edges, .ctl] s t ∧ OtherSlots i s t) ∧
  (∀ (i : Slot) (l : Line) (u : Nat) (s : State),
    (match l with | .sb0 => (s.slot i).ctl.pulse0 | .sb1 => (s.slot i).ctl.pulse1) = some u →
    125 ≤ s.timing.core - u →
    ∃ t, exec (.strobePulseEnd i l) s = .next t ∧
      (t.slot i).ctl = (match l with
        | .sb0 => { (s.slot i).ctl with pulse0 := none }
        | .sb1 => { (s.slot i).ctl with pulse1 := none }) ∧
      KeepsBut [.ctl] s t ∧ OtherSlots i s t)

/-! ## The slot controller (R123 to R142) -/

/-- CONTACT_MADE sets the contact, and in EMPTY with both contacts made the seat timer starts. SEAT_TIMER_EXPIRY, once
the seat time has passed: without auto-power the slot is SEATED; with auto-power, and PWR-GOOD not seen, it is POWERING
with power on, RESET-OUT active and the power timer running. PWR_GOOD_ACTIVE in POWERING while the power timer runs:
the inputs are enabled and the release timer runs in its place. RELEASE_TIMER_EXPIRY, once the release time has passed:
RESET-OUT is inactive and the slot is in TRAINING with exchange 0 of attempt 1 asked for (R123, R126 to R131). -/
def Obligations.CardsAreSeatedAndPowered : Prop :=
  (∀ (i : Slot) (k : Contact) (s : State), (s.slot i).ctl.made k = false →
    ∃ t, exec (.contactMade i k) s = .next t ∧
      (t.slot i).ctl =
        (if (s.slot i).ctl.phase = .empty ∧ ((s.slot i).ctl.setMade k true).presL = true ∧
            ((s.slot i).ctl.setMade k true).presS = true
          then { (s.slot i).ctl.setMade k true with timer := some { kind := .seat, start := s.timing.uptime } }
          else (s.slot i).ctl.setMade k true) ∧
      KeepsBut [.ctl] s t ∧ OtherSlots i s t) ∧
  (∀ (i : Slot) (u : Uptime) (s : State),
    NoneWaits s → (s.slot i).ctl.phase = .empty → (s.slot i).ctl.timer = some { kind := .seat, start := u } →
    s.glob.seatTime ≤ (s.timing.uptime - u).toNat →
    ∃ t, exec (.seatTimerExpiry i) s = .next t ∧ (t.slot i).egr = { (s.slot i).egr with express := [] } ∧
      ((s.slot i).cfg.autoPower = false →
        (t.slot i).ctl = { (s.slot i).ctl with
          phase := .seated, sub := .awake, restReq := false, timer := none, train := Training.none, reason := none }) ∧
      ((s.slot i).cfg.autoPower = true → (s.slot i).ctl.pwrGood = false →
        (t.slot i).ctl = { (s.slot i).ctl with
          phase := .powering, sub := .awake, restReq := false, train := Training.none, reason := none,
          pwrEn := true, resetOut := true, timer := some { kind := .power, start := s.timing.uptime } }) ∧
      KeepsBut [.ctl, .egr, .mgmt] s t ∧ OtherSlots i s t) ∧
  (∀ (i : Slot) (u : Uptime) (s : State),
    (s.slot i).ctl.phase = .powering → (s.slot i).ctl.timer = some { kind := .power, start := u } →
    (s.slot i).ctl.pwrGood = false →
    ∃ t, exec (.pwrGoodActive i) s = .next t ∧ (t.slot i).ctl.phase = .powering ∧ (t.slot i).ctl.pwrGood = true ∧
      (t.slot i).ctl.inputsEn = true ∧
      (t.slot i).ctl.timer = some { kind := .release, start := s.timing.uptime } ∧
      KeepsBut [.ctl] s t ∧ OtherSlots i s t) ∧
  (∀ (i : Slot) (u : Uptime) (s : State),
    NoneWaits s → s.settled → (s.slot i).ctl.phase = .powering → s.framing i = false →
    (s.slot i).cursor.state = .idle → (s.slot i).ctl.timer = some { kind := .release, start := u } →
    (s.slot i).cfg.releaseTime ≤ (s.timing.uptime - u).toNat →
    ∃ t, exec (.releaseTimerExpiry i) s = .next t ∧
      (t.slot i).ctl = { (s.slot i).ctl with
        phase := .training, sub := .awake, restReq := false, timer := none, reason := none, resetOut := false,
        train := { attempt := 1, exchange := 0, step := .request, samples := [] } } ∧
      (t.slot i).port = { (s.slot i).port with link := .training, trainReq := some 0 } ∧
      KeepsBut [.ctl, .port] s t ∧ OtherSlots i s t)

/-- POWER_TIMER_EXPIRY, once the power time has passed, and PWR_GOOD_LOST in a powered state but for POWERING before
PWR-GOOD was seen: the slot is FAULTED with POWER-TIMEOUT, or with POWER-LOST; its power, inputs and RESET-OUT are off,
no timer runs, its link is DOWN, its queues are empty, its chain is stopped and SLOT-FAULT is raised (R128, R129,
R141). -/
def Obligations.PowerFaults : Prop :=
  ∀ (i : Slot) (s : State), s.settled → (s.slot i).ing.reception = none →
    (∀ u, (s.slot i).ctl.phase = .powering → (s.slot i).ctl.timer = some { kind := .power, start := u } →
      (s.slot i).cfg.powerTime ≤ (s.timing.uptime - u).toNat →
      ∃ t, exec (.powerTimerExpiry i) s = .next t ∧ t.isRaised causeSlotFault i.val = true ∧
        (t.slot i).ctl.phase = .faulted ∧ (t.slot i).ctl.reason = some .powerTimeout ∧ (t.slot i).ctl.pwrEn = false ∧
        (t.slot i).ctl.inputsEn = false ∧ (t.slot i).ctl.resetOut = false ∧ (t.slot i).ctl.timer = none ∧
        (t.slot i).port.link = .down ∧ (t.slot i).egr.stream = [] ∧ (t.slot i).egr.control = [] ∧
        (t.slot i).egr.bulk = [] ∧ (t.slot i).egr.express = [] ∧ (t.slot i).cursor.state = .idle ∧
        KeepsBut [.pool, .log, .alarm, .mgmt, .port, .ing, .egr, .ctl, .cursor] s t) ∧
    ((s.slot i).ctl.pwrGood = true → (s.slot i).ctl.judgesGood = true →
      ∃ t, exec (.pwrGoodLost i) s = .next t ∧ t.isRaised causeSlotFault i.val = true ∧
        (t.slot i).ctl.phase = .faulted ∧ (t.slot i).ctl.reason = some .powerLost ∧ (t.slot i).ctl.pwrEn = false ∧
        (t.slot i).ctl.inputsEn = false ∧ (t.slot i).ctl.resetOut = false ∧ (t.slot i).ctl.timer = none ∧
        (t.slot i).port.link = .down ∧ (t.slot i).egr.stream = [] ∧ (t.slot i).egr.control = [] ∧
        (t.slot i).egr.bulk = [] ∧ (t.slot i).egr.express = [] ∧ (t.slot i).cursor.state = .idle ∧
        KeepsBut [.pool, .log, .alarm, .mgmt, .port, .ing, .egr, .ctl, .cursor] s t)

/-- CONTACT_LOST, by slot state. Short contact of an ADMITTED slot: it is DRAINING with its drain timer running, a card
told to REST is asked to WAKE, and with an empty egress it is QUIESCED in the same event. With a running chain, an
empty egress and auto-power-off the CARD-ALARM clear is posted ahead of CHAIN-ABORTED. A removal, the slot EMPTY with
power off, link DOWN, no timer and empty queues: ABORTED (2) for the short contact in POWERING and TRAINING, SURPRISE
(1) for the long one from POWERING to DRAINING, ORDERLY (0) for it in QUIESCED; with nothing queued or raised for the
slot the alarm unit takes SLOT-REMOVED with that parameter. In EMPTY the seat timer stops; a SEATED slot is EMPTY; a
FAULTED one too, with SLOT-FAULT cleared and no SLOT-REMOVED; the short contact in DRAINING and QUIESCED has no effect
(R123, R126, R137, R138, R140, R142). That the clear of SLOT-FAULT carries parameter 0 is the model's reading of which
clears name none (R154; log entry 28), that the command has no effect for a contact that is not made its choice (log
entry 5), and that a card that loses both from ADMITTED with an empty egress, the short one first, is removed as
ORDERLY, as these rows give it, its reading where the prose on removal has SURPRISE (log entry 54). -/
def Obligations.ContactsLost : Prop :=
  (∀ (i : Slot) (s : State),
    NoneWaits s → s.settled → (s.slot i).ctl.phase = .admitted → (s.slot i).ctl.presS = true →
    (s.slot i).cursor.state = .idle →
    ∃ t, exec (.contactLost i .short) s = .next t ∧ (t.slot i).ctl.presS = false ∧
      (s.egressEmpty i = false →
        (t.slot i).ctl = { (s.slot i).ctl with
          phase := .draining, sub := .awake, restReq := false, train := Training.none, reason := none, presS := false,
          timer := some { kind := .drain, start := s.timing.uptime } } ∧
        (t.slot i).port = { (s.slot i).port with
          wakeAsked := (s.slot i).port.wakeAsked ||
            ((s.slot i).ctl.sub == .resting && !(s.slot i).ctl.restReq) } ∧
        KeepsBut [.ctl, .port] s t ∧ OtherSlots i s t) ∧
      (s.egressEmpty i = true → (t.slot i).ctl.phase = .quiesced ∧ (t.slot i).port.link = .down ∧
        (t.slot i).ctl.pwrEn = ((s.slot i).ctl.pwrEn && !(s.slot i).cfg.autoPowerOff))) ∧
  (∀ (i : Slot) (s : State),
    NoneWaits s → s.settled → (s.slot i).ctl.phase = .admitted → (s.slot i).ctl.presS = true →
    (s.slot i).cursor.state ≠ .idle → s.egressEmpty i = true → (s.slot i).cfg.autoPowerOff = true →
    s.isRaised causeLinkHeld i.val = false →
    ∃ t, exec (.contactLost i .short) s = .next t ∧ (t.slot i).ctl.phase = .quiesced ∧
      (t.slot i).ctl.pwrEn = false ∧ (t.slot i).cursor = Cursor.idle ∧
      t.alarm = (postEvent causeChainAborted i.val
        (wordOf (2 * 65536 + (s.slot i).cursor.visits * 256 + (s.slot i).cursor.cur.val))
        (clearCond causeCardAlarm i.val 0 s)).alarm) ∧
  (∀ (i : Slot) (k : Contact) (n : Nat) (s : State),
    NoneWaits s → s.settled → (s.slot i).ctl.made k = true → (s.slot i).ing.reception = none →
    (k = .short ∧ n = 2 ∧ (s.slot i).ctl.phase ∈ [.powering, .training]) ∨
      (k = .long ∧ n = 1 ∧ (s.slot i).ctl.phase ∈ [.powering, .training, .admitted, .draining]) ∨
      (k = .long ∧ n = 0 ∧ (s.slot i).ctl.phase = .quiesced) →
    ∃ t, exec (.contactLost i k) s = .next t ∧ (t.slot i).ctl.phase = .empty ∧ (t.slot i).ctl.made k = false ∧
      (t.slot i).ctl.pwrEn = false ∧ (t.slot i).ctl.inputsEn = false ∧ (t.slot i).ctl.resetOut = false ∧
      (t.slot i).ctl.timer = none ∧ (t.slot i).port.link = .down ∧ (t.slot i).egr.stream = [] ∧
      (t.slot i).egr.control = [] ∧ (t.slot i).egr.bulk = [] ∧ (t.slot i).egr.express = [] ∧
      (t.slot i).cursor.state = .idle ∧
      ((s.slot i).cursor.state = .idle → (s.slot i).egr.tx = .idle → (s.slot i).egr.stream = [] →
        (s.slot i).egr.control = [] → (s.slot i).egr.bulk = [] → s.isRaised causeCardAlarm i.val = false →
        s.isRaised causeLinkHeld i.val = false →
        t.alarm = (postEvent causeSlotRemoved i.val (wordOf n) s).alarm ∧ t.pool = s.pool) ∧
      KeepsBut [.pool, .log, .alarm, .mgmt, .port, .ing, .egr, .ctl, .cursor] s t ∧ OtherSlots i s t) ∧
  ∀ (i : Slot) (k : Contact) (s : State), NoneWaits s → s.settled →
    ((s.slot i).ctl.made k = false → exec (.contactLost i k) s = .next s) ∧
    ((s.slot i).ctl.made k = true →
      ((s.slot i).ctl.phase = .empty →
        ∃ t, exec (.contactLost i k) s = .next t ∧
          (t.slot i).ctl = { (s.slot i).ctl.setMade k false with timer := none } ∧
          KeepsBut [.ctl] s t ∧ OtherSlots i s t) ∧
      (k = .short → (s.slot i).ctl.phase ∈ [.draining, .quiesced] →
        ∃ t, exec (.contactLost i k) s = .next t ∧ (t.slot i).ctl = (s.slot i).ctl.setMade k false ∧
          KeepsBut [.ctl] s t ∧ OtherSlots i s t) ∧
      ((s.slot i).ctl.phase ∈ [.seated, .faulted] →
        ∃ t, exec (.contactLost i k) s = .next t ∧
          (t.slot i).ctl = { (s.slot i).ctl.setMade k false with
            phase := .empty, sub := .awake, restReq := false, timer := none, train := Training.none, reason := none } ∧
          (t.slot i).egr = { (s.slot i).egr with express := [] } ∧
          t.alarm = (if (s.slot i).ctl.phase = .faulted then (clearCond causeSlotFault i.val 0 s).alarm else s.alarm) ∧
          KeepsBut [.ctl, .egr, .alarm, .mgmt] s t ∧ OtherSlots i s t))

/-- DRAIN_TIMER_EXPIRY, once the drain time has passed: everything queued but not in transmission goes. With nothing in
transmission, or a parcel handed over whose header has not left, the slot enters QUIESCED in the same event; with a
parcel in transmission it stays DRAINING with no timer and of the class queues that parcel alone stays.
WAKE_TIMER_EXPIRY, once the wake time has passed with nothing in transmission: the slot trains again and keeps its
queues (R45, R46, R50, R135, R138). That a parcel is in transmission from its header, and not from the choice that
hands it over, is the model's reading (log entry 12). -/
def Obligations.DrainAndWakeTimersExpire : Prop :=
  (∀ (i : Slot) (u : Uptime) (s : State),
    (s.slot i).ctl.phase = .draining → s.mgmt.claim = false →
    (s.slot i).ctl.timer = some { kind := .drain, start := u } →
    (s.slot i).cfg.drainTime ≤ (s.timing.uptime - u).toNat →
    ∃ t, exec (.drainTimerExpiry i) s = .next t ∧
      ((s.slot i).egr.tx.withdraw = .idle → (t.slot i).ctl.phase = .quiesced ∧ (t.slot i).port.link = .down ∧
        (t.slot i).egr.stream = [] ∧ (t.slot i).egr.control = [] ∧ (t.slot i).egr.bulk = [] ∧
        (t.slot i).egr.express = []) ∧
      (∀ q, s.settled → (s.slot i).egr.tx = .sending q → q.notLeft = false →
        (t.slot i).ctl = { (s.slot i).ctl with timer := none } ∧ (t.slot i).egr.tx = .sending q ∧
        (t.slot i).egr.stream = (s.slot i).egr.stream.filter ((s.slot i).egr.tx.started ·) ∧
        (t.slot i).egr.control = (s.slot i).egr.control.filter ((s.slot i).egr.tx.started ·) ∧
        (t.slot i).egr.bulk = (s.slot i).egr.bulk.filter ((s.slot i).egr.tx.started ·) ∧
        (t.slot i).egr.express = (if q.attached = true ∧ q.origin = .express
          then (s.slot i).egr.express.take 1 else []) ∧
        KeepsBut [.ctl, .egr, .pool, .alarm, .mgmt] s t ∧ OtherSlots i s t)) ∧
  (∀ (i : Slot) (u : Uptime) (s : State),
    NoneWaits s → s.settled → (s.slot i).ctl.phase = .admitted → (s.slot i).cursor.state = .idle →
    (s.slot i).ing.reception = none → (s.slot i).egr.tx = .idle →
    (s.slot i).ctl.timer = some { kind := .wake, start := u } → (s.slot i).cfg.wakeTime ≤ (s.timing.uptime - u).toNat →
    ∃ t, exec (.wakeTimerExpiry i) s = .next t ∧
      (t.slot i).ctl = { (s.slot i).ctl with
        phase := .training, sub := .awake, restReq := false, timer := none, reason := none,
        train := { attempt := 1, exchange := 0, step := .request, samples := [] } } ∧
      (t.slot i).port.link = .training ∧ (t.slot i).port.trainReq = some 0 ∧ (t.slot i).egr = (s.slot i).egr ∧
      KeepsBut [.ctl, .port, .alarm, .mgmt] s t ∧ OnlyReplies s t ∧ OtherSlots i s t)

/-! ## Sideband lines, cabinet inputs, watches and chains (R127, R128, R134, R145 to R150, R165 to R169) -/

/-- The debouncer of a line of function f once the line stands at a level: a line of function ALARM-IN that differs
from its debounced state runs from the first such moment, and one that agrees does not run (R128). -/
def lineFollowed (f : LineFn) (d : Debounce) (lev : Bool) (now : Uptime) : Debounce :=
  if f = .alarmIn then { d with run := if lev = d.active then none else some (d.run.getD now) } else d

/-- The debouncer of a line of function f after an expiry: the debounced state of an ALARM-IN line that has run for
20 ms turns over (R128). -/
def lineExpired (f : LineFn) (d : Debounce) (now : Uptime) : Debounce :=
  match d.run with
  | none => d
  | some u => if f = .alarmIn ∧ 20 ≤ (now - u).toNat then { active := !d.active, run := none } else d

/-- Whether a line of function f is an ALARM-IN line debounced active (R128). -/
def lineAlarms (f : LineFn) (d : Debounce) : Bool := f == .alarmIn && d.active

/-- SIDEBAND_INPUT_CHANGE, a change of the level of SB0 or SB1. With the inputs enabled, each ALARM-IN line that
differs from its debounced state runs its debounce; a WAKE-IN line that becomes active wakes a RESTING slot: with REST
sent it is WAKING with its wake timer running and a WAKE asked for, else the rest request is withdrawn and it is AWAKE.
With the inputs not enabled the level alone changes. CARD_ALARM_DEBOUNCE_EXPIRY: the debounced state of each ALARM-IN
line that has run for 20 ms turns over, of both lines in one event; when the first becomes active CARD-ALARM is raised
with 0 for SB0, or both, and 1 for SB1, and when none is active any more it is cleared with 0. CABINET_INPUT_CHANGE:
the line takes its level, and the run timer of an input whose line, read by its polarity, differs from its debounced
state runs from the first such moment, and does not run otherwise. CABINET_INPUT_DEBOUNCE_EXPIRY, once the debounce
time has passed: the debounced state turns over, the run timer stops and CABINET-INPUT is raised or cleared (R127,
R128, R134, R165). That one command takes both lines whose debounce is over is the model's reading (log entry 20). -/
def Obligations.InputsActAndDebounce : Prop :=
  (∀ (i : Slot) (l : Line) (lev : Bool) (c : Ctl) (s : State), (s.slot i).ctl.level l ≠ lev →
    c = (s.slot i).ctl.setLevel l lev →
    ∃ t, exec (.sidebandInputChange i l lev) s = .next t ∧ KeepsBut [.ctl, .port] s t ∧ OtherSlots i s t ∧
      (c.inputsEn = false → (t.slot i).ctl = c ∧ (t.slot i).port = (s.slot i).port) ∧
      (c.inputsEn = true → ∀ d, d = { c with
          deb0 := lineFollowed (s.slot i).cfg.fn0 c.deb0 c.lev0 s.timing.uptime,
          deb1 := lineFollowed (s.slot i).cfg.fn1 c.deb1 c.lev1 s.timing.uptime } →
        if (s.slot i).cfg.fn l = .wakeIn ∧ lev = true ∧ c.phase = .admitted ∧ c.sub = .resting then
          (c.restReq = false →
            (t.slot i).ctl = { d with
              sub := .waking, timer := some { kind := .wake, start := s.timing.uptime } } ∧
            (t.slot i).port = { (s.slot i).port with wakeAsked := true }) ∧
          (c.restReq = true →
            (t.slot i).ctl = { d with sub := .awake, restReq := false } ∧ (t.slot i).port = (s.slot i).port)
        else (t.slot i).ctl = d ∧ (t.slot i).port = (s.slot i).port)) ∧
  (∀ (i : Slot) (was now : Bool) (d0 d1 : Debounce) (x : SlotState) (s : State),
    x = s.slot i → x.ctl.inputsEn = true →
    d0 = lineExpired x.cfg.fn0 x.ctl.deb0 s.timing.uptime → d1 = lineExpired x.cfg.fn1 x.ctl.deb1 s.timing.uptime →
    was = (lineAlarms x.cfg.fn0 x.ctl.deb0 || lineAlarms x.cfg.fn1 x.ctl.deb1) →
    now = (lineAlarms x.cfg.fn0 d0 || lineAlarms x.cfg.fn1 d1) →
    ∃ t, exec (.cardAlarmDebounceExpiry i) s = .next t ∧ (t.slot i).ctl = { x.ctl with deb0 := d0, deb1 := d1 } ∧
      t.alarm = (if was = false ∧ now = true then
          raiseCond causeCardAlarm i.val (if lineAlarms x.cfg.fn0 d0 = true then 0 else 1) s
        else if was = true ∧ now = false then clearCond causeCardAlarm i.val 0 s else s).alarm ∧
      (was ≠ now → t.isRaised causeCardAlarm i.val = now) ∧
      KeepsBut [.ctl, .alarm, .mgmt] s t ∧ OnlyReplies s t ∧ OtherSlots i s t) ∧
  ∀ (n : Fin 8) (s : State),
    (∀ lev, ∃ t, exec (.cabinetInputChange n lev) s = .next t ∧
      t.alarm = { s.alarm with
        inputs := s.alarm.inputs.set n
          { level := lev, active := s.alarm.inputs[n].active,
            run := if (lev != s.glob.polarity[n]) = s.alarm.inputs[n].active then none
              else some (s.alarm.inputs[n].run.getD s.timing.uptime) } } ∧
      KeepsBut [.alarm] s t) ∧
    (∀ u, s.alarm.inputs[n].run = some u → s.glob.debounce[n] ≤ (s.timing.uptime - u).toNat →
      ∃ t, exec (.cabinetInputDebounceExpiry n) s = .next t ∧
        t.alarm.inputs = s.alarm.inputs.set n
          { level := s.alarm.inputs[n].level, active := !s.alarm.inputs[n].active, run := none } ∧
        t.isRaised causeCabinetInput n.val = !s.alarm.inputs[n].active ∧
        (∀ c m, c ≠ causeCabinetInput → m < 64 → t.isRaised c m = s.isRaised c m) ∧
        KeepsBut [.alarm, .mgmt] s t ∧ OnlyReplies s t)

/-- A request stands at the head of the request queue and can be served and answered: the reply queue has room, the
management slot is in a state in which replies are made, and no egress-empty report is outstanding (R173). -/
def Servable (s : State) (r : Request) (rest : List Request) : Prop :=
  s.mgmt.queue = r :: rest ∧ s.mgmt.replies.length < 8 ∧ s.mgmt.claim = false ∧ s.mgmtOut = false ∧ s.settled

/-- The request has left the queue and its reply stands at the tail of the reply queue, behind the ALARM parcels of the
service's own entries (R173). -/
def AnsweredAfter (alarms : List ReplyParcel) (r : Request) (rest : List Request) (st : Status) (data : List Word)
    (s t : State) : Prop :=
  t.mgmt = { s.mgmt with queue := rest, replies := s.mgmt.replies ++ alarms ++ [replyTo r st data] }

/-- The same, with no alarm entry posted. -/
def Answered (r : Request) (rest : List Request) (st : Status) (data : List Word) (s t : State) : Prop :=
  AnsweredAfter [] r rest st data s t

/-- A service that has no effect but its reply, which may wake the management slot (R48, R173). -/
def OnlyAnswered (r : Request) (rest : List Request) (st : Status) (data : List Word) (s t : State) : Prop :=
  Answered r rest st data s t ∧ KeepsBut [.mgmt, .port, .ctl] s t ∧ OtherSlots s.mgmtSlot s t

/-- The relation of a watch and the value judged (R167): U with 0 for an area not in LATEST mode, no readable half, a
stale copy, or an offset not below the length of the copy; else the payload word at the offset, compared with the
threshold in the watch's type. -/
def watchFinds (w : Watch) (s : State) : Relation × Word :=
  let a := s.park.areas[w.area]
  match a.readable with
  | none => (.u, 0)
  | some half =>
    let start := if half = true then a.base + a.size else a.base
    let v := parkRead s.park.mem (start + 1 + w.offset)
    if a.mode ≠ .latest ∨ (w.stale ≠ 0 ∧ w.stale ≤ (s.timing.uptime - a.doneUp).toNat) ∨
      ((parkRead s.park.mem start).extractLsb' 8 8).toNat ≤ w.offset then (.u, 0)
    else if v = w.threshold then (.e, v)
    else if w.isUnsigned = true then (if v.toNat < w.threshold.toNat then .l else .g, v)
    else (if v.toInt < w.threshold.toInt then .l else .g, v)

/-- The magnitude of a value less the threshold, exact in the watch's type (R168). -/
def watchDistance (w : Watch) (v : Word) : Nat :=
  if w.isUnsigned = true then ((v.toNat : Int) - w.threshold.toNat).natAbs else (v.toInt - w.threshold.toInt).natAbs

/-- WATCH_STALE of an enabled watch whose area is in LATEST mode with a readable copy as old as the stale limit: the
last relation is U and the last value 0; a watch that triggers on U has its pair raised, one that does not has it
cleared (R167 to R169). WRITE_WATCHES of one enabled watch, which evaluates it: the last relation and value are those
found, U, or L, E or G of the copy's word at the offset against the threshold, as SIGNED or UNSIGNED. A pair not raised
is raised with the value when the mask holds the relation, and nothing is reported when it does not. A raised pair
stays when the mask holds the relation; when it does not, the pair is cleared with the value where the relation is U or
the distance to the threshold is at least the clear margin, and stays otherwise (R166 to R169). The word read lies in
parking memory; beyond it the value is free (log entry 4). -/
def Obligations.StaleCopiesAreUnknown : Prop :=
  (∀ (n : Fin 32) (a : Area) (s : State),
    a = s.park.areas[s.watches[n].area] → s.watches[n].enabled = true → a.mode = .latest → a.readable.isSome = true →
    s.watches[n].stale ≠ 0 → s.watches[n].stale ≤ (s.timing.uptime - a.doneUp).toNat →
    ∃ t, exec (.watchStale n) s = .next t ∧
      t.watches = s.watches.set n { s.watches[n] with lastRel := .u, lastVal := 0 } ∧
      t.isRaised causeWatch n.val = s.watches[n].mask.getLsbD 0 ∧
      (∀ c m, c ≠ causeWatch → m < 64 → t.isRaised c m = s.isRaised c m) ∧
      KeepsBut [.watches, .alarm, .mgmt] s t ∧ OnlyReplies s t) ∧
  ∀ (n : Fin 32) (ws : List Word) (w : Watch) (rel : Relation) (v : Word) (u : State) (r : Request)
    (rest : List Request) (s : State),
    Servable s r rest → r.code = 2 → r.count = 1 → r.subject = 4 → r.first = n.val → r.words.length = 15 →
    ws = r.words.drop 3 → inRanges (ws.take 9) watchRanges = true → (r.word 3).toNat = 1 →
    w = s.watches[n].withWords ws → s.park.areas[w.area].mode = .latest →
    (∀ half, s.park.areas[w.area].readable = some half →
      (if half = true then s.park.areas[w.area].base + s.park.areas[w.area].size else s.park.areas[w.area].base) +
        1 + w.offset < 32768) →
    rel = (watchFinds w s).1 → v = (watchFinds w s).2 →
    u = { s with watches := s.watches.set n { w with lastRel := rel, lastVal := v } } →
    ∃ t al, exec .writeWatches s = .next t ∧ AnsweredAfter al r rest .done [] s t ∧ t.watches = u.watches ∧
      (s.isRaised causeWatch n.val = false → w.mask.getLsbD rel.code = true →
        t.isRaised causeWatch n.val = true ∧ t.alarm = (raiseCond causeWatch n.val v u).alarm) ∧
      (s.isRaised causeWatch n.val = true → w.mask.getLsbD rel.code = false →
        rel = .u ∨ w.margin ≤ watchDistance w v →
        t.isRaised causeWatch n.val = false ∧ t.alarm = (clearCond causeWatch n.val v u).alarm) ∧
      (s.isRaised causeWatch n.val = false → w.mask.getLsbD rel.code = false →
        t.alarm.raised = s.alarm.raised ∧ t.alarm.queue = s.alarm.queue) ∧
      (s.isRaised causeWatch n.val = true →
        w.mask.getLsbD rel.code = true ∨ (rel ≠ .u ∧ watchDistance w v < w.margin) →
        t.alarm.raised = s.alarm.raised ∧ t.alarm.queue = s.alarm.queue) ∧
      (∀ c m, c ≠ causeWatch ∨ m ≠ n.val → m < 64 → t.isRaised c m = s.isRaised c m) ∧
      KeepsBut [.watches, .alarm, .mgmt, .port, .ctl] s t ∧ OtherSlots s.mgmtSlot s t

/-- A cursor that has made one more parcel of its block, of n words: the count of parcels made, the last parcel made
and the offset (R149). -/
def parcelMade (c : Cursor) (pid n : Nat) : Cursor :=
  { c with made := c.made + 1, last := some pid, offset := c.offset + n }

/-- CHAIN_PARCEL_MAKE by the free engine, for the first ready cursor in rotation: the parcel of the next min(255, words
left) words of the block, its tag the number of parcels made modulo 256, joins the slot's BULK queue with reference
count 1 and takes its blocks; the rotation pointer moves to the next slot, and the engine is busy for n + 1 core
periods; a parcel handed over at the slot whose header has not left is handed back (R49; log entries 12 and 31). With
words of the block left the cursor moves on by the words made. After the block's last parcel: with end-of-chain yes it
is FINISHING; with no and fewer than 64 visits it visits the next descriptor, one more visit at offset 0 with a copy of
its fields, and is FINISHING there when that one has length 0 and ends the chain; with no and 64 visits the chain is
aborted: the cursor is IDLE and CHAIN-ABORTED carries TOO-LONG, 64 and the descriptor. CHAIN_ENGINE_FREE, once the busy
periods are over: the engine is free (R148 to R151). -/
def Obligations.ChainEngineMakesParcels : Prop :=
  (∀ (i : Slot) (n : Nat) (c : Cursor) (s : State),
    s.chain.busy = none → s.chainTurn = some i → c = (s.slot i).cursor →
    n = Nat.min 255 (c.copy.len - c.offset) →
    ∃ t, exec .chainParcelMake s = .next t ∧
      t.chain = { s.chain with rotation := i + 1, busy := some (s.timing.core, n + 1) } ∧
      (c.offset + n < c.copy.len → (t.slot i).cursor = parcelMade c s.pool.nextId n ∧
        (s.isRaised causePoolLow 0 = false → t.alarm = s.alarm)) ∧
      (c.copy.len ≤ c.offset + n →
        (c.copy.endOfChain = true → (t.slot i).cursor = { parcelMade c s.pool.nextId n with state := .finishing }) ∧
        (∀ d, d = s.chain.table[c.copy.next] → c.copy.endOfChain = false → c.visits < 64 →
          0 < d.len ∨ d.endOfChain = true →
          (t.slot i).cursor = { parcelMade c s.pool.nextId n with
            cur := c.copy.next, copy := d, visits := c.visits + 1, offset := 0,
            state := if d.len = 0 then .finishing else .running }) ∧
        (c.copy.endOfChain = false → c.visits = 64 → (t.slot i).cursor = Cursor.idle ∧
          (s.isRaised causePoolLow 0 = false →
            t.alarm = (postEvent causeChainAborted i.val (wordOf (3 * 65536 + 64 * 256 + c.cur.val)) s).alarm))) ∧
      (t.slot i).egr = { (s.slot i).egr with bulk := (s.slot i).egr.bulk ++ [s.pool.nextId] }.occasion ∧
      (∃ p, t.parcel s.pool.nextId = some p ∧ p.cls = .bulk ∧ p.refs = 1 ∧ p.isOpen = false ∧ p.owner = i ∧
        p.egress = c.copy.chan ∧
        p.hdr = { kind := c.copy.kind, chan := c.copy.chan, len := BitVec.ofNat 8 n,
                  tag := BitVec.ofNat 8 c.made } ∧
        p.words.length = n ∧
        ∀ k, k < n → p.words.getD k 0 =
          parkRead s.park.mem (c.copy.base + c.offset + k)) ∧
      t.pool.freeCount = s.pool.freeCount - (n + 16) / 16 ∧
      KeepsBut [.chain, .cursor, .egr, .pool, .alarm, .mgmt, .port, .ctl] s t ∧ OtherSlots i s t) ∧
  (∀ (u n : Nat) (s : State), s.chain.busy = some (u, n) → n ≤ s.timing.core - u →
    ∃ t, exec .chainEngineFree s = .next t ∧ t.chain = { s.chain with busy := none } ∧ KeepsBut [.chain] s t)

/-! ## The management channel (R171 to R178) -/

/-- The thirteen tables as READ-ENTRIES finds them: table number, command, entries, and the image of an entry. -/
def readRows (s : State) : List (Nat × Instr × Nat × (Nat → List Word)) :=
  [(1, .readSlotSettings, 16, fun k => (s.slot (Fin.ofNat 16 k)).cfg.words),
   (2, .readFlowTable, 1024, fun k => (s.flowAt k).words),
   (3, .readParkAreas, 64, fun k => (s.park.areas[Fin.ofNat 64 k]).words),
   (4, .readWatches, 32, fun k => (s.watches[Fin.ofNat 32 k]).words (s.isRaised causeWatch k)),
   (5, .readChainDescriptors, 64, fun k => (s.chain.table[Fin.ofNat 64 k]).words),
   (6, .readCauseSettings, 64, fun k => (s.cause (Fin.ofNat 64 k)).words (s.raisedMap (Fin.ofNat 64 k))),
   (7, .readGlobalSettings, 1, fun _ => s.glob.words),
   (8, .readTimingSettings, 3, s.timing.record),
   (9, .readAlarmQueue, 128, s.alarmWords),
   (10, .readTransitLog, s.glob.logSize, s.logWords),
   (11, .readSlotStatus, 16, fun k => s.slotStatus (Fin.ofNat 16 k)),
   (12, .readTimingStatus, 1, fun _ => s.timingStatus),
   (13, .readFabricStatus, 1, fun _ => s.fabricStatus)]

/-- READ-ENTRIES on each of the thirteen tables, of three words, naming entries the table has, whose images fit in a
reply: answered DONE with the images of the entries in index order, taken once the request has left the queue; nothing
else changes. Naming an entry the table does not have, it is answered BAD-INDEX; with images too long for a reply,
BAD-VALUE; neither has an effect (R173 to R175). -/
def Obligations.ReadsAnswerImages : Prop :=
  ∀ (table entries : Nat) (c : Instr) (image : Nat → List Word) (data : List Word) (r : Request) (rest : List Request)
    (s : State),
    (table, c, entries, image) ∈ readRows (takeRequest rest s) → Servable s r rest → r.words.length = 3 →
    r.code = 1 → r.subject = table → data = (List.range r.count).flatMap (fun k => image (r.first + k)) →
    (r.count = 0 ∨ r.first + r.count ≤ entries → data.length ≤ 254 →
      ∃ t, exec c s = .next t ∧ OnlyAnswered r rest .done data s t) ∧
    (r.count = 0 ∨ r.first + r.count ≤ entries → 254 < data.length →
      ∃ t, exec c s = .next t ∧ OnlyAnswered r rest .badValue [] s t) ∧
    (0 < r.count → entries < r.first + r.count → ∃ t, exec c s = .next t ∧ OnlyAnswered r rest .badIndex [] s t)

/-- READ-PARK of a base word and a count: answered DONE with the words of parking memory from the base word onward, in
order, as they stand; refused BAD-VALUE with no words when the count is above 254, or when it is above 0 and the base
word is above 32,767 or the base word plus the count above 32,768; with a count of 0 answered DONE with no words
whatever the base word (R72). -/
def Obligations.ReadParkAnswersR72 : Prop :=
  ∀ (r : Request) (rest : List Request) (s : State),
    Servable s r rest → r.words.length = 3 → r.code = 3 →
    ∃ t, exec .readPark s = .next t ∧
      if 254 < r.count ∨ (0 < r.count ∧ (32767 < r.first ∨ 32768 < r.first + r.count))
      then OnlyAnswered r rest .badValue [] s t
      else ∃ data, OnlyAnswered r rest .done data s t ∧ data.length = r.count ∧
        ∀ k, k < r.count → data.getD k 0 = parkRead s.park.mem (r.first + k)

/-- READ-LATEST of an area in LATEST mode, from a starting word up to 255: answered DONE with the readable half, the
copy count, the completion seconds and nanoseconds, the number of copy words and those words, which are at most 248 of
the copy from the starting word on; with no readable copy the number is 0. An area above 63 is answered BAD-INDEX, a
starting word above 255 BAD-VALUE, and an area that is not in LATEST mode WRONG-STATE; nothing else changes (R73). -/
def Obligations.ReadLatestAnswers : Prop :=
  ∀ (r : Request) (rest : List Request) (s : State),
    Servable s r rest → r.words.length = 3 → r.code = 4 →
    (63 < r.first → ∃ t, exec .readLatest s = .next t ∧ OnlyAnswered r rest .badIndex [] s t) ∧
    (∀ n : Fin 64, r.first = n.val →
      (255 < r.count → ∃ t, exec .readLatest s = .next t ∧ OnlyAnswered r rest .badValue [] s t) ∧
      (r.count ≤ 255 → s.park.areas[n].mode ≠ .latest →
        ∃ t, exec .readLatest s = .next t ∧ OnlyAnswered r rest .wrongState [] s t) ∧
      (r.count ≤ 255 → s.park.areas[n].mode = .latest →
        ∃ t copy, exec .readLatest s = .next t ∧
          OnlyAnswered r rest .done
            ([(match s.park.areas[n].readable with | none => 3 | some false => 0 | some true => 1),
              wordOf s.park.areas[n].copies, wordOf (s.park.areas[n].doneSec / 4294967296),
              wordOf s.park.areas[n].doneSec, wordOf s.park.areas[n].doneNs, wordOf copy.length] ++ copy) s t ∧
          (s.park.areas[n].readable = none → copy = []) ∧
          ∀ half start size, s.park.areas[n].readable = some half →
            start = (if half then s.park.areas[n].base + s.park.areas[n].size else s.park.areas[n].base) →
            size = Nat.min (landingLen (parkRead s.park.mem start) + 1) s.park.areas[n].size →
            copy.length = Nat.min (size - r.count) 248 ∧
            ∀ k, k < copy.length → copy.getD k 0 = parkRead s.park.mem (start + r.count + k)))

/-- The eight writable tables: table number, command and table. -/
def writeRows : List (Nat × Instr × WriteTable) :=
  [(1, .writeSlotSettings, slotTable), (2, .writeFlowTable, flowTable), (3, .writeParkAreas, areaTable),
   (4, .writeWatches, watchTable), (5, .writeChainDescriptors, chainTable), (6, .writeCauseSettings, causeTable),
   (7, .writeGlobalSettings, globalTable), (8, .writeTimingSettings, timingTable)]

/-- A WRITE-ENTRIES request that fails a test has no effect but its reply, the first test that fails naming the status:
a table that does not exist BAD-TABLE, a table that is only read READ-ONLY, an entry the table does not have BAD-INDEX,
a wrong length BAD-REQUEST, an invalid image BAD-VALUE and, with every image valid, an image the state forbids
WRONG-STATE, each of the last two with the index of the first entry refused as its one data word. The state forbids a
change of a line function of a slot that is not EMPTY, SEATED or QUIESCED with its power off, and an enabled watch on
an area that is not in LATEST mode (R125, R166, R174). That each of the eight write rows answers a request that names
no table, and that the read row of a table answers a write of it, is the model's choice of who serves (log entry 14).
-/
def Obligations.RefusedWritesHaveNoEffect : Prop :=
  (∀ (table : Nat) (c : Instr) (w : WriteTable) (r : Request) (rest : List Request) (s : State),
    (table, c, w) ∈ writeRows → Servable s r rest → r.words ≠ [] → r.code = 2 → r.subject = table →
    (0 < r.count → w.entries < r.first + r.count →
      ∃ t, exec c s = .next t ∧ OnlyAnswered r rest .badIndex [] s t) ∧
    (r.count = 0 ∨ r.first + r.count ≤ w.entries → r.words.length ≠ 3 + imagesLength w.size r.first r.count →
      ∃ t, exec c s = .next t ∧ OnlyAnswered r rest .badRequest [] s t) ∧
    (∀ k, r.count = 0 ∨ r.first + r.count ≤ w.entries → r.words.length = 3 + imagesLength w.size r.first r.count →
      firstRefused w.ok (splitImages w.size r.first r.count (r.words.drop 3)) = some k →
      ∃ t, exec c s = .next t ∧ OnlyAnswered r rest .badValue [wordOf k] s t) ∧
    (∀ k, r.count = 0 ∨ r.first + r.count ≤ w.entries → r.words.length = 3 + imagesLength w.size r.first r.count →
      firstRefused w.ok (splitImages w.size r.first r.count (r.words.drop 3)) = none →
      firstRefused (w.allowed s) (splitImages w.size r.first r.count (r.words.drop 3)) = some k →
      ∃ t, exec c s = .next t ∧ OnlyAnswered r rest .wrongState [wordOf k] s t)) ∧
  (∀ (ws : List Word) (r : Request) (rest : List Request) (s : State),
    Servable s r rest → r.code = 2 → r.count = 1 → ws = r.words.drop 3 →
    (∀ i : Slot, r.subject = 1 → r.first = i.val → r.words.length = 26 → inRanges ws slotRanges = true →
      (SlotSettings.ofWords ws).fn0 ≠ (s.slot i).cfg.fn0 ∨ (SlotSettings.ofWords ws).fn1 ≠ (s.slot i).cfg.fn1 →
      (s.slot i).ctl.phase ∉ [.empty, .seated] → (s.slot i).ctl.phase ≠ .quiesced ∨ (s.slot i).ctl.pwrEn = true →
      ∃ t, exec .writeSlotSettings s = .next t ∧ OnlyAnswered r rest .wrongState [wordOf i.val] s t) ∧
    (∀ (n : Fin 32) (a : Fin 64), r.subject = 4 → r.first = n.val → r.words.length = 15 →
      inRanges (ws.take 9) watchRanges = true → (r.word 3).toNat = 1 → (r.word 4).toNat = a.val →
      s.park.areas[a].mode ≠ .latest →
      ∃ t, exec .writeWatches s = .next t ∧ OnlyAnswered r rest .wrongState [wordOf n.val] s t)) ∧
  (∀ (table entries : Nat) (c : Instr) (image : Nat → List Word) (r : Request) (rest : List Request) (s : State),
    (table, c, entries, image) ∈ readRows s → 9 ≤ table → Servable s r rest → r.words ≠ [] → r.code = 2 →
    r.subject = table → ∃ t, exec c s = .next t ∧ OnlyAnswered r rest .readOnly [] s t) ∧
  ∀ (table : Nat) (c : Instr) (w : WriteTable) (r : Request) (rest : List Request) (s : State),
    (table, c, w) ∈ writeRows → Servable s r rest → r.words ≠ [] → r.code = 2 → r.subject = 0 ∨ 13 < r.subject →
    ∃ t, exec c s = .next t ∧ OnlyAnswered r rest .badTable [] s t

/-- A WRITE-ENTRIES request of one entry with a valid image is answered DONE, and the entry becomes what its image
says. Flow table, park areas and chain descriptors: the other entries stay; a park area's status fields are reset and
parking memory is not touched. Slot settings with the line functions kept, watches, causes, global settings and timing
settings: a watch written as not enabled has its pair cleared and its last relation U; a cause keeps its suppressed
count, and after its write each relay is asserted exactly while an enabled raised condition has its severity (R20, R60,
R89, R94, R125, R145, R156, R164, R166, R169, R175, R176). That the last relation and value of a watch whose pair was
not raised become U and 0 too is the model's choice (log entry 56). -/
def Obligations.WritesAreStored : Prop :=
  (∀ (r : Request) (rest : List Request) (s : State), Servable s r rest → r.code = 2 → r.count = 1 →
    (r.subject = 2 → r.first < 1024 → r.words.length = 5 → flowImageOk (r.words.drop 3) = true →
      ∃ t, exec .writeFlowTable s = .next t ∧ Answered r rest .done [] s t ∧
        (∀ k, t.flowAt k = (if k = r.first then FlowEntry.ofWords (r.word 3) (r.word 4) else s.flowAt k)) ∧
        KeepsBut [.flow, .mgmt, .port, .ctl] s t ∧ OtherSlots s.mgmtSlot s t) ∧
    (∀ n : Fin 64, r.subject = 3 → r.first = n.val → r.words.length = 15 → areaImageOk (r.words.drop 3) = true →
      ∃ t al, exec .writeParkAreas s = .next t ∧ AnsweredAfter al r rest .done [] s t ∧
        t.park.mem = s.park.mem ∧
        t.park.areas = s.park.areas.set n
          { mode := AreaMode.ofCode (r.word 3).toNat, base := (r.word 4).toNat, size := (r.word 5).toNat,
            advance := decide ((r.word 6).toNat = 1), crossing := decide ((r.word 7).toNat = 1), writeIdx := 0,
            readable := none, copies := 0, doneSec := 0, doneNs := 0, doneUp := 0 } ∧
        KeepsBut [.park, .watches, .alarm, .ing, .mgmt, .port, .ctl] s t) ∧
    (∀ n : Fin 64, r.subject = 5 → r.first = n.val → r.words.length = 9 → descriptorImageOk (r.words.drop 3) = true →
      ∃ t, exec .writeChainDescriptors s = .next t ∧ Answered r rest .done [] s t ∧
        t.chain = { s.chain with table := s.chain.table.set n (Descriptor.ofWords (r.words.drop 3)) } ∧
        KeepsBut [.chain, .mgmt, .port, .ctl] s t ∧ OtherSlots s.mgmtSlot s t)) ∧
  ∀ (ws : List Word) (r : Request) (rest : List Request) (s : State),
    Servable s r rest → r.code = 2 → r.count = 1 → ws = r.words.drop 3 →
    (∀ i : Slot, r.subject = 1 → r.first = i.val → r.words.length = 26 → inRanges ws slotRanges = true →
      (SlotSettings.ofWords ws).fn0 = (s.slot i).cfg.fn0 → (SlotSettings.ofWords ws).fn1 = (s.slot i).cfg.fn1 →
      ∃ t al, exec .writeSlotSettings s = .next t ∧ AnsweredAfter al r rest .done [] s t ∧
        (∀ j, (t.slot j).cfg = (if j = i then SlotSettings.ofWords ws else (s.slot j).cfg)) ∧
        KeepsBut [.cfg, .edges, .port, .ctl, .ing, .egr, .pool, .log, .alarm, .mgmt] s t ∧
        (NoneWaits s → al = [] ∧ KeepsBut [.cfg, .edges, .mgmt, .port, .ctl] s t)) ∧
    (∀ n : Fin 32, r.subject = 4 → r.first = n.val → r.words.length = 15 →
      inRanges (ws.take 9) watchRanges = true → s.watchAreaOk ws = true →
      ∃ t al rel val, exec .writeWatches s = .next t ∧ AnsweredAfter al r rest .done [] s t ∧
        t.watches = s.watches.set n { s.watches[n].withWords ws with lastRel := rel, lastVal := val } ∧
        ((r.word 3).toNat = 0 → rel = .u ∧ val = 0 ∧ t.isRaised causeWatch n.val = false) ∧
        KeepsBut [.watches, .alarm, .mgmt, .port, .ctl] s t ∧ OtherSlots s.mgmtSlot s t) ∧
    (∀ c : Fin 64, r.subject = 6 → r.first = c.val → r.words.length = 8 →
      inRanges (ws.take 3) causeRanges = true → ws.length = 5 →
      ∃ t al, exec .writeCauseSettings s = .next t ∧ AnsweredAfter al r rest .done [] s t ∧
        t.alarm.causes = s.alarm.causes.set c
          { enable := decide ((r.word 3).toNat = 1), severity := Severity.ofCode (r.word 4).toNat,
            holdOff := (r.word 5).toNat, suppressed := (s.cause c).suppressed } ∧
        t.alarm.raised = s.alarm.raised ∧ t.relaysOk ∧
        KeepsBut [.alarm, .mgmt, .port, .ctl] s t ∧ OtherSlots s.mgmtSlot s t) ∧
    (r.subject = 7 → r.first = 0 → r.words.length = 29 → globalImageOk ws = true →
      ∃ t al, exec .writeGlobalSettings s = .next t ∧ AnsweredAfter al r rest .done [] s t ∧
        t.glob = GlobalSettings.ofWords ws ∧
        KeepsBut [.glob, .log, .nextEdge, .edges, .alarm, .mgmt, .port, .ctl] s t) ∧
    (r.subject = 8 → r.first = 0 → r.words.length = 15 → inRanges ws loopRanges = true →
      ∃ t al, exec .writeTimingSettings s = .next t ∧ AnsweredAfter al r rest .done [] s t ∧
        t.timing.cfg = LoopSettings.ofWords ws ∧ KeepsBut [.timing, .alarm, .mgmt, .port, .ctl] s t) ∧
    (∀ x : RefId, r.subject = 8 → r.first = 1 + refNum x → r.words.length = 6 → refImageOk ws = true →
      ∃ t al, exec .writeTimingSettings s = .next t ∧ AnsweredAfter al r rest .done [] s t ∧
        (t.timing.ref x).cfg = RefSettings.ofWords ws ∧ t.timing.cfg = s.timing.cfg ∧
        KeepsBut [.timing, .alarm, .mgmt, .port, .ctl] s t)

/-! ## Actions (R81, R107 to R109, R134 to R142, R147, R178) -/

/-- A slot action with its one operand at the head of the request queue. -/
def SlotRequest (code : Nat) (i : Slot) (r : Request) : Prop :=
  r.code = 5 ∧ r.subject = code ∧ r.words.length = 2 ∧ r.first = i.val

/-- The POWER-ON, POWER-OFF and CLEAR actions on a slot that is not the management slot. POWER-ON in SEATED, or in
QUIESCED with both contacts made: DONE, and the slot is POWERING with power on and RESET-OUT active; in every other
state WRONG-STATE without effect. POWER-OFF from POWERING to DRAINING: DONE, and the slot is QUIESCED with power off,
link DOWN and empty queues; in EMPTY, SEATED and FAULTED: DONE without effect; in QUIESCED: DONE, and the power is off.
CLEAR in FAULTED: DONE; SLOT-FAULT is cleared and the fault reason removed; with both contacts made and no auto-power
the slot is SEATED, with auto-power it is POWERING with power on, and with a contact missing it is EMPTY without a seat
timer; in every other state WRONG-STATE without effect (R139, R142). -/
def Obligations.PowerAndClearActions : Prop :=
  ∀ (i : Slot) (r : Request) (rest : List Request) (s : State),
    Servable s r rest → NoneWaits s → i ≠ s.mgmtSlot →
    (SlotRequest 1 i r →
      ((s.slot i).ctl.phase = .seated ∨
        ((s.slot i).ctl.phase = .quiesced ∧ (s.slot i).ctl.presL = true ∧ (s.slot i).ctl.presS = true) →
        ∃ t, exec .powerOn s = .next t ∧ Answered r rest .done [] s t ∧
          (t.slot i).ctl.phase = .powering ∧ (t.slot i).ctl.pwrEn = true ∧ (t.slot i).ctl.resetOut = true ∧
          (t.slot i).ctl.timer = some
            { kind := if (s.slot i).ctl.pwrGood then .release else .power, start := s.timing.uptime } ∧
          KeepsBut [.mgmt, .port, .ctl] s t) ∧
      (¬ ((s.slot i).ctl.phase = .seated ∨
          ((s.slot i).ctl.phase = .quiesced ∧ (s.slot i).ctl.presL = true ∧ (s.slot i).ctl.presS = true)) →
        ∃ t, exec .powerOn s = .next t ∧ OnlyAnswered r rest .wrongState [] s t)) ∧
    (SlotRequest 2 i r →
      ((s.slot i).ing.reception = none → (s.slot i).ctl.phase ∈ [.powering, .training, .admitted, .draining] →
        ∃ t al, exec .powerOff s = .next t ∧ AnsweredAfter al r rest .done [] s t ∧
          (t.slot i).ctl.phase = .quiesced ∧ (t.slot i).ctl.pwrEn = false ∧ (t.slot i).ctl.timer = none ∧
          (t.slot i).port.link = .down ∧ (t.slot i).egr.stream = [] ∧ (t.slot i).egr.control = [] ∧
          (t.slot i).egr.bulk = [] ∧ (t.slot i).egr.express = [] ∧ (t.slot i).cursor.state = .idle) ∧
      ((s.slot i).ctl.phase ∈ [.empty, .seated, .faulted] →
        ∃ t, exec .powerOff s = .next t ∧ OnlyAnswered r rest .done [] s t) ∧
      ((s.slot i).ctl.phase = .quiesced → ∃ t al, exec .powerOff s = .next t ∧
        AnsweredAfter al r rest .done [] s t ∧ (t.slot i).ctl.phase = .quiesced ∧ (t.slot i).ctl.pwrEn = false ∧
        KeepsBut [.alarm, .mgmt, .port, .ctl] s t)) ∧
    (SlotRequest 6 i r →
      ((s.slot i).ctl.phase = .faulted →
        ∃ t al, exec .clear s = .next t ∧ AnsweredAfter al r rest .done [] s t ∧
          t.isRaised causeSlotFault i.val = false ∧ (t.slot i).ctl.reason = none ∧
          (∀ c m, c ≠ causeSlotFault → m < 64 → t.isRaised c m = s.isRaised c m) ∧
          (if ((s.slot i).ctl.presL && (s.slot i).ctl.presS) = true then
            if (s.slot i).cfg.autoPower = true
            then (t.slot i).ctl.phase = .powering ∧ (t.slot i).ctl.pwrEn = true ∧ (t.slot i).ctl.resetOut = true
            else (t.slot i).ctl.phase = .seated ∧ (t.slot i).ctl.timer = none
          else (t.slot i).ctl.phase = .empty ∧ (t.slot i).ctl.timer = none) ∧
          KeepsBut [.alarm, .egr, .mgmt, .port, .ctl] s t) ∧
      ((s.slot i).ctl.phase ≠ .faulted → ∃ t, exec .clear s = .next t ∧ OnlyAnswered r rest .wrongState [] s t))

/-- The DRAIN, REST, WAKE and RETRAIN actions on a slot that is not the management slot. DRAIN in ADMITTED with a
parcel in its egress: the slot is DRAINING with its drain timer running. REST in ADMITTED and AWAKE: the sub-mode is
RESTING with a rest request, and a parcel handed over whose header has not left is handed back (R49; log entries 12 and
31). WAKE in ADMITTED and RESTING: with REST sent the slot is WAKING with its wake timer running and a WAKE asked for,
with REST not sent the request is withdrawn and the slot AWAKE. RETRAIN in ADMITTED: the slot is in TRAINING with
attempt 1 asked for and keeps its queues. Each is answered DONE, and in any other state or sub-mode WRONG-STATE without
effect (R134 to R137). -/
def Obligations.TrafficActions : Prop :=
  ∀ (i : Slot) (r : Request) (rest : List Request) (s : State),
    Servable s r rest → NoneWaits s → i ≠ s.mgmtSlot → (s.slot i).ing.reception = none →
    (s.slot i).cursor.state = .idle →
    (SlotRequest 3 i r →
      ((s.slot i).ctl.phase = .admitted → s.egressEmpty i = false →
        ∃ t, exec .drain s = .next t ∧ Answered r rest .done [] s t ∧
          (t.slot i).ctl.phase = .draining ∧ (t.slot i).ctl.sub = .awake ∧ (t.slot i).ctl.restReq = false ∧
          (t.slot i).ctl.timer = some { kind := .drain, start := s.timing.uptime } ∧
          KeepsBut [.mgmt, .port, .ctl] s t) ∧
      ((s.slot i).ctl.phase ≠ .admitted → ∃ t, exec .drain s = .next t ∧ OnlyAnswered r rest .wrongState [] s t)) ∧
    (SlotRequest 4 i r →
      (s.isAwake i = true →
        ∃ t, exec .rest s = .next t ∧ Answered r rest .done [] s t ∧
          (t.slot i).ctl = { (s.slot i).ctl with sub := .resting, restReq := true } ∧
          (t.slot i).port = (s.slot i).port ∧ (t.slot i).egr = (s.slot i).egr.occasion ∧
          KeepsBut [.mgmt, .port, .ctl, .egr] s t) ∧
      (s.isAwake i = false → ∃ t, exec .rest s = .next t ∧ OnlyAnswered r rest .wrongState [] s t)) ∧
    (SlotRequest 5 i r →
      ((s.slot i).ctl.phase = .admitted → (s.slot i).ctl.sub = .resting →
        ∃ t, exec .wake s = .next t ∧ Answered r rest .done [] s t ∧
          (t.slot i).ctl = (if (s.slot i).ctl.restReq = true
            then { (s.slot i).ctl with restReq := false, sub := .awake }
            else { (s.slot i).ctl with
              sub := .waking, timer := some { kind := .wake, start := s.timing.uptime } }) ∧
          (t.slot i).port.wakeAsked = ((s.slot i).port.wakeAsked || !(s.slot i).ctl.restReq) ∧
          KeepsBut [.mgmt, .port, .ctl] s t) ∧
      (¬ ((s.slot i).ctl.phase = .admitted ∧ (s.slot i).ctl.sub = .resting) →
        ∃ t, exec .wake s = .next t ∧ OnlyAnswered r rest .wrongState [] s t)) ∧
    (SlotRequest 7 i r →
      ((s.slot i).ctl.phase = .admitted → (s.slot i).egr.tx = .idle →
        ∃ t al, exec .retrain s = .next t ∧ AnsweredAfter al r rest .done [] s t ∧
          (t.slot i).ctl.phase = .training ∧ (t.slot i).ctl.timer = none ∧ (t.slot i).ctl.train =
            { attempt := 1, exchange := 0, step := .request, samples := [] } ∧
          (t.slot i).port.link = .training ∧ (t.slot i).port.trainReq = some 0 ∧
          (t.slot i).egr = (s.slot i).egr ∧ KeepsBut [.alarm, .mgmt, .port, .ctl] s t) ∧
      ((s.slot i).ctl.phase ≠ .admitted → ∃ t, exec .retrain s = .next t ∧ OnlyAnswered r rest .wrongState [] s t))

/-- Slot actions aimed at the management slot, with no chain running. POWER-OFF: the slot is QUIESCED with power off
and link DOWN, its queues, its replies and the requests are gone and no reply is made. DRAIN in ADMITTED: DONE, and the
slot is DRAINING with its drain timer running, though its egress was empty, for the reply is in it. REST in AWAKE:
DONE, and the slot is RESTING with a rest request, but with wake-on-traffic set the reply withdraws the request and the
slot is AWAKE; a parcel handed over whose header has not left is handed back. WAKE in RESTING: DONE, as on any slot.
RETRAIN in ADMITTED with nothing in transmission: DONE, and the slot is in TRAINING with attempt 1 asked for and keeps
its queues, the reply behind the ALARM parcels of the action's own entries. In any other state or sub-mode these four
are answered WRONG-STATE without effect, and so are POWER-ON and CLEAR (R49, R134 to R139, R142, R173, R178, R179).
That the entries of a RETRAIN are offered as ALARM parcels is the model's choice (log entry 48), and the handing back
is its reading (log entries 12 and 31). -/
def Obligations.ManagementSlotActions : Prop :=
  ∀ (i : Slot) (r : Request) (rest : List Request) (s : State),
    i = s.mgmtSlot → Servable s r rest → NoneWaits s → (s.slot i).ing.reception = none →
    (s.slot i).cursor.state = .idle →
    (SlotRequest 1 i r → ∃ t, exec .powerOn s = .next t ∧ OnlyAnswered r rest .wrongState [] s t) ∧
    (SlotRequest 2 i r →
      ∃ t, exec .powerOff s = .next t ∧ t.mgmt = { s.mgmt with queue := [], store := [], replies := [] } ∧
        (t.slot i).ctl.phase = .quiesced ∧ (t.slot i).ctl.pwrEn = false ∧ (t.slot i).ctl.timer = none ∧
        (t.slot i).port.link = .down ∧ (t.slot i).egr.stream = [] ∧ (t.slot i).egr.control = [] ∧
        (t.slot i).egr.bulk = [] ∧ (t.slot i).egr.express = [] ∧
        KeepsBut [.pool, .log, .alarm, .mgmt, .port, .ing, .egr, .ctl] s t ∧ OtherSlots i s t) ∧
    (SlotRequest 3 i r →
      ((s.slot i).ctl.phase = .admitted →
        ∃ t, exec .drain s = .next t ∧ Answered r rest .done [] s t ∧
          (t.slot i).ctl = { (s.slot i).ctl with
            phase := .draining, sub := .awake, restReq := false, train := Training.none, reason := none,
            timer := some { kind := .drain, start := s.timing.uptime } } ∧
          (t.slot i).port = { (s.slot i).port with
            wakeAsked := (s.slot i).port.wakeAsked ||
              ((s.slot i).ctl.sub == .resting && !(s.slot i).ctl.restReq) } ∧
          KeepsBut [.mgmt, .port, .ctl] s t ∧ OtherSlots i s t) ∧
      ((s.slot i).ctl.phase ≠ .admitted → ∃ t, exec .drain s = .next t ∧ OnlyAnswered r rest .wrongState [] s t)) ∧
    (SlotRequest 4 i r →
      (s.isAwake i = true →
        ∃ t, exec .rest s = .next t ∧ Answered r rest .done [] s t ∧
          (t.slot i).ctl = (if (s.slot i).cfg.wakeOnTraffic = true
            then { (s.slot i).ctl with sub := .awake, restReq := false }
            else { (s.slot i).ctl with sub := .resting, restReq := true }) ∧
          (t.slot i).port = (s.slot i).port ∧ (t.slot i).egr = (s.slot i).egr.occasion ∧
          KeepsBut [.mgmt, .ctl, .egr] s t ∧ OtherSlots i s t) ∧
      (s.isAwake i = false → ∃ t, exec .rest s = .next t ∧ OnlyAnswered r rest .wrongState [] s t)) ∧
    (SlotRequest 5 i r →
      ((s.slot i).ctl.phase = .admitted → (s.slot i).ctl.sub = .resting →
        ∃ t, exec .wake s = .next t ∧ Answered r rest .done [] s t ∧
          (t.slot i).ctl = (if (s.slot i).ctl.restReq = true
            then { (s.slot i).ctl with restReq := false, sub := .awake }
            else { (s.slot i).ctl with
              sub := .waking, timer := some { kind := .wake, start := s.timing.uptime } }) ∧
          (t.slot i).port.wakeAsked = ((s.slot i).port.wakeAsked || !(s.slot i).ctl.restReq) ∧
          KeepsBut [.mgmt, .port, .ctl] s t ∧ OtherSlots i s t) ∧
      (¬ ((s.slot i).ctl.phase = .admitted ∧ (s.slot i).ctl.sub = .resting) →
        ∃ t, exec .wake s = .next t ∧ OnlyAnswered r rest .wrongState [] s t)) ∧
    (SlotRequest 6 i r → ∃ t, exec .clear s = .next t ∧ OnlyAnswered r rest .wrongState [] s t) ∧
    (SlotRequest 7 i r →
      ((s.slot i).ctl.phase = .admitted → (s.slot i).egr.tx = .idle →
        ∃ t al, exec .retrain s = .next t ∧ AnsweredAfter al r rest .done [] s t ∧
          (t.slot i).ctl.phase = .training ∧ (t.slot i).ctl.timer = none ∧ (t.slot i).ctl.train =
            { attempt := 1, exchange := 0, step := .request, samples := [] } ∧
          (t.slot i).port.link = .training ∧ (t.slot i).port.trainReq = some 0 ∧
          (t.slot i).egr = (s.slot i).egr ∧ KeepsBut [.alarm, .mgmt, .port, .ctl] s t ∧ OtherSlots i s t) ∧
      ((s.slot i).ctl.phase ≠ .admitted → ∃ t, exec .retrain s = .next t ∧ OnlyAnswered r rest .wrongState [] s t))

/-- The CHAIN-START action on an ADMITTED slot whose chain head is 0 to 63: answered DONE; the cursor is RUNNING at a
copy of the head descriptor, its first visit, with no parcel made. With chain head 64 it is answered BAD-VALUE and in
another state WRONG-STATE, without effect. The CHAIN-STOP action: answered DONE in every state, and the cursor is IDLE;
with an IDLE cursor nothing else changes (R147, R148, R151). A descriptor has at least one word. -/
def Obligations.ChainActions : Prop :=
  ∀ (i : Slot) (r : Request) (rest : List Request) (s : State), Servable s r rest →
    (SlotRequest 8 i r →
      (∀ h : Fin 64, (s.slot i).ctl.phase = .admitted → (s.slot i).cfg.chainHead = h.val → 0 < s.chain.table[h].len →
        ∃ t, exec .chainStart s = .next t ∧ Answered r rest .done [] s t ∧
          (t.slot i).cursor = { state := .running, cur := h, copy := s.chain.table[h], visits := 1, offset := 0,
                                made := 0, last := none } ∧
          (∀ j, j ≠ i → (t.slot j).cursor = (s.slot j).cursor) ∧ KeepsBut [.cursor, .mgmt, .port, .ctl] s t) ∧
      ((s.slot i).ctl.phase = .admitted → 64 ≤ (s.slot i).cfg.chainHead →
        ∃ t, exec .chainStart s = .next t ∧ OnlyAnswered r rest .badValue [] s t) ∧
      ((s.slot i).ctl.phase ≠ .admitted →
        ∃ t, exec .chainStart s = .next t ∧ OnlyAnswered r rest .wrongState [] s t)) ∧
    (SlotRequest 9 i r →
      ∃ t al, exec .chainStop s = .next t ∧ AnsweredAfter al r rest .done [] s t ∧ (t.slot i).cursor.state = .idle ∧
        ((s.slot i).cursor.state = .idle → OnlyAnswered r rest .done [] s t) ∧
        ((s.slot i).cursor.state ≠ .idle →
          t.alarm = (postEvent causeChainAborted i.val
            (wordOf (65536 + (s.slot i).cursor.visits * 256 + (s.slot i).cursor.cur.val)) s).alarm) ∧
        (∀ j, j ≠ i → (t.slot j).cursor = (s.slot j).cursor) ∧
        KeepsBut [.cursor, .alarm, .mgmt, .port, .ctl] s t)

/-- The SET-TIME action: with an upper seconds word above 65,535 or nanoseconds above 999,999,999 it is refused
BAD-VALUE without effect; otherwise it is answered DONE in any loop state and cabinet time is the given seconds and
nanoseconds with fraction 0. It is a move: the last captures move by the same amount and the next edge instant is found
afresh. No alarm entry is posted, and the loop state, the selection, I, F, D, the lock count and staged values are
unchanged. The SET-FREQUENCY action with a signed 64-bit v: in FREE with |v| at most B, I and F become v, D is
recomputed and it is answered DONE; in FREE with |v| above B it is refused BAD-VALUE; in any other loop state it is
answered WRONG-STATE; neither changes anything, and no alarm entry is posted (R86, R107, R108). That a v above B
outside FREE is answered WRONG-STATE, and not the BAD-VALUE of the tests of a request, is the model's reading (log
entry 25). -/
def Obligations.TimeActions : Prop :=
  (∀ (r : Request) (rest : List Request) (s : State),
    Servable s r rest → r.code = 5 → r.subject = 16 → r.words.length = 4 →
    (65535 < (r.word 1).toNat ∨ 999999999 < (r.word 3).toNat →
      ∃ t, exec .setTime s = .next t ∧ OnlyAnswered r rest .badValue [] s t) ∧
    (∀ c : CabTime, (r.word 1).toNat ≤ 65535 → (r.word 3).toNat ≤ 999999999 →
      c = { sec := (r.word 1).toNat * 4294967296 + (r.word 2).toNat, ns := (r.word 3).toNat, frac := 0 } →
      ∃ t, exec .setTime s = .next t ∧ Answered r rest .done [] s t ∧
        t.timing = { s.timing with
          time := c,
          refA := { s.timing.refA with last := s.timing.refA.last.map (·.move (c.diff s.timing.time)) },
          refB := { s.timing.refB with last := s.timing.refB.last.map (·.move (c.diff s.timing.time)) } } ∧
        t.nextEdge = edgeAfter s.glob.edgePeriod c ∧ t.alarm = s.alarm ∧
        KeepsBut [.timing, .nextEdge, .edges, .mgmt, .port, .ctl] s t)) ∧
  ∀ (v : Int) (r : Request) (rest : List Request) (s : State),
    Servable s r rest → r.code = 5 → r.subject = 17 → r.words.length = 3 →
    v = ((r.word 1) ++ (r.word 2) : BitVec 64).toInt →
    ∃ t, exec .setFrequency s = .next t ∧
      if s.timing.loop = .free then
        if v.natAbs ≤ s.timing.cfg.fmax * 65536 then
          Answered r rest .done [] s t ∧
          t.timing = { s.timing with intg := v, freq := v, adj := adjOf s.timing.cfg.rounding v } ∧
          KeepsBut [.timing, .mgmt, .port, .ctl] s t ∧ OtherSlots s.mgmtSlot s t
        else OnlyAnswered r rest .badValue [] s t
      else OnlyAnswered r rest .wrongState [] s t

/-- The TIMING-RESTART, FABRIC-RESTART and LOG-CLEAR actions, each answered DONE. TIMING-RESTART: selection NONE, loop
FREE, I, F, D and the lock count 0, both references fresh, no holdover timer, HOLDOVER and FREE-RUN not raised; cabinet
time and uptime are kept. FABRIC-RESTART: no reception, no waiting place, no queued or stored parcel, every block free,
POOL-LOW not raised, every chain stopped; the request queue is kept. FABRIC-RESTART and LOG-CLEAR empty the log and
raise its count to the smallest multiple of 2,048 that is at least the count plus 2,048 (R56, R81, R109, R178). That a
TIMING-RESTART leaves a landing in progress as it is, is the model's reading (log entry 51). -/
def Obligations.RestartActions : Prop :=
  ∀ (r : Request) (rest : List Request) (s : State), Servable s r rest → r.code = 5 → r.words.length = 1 →
    (r.subject = 18 →
      ∃ t al, exec .timingRestart s = .next t ∧ AnsweredAfter al r rest .done [] s t ∧
        t.timing = { s.timing with
          sel := .none, loop := .free, intg := 0, freq := 0, adj := 0, lock := 0, holdover := none,
          refA := Reference.fresh s.timing.refA.cfg, refB := Reference.fresh s.timing.refB.cfg } ∧
        t.isRaised causeHoldover 0 = false ∧ t.isRaised causeFreeRun 0 = false ∧
        KeepsBut [.timing, .nextEdge, .edges, .alarm, .mgmt, .port, .ctl] s t) ∧
    (r.subject = 24 → (∀ i, (s.slot i).ctl.phase ≠ .draining) →
      ∃ t al, exec .fabricRestart s = .next t ∧
        t.mgmt = { s.mgmt with queue := rest, store := [], replies := al ++ [replyTo r .done []] } ∧
        t.pool.freeCount = 8192 ∧ t.pool.parcels = [] ∧ t.isRaised causePoolLow 0 = false ∧
        (∀ i, (t.slot i).ing = Ingress.reset ∧ (t.slot i).port.holdReq = false ∧ (t.slot i).egr.stream = [] ∧
          (t.slot i).egr.control = [] ∧ (t.slot i).egr.bulk = [] ∧ (t.slot i).egr.express = [] ∧
          (t.slot i).cursor.state = .idle ∧ (t.slot i).ctl.phase = (s.slot i).ctl.phase) ∧
        t.log = { recs := [], idx := 0, count := wordOf ((s.log.count.toNat + 4095) / 2048 * 2048) } ∧
        KeepsBut [.pool, .log, .chain, .alarm, .mgmt, .ing, .egr, .cursor, .port, .ctl] s t) ∧
    (r.subject = 25 →
      ∃ t, exec .logClear s = .next t ∧ Answered r rest .done [] s t ∧
        t.log = { recs := [], idx := 0, count := wordOf ((s.log.count.toNat + 4095) / 2048 * 2048) } ∧
        KeepsBut [.log, .mgmt, .port, .ctl] s t ∧ OtherSlots s.mgmtSlot s t)
end

