-- ==== Sys2Proof/Laws/State.lean ====
section
/-! SUPPORT. What each update of State does to each of its fields, so that no proof unfolds a record update. -/

namespace Sys2Proof.Machine

/-! ## One slot -/

@[simp] theorem slot_setSlot_self (s : State) (i : Slot) (x : SlotState) : (s.setSlot i x).slot i = x := by
  simp [State.setSlot, State.slot]

theorem slot_setSlot_ne (s : State) {i j : Slot} (x : SlotState) (h : j ≠ i) : (s.setSlot i x).slot j = s.slot j := by
  have h' : i.val ≠ j.val := fun e => h (Fin.ext e.symm)
  simp [State.setSlot, State.slot, Vector.getElem_set, h']

theorem slot_setSlot (s : State) (i j : Slot) (x : SlotState) :
    (s.setSlot i x).slot j = if j = i then x else s.slot j := by
  split
  · next h => rw [h, slot_setSlot_self]
  · next h => rw [slot_setSlot_ne s x h]

@[simp] theorem setSlot_keeps (s : State) (i : Slot) (x : SlotState) :
    (s.setSlot i x).flow = s.flow ∧ (s.setSlot i x).pool = s.pool ∧ (s.setSlot i x).park = s.park ∧
    (s.setSlot i x).log = s.log ∧ (s.setSlot i x).timing = s.timing ∧ (s.setSlot i x).nextEdge = s.nextEdge ∧
    (s.setSlot i x).chain = s.chain ∧ (s.setSlot i x).watches = s.watches ∧ (s.setSlot i x).alarm = s.alarm ∧
    (s.setSlot i x).mgmt = s.mgmt ∧ (s.setSlot i x).glob = s.glob ∧ (s.setSlot i x).pending = s.pending := by
  simp [State.setSlot]

@[simp] theorem modPort_keeps (s : State) (i : Slot) (f : Port → Port) :
    (s.modPort i f).flow = s.flow ∧ (s.modPort i f).pool = s.pool ∧ (s.modPort i f).park = s.park ∧
    (s.modPort i f).log = s.log ∧ (s.modPort i f).timing = s.timing ∧ (s.modPort i f).nextEdge = s.nextEdge ∧
    (s.modPort i f).chain = s.chain ∧ (s.modPort i f).watches = s.watches ∧ (s.modPort i f).alarm = s.alarm ∧
    (s.modPort i f).mgmt = s.mgmt ∧ (s.modPort i f).glob = s.glob ∧ (s.modPort i f).pending = s.pending := by
  simp [State.modPort]

@[simp] theorem modPort_slots (s : State) (i : Slot) (f : Port → Port) (j : Slot) :
    ((s.modPort i f).slot j).cfg = (s.slot j).cfg ∧ ((s.modPort i f).slot j).ing = (s.slot j).ing ∧
    ((s.modPort i f).slot j).egr = (s.slot j).egr ∧ ((s.modPort i f).slot j).ctl = (s.slot j).ctl ∧
    ((s.modPort i f).slot j).edges = (s.slot j).edges ∧ ((s.modPort i f).slot j).cursor = (s.slot j).cursor := by
  simp only [State.modPort, slot_setSlot]
  split <;> simp_all

@[simp] theorem modPort_port (s : State) (i : Slot) (f : Port → Port) (j : Slot) :
    ((s.modPort i f).slot j).port = if j = i then f (s.slot i).port else (s.slot j).port := by
  simp only [State.modPort, slot_setSlot]
  split <;> simp_all

@[simp] theorem modIng_keeps (s : State) (i : Slot) (f : Ingress → Ingress) :
    (s.modIng i f).flow = s.flow ∧ (s.modIng i f).pool = s.pool ∧ (s.modIng i f).park = s.park ∧
    (s.modIng i f).log = s.log ∧ (s.modIng i f).timing = s.timing ∧ (s.modIng i f).nextEdge = s.nextEdge ∧
    (s.modIng i f).chain = s.chain ∧ (s.modIng i f).watches = s.watches ∧ (s.modIng i f).alarm = s.alarm ∧
    (s.modIng i f).mgmt = s.mgmt ∧ (s.modIng i f).glob = s.glob ∧ (s.modIng i f).pending = s.pending := by
  simp [State.modIng]

@[simp] theorem modIng_slots (s : State) (i : Slot) (f : Ingress → Ingress) (j : Slot) :
    ((s.modIng i f).slot j).cfg = (s.slot j).cfg ∧ ((s.modIng i f).slot j).port = (s.slot j).port ∧
    ((s.modIng i f).slot j).egr = (s.slot j).egr ∧ ((s.modIng i f).slot j).ctl = (s.slot j).ctl ∧
    ((s.modIng i f).slot j).edges = (s.slot j).edges ∧ ((s.modIng i f).slot j).cursor = (s.slot j).cursor := by
  simp only [State.modIng, slot_setSlot]
  split <;> simp_all

@[simp] theorem modIng_ing (s : State) (i : Slot) (f : Ingress → Ingress) (j : Slot) :
    ((s.modIng i f).slot j).ing = if j = i then f (s.slot i).ing else (s.slot j).ing := by
  simp only [State.modIng, slot_setSlot]
  split <;> simp_all

@[simp] theorem modEgr_keeps (s : State) (i : Slot) (f : Egress → Egress) :
    (s.modEgr i f).flow = s.flow ∧ (s.modEgr i f).pool = s.pool ∧ (s.modEgr i f).park = s.park ∧
    (s.modEgr i f).log = s.log ∧ (s.modEgr i f).timing = s.timing ∧ (s.modEgr i f).nextEdge = s.nextEdge ∧
    (s.modEgr i f).chain = s.chain ∧ (s.modEgr i f).watches = s.watches ∧ (s.modEgr i f).alarm = s.alarm ∧
    (s.modEgr i f).mgmt = s.mgmt ∧ (s.modEgr i f).glob = s.glob ∧ (s.modEgr i f).pending = s.pending := by
  simp [State.modEgr]

@[simp] theorem modEgr_slots (s : State) (i : Slot) (f : Egress → Egress) (j : Slot) :
    ((s.modEgr i f).slot j).cfg = (s.slot j).cfg ∧ ((s.modEgr i f).slot j).port = (s.slot j).port ∧
    ((s.modEgr i f).slot j).ing = (s.slot j).ing ∧ ((s.modEgr i f).slot j).ctl = (s.slot j).ctl ∧
    ((s.modEgr i f).slot j).edges = (s.slot j).edges ∧ ((s.modEgr i f).slot j).cursor = (s.slot j).cursor := by
  simp only [State.modEgr, slot_setSlot]
  split <;> simp_all

@[simp] theorem modEgr_egr (s : State) (i : Slot) (f : Egress → Egress) (j : Slot) :
    ((s.modEgr i f).slot j).egr = if j = i then f (s.slot i).egr else (s.slot j).egr := by
  simp only [State.modEgr, slot_setSlot]
  split <;> simp_all

@[simp] theorem modCtl_keeps (s : State) (i : Slot) (f : Ctl → Ctl) :
    (s.modCtl i f).flow = s.flow ∧ (s.modCtl i f).pool = s.pool ∧ (s.modCtl i f).park = s.park ∧
    (s.modCtl i f).log = s.log ∧ (s.modCtl i f).timing = s.timing ∧ (s.modCtl i f).nextEdge = s.nextEdge ∧
    (s.modCtl i f).chain = s.chain ∧ (s.modCtl i f).watches = s.watches ∧ (s.modCtl i f).alarm = s.alarm ∧
    (s.modCtl i f).mgmt = s.mgmt ∧ (s.modCtl i f).glob = s.glob ∧ (s.modCtl i f).pending = s.pending := by
  simp [State.modCtl]

@[simp] theorem modCtl_slots (s : State) (i : Slot) (f : Ctl → Ctl) (j : Slot) :
    ((s.modCtl i f).slot j).cfg = (s.slot j).cfg ∧ ((s.modCtl i f).slot j).port = (s.slot j).port ∧
    ((s.modCtl i f).slot j).ing = (s.slot j).ing ∧ ((s.modCtl i f).slot j).egr = (s.slot j).egr ∧
    ((s.modCtl i f).slot j).edges = (s.slot j).edges ∧ ((s.modCtl i f).slot j).cursor = (s.slot j).cursor := by
  simp only [State.modCtl, slot_setSlot]
  split <;> simp_all

@[simp] theorem modCtl_ctl (s : State) (i : Slot) (f : Ctl → Ctl) (j : Slot) :
    ((s.modCtl i f).slot j).ctl = if j = i then f (s.slot i).ctl else (s.slot j).ctl := by
  simp only [State.modCtl, slot_setSlot]
  split <;> simp_all

@[simp] theorem modEdges_keeps (s : State) (i : Slot) (f : SlotEdges → SlotEdges) :
    (s.modEdges i f).flow = s.flow ∧ (s.modEdges i f).pool = s.pool ∧ (s.modEdges i f).park = s.park ∧
    (s.modEdges i f).log = s.log ∧ (s.modEdges i f).timing = s.timing ∧ (s.modEdges i f).nextEdge = s.nextEdge ∧
    (s.modEdges i f).chain = s.chain ∧ (s.modEdges i f).watches = s.watches ∧ (s.modEdges i f).alarm = s.alarm ∧
    (s.modEdges i f).mgmt = s.mgmt ∧ (s.modEdges i f).glob = s.glob ∧ (s.modEdges i f).pending = s.pending := by
  simp [State.modEdges]

@[simp] theorem modEdges_slots (s : State) (i : Slot) (f : SlotEdges → SlotEdges) (j : Slot) :
    ((s.modEdges i f).slot j).cfg = (s.slot j).cfg ∧ ((s.modEdges i f).slot j).port = (s.slot j).port ∧
    ((s.modEdges i f).slot j).ing = (s.slot j).ing ∧ ((s.modEdges i f).slot j).egr = (s.slot j).egr ∧
    ((s.modEdges i f).slot j).ctl = (s.slot j).ctl ∧ ((s.modEdges i f).slot j).cursor = (s.slot j).cursor := by
  simp only [State.modEdges, slot_setSlot]
  split <;> simp_all

@[simp] theorem modEdges_edges (s : State) (i : Slot) (f : SlotEdges → SlotEdges) (j : Slot) :
    ((s.modEdges i f).slot j).edges = if j = i then f (s.slot i).edges else (s.slot j).edges := by
  simp only [State.modEdges, slot_setSlot]
  split <;> simp_all

@[simp] theorem setCursor_keeps (s : State) (i : Slot) (f : Cursor) :
    (s.setCursor i f).flow = s.flow ∧ (s.setCursor i f).pool = s.pool ∧ (s.setCursor i f).park = s.park ∧
    (s.setCursor i f).log = s.log ∧ (s.setCursor i f).timing = s.timing ∧ (s.setCursor i f).nextEdge = s.nextEdge ∧
    (s.setCursor i f).chain = s.chain ∧ (s.setCursor i f).watches = s.watches ∧ (s.setCursor i f).alarm = s.alarm ∧
    (s.setCursor i f).mgmt = s.mgmt ∧ (s.setCursor i f).glob = s.glob ∧ (s.setCursor i f).pending = s.pending := by
  simp [State.setCursor]

@[simp] theorem setCursor_slots (s : State) (i : Slot) (f : Cursor) (j : Slot) :
    ((s.setCursor i f).slot j).cfg = (s.slot j).cfg ∧ ((s.setCursor i f).slot j).port = (s.slot j).port ∧
    ((s.setCursor i f).slot j).ing = (s.slot j).ing ∧ ((s.setCursor i f).slot j).egr = (s.slot j).egr ∧
    ((s.setCursor i f).slot j).ctl = (s.slot j).ctl ∧ ((s.setCursor i f).slot j).edges = (s.slot j).edges := by
  simp only [State.setCursor, slot_setSlot]
  split <;> simp_all

@[simp] theorem setCursor_cursor (s : State) (i : Slot) (f : Cursor) (j : Slot) :
    ((s.setCursor i f).slot j).cursor = if j = i then f else (s.slot j).cursor := by
  simp only [State.setCursor, slot_setSlot]
  split <;> simp_all

@[simp] theorem setCfg_keeps (s : State) (i : Slot) (f : SlotSettings) :
    (s.setCfg i f).flow = s.flow ∧ (s.setCfg i f).pool = s.pool ∧ (s.setCfg i f).park = s.park ∧
    (s.setCfg i f).log = s.log ∧ (s.setCfg i f).timing = s.timing ∧ (s.setCfg i f).nextEdge = s.nextEdge ∧
    (s.setCfg i f).chain = s.chain ∧ (s.setCfg i f).watches = s.watches ∧ (s.setCfg i f).alarm = s.alarm ∧
    (s.setCfg i f).mgmt = s.mgmt ∧ (s.setCfg i f).glob = s.glob ∧ (s.setCfg i f).pending = s.pending := by
  simp [State.setCfg]

@[simp] theorem setCfg_slots (s : State) (i : Slot) (f : SlotSettings) (j : Slot) :
    ((s.setCfg i f).slot j).port = (s.slot j).port ∧ ((s.setCfg i f).slot j).ing = (s.slot j).ing ∧
    ((s.setCfg i f).slot j).egr = (s.slot j).egr ∧ ((s.setCfg i f).slot j).ctl = (s.slot j).ctl ∧
    ((s.setCfg i f).slot j).edges = (s.slot j).edges ∧ ((s.setCfg i f).slot j).cursor = (s.slot j).cursor := by
  simp only [State.setCfg, slot_setSlot]
  split <;> simp_all

@[simp] theorem setCfg_cfg (s : State) (i : Slot) (f : SlotSettings) (j : Slot) :
    ((s.setCfg i f).slot j).cfg = if j = i then f else (s.slot j).cfg := by
  simp only [State.setCfg, slot_setSlot]
  split <;> simp_all

/-! ## The units that exist once -/

@[simp] theorem modPool_fields (s : State) (f : Pool → Pool) :
    (s.modPool f).pool = f s.pool ∧ (s.modPool f).flow = s.flow ∧ (s.modPool f).park = s.park ∧
    (s.modPool f).log = s.log ∧ (s.modPool f).timing = s.timing ∧ (s.modPool f).nextEdge = s.nextEdge ∧
    (s.modPool f).chain = s.chain ∧ (s.modPool f).watches = s.watches ∧ (s.modPool f).alarm = s.alarm ∧
    (s.modPool f).mgmt = s.mgmt ∧ (s.modPool f).glob = s.glob ∧ (s.modPool f).pending = s.pending ∧
    ∀ j, (s.modPool f).slot j = s.slot j := by
  simp [State.modPool, State.slot]

@[simp] theorem modPark_fields (s : State) (f : Park → Park) :
    (s.modPark f).park = f s.park ∧ (s.modPark f).flow = s.flow ∧ (s.modPark f).pool = s.pool ∧
    (s.modPark f).log = s.log ∧ (s.modPark f).timing = s.timing ∧ (s.modPark f).nextEdge = s.nextEdge ∧
    (s.modPark f).chain = s.chain ∧ (s.modPark f).watches = s.watches ∧ (s.modPark f).alarm = s.alarm ∧
    (s.modPark f).mgmt = s.mgmt ∧ (s.modPark f).glob = s.glob ∧ (s.modPark f).pending = s.pending ∧
    ∀ j, (s.modPark f).slot j = s.slot j := by
  simp [State.modPark, State.slot]

@[simp] theorem modLog_fields (s : State) (f : TransitLog → TransitLog) :
    (s.modLog f).log = f s.log ∧ (s.modLog f).flow = s.flow ∧ (s.modLog f).pool = s.pool ∧
    (s.modLog f).park = s.park ∧ (s.modLog f).timing = s.timing ∧ (s.modLog f).nextEdge = s.nextEdge ∧
    (s.modLog f).chain = s.chain ∧ (s.modLog f).watches = s.watches ∧ (s.modLog f).alarm = s.alarm ∧
    (s.modLog f).mgmt = s.mgmt ∧ (s.modLog f).glob = s.glob ∧ (s.modLog f).pending = s.pending ∧
    ∀ j, (s.modLog f).slot j = s.slot j := by
  simp [State.modLog, State.slot]

@[simp] theorem modTiming_fields (s : State) (f : Timing → Timing) :
    (s.modTiming f).timing = f s.timing ∧ (s.modTiming f).flow = s.flow ∧ (s.modTiming f).pool = s.pool ∧
    (s.modTiming f).park = s.park ∧ (s.modTiming f).log = s.log ∧ (s.modTiming f).nextEdge = s.nextEdge ∧
    (s.modTiming f).chain = s.chain ∧ (s.modTiming f).watches = s.watches ∧ (s.modTiming f).alarm = s.alarm ∧
    (s.modTiming f).mgmt = s.mgmt ∧ (s.modTiming f).glob = s.glob ∧ (s.modTiming f).pending = s.pending ∧
    ∀ j, (s.modTiming f).slot j = s.slot j := by
  simp [State.modTiming, State.slot]

@[simp] theorem modAlarm_fields (s : State) (f : Alarm → Alarm) :
    (s.modAlarm f).alarm = f s.alarm ∧ (s.modAlarm f).flow = s.flow ∧ (s.modAlarm f).pool = s.pool ∧
    (s.modAlarm f).park = s.park ∧ (s.modAlarm f).log = s.log ∧ (s.modAlarm f).timing = s.timing ∧
    (s.modAlarm f).nextEdge = s.nextEdge ∧ (s.modAlarm f).chain = s.chain ∧ (s.modAlarm f).watches = s.watches ∧
    (s.modAlarm f).mgmt = s.mgmt ∧ (s.modAlarm f).glob = s.glob ∧ (s.modAlarm f).pending = s.pending ∧
    ∀ j, (s.modAlarm f).slot j = s.slot j := by
  simp [State.modAlarm, State.slot]

@[simp] theorem modMgmt_fields (s : State) (f : Mgmt → Mgmt) :
    (s.modMgmt f).mgmt = f s.mgmt ∧ (s.modMgmt f).flow = s.flow ∧ (s.modMgmt f).pool = s.pool ∧
    (s.modMgmt f).park = s.park ∧ (s.modMgmt f).log = s.log ∧ (s.modMgmt f).timing = s.timing ∧
    (s.modMgmt f).nextEdge = s.nextEdge ∧ (s.modMgmt f).chain = s.chain ∧ (s.modMgmt f).watches = s.watches ∧
    (s.modMgmt f).alarm = s.alarm ∧ (s.modMgmt f).glob = s.glob ∧ (s.modMgmt f).pending = s.pending ∧
    ∀ j, (s.modMgmt f).slot j = s.slot j := by
  simp [State.modMgmt, State.slot]

@[simp] theorem modChain_fields (s : State) (f : ChainEngine → ChainEngine) :
    (s.modChain f).chain = f s.chain ∧ (s.modChain f).flow = s.flow ∧ (s.modChain f).pool = s.pool ∧
    (s.modChain f).park = s.park ∧ (s.modChain f).log = s.log ∧ (s.modChain f).timing = s.timing ∧
    (s.modChain f).nextEdge = s.nextEdge ∧ (s.modChain f).watches = s.watches ∧ (s.modChain f).alarm = s.alarm ∧
    (s.modChain f).mgmt = s.mgmt ∧ (s.modChain f).glob = s.glob ∧ (s.modChain f).pending = s.pending ∧
    ∀ j, (s.modChain f).slot j = s.slot j := by
  simp [State.modChain, State.slot]

@[simp] theorem withPending_fields (s : State) (p : List Instr) :
    (s.withPending p).flow = s.flow ∧ (s.withPending p).pool = s.pool ∧ (s.withPending p).park = s.park ∧
    (s.withPending p).log = s.log ∧ (s.withPending p).timing = s.timing ∧ (s.withPending p).nextEdge = s.nextEdge ∧
    (s.withPending p).chain = s.chain ∧ (s.withPending p).watches = s.watches ∧ (s.withPending p).alarm = s.alarm ∧
    (s.withPending p).mgmt = s.mgmt ∧ (s.withPending p).glob = s.glob ∧ (s.withPending p).pending = p ∧
    ∀ j, (s.withPending p).slot j = s.slot j := by
  simp [State.withPending, State.slot]

@[simp] theorem setWatch_fields (s : State) (n : Fin 32) (w : Watch) :
    (s.setWatch n w).watches = s.watches.set n w ∧ (s.setWatch n w).flow = s.flow ∧ (s.setWatch n w).pool = s.pool ∧
    (s.setWatch n w).park = s.park ∧ (s.setWatch n w).log = s.log ∧ (s.setWatch n w).timing = s.timing ∧
    (s.setWatch n w).nextEdge = s.nextEdge ∧ (s.setWatch n w).chain = s.chain ∧ (s.setWatch n w).alarm = s.alarm ∧
    (s.setWatch n w).mgmt = s.mgmt ∧ (s.setWatch n w).glob = s.glob ∧ (s.setWatch n w).pending = s.pending ∧
    ∀ j, (s.setWatch n w).slot j = s.slot j := by
  simp [State.setWatch, State.slot]

@[simp] theorem slot_mk (a b c d e f g h i j k l m) (n : Slot) :
    (State.mk a b c d e f g h i j k l m).slot n = a[n] := rfl

@[simp] theorem slots_get (s : State) (i : Slot) : s.slots[i.val] = s.slot i := rfl

/-! ## Repeated operations keep what each of them keeps -/

@[simp] theorem foldl_flow {β : Type} {l : List β} {f : State → β → State} {s : State}
    (h : ∀ t b, (f t b).flow = t.flow) : (l.foldl f s).flow = s.flow := by
  induction l generalizing s with
  | nil => rfl
  | cons b r ih => rw [List.foldl_cons, ih, h]

@[simp] theorem eachSlot_flow {s : State} {f : Slot → State → State} (h : ∀ i t, (f i t).flow = t.flow) :
    (s.eachSlot f).flow = s.flow := foldl_flow (fun t i => h i t)

@[simp] theorem foldl_pool {β : Type} {l : List β} {f : State → β → State} {s : State}
    (h : ∀ t b, (f t b).pool = t.pool) : (l.foldl f s).pool = s.pool := by
  induction l generalizing s with
  | nil => rfl
  | cons b r ih => rw [List.foldl_cons, ih, h]

@[simp] theorem eachSlot_pool {s : State} {f : Slot → State → State} (h : ∀ i t, (f i t).pool = t.pool) :
    (s.eachSlot f).pool = s.pool := foldl_pool (fun t i => h i t)

@[simp] theorem foldl_park {β : Type} {l : List β} {f : State → β → State} {s : State}
    (h : ∀ t b, (f t b).park = t.park) : (l.foldl f s).park = s.park := by
  induction l generalizing s with
  | nil => rfl
  | cons b r ih => rw [List.foldl_cons, ih, h]

@[simp] theorem eachSlot_park {s : State} {f : Slot → State → State} (h : ∀ i t, (f i t).park = t.park) :
    (s.eachSlot f).park = s.park := foldl_park (fun t i => h i t)

@[simp] theorem foldl_log {β : Type} {l : List β} {f : State → β → State} {s : State}
    (h : ∀ t b, (f t b).log = t.log) : (l.foldl f s).log = s.log := by
  induction l generalizing s with
  | nil => rfl
  | cons b r ih => rw [List.foldl_cons, ih, h]

@[simp] theorem eachSlot_log {s : State} {f : Slot → State → State} (h : ∀ i t, (f i t).log = t.log) :
    (s.eachSlot f).log = s.log := foldl_log (fun t i => h i t)

@[simp] theorem foldl_timing {β : Type} {l : List β} {f : State → β → State} {s : State}
    (h : ∀ t b, (f t b).timing = t.timing) : (l.foldl f s).timing = s.timing := by
  induction l generalizing s with
  | nil => rfl
  | cons b r ih => rw [List.foldl_cons, ih, h]

@[simp] theorem eachSlot_timing {s : State} {f : Slot → State → State} (h : ∀ i t, (f i t).timing = t.timing) :
    (s.eachSlot f).timing = s.timing := foldl_timing (fun t i => h i t)

@[simp] theorem foldl_nextEdge {β : Type} {l : List β} {f : State → β → State} {s : State}
    (h : ∀ t b, (f t b).nextEdge = t.nextEdge) : (l.foldl f s).nextEdge = s.nextEdge := by
  induction l generalizing s with
  | nil => rfl
  | cons b r ih => rw [List.foldl_cons, ih, h]

@[simp] theorem eachSlot_nextEdge {s : State} {f : Slot → State → State} (h : ∀ i t, (f i t).nextEdge = t.nextEdge) :
    (s.eachSlot f).nextEdge = s.nextEdge := foldl_nextEdge (fun t i => h i t)

@[simp] theorem foldl_chain {β : Type} {l : List β} {f : State → β → State} {s : State}
    (h : ∀ t b, (f t b).chain = t.chain) : (l.foldl f s).chain = s.chain := by
  induction l generalizing s with
  | nil => rfl
  | cons b r ih => rw [List.foldl_cons, ih, h]

@[simp] theorem eachSlot_chain {s : State} {f : Slot → State → State} (h : ∀ i t, (f i t).chain = t.chain) :
    (s.eachSlot f).chain = s.chain := foldl_chain (fun t i => h i t)

@[simp] theorem foldl_watches {β : Type} {l : List β} {f : State → β → State} {s : State}
    (h : ∀ t b, (f t b).watches = t.watches) : (l.foldl f s).watches = s.watches := by
  induction l generalizing s with
  | nil => rfl
  | cons b r ih => rw [List.foldl_cons, ih, h]

@[simp] theorem eachSlot_watches {s : State} {f : Slot → State → State} (h : ∀ i t, (f i t).watches = t.watches) :
    (s.eachSlot f).watches = s.watches := foldl_watches (fun t i => h i t)

@[simp] theorem foldl_alarm {β : Type} {l : List β} {f : State → β → State} {s : State}
    (h : ∀ t b, (f t b).alarm = t.alarm) : (l.foldl f s).alarm = s.alarm := by
  induction l generalizing s with
  | nil => rfl
  | cons b r ih => rw [List.foldl_cons, ih, h]

@[simp] theorem eachSlot_alarm {s : State} {f : Slot → State → State} (h : ∀ i t, (f i t).alarm = t.alarm) :
    (s.eachSlot f).alarm = s.alarm := foldl_alarm (fun t i => h i t)

@[simp] theorem foldl_mgmt {β : Type} {l : List β} {f : State → β → State} {s : State}
    (h : ∀ t b, (f t b).mgmt = t.mgmt) : (l.foldl f s).mgmt = s.mgmt := by
  induction l generalizing s with
  | nil => rfl
  | cons b r ih => rw [List.foldl_cons, ih, h]

@[simp] theorem eachSlot_mgmt {s : State} {f : Slot → State → State} (h : ∀ i t, (f i t).mgmt = t.mgmt) :
    (s.eachSlot f).mgmt = s.mgmt := foldl_mgmt (fun t i => h i t)

@[simp] theorem foldl_glob {β : Type} {l : List β} {f : State → β → State} {s : State}
    (h : ∀ t b, (f t b).glob = t.glob) : (l.foldl f s).glob = s.glob := by
  induction l generalizing s with
  | nil => rfl
  | cons b r ih => rw [List.foldl_cons, ih, h]

@[simp] theorem eachSlot_glob {s : State} {f : Slot → State → State} (h : ∀ i t, (f i t).glob = t.glob) :
    (s.eachSlot f).glob = s.glob := foldl_glob (fun t i => h i t)

@[simp] theorem foldl_pending {β : Type} {l : List β} {f : State → β → State} {s : State}
    (h : ∀ t b, (f t b).pending = t.pending) : (l.foldl f s).pending = s.pending := by
  induction l generalizing s with
  | nil => rfl
  | cons b r ih => rw [List.foldl_cons, ih, h]

@[simp] theorem eachSlot_pending {s : State} {f : Slot → State → State} (h : ∀ i t, (f i t).pending = t.pending) :
    (s.eachSlot f).pending = s.pending := foldl_pending (fun t i => h i t)

@[simp] theorem foldl_msel {β : Type} {l : List β} {f : State → β → State} {s : State}
    (h : ∀ t b, (f t b).mgmt.msel = t.mgmt.msel) : (l.foldl f s).mgmt.msel = s.mgmt.msel := by
  induction l generalizing s with
  | nil => rfl
  | cons b r ih => rw [List.foldl_cons, ih, h]

@[simp] theorem eachSlot_msel {s : State} {f : Slot → State → State} (h : ∀ i t, (f i t).mgmt.msel = t.mgmt.msel) :
    (s.eachSlot f).mgmt.msel = s.mgmt.msel := foldl_msel (fun t i => h i t)

@[simp] theorem foldl_cfg {β : Type} {l : List β} {f : State → β → State} {s : State} {j : Slot}
    (h : ∀ t b, ((f t b).slot j).cfg = (t.slot j).cfg) : ((l.foldl f s).slot j).cfg = (s.slot j).cfg := by
  induction l generalizing s with
  | nil => rfl
  | cons b r ih => rw [List.foldl_cons, ih, h]

@[simp] theorem eachSlot_cfg {s : State} {f : Slot → State → State} {j : Slot}
    (h : ∀ i t, ((f i t).slot j).cfg = (t.slot j).cfg) : ((s.eachSlot f).slot j).cfg = (s.slot j).cfg :=
  foldl_cfg (fun t i => h i t)

@[simp] theorem foldl_port {β : Type} {l : List β} {f : State → β → State} {s : State} {j : Slot}
    (h : ∀ t b, ((f t b).slot j).port = (t.slot j).port) : ((l.foldl f s).slot j).port = (s.slot j).port := by
  induction l generalizing s with
  | nil => rfl
  | cons b r ih => rw [List.foldl_cons, ih, h]

@[simp] theorem eachSlot_port {s : State} {f : Slot → State → State} {j : Slot}
    (h : ∀ i t, ((f i t).slot j).port = (t.slot j).port) : ((s.eachSlot f).slot j).port = (s.slot j).port :=
  foldl_port (fun t i => h i t)

@[simp] theorem foldl_ing {β : Type} {l : List β} {f : State → β → State} {s : State} {j : Slot}
    (h : ∀ t b, ((f t b).slot j).ing = (t.slot j).ing) : ((l.foldl f s).slot j).ing = (s.slot j).ing := by
  induction l generalizing s with
  | nil => rfl
  | cons b r ih => rw [List.foldl_cons, ih, h]

@[simp] theorem eachSlot_ing {s : State} {f : Slot → State → State} {j : Slot}
    (h : ∀ i t, ((f i t).slot j).ing = (t.slot j).ing) : ((s.eachSlot f).slot j).ing = (s.slot j).ing :=
  foldl_ing (fun t i => h i t)

@[simp] theorem foldl_egr {β : Type} {l : List β} {f : State → β → State} {s : State} {j : Slot}
    (h : ∀ t b, ((f t b).slot j).egr = (t.slot j).egr) : ((l.foldl f s).slot j).egr = (s.slot j).egr := by
  induction l generalizing s with
  | nil => rfl
  | cons b r ih => rw [List.foldl_cons, ih, h]

@[simp] theorem eachSlot_egr {s : State} {f : Slot → State → State} {j : Slot}
    (h : ∀ i t, ((f i t).slot j).egr = (t.slot j).egr) : ((s.eachSlot f).slot j).egr = (s.slot j).egr :=
  foldl_egr (fun t i => h i t)

@[simp] theorem foldl_ctl {β : Type} {l : List β} {f : State → β → State} {s : State} {j : Slot}
    (h : ∀ t b, ((f t b).slot j).ctl = (t.slot j).ctl) : ((l.foldl f s).slot j).ctl = (s.slot j).ctl := by
  induction l generalizing s with
  | nil => rfl
  | cons b r ih => rw [List.foldl_cons, ih, h]

@[simp] theorem eachSlot_ctl {s : State} {f : Slot → State → State} {j : Slot}
    (h : ∀ i t, ((f i t).slot j).ctl = (t.slot j).ctl) : ((s.eachSlot f).slot j).ctl = (s.slot j).ctl :=
  foldl_ctl (fun t i => h i t)

@[simp] theorem foldl_edges {β : Type} {l : List β} {f : State → β → State} {s : State} {j : Slot}
    (h : ∀ t b, ((f t b).slot j).edges = (t.slot j).edges) : ((l.foldl f s).slot j).edges = (s.slot j).edges := by
  induction l generalizing s with
  | nil => rfl
  | cons b r ih => rw [List.foldl_cons, ih, h]

@[simp] theorem eachSlot_edges {s : State} {f : Slot → State → State} {j : Slot}
    (h : ∀ i t, ((f i t).slot j).edges = (t.slot j).edges) : ((s.eachSlot f).slot j).edges = (s.slot j).edges :=
  foldl_edges (fun t i => h i t)

@[simp] theorem foldl_cursor {β : Type} {l : List β} {f : State → β → State} {s : State} {j : Slot}
    (h : ∀ t b, ((f t b).slot j).cursor = (t.slot j).cursor) : ((l.foldl f s).slot j).cursor = (s.slot j).cursor := by
  induction l generalizing s with
  | nil => rfl
  | cons b r ih => rw [List.foldl_cons, ih, h]

@[simp] theorem eachSlot_cursor {s : State} {f : Slot → State → State} {j : Slot}
    (h : ∀ i t, ((f i t).slot j).cursor = (t.slot j).cursor) : ((s.eachSlot f).slot j).cursor = (s.slot j).cursor :=
  foldl_cursor (fun t i => h i t)

end Sys2Proof.Machine
end

