-- ==== Sys2Proof/Laws/KeepsUnits.lean ====
section
/-! SUPPORT. What each shared operation leaves as it was: the units that exist once: alarms, pool, chains, edges, log, watches, parking and timing. -/

namespace Sys2Proof.Machine

@[simp] theorem judgeRelays_keeps (s : State) :
    (judgeRelays s).flow = s.flow ∧ (judgeRelays s).pool = s.pool ∧ (judgeRelays s).park = s.park ∧
    (judgeRelays s).log = s.log ∧ (judgeRelays s).timing = s.timing ∧ (judgeRelays s).nextEdge = s.nextEdge ∧
    (judgeRelays s).chain = s.chain ∧ (judgeRelays s).watches = s.watches ∧ (judgeRelays s).mgmt = s.mgmt ∧
    (judgeRelays s).glob = s.glob ∧ (judgeRelays s).pending = s.pending ∧
    (∀ q, ((judgeRelays s).slot q).cfg = (s.slot q).cfg) ∧ (∀ q, ((judgeRelays s).slot q).port = (s.slot q).port) ∧
    (∀ q, ((judgeRelays s).slot q).ing = (s.slot q).ing) ∧ (∀ q, ((judgeRelays s).slot q).egr = (s.slot q).egr) ∧
    (∀ q, ((judgeRelays s).slot q).ctl = (s.slot q).ctl) ∧ (∀ q, ((judgeRelays s).slot q).edges = (s.slot q).edges) ∧
    (∀ q, ((judgeRelays s).slot q).cursor = (s.slot q).cursor) := by
  refine ⟨?_, ?_, ?_, ?_, ?_, ?_, ?_, ?_, ?_, ?_, ?_, ?_, ?_, ?_, ?_, ?_, ?_, ?_⟩ <;> try intro q
  all_goals first
    | (simp [judgeRelays]; done)
    | (simp only [judgeRelays]; (repeat' split) <;> simp)

@[simp] theorem offerAlarmParcel_keeps (e : AlarmEntry) (s : State) :
    (offerAlarmParcel e s).flow = s.flow ∧ (offerAlarmParcel e s).pool = s.pool ∧
    (offerAlarmParcel e s).park = s.park ∧ (offerAlarmParcel e s).log = s.log ∧
    (offerAlarmParcel e s).timing = s.timing ∧ (offerAlarmParcel e s).nextEdge = s.nextEdge ∧
    (offerAlarmParcel e s).chain = s.chain ∧ (offerAlarmParcel e s).watches = s.watches ∧
    (offerAlarmParcel e s).alarm = s.alarm ∧ (offerAlarmParcel e s).mgmt.msel = s.mgmt.msel ∧
    (offerAlarmParcel e s).glob = s.glob ∧ (offerAlarmParcel e s).pending = s.pending ∧
    (∀ q, ((offerAlarmParcel e s).slot q).cfg = (s.slot q).cfg) ∧
    (∀ q, ((offerAlarmParcel e s).slot q).port = (s.slot q).port) ∧
    (∀ q, ((offerAlarmParcel e s).slot q).ing = (s.slot q).ing) ∧
    (∀ q, ((offerAlarmParcel e s).slot q).egr = (s.slot q).egr) ∧
    (∀ q, ((offerAlarmParcel e s).slot q).ctl = (s.slot q).ctl) ∧
    (∀ q, ((offerAlarmParcel e s).slot q).edges = (s.slot q).edges) ∧
    (∀ q, ((offerAlarmParcel e s).slot q).cursor = (s.slot q).cursor) := by
  refine ⟨?_, ?_, ?_, ?_, ?_, ?_, ?_, ?_, ?_, ?_, ?_, ?_, ?_, ?_, ?_, ?_, ?_, ?_, ?_⟩ <;> try intro q
  all_goals first
    | (simp [offerAlarmParcel]; done)
    | (simp only [offerAlarmParcel]; (repeat' split) <;> simp)

@[simp] theorem writeEntry_keeps (e : AlarmEntry) (s : State) :
    (writeEntry e s).flow = s.flow ∧ (writeEntry e s).pool = s.pool ∧ (writeEntry e s).park = s.park ∧
    (writeEntry e s).log = s.log ∧ (writeEntry e s).timing = s.timing ∧ (writeEntry e s).nextEdge = s.nextEdge ∧
    (writeEntry e s).chain = s.chain ∧ (writeEntry e s).watches = s.watches ∧
    (writeEntry e s).mgmt.msel = s.mgmt.msel ∧ (writeEntry e s).glob = s.glob ∧
    (writeEntry e s).pending = s.pending ∧ (∀ q, ((writeEntry e s).slot q).cfg = (s.slot q).cfg) ∧
    (∀ q, ((writeEntry e s).slot q).port = (s.slot q).port) ∧ (∀ q, ((writeEntry e s).slot q).ing = (s.slot q).ing) ∧
    (∀ q, ((writeEntry e s).slot q).egr = (s.slot q).egr) ∧ (∀ q, ((writeEntry e s).slot q).ctl = (s.slot q).ctl) ∧
    (∀ q, ((writeEntry e s).slot q).edges = (s.slot q).edges) ∧
    (∀ q, ((writeEntry e s).slot q).cursor = (s.slot q).cursor) := by
  refine ⟨?_, ?_, ?_, ?_, ?_, ?_, ?_, ?_, ?_, ?_, ?_, ?_, ?_, ?_, ?_, ?_, ?_, ?_⟩ <;> try intro q
  all_goals first
    | (simp [writeEntry]; done)
    | (simp only [writeEntry]; (repeat' split) <;> simp)

@[simp] theorem trackPosted_keeps (c : Fin 64) (inst : Nat) (s : State) :
    (trackPosted c inst s).flow = s.flow ∧ (trackPosted c inst s).pool = s.pool ∧
    (trackPosted c inst s).park = s.park ∧ (trackPosted c inst s).log = s.log ∧
    (trackPosted c inst s).timing = s.timing ∧ (trackPosted c inst s).nextEdge = s.nextEdge ∧
    (trackPosted c inst s).chain = s.chain ∧ (trackPosted c inst s).watches = s.watches ∧
    (trackPosted c inst s).mgmt = s.mgmt ∧ (trackPosted c inst s).glob = s.glob ∧
    (trackPosted c inst s).pending = s.pending ∧ (∀ q, ((trackPosted c inst s).slot q).cfg = (s.slot q).cfg) ∧
    (∀ q, ((trackPosted c inst s).slot q).port = (s.slot q).port) ∧
    (∀ q, ((trackPosted c inst s).slot q).ing = (s.slot q).ing) ∧
    (∀ q, ((trackPosted c inst s).slot q).egr = (s.slot q).egr) ∧
    (∀ q, ((trackPosted c inst s).slot q).ctl = (s.slot q).ctl) ∧
    (∀ q, ((trackPosted c inst s).slot q).edges = (s.slot q).edges) ∧
    (∀ q, ((trackPosted c inst s).slot q).cursor = (s.slot q).cursor) := by
  refine ⟨?_, ?_, ?_, ?_, ?_, ?_, ?_, ?_, ?_, ?_, ?_, ?_, ?_, ?_, ?_, ?_, ?_, ?_⟩ <;> try intro q
  all_goals first
    | (simp [trackPosted]; done)
    | (simp only [trackPosted]; (repeat' split) <;> simp)

@[simp] theorem judgeWrap_keeps (s : State) :
    (judgeWrap s).flow = s.flow ∧ (judgeWrap s).pool = s.pool ∧ (judgeWrap s).park = s.park ∧
    (judgeWrap s).log = s.log ∧ (judgeWrap s).timing = s.timing ∧ (judgeWrap s).nextEdge = s.nextEdge ∧
    (judgeWrap s).chain = s.chain ∧ (judgeWrap s).watches = s.watches ∧ (judgeWrap s).mgmt.msel = s.mgmt.msel ∧
    (judgeWrap s).glob = s.glob ∧ (judgeWrap s).pending = s.pending ∧
    (∀ q, ((judgeWrap s).slot q).cfg = (s.slot q).cfg) ∧ (∀ q, ((judgeWrap s).slot q).port = (s.slot q).port) ∧
    (∀ q, ((judgeWrap s).slot q).ing = (s.slot q).ing) ∧ (∀ q, ((judgeWrap s).slot q).egr = (s.slot q).egr) ∧
    (∀ q, ((judgeWrap s).slot q).ctl = (s.slot q).ctl) ∧ (∀ q, ((judgeWrap s).slot q).edges = (s.slot q).edges) ∧
    (∀ q, ((judgeWrap s).slot q).cursor = (s.slot q).cursor) := by
  refine ⟨?_, ?_, ?_, ?_, ?_, ?_, ?_, ?_, ?_, ?_, ?_, ?_, ?_, ?_, ?_, ?_, ?_, ?_⟩ <;> try intro q
  all_goals first
    | (simp [judgeWrap]; done)
    | (simp only [judgeWrap]; (repeat' split) <;> simp)

@[simp] theorem postEntry_keeps (c : Fin 64) (inst : Nat) (act : AlarmAction) (repeats : Nat) (param : Word) (s : State) :
    (postEntry c inst act repeats param s).flow = s.flow ∧ (postEntry c inst act repeats param s).pool = s.pool ∧
    (postEntry c inst act repeats param s).park = s.park ∧ (postEntry c inst act repeats param s).log = s.log ∧
    (postEntry c inst act repeats param s).timing = s.timing ∧
    (postEntry c inst act repeats param s).nextEdge = s.nextEdge ∧
    (postEntry c inst act repeats param s).chain = s.chain ∧
    (postEntry c inst act repeats param s).watches = s.watches ∧
    (postEntry c inst act repeats param s).mgmt.msel = s.mgmt.msel ∧
    (postEntry c inst act repeats param s).glob = s.glob ∧
    (postEntry c inst act repeats param s).pending = s.pending ∧
    (∀ q, ((postEntry c inst act repeats param s).slot q).cfg = (s.slot q).cfg) ∧
    (∀ q, ((postEntry c inst act repeats param s).slot q).port = (s.slot q).port) ∧
    (∀ q, ((postEntry c inst act repeats param s).slot q).ing = (s.slot q).ing) ∧
    (∀ q, ((postEntry c inst act repeats param s).slot q).egr = (s.slot q).egr) ∧
    (∀ q, ((postEntry c inst act repeats param s).slot q).ctl = (s.slot q).ctl) ∧
    (∀ q, ((postEntry c inst act repeats param s).slot q).edges = (s.slot q).edges) ∧
    (∀ q, ((postEntry c inst act repeats param s).slot q).cursor = (s.slot q).cursor) := by
  refine ⟨?_, ?_, ?_, ?_, ?_, ?_, ?_, ?_, ?_, ?_, ?_, ?_, ?_, ?_, ?_, ?_, ?_, ?_⟩ <;> try intro q
  all_goals first
    | (simp [postEntry]; done)
    | (simp only [postEntry]; (repeat' split) <;> simp)

@[simp] theorem raiseCond_keeps (c : Fin 64) (inst : Nat) (param : Word) (s : State) :
    (raiseCond c inst param s).flow = s.flow ∧ (raiseCond c inst param s).pool = s.pool ∧
    (raiseCond c inst param s).park = s.park ∧ (raiseCond c inst param s).log = s.log ∧
    (raiseCond c inst param s).timing = s.timing ∧ (raiseCond c inst param s).nextEdge = s.nextEdge ∧
    (raiseCond c inst param s).chain = s.chain ∧ (raiseCond c inst param s).watches = s.watches ∧
    (raiseCond c inst param s).mgmt.msel = s.mgmt.msel ∧ (raiseCond c inst param s).glob = s.glob ∧
    (raiseCond c inst param s).pending = s.pending ∧
    (∀ q, ((raiseCond c inst param s).slot q).cfg = (s.slot q).cfg) ∧
    (∀ q, ((raiseCond c inst param s).slot q).port = (s.slot q).port) ∧
    (∀ q, ((raiseCond c inst param s).slot q).ing = (s.slot q).ing) ∧
    (∀ q, ((raiseCond c inst param s).slot q).egr = (s.slot q).egr) ∧
    (∀ q, ((raiseCond c inst param s).slot q).ctl = (s.slot q).ctl) ∧
    (∀ q, ((raiseCond c inst param s).slot q).edges = (s.slot q).edges) ∧
    (∀ q, ((raiseCond c inst param s).slot q).cursor = (s.slot q).cursor) := by
  refine ⟨?_, ?_, ?_, ?_, ?_, ?_, ?_, ?_, ?_, ?_, ?_, ?_, ?_, ?_, ?_, ?_, ?_, ?_⟩ <;> try intro q
  all_goals first
    | (simp [raiseCond]; done)
    | (simp only [raiseCond]; (repeat' split) <;> simp)

@[simp] theorem clearCond_keeps (c : Fin 64) (inst : Nat) (param : Word) (s : State) :
    (clearCond c inst param s).flow = s.flow ∧ (clearCond c inst param s).pool = s.pool ∧
    (clearCond c inst param s).park = s.park ∧ (clearCond c inst param s).log = s.log ∧
    (clearCond c inst param s).timing = s.timing ∧ (clearCond c inst param s).nextEdge = s.nextEdge ∧
    (clearCond c inst param s).chain = s.chain ∧ (clearCond c inst param s).watches = s.watches ∧
    (clearCond c inst param s).mgmt.msel = s.mgmt.msel ∧ (clearCond c inst param s).glob = s.glob ∧
    (clearCond c inst param s).pending = s.pending ∧
    (∀ q, ((clearCond c inst param s).slot q).cfg = (s.slot q).cfg) ∧
    (∀ q, ((clearCond c inst param s).slot q).port = (s.slot q).port) ∧
    (∀ q, ((clearCond c inst param s).slot q).ing = (s.slot q).ing) ∧
    (∀ q, ((clearCond c inst param s).slot q).egr = (s.slot q).egr) ∧
    (∀ q, ((clearCond c inst param s).slot q).ctl = (s.slot q).ctl) ∧
    (∀ q, ((clearCond c inst param s).slot q).edges = (s.slot q).edges) ∧
    (∀ q, ((clearCond c inst param s).slot q).cursor = (s.slot q).cursor) := by
  refine ⟨?_, ?_, ?_, ?_, ?_, ?_, ?_, ?_, ?_, ?_, ?_, ?_, ?_, ?_, ?_, ?_, ?_, ?_⟩ <;> try intro q
  all_goals first
    | (simp [clearCond]; done)
    | (simp only [clearCond]; (repeat' split) <;> simp)

@[simp] theorem suppressEvent_keeps (c : Fin 64) (inst : Nat) (s : State) :
    (suppressEvent c inst s).flow = s.flow ∧ (suppressEvent c inst s).pool = s.pool ∧
    (suppressEvent c inst s).park = s.park ∧ (suppressEvent c inst s).log = s.log ∧
    (suppressEvent c inst s).timing = s.timing ∧ (suppressEvent c inst s).nextEdge = s.nextEdge ∧
    (suppressEvent c inst s).chain = s.chain ∧ (suppressEvent c inst s).watches = s.watches ∧
    (suppressEvent c inst s).mgmt = s.mgmt ∧ (suppressEvent c inst s).glob = s.glob ∧
    (suppressEvent c inst s).pending = s.pending ∧ (∀ q, ((suppressEvent c inst s).slot q).cfg = (s.slot q).cfg) ∧
    (∀ q, ((suppressEvent c inst s).slot q).port = (s.slot q).port) ∧
    (∀ q, ((suppressEvent c inst s).slot q).ing = (s.slot q).ing) ∧
    (∀ q, ((suppressEvent c inst s).slot q).egr = (s.slot q).egr) ∧
    (∀ q, ((suppressEvent c inst s).slot q).ctl = (s.slot q).ctl) ∧
    (∀ q, ((suppressEvent c inst s).slot q).edges = (s.slot q).edges) ∧
    (∀ q, ((suppressEvent c inst s).slot q).cursor = (s.slot q).cursor) := by
  refine ⟨?_, ?_, ?_, ?_, ?_, ?_, ?_, ?_, ?_, ?_, ?_, ?_, ?_, ?_, ?_, ?_, ?_, ?_⟩ <;> try intro q
  all_goals first
    | (simp [suppressEvent]; done)
    | (simp only [suppressEvent]; (repeat' split) <;> simp)

@[simp] theorem postEvent_keeps (c : Fin 64) (inst : Nat) (param : Word) (s : State) :
    (postEvent c inst param s).flow = s.flow ∧ (postEvent c inst param s).pool = s.pool ∧
    (postEvent c inst param s).park = s.park ∧ (postEvent c inst param s).log = s.log ∧
    (postEvent c inst param s).timing = s.timing ∧ (postEvent c inst param s).nextEdge = s.nextEdge ∧
    (postEvent c inst param s).chain = s.chain ∧ (postEvent c inst param s).watches = s.watches ∧
    (postEvent c inst param s).mgmt.msel = s.mgmt.msel ∧ (postEvent c inst param s).glob = s.glob ∧
    (postEvent c inst param s).pending = s.pending ∧
    (∀ q, ((postEvent c inst param s).slot q).cfg = (s.slot q).cfg) ∧
    (∀ q, ((postEvent c inst param s).slot q).port = (s.slot q).port) ∧
    (∀ q, ((postEvent c inst param s).slot q).ing = (s.slot q).ing) ∧
    (∀ q, ((postEvent c inst param s).slot q).egr = (s.slot q).egr) ∧
    (∀ q, ((postEvent c inst param s).slot q).ctl = (s.slot q).ctl) ∧
    (∀ q, ((postEvent c inst param s).slot q).edges = (s.slot q).edges) ∧
    (∀ q, ((postEvent c inst param s).slot q).cursor = (s.slot q).cursor) := by
  refine ⟨?_, ?_, ?_, ?_, ?_, ?_, ?_, ?_, ?_, ?_, ?_, ?_, ?_, ?_, ?_, ?_, ?_, ?_⟩ <;> try intro q
  all_goals first
    | (simp [postEvent]; done)
    | (simp only [postEvent]; (repeat' split) <;> simp)

@[simp] theorem writeCause_keeps (c : Fin 64) (enable : Bool) (sev : Severity) (holdOff : Nat) (s : State) :
    (writeCause c enable sev holdOff s).flow = s.flow ∧ (writeCause c enable sev holdOff s).pool = s.pool ∧
    (writeCause c enable sev holdOff s).park = s.park ∧ (writeCause c enable sev holdOff s).log = s.log ∧
    (writeCause c enable sev holdOff s).timing = s.timing ∧
    (writeCause c enable sev holdOff s).nextEdge = s.nextEdge ∧ (writeCause c enable sev holdOff s).chain = s.chain ∧
    (writeCause c enable sev holdOff s).watches = s.watches ∧
    (writeCause c enable sev holdOff s).mgmt.msel = s.mgmt.msel ∧ (writeCause c enable sev holdOff s).glob = s.glob ∧
    (writeCause c enable sev holdOff s).pending = s.pending ∧
    (∀ q, ((writeCause c enable sev holdOff s).slot q).cfg = (s.slot q).cfg) ∧
    (∀ q, ((writeCause c enable sev holdOff s).slot q).port = (s.slot q).port) ∧
    (∀ q, ((writeCause c enable sev holdOff s).slot q).ing = (s.slot q).ing) ∧
    (∀ q, ((writeCause c enable sev holdOff s).slot q).egr = (s.slot q).egr) ∧
    (∀ q, ((writeCause c enable sev holdOff s).slot q).ctl = (s.slot q).ctl) ∧
    (∀ q, ((writeCause c enable sev holdOff s).slot q).edges = (s.slot q).edges) ∧
    (∀ q, ((writeCause c enable sev holdOff s).slot q).cursor = (s.slot q).cursor) := by
  refine ⟨?_, ?_, ?_, ?_, ?_, ?_, ?_, ?_, ?_, ?_, ?_, ?_, ?_, ?_, ?_, ?_, ?_, ?_⟩ <;> try intro q
  all_goals first
    | (simp [writeCause]; done)
    | (simp only [writeCause]; (repeat' split) <;> simp)

@[simp] theorem poolJudge_keeps (s : State) :
    (poolJudge s).flow = s.flow ∧ (poolJudge s).pool = s.pool ∧ (poolJudge s).park = s.park ∧
    (poolJudge s).log = s.log ∧ (poolJudge s).timing = s.timing ∧ (poolJudge s).nextEdge = s.nextEdge ∧
    (poolJudge s).chain = s.chain ∧ (poolJudge s).watches = s.watches ∧ (poolJudge s).mgmt.msel = s.mgmt.msel ∧
    (poolJudge s).glob = s.glob ∧ (poolJudge s).pending = s.pending ∧
    (∀ q, ((poolJudge s).slot q).cfg = (s.slot q).cfg) ∧ (∀ q, ((poolJudge s).slot q).port = (s.slot q).port) ∧
    (∀ q, ((poolJudge s).slot q).ing = (s.slot q).ing) ∧ (∀ q, ((poolJudge s).slot q).egr = (s.slot q).egr) ∧
    (∀ q, ((poolJudge s).slot q).ctl = (s.slot q).ctl) ∧ (∀ q, ((poolJudge s).slot q).edges = (s.slot q).edges) ∧
    (∀ q, ((poolJudge s).slot q).cursor = (s.slot q).cursor) := by
  refine ⟨?_, ?_, ?_, ?_, ?_, ?_, ?_, ?_, ?_, ?_, ?_, ?_, ?_, ?_, ?_, ?_, ?_, ?_⟩ <;> try intro q
  all_goals first
    | (simp [poolJudge]; done)
    | (simp only [poolJudge]; (repeat' split) <;> simp)

@[simp] theorem allocStored_keeps (p : Stored) (s : State) :
    (allocStored p s).flow = s.flow ∧ (allocStored p s).park = s.park ∧ (allocStored p s).log = s.log ∧
    (allocStored p s).timing = s.timing ∧ (allocStored p s).nextEdge = s.nextEdge ∧
    (allocStored p s).chain = s.chain ∧ (allocStored p s).watches = s.watches ∧
    (allocStored p s).mgmt.msel = s.mgmt.msel ∧ (allocStored p s).glob = s.glob ∧
    (allocStored p s).pending = s.pending ∧ (∀ q, ((allocStored p s).slot q).cfg = (s.slot q).cfg) ∧
    (∀ q, ((allocStored p s).slot q).port = (s.slot q).port) ∧
    (∀ q, ((allocStored p s).slot q).ing = (s.slot q).ing) ∧ (∀ q, ((allocStored p s).slot q).egr = (s.slot q).egr) ∧
    (∀ q, ((allocStored p s).slot q).ctl = (s.slot q).ctl) ∧
    (∀ q, ((allocStored p s).slot q).edges = (s.slot q).edges) ∧
    (∀ q, ((allocStored p s).slot q).cursor = (s.slot q).cursor) := by
  refine ⟨?_, ?_, ?_, ?_, ?_, ?_, ?_, ?_, ?_, ?_, ?_, ?_, ?_, ?_, ?_, ?_, ?_⟩ <;> try intro q
  all_goals first
    | (simp [allocStored]; done)
    | (simp only [allocStored]; (repeat' split) <;> simp)

@[simp] theorem modStored_keeps (pid : Nat) (f : Stored → Stored) (s : State) :
    (modStored pid f s).flow = s.flow ∧ (modStored pid f s).park = s.park ∧ (modStored pid f s).log = s.log ∧
    (modStored pid f s).timing = s.timing ∧ (modStored pid f s).nextEdge = s.nextEdge ∧
    (modStored pid f s).chain = s.chain ∧ (modStored pid f s).watches = s.watches ∧
    (modStored pid f s).alarm = s.alarm ∧ (modStored pid f s).mgmt = s.mgmt ∧ (modStored pid f s).glob = s.glob ∧
    (modStored pid f s).pending = s.pending ∧ (∀ q, ((modStored pid f s).slot q).cfg = (s.slot q).cfg) ∧
    (∀ q, ((modStored pid f s).slot q).port = (s.slot q).port) ∧
    (∀ q, ((modStored pid f s).slot q).ing = (s.slot q).ing) ∧
    (∀ q, ((modStored pid f s).slot q).egr = (s.slot q).egr) ∧
    (∀ q, ((modStored pid f s).slot q).ctl = (s.slot q).ctl) ∧
    (∀ q, ((modStored pid f s).slot q).edges = (s.slot q).edges) ∧
    (∀ q, ((modStored pid f s).slot q).cursor = (s.slot q).cursor) := by
  refine ⟨?_, ?_, ?_, ?_, ?_, ?_, ?_, ?_, ?_, ?_, ?_, ?_, ?_, ?_, ?_, ?_, ?_, ?_⟩ <;> try intro q
  all_goals first
    | (simp [modStored]; done)
    | (simp only [modStored]; (repeat' split) <;> simp)

@[simp] theorem releaseHold_keeps (pid : Nat) (s : State) :
    (releaseHold pid s).flow = s.flow ∧ (releaseHold pid s).park = s.park ∧ (releaseHold pid s).log = s.log ∧
    (releaseHold pid s).timing = s.timing ∧ (releaseHold pid s).nextEdge = s.nextEdge ∧
    (releaseHold pid s).chain = s.chain ∧ (releaseHold pid s).watches = s.watches ∧
    (releaseHold pid s).mgmt.msel = s.mgmt.msel ∧ (releaseHold pid s).glob = s.glob ∧
    (releaseHold pid s).pending = s.pending ∧ (∀ q, ((releaseHold pid s).slot q).cfg = (s.slot q).cfg) ∧
    (∀ q, ((releaseHold pid s).slot q).port = (s.slot q).port) ∧
    (∀ q, ((releaseHold pid s).slot q).ing = (s.slot q).ing) ∧
    (∀ q, ((releaseHold pid s).slot q).egr = (s.slot q).egr) ∧
    (∀ q, ((releaseHold pid s).slot q).ctl = (s.slot q).ctl) ∧
    (∀ q, ((releaseHold pid s).slot q).edges = (s.slot q).edges) ∧
    (∀ q, ((releaseHold pid s).slot q).cursor = (s.slot q).cursor) := by
  refine ⟨?_, ?_, ?_, ?_, ?_, ?_, ?_, ?_, ?_, ?_, ?_, ?_, ?_, ?_, ?_, ?_, ?_⟩ <;> try intro q
  all_goals first
    | (simp [releaseHold]; done)
    | (simp only [releaseHold]; (repeat' split) <;> simp)

@[simp] theorem removeRef_keeps (i : Slot) (c : Cls) (pid : Nat) (s : State) :
    (removeRef i c pid s).flow = s.flow ∧ (removeRef i c pid s).park = s.park ∧ (removeRef i c pid s).log = s.log ∧
    (removeRef i c pid s).timing = s.timing ∧ (removeRef i c pid s).nextEdge = s.nextEdge ∧
    (removeRef i c pid s).chain = s.chain ∧ (removeRef i c pid s).watches = s.watches ∧
    (removeRef i c pid s).mgmt.msel = s.mgmt.msel ∧ (removeRef i c pid s).glob = s.glob ∧
    (removeRef i c pid s).pending = s.pending ∧ (∀ q, ((removeRef i c pid s).slot q).cfg = (s.slot q).cfg) ∧
    (∀ q, ((removeRef i c pid s).slot q).port = (s.slot q).port) ∧
    (∀ q, ((removeRef i c pid s).slot q).ing = (s.slot q).ing) ∧
    (∀ q, ((removeRef i c pid s).slot q).ctl = (s.slot q).ctl) ∧
    (∀ q, ((removeRef i c pid s).slot q).edges = (s.slot q).edges) ∧
    (∀ q, ((removeRef i c pid s).slot q).cursor = (s.slot q).cursor) := by
  refine ⟨?_, ?_, ?_, ?_, ?_, ?_, ?_, ?_, ?_, ?_, ?_, ?_, ?_, ?_, ?_, ?_⟩ <;> try intro q
  all_goals first
    | (simp [removeRef]; done)
    | (simp only [removeRef]; (repeat' split) <;> simp)

@[simp] theorem applyWake_keeps (i : Slot) (s : State) :
    (applyWake i s).flow = s.flow ∧ (applyWake i s).pool = s.pool ∧ (applyWake i s).park = s.park ∧
    (applyWake i s).log = s.log ∧ (applyWake i s).timing = s.timing ∧ (applyWake i s).nextEdge = s.nextEdge ∧
    (applyWake i s).chain = s.chain ∧ (applyWake i s).watches = s.watches ∧ (applyWake i s).alarm = s.alarm ∧
    (applyWake i s).mgmt = s.mgmt ∧ (applyWake i s).glob = s.glob ∧ (applyWake i s).pending = s.pending ∧
    (∀ q, ((applyWake i s).slot q).cfg = (s.slot q).cfg) ∧ (∀ q, ((applyWake i s).slot q).ing = (s.slot q).ing) ∧
    (∀ q, ((applyWake i s).slot q).egr = (s.slot q).egr) ∧ (∀ q, ((applyWake i s).slot q).edges = (s.slot q).edges) ∧
    (∀ q, ((applyWake i s).slot q).cursor = (s.slot q).cursor) := by
  refine ⟨?_, ?_, ?_, ?_, ?_, ?_, ?_, ?_, ?_, ?_, ?_, ?_, ?_, ?_, ?_, ?_, ?_⟩ <;> try intro q
  all_goals first
    | (simp [applyWake]; done)
    | (simp only [applyWake]; (repeat' split) <;> simp)

@[simp] theorem wakeReport_keeps (i : Slot) (s : State) :
    (wakeReport i s).flow = s.flow ∧ (wakeReport i s).pool = s.pool ∧ (wakeReport i s).park = s.park ∧
    (wakeReport i s).log = s.log ∧ (wakeReport i s).timing = s.timing ∧ (wakeReport i s).nextEdge = s.nextEdge ∧
    (wakeReport i s).chain = s.chain ∧ (wakeReport i s).watches = s.watches ∧ (wakeReport i s).alarm = s.alarm ∧
    (wakeReport i s).mgmt = s.mgmt ∧ (wakeReport i s).glob = s.glob ∧ (wakeReport i s).pending = s.pending ∧
    (∀ q, ((wakeReport i s).slot q).cfg = (s.slot q).cfg) ∧ (∀ q, ((wakeReport i s).slot q).ing = (s.slot q).ing) ∧
    (∀ q, ((wakeReport i s).slot q).egr = (s.slot q).egr) ∧
    (∀ q, ((wakeReport i s).slot q).edges = (s.slot q).edges) ∧
    (∀ q, ((wakeReport i s).slot q).cursor = (s.slot q).cursor) := by
  refine ⟨?_, ?_, ?_, ?_, ?_, ?_, ?_, ?_, ?_, ?_, ?_, ?_, ?_, ?_, ?_, ?_, ?_⟩ <;> try intro q
  all_goals first
    | (simp [wakeReport]; done)
    | (simp only [wakeReport]; (repeat' split) <;> simp)

@[simp] theorem enqueueRef_keeps (i : Slot) (c : Cls) (pid : Nat) (s : State) :
    (enqueueRef i c pid s).flow = s.flow ∧ (enqueueRef i c pid s).park = s.park ∧
    (enqueueRef i c pid s).log = s.log ∧ (enqueueRef i c pid s).timing = s.timing ∧
    (enqueueRef i c pid s).nextEdge = s.nextEdge ∧ (enqueueRef i c pid s).chain = s.chain ∧
    (enqueueRef i c pid s).watches = s.watches ∧ (enqueueRef i c pid s).alarm = s.alarm ∧
    (enqueueRef i c pid s).mgmt = s.mgmt ∧ (enqueueRef i c pid s).glob = s.glob ∧
    (enqueueRef i c pid s).pending = s.pending ∧ (∀ q, ((enqueueRef i c pid s).slot q).cfg = (s.slot q).cfg) ∧
    (∀ q, ((enqueueRef i c pid s).slot q).ing = (s.slot q).ing) ∧
    (∀ q, ((enqueueRef i c pid s).slot q).edges = (s.slot q).edges) ∧
    (∀ q, ((enqueueRef i c pid s).slot q).cursor = (s.slot q).cursor) := by
  refine ⟨?_, ?_, ?_, ?_, ?_, ?_, ?_, ?_, ?_, ?_, ?_, ?_, ?_, ?_, ?_⟩ <;> try intro q
  all_goals first
    | (simp [enqueueRef]; done)
    | (simp only [enqueueRef]; (repeat' split) <;> simp)

@[simp] theorem pushReply_keeps (p : ReplyParcel) (s : State) :
    (pushReply p s).flow = s.flow ∧ (pushReply p s).pool = s.pool ∧ (pushReply p s).park = s.park ∧
    (pushReply p s).log = s.log ∧ (pushReply p s).timing = s.timing ∧ (pushReply p s).nextEdge = s.nextEdge ∧
    (pushReply p s).chain = s.chain ∧ (pushReply p s).watches = s.watches ∧ (pushReply p s).alarm = s.alarm ∧
    (pushReply p s).mgmt.msel = s.mgmt.msel ∧ (pushReply p s).glob = s.glob ∧ (pushReply p s).pending = s.pending ∧
    (∀ q, ((pushReply p s).slot q).cfg = (s.slot q).cfg) ∧ (∀ q, ((pushReply p s).slot q).ing = (s.slot q).ing) ∧
    (∀ q, ((pushReply p s).slot q).egr = (s.slot q).egr) ∧ (∀ q, ((pushReply p s).slot q).edges = (s.slot q).edges) ∧
    (∀ q, ((pushReply p s).slot q).cursor = (s.slot q).cursor) := by
  refine ⟨?_, ?_, ?_, ?_, ?_, ?_, ?_, ?_, ?_, ?_, ?_, ?_, ?_, ?_, ?_, ?_, ?_⟩ <;> try intro q
  all_goals first
    | (simp [pushReply]; done)
    | (simp only [pushReply]; (repeat' split) <;> simp)

@[simp] theorem moveToDiscarded_keeps (owner : Slot) (pid : Nat) (i : Slot) (s : State) :
    (moveToDiscarded owner pid i s).flow = s.flow ∧ (moveToDiscarded owner pid i s).pool = s.pool ∧
    (moveToDiscarded owner pid i s).park = s.park ∧ (moveToDiscarded owner pid i s).log = s.log ∧
    (moveToDiscarded owner pid i s).timing = s.timing ∧ (moveToDiscarded owner pid i s).nextEdge = s.nextEdge ∧
    (moveToDiscarded owner pid i s).chain = s.chain ∧ (moveToDiscarded owner pid i s).watches = s.watches ∧
    (moveToDiscarded owner pid i s).alarm = s.alarm ∧ (moveToDiscarded owner pid i s).mgmt = s.mgmt ∧
    (moveToDiscarded owner pid i s).glob = s.glob ∧ (moveToDiscarded owner pid i s).pending = s.pending ∧
    (∀ q, ((moveToDiscarded owner pid i s).slot q).cfg = (s.slot q).cfg) ∧
    (∀ q, ((moveToDiscarded owner pid i s).slot q).port = (s.slot q).port) ∧
    (∀ q, ((moveToDiscarded owner pid i s).slot q).egr = (s.slot q).egr) ∧
    (∀ q, ((moveToDiscarded owner pid i s).slot q).ctl = (s.slot q).ctl) ∧
    (∀ q, ((moveToDiscarded owner pid i s).slot q).edges = (s.slot q).edges) ∧
    (∀ q, ((moveToDiscarded owner pid i s).slot q).cursor = (s.slot q).cursor) := by
  refine ⟨?_, ?_, ?_, ?_, ?_, ?_, ?_, ?_, ?_, ?_, ?_, ?_, ?_, ?_, ?_, ?_, ?_, ?_⟩ <;> try intro q
  all_goals first
    | (simp [moveToDiscarded]; done)
    | (simp only [moveToDiscarded]; (repeat' split) <;> simp)

@[simp] theorem headDropOne_keeps (i : Slot) (pid : Nat) (s : State) :
    (headDropOne i pid s).flow = s.flow ∧ (headDropOne i pid s).park = s.park ∧ (headDropOne i pid s).log = s.log ∧
    (headDropOne i pid s).timing = s.timing ∧ (headDropOne i pid s).nextEdge = s.nextEdge ∧
    (headDropOne i pid s).chain = s.chain ∧ (headDropOne i pid s).watches = s.watches ∧
    (headDropOne i pid s).mgmt.msel = s.mgmt.msel ∧ (headDropOne i pid s).glob = s.glob ∧
    (headDropOne i pid s).pending = s.pending ∧ (∀ q, ((headDropOne i pid s).slot q).cfg = (s.slot q).cfg) ∧
    (∀ q, ((headDropOne i pid s).slot q).port = (s.slot q).port) ∧
    (∀ q, ((headDropOne i pid s).slot q).ctl = (s.slot q).ctl) ∧
    (∀ q, ((headDropOne i pid s).slot q).edges = (s.slot q).edges) ∧
    (∀ q, ((headDropOne i pid s).slot q).cursor = (s.slot q).cursor) := by
  refine ⟨?_, ?_, ?_, ?_, ?_, ?_, ?_, ?_, ?_, ?_, ?_, ?_, ?_, ?_, ?_⟩ <;> try intro q
  all_goals first
    | (simp [headDropOne]; done)
    | (simp only [headDropOne]; (repeat' split) <;> simp)

@[simp] theorem headDrop_keeps (i : Slot) (b : Nat) (l : List Nat) (s : State) :
    (headDrop i b l s).flow = s.flow ∧ (headDrop i b l s).park = s.park ∧ (headDrop i b l s).log = s.log ∧
    (headDrop i b l s).timing = s.timing ∧ (headDrop i b l s).nextEdge = s.nextEdge ∧
    (headDrop i b l s).chain = s.chain ∧ (headDrop i b l s).watches = s.watches ∧
    (headDrop i b l s).mgmt.msel = s.mgmt.msel ∧ (headDrop i b l s).glob = s.glob ∧
    (headDrop i b l s).pending = s.pending ∧ (∀ q, ((headDrop i b l s).slot q).cfg = (s.slot q).cfg) ∧
    (∀ q, ((headDrop i b l s).slot q).port = (s.slot q).port) ∧
    (∀ q, ((headDrop i b l s).slot q).ctl = (s.slot q).ctl) ∧
    (∀ q, ((headDrop i b l s).slot q).edges = (s.slot q).edges) ∧
    (∀ q, ((headDrop i b l s).slot q).cursor = (s.slot q).cursor) := by
  induction l generalizing s with
  | nil => simp [headDrop]
  | cons b r ih =>
    refine ⟨?_, ?_, ?_, ?_, ?_, ?_, ?_, ?_, ?_, ?_, ?_, ?_, ?_, ?_, ?_⟩ <;> try intro q
    all_goals simp only [headDrop]; (repeat' split) <;> simp [ih]

@[simp] theorem offerStream_keeps (i : Slot) (pid : Nat) (owner : Slot) (b : Nat) (s : State) :
    (offerStream i pid owner b s).2.flow = s.flow ∧ (offerStream i pid owner b s).2.park = s.park ∧
    (offerStream i pid owner b s).2.log = s.log ∧ (offerStream i pid owner b s).2.timing = s.timing ∧
    (offerStream i pid owner b s).2.nextEdge = s.nextEdge ∧ (offerStream i pid owner b s).2.chain = s.chain ∧
    (offerStream i pid owner b s).2.watches = s.watches ∧ (offerStream i pid owner b s).2.mgmt.msel = s.mgmt.msel ∧
    (offerStream i pid owner b s).2.glob = s.glob ∧ (offerStream i pid owner b s).2.pending = s.pending ∧
    (∀ q, ((offerStream i pid owner b s).2.slot q).cfg = (s.slot q).cfg) ∧
    (∀ q, ((offerStream i pid owner b s).2.slot q).edges = (s.slot q).edges) ∧
    (∀ q, ((offerStream i pid owner b s).2.slot q).cursor = (s.slot q).cursor) := by
  refine ⟨?_, ?_, ?_, ?_, ?_, ?_, ?_, ?_, ?_, ?_, ?_, ?_, ?_⟩ <;> try intro q
  all_goals first
    | (simp [offerStream]; done)
    | (simp only [offerStream]; (repeat' split) <;> simp)

@[simp] theorem emptySwitchQueues_keeps (i : Slot) (s : State) :
    (emptySwitchQueues i s).flow = s.flow ∧ (emptySwitchQueues i s).pool = s.pool ∧
    (emptySwitchQueues i s).park = s.park ∧ (emptySwitchQueues i s).log = s.log ∧
    (emptySwitchQueues i s).timing = s.timing ∧ (emptySwitchQueues i s).nextEdge = s.nextEdge ∧
    (emptySwitchQueues i s).chain = s.chain ∧ (emptySwitchQueues i s).watches = s.watches ∧
    (emptySwitchQueues i s).alarm = s.alarm ∧ (emptySwitchQueues i s).mgmt.msel = s.mgmt.msel ∧
    (emptySwitchQueues i s).glob = s.glob ∧ (emptySwitchQueues i s).pending = s.pending ∧
    (∀ q, ((emptySwitchQueues i s).slot q).cfg = (s.slot q).cfg) ∧
    (∀ q, ((emptySwitchQueues i s).slot q).port = (s.slot q).port) ∧
    (∀ q, ((emptySwitchQueues i s).slot q).ing = (s.slot q).ing) ∧
    (∀ q, ((emptySwitchQueues i s).slot q).ctl = (s.slot q).ctl) ∧
    (∀ q, ((emptySwitchQueues i s).slot q).edges = (s.slot q).edges) ∧
    (∀ q, ((emptySwitchQueues i s).slot q).cursor = (s.slot q).cursor) := by
  refine ⟨?_, ?_, ?_, ?_, ?_, ?_, ?_, ?_, ?_, ?_, ?_, ?_, ?_, ?_, ?_, ?_, ?_, ?_⟩ <;> try intro q
  all_goals first
    | (simp [emptySwitchQueues]; done)
    | (simp only [emptySwitchQueues]; (repeat' split) <;> simp)

@[simp] theorem flushSlot_keeps (i : Slot) (s : State) :
    (flushSlot i s).flow = s.flow ∧ (flushSlot i s).park = s.park ∧ (flushSlot i s).log = s.log ∧
    (flushSlot i s).timing = s.timing ∧ (flushSlot i s).nextEdge = s.nextEdge ∧ (flushSlot i s).chain = s.chain ∧
    (flushSlot i s).watches = s.watches ∧ (flushSlot i s).mgmt.msel = s.mgmt.msel ∧ (flushSlot i s).glob = s.glob ∧
    (flushSlot i s).pending = s.pending ∧ (∀ q, ((flushSlot i s).slot q).cfg = (s.slot q).cfg) ∧
    (∀ q, ((flushSlot i s).slot q).port = (s.slot q).port) ∧ (∀ q, ((flushSlot i s).slot q).ing = (s.slot q).ing) ∧
    (∀ q, ((flushSlot i s).slot q).ctl = (s.slot q).ctl) ∧ (∀ q, ((flushSlot i s).slot q).edges = (s.slot q).edges) ∧
    (∀ q, ((flushSlot i s).slot q).cursor = (s.slot q).cursor) := by
  refine ⟨?_, ?_, ?_, ?_, ?_, ?_, ?_, ?_, ?_, ?_, ?_, ?_, ?_, ?_, ?_, ?_⟩ <;> try intro q
  all_goals first
    | (simp [flushSlot]; done)
    | (simp only [flushSlot]; (repeat' split) <;> simp)

@[simp] theorem dropWaiting_keeps (i : Slot) (s : State) :
    (dropWaiting i s).flow = s.flow ∧ (dropWaiting i s).park = s.park ∧ (dropWaiting i s).log = s.log ∧
    (dropWaiting i s).timing = s.timing ∧ (dropWaiting i s).nextEdge = s.nextEdge ∧
    (dropWaiting i s).chain = s.chain ∧ (dropWaiting i s).watches = s.watches ∧
    (dropWaiting i s).mgmt.msel = s.mgmt.msel ∧ (dropWaiting i s).glob = s.glob ∧
    (dropWaiting i s).pending = s.pending ∧ (∀ q, ((dropWaiting i s).slot q).cfg = (s.slot q).cfg) ∧
    (∀ q, ((dropWaiting i s).slot q).port = (s.slot q).port) ∧
    (∀ q, ((dropWaiting i s).slot q).ing = (s.slot q).ing) ∧ (∀ q, ((dropWaiting i s).slot q).ctl = (s.slot q).ctl) ∧
    (∀ q, ((dropWaiting i s).slot q).edges = (s.slot q).edges) ∧
    (∀ q, ((dropWaiting i s).slot q).cursor = (s.slot q).cursor) := by
  refine ⟨?_, ?_, ?_, ?_, ?_, ?_, ?_, ?_, ?_, ?_, ?_, ?_, ?_, ?_, ?_, ?_⟩ <;> try intro q
  all_goals first
    | (simp [dropWaiting]; done)
    | (simp only [dropWaiting]; (repeat' split) <;> simp)

@[simp] theorem abortChain_keeps (i : Slot) (r : AbortReason) (s : State) :
    (abortChain i r s).flow = s.flow ∧ (abortChain i r s).pool = s.pool ∧ (abortChain i r s).park = s.park ∧
    (abortChain i r s).log = s.log ∧ (abortChain i r s).timing = s.timing ∧
    (abortChain i r s).nextEdge = s.nextEdge ∧ (abortChain i r s).chain = s.chain ∧
    (abortChain i r s).watches = s.watches ∧ (abortChain i r s).mgmt.msel = s.mgmt.msel ∧
    (abortChain i r s).glob = s.glob ∧ (abortChain i r s).pending = s.pending ∧
    (∀ q, ((abortChain i r s).slot q).cfg = (s.slot q).cfg) ∧
    (∀ q, ((abortChain i r s).slot q).port = (s.slot q).port) ∧
    (∀ q, ((abortChain i r s).slot q).ing = (s.slot q).ing) ∧
    (∀ q, ((abortChain i r s).slot q).egr = (s.slot q).egr) ∧
    (∀ q, ((abortChain i r s).slot q).ctl = (s.slot q).ctl) ∧
    (∀ q, ((abortChain i r s).slot q).edges = (s.slot q).edges) := by
  refine ⟨?_, ?_, ?_, ?_, ?_, ?_, ?_, ?_, ?_, ?_, ?_, ?_, ?_, ?_, ?_, ?_, ?_⟩ <;> try intro q
  all_goals first
    | (simp [abortChain]; done)
    | (simp only [abortChain]; (repeat' split) <;> simp)

@[simp] theorem completeChain_keeps (i : Slot) (s : State) :
    (completeChain i s).flow = s.flow ∧ (completeChain i s).pool = s.pool ∧ (completeChain i s).park = s.park ∧
    (completeChain i s).log = s.log ∧ (completeChain i s).timing = s.timing ∧
    (completeChain i s).nextEdge = s.nextEdge ∧ (completeChain i s).chain = s.chain ∧
    (completeChain i s).watches = s.watches ∧ (completeChain i s).mgmt.msel = s.mgmt.msel ∧
    (completeChain i s).glob = s.glob ∧ (completeChain i s).pending = s.pending ∧
    (∀ q, ((completeChain i s).slot q).cfg = (s.slot q).cfg) ∧
    (∀ q, ((completeChain i s).slot q).port = (s.slot q).port) ∧
    (∀ q, ((completeChain i s).slot q).ing = (s.slot q).ing) ∧
    (∀ q, ((completeChain i s).slot q).egr = (s.slot q).egr) ∧
    (∀ q, ((completeChain i s).slot q).ctl = (s.slot q).ctl) ∧
    (∀ q, ((completeChain i s).slot q).edges = (s.slot q).edges) := by
  refine ⟨?_, ?_, ?_, ?_, ?_, ?_, ?_, ?_, ?_, ?_, ?_, ?_, ?_, ?_, ?_, ?_, ?_⟩ <;> try intro q
  all_goals first
    | (simp [completeChain]; done)
    | (simp only [completeChain]; (repeat' split) <;> simp)

@[simp] theorem chainMade_keeps (i : Slot) (s : State) :
    (chainMade i s).flow = s.flow ∧ (chainMade i s).pool = s.pool ∧ (chainMade i s).park = s.park ∧
    (chainMade i s).log = s.log ∧ (chainMade i s).timing = s.timing ∧ (chainMade i s).nextEdge = s.nextEdge ∧
    (chainMade i s).chain = s.chain ∧ (chainMade i s).watches = s.watches ∧ (chainMade i s).mgmt.msel = s.mgmt.msel ∧
    (chainMade i s).glob = s.glob ∧ (chainMade i s).pending = s.pending ∧
    (∀ q, ((chainMade i s).slot q).cfg = (s.slot q).cfg) ∧ (∀ q, ((chainMade i s).slot q).port = (s.slot q).port) ∧
    (∀ q, ((chainMade i s).slot q).ing = (s.slot q).ing) ∧ (∀ q, ((chainMade i s).slot q).egr = (s.slot q).egr) ∧
    (∀ q, ((chainMade i s).slot q).ctl = (s.slot q).ctl) ∧ (∀ q, ((chainMade i s).slot q).edges = (s.slot q).edges) := by
  refine ⟨?_, ?_, ?_, ?_, ?_, ?_, ?_, ?_, ?_, ?_, ?_, ?_, ?_, ?_, ?_, ?_, ?_⟩ <;> try intro q
  all_goals first
    | (simp [chainMade]; done)
    | (simp only [chainMade]; (repeat' split) <;> simp)

@[simp] theorem visit_keeps (i : Slot) (d : Fin 64) (s : State) :
    (visit i d s).flow = s.flow ∧ (visit i d s).pool = s.pool ∧ (visit i d s).park = s.park ∧
    (visit i d s).log = s.log ∧ (visit i d s).timing = s.timing ∧ (visit i d s).nextEdge = s.nextEdge ∧
    (visit i d s).chain = s.chain ∧ (visit i d s).watches = s.watches ∧ (visit i d s).alarm = s.alarm ∧
    (visit i d s).mgmt = s.mgmt ∧ (visit i d s).glob = s.glob ∧ (visit i d s).pending = s.pending ∧
    (∀ q, ((visit i d s).slot q).cfg = (s.slot q).cfg) ∧ (∀ q, ((visit i d s).slot q).port = (s.slot q).port) ∧
    (∀ q, ((visit i d s).slot q).ing = (s.slot q).ing) ∧ (∀ q, ((visit i d s).slot q).egr = (s.slot q).egr) ∧
    (∀ q, ((visit i d s).slot q).ctl = (s.slot q).ctl) ∧ (∀ q, ((visit i d s).slot q).edges = (s.slot q).edges) := by
  refine ⟨?_, ?_, ?_, ?_, ?_, ?_, ?_, ?_, ?_, ?_, ?_, ?_, ?_, ?_, ?_, ?_, ?_, ?_⟩ <;> try intro q
  all_goals first
    | (simp [visit]; done)
    | (simp only [visit]; (repeat' split) <;> simp)

@[simp] theorem walk_keeps (i : Slot) (n : Nat) (s : State) :
    (walk i n s).flow = s.flow ∧ (walk i n s).pool = s.pool ∧ (walk i n s).park = s.park ∧ (walk i n s).log = s.log ∧
    (walk i n s).timing = s.timing ∧ (walk i n s).nextEdge = s.nextEdge ∧ (walk i n s).chain = s.chain ∧
    (walk i n s).watches = s.watches ∧ (walk i n s).mgmt.msel = s.mgmt.msel ∧ (walk i n s).glob = s.glob ∧
    (walk i n s).pending = s.pending ∧ (∀ q, ((walk i n s).slot q).cfg = (s.slot q).cfg) ∧
    (∀ q, ((walk i n s).slot q).port = (s.slot q).port) ∧ (∀ q, ((walk i n s).slot q).ing = (s.slot q).ing) ∧
    (∀ q, ((walk i n s).slot q).egr = (s.slot q).egr) ∧ (∀ q, ((walk i n s).slot q).ctl = (s.slot q).ctl) ∧
    (∀ q, ((walk i n s).slot q).edges = (s.slot q).edges) := by
  induction n generalizing s with
  | zero => simp [walk]
  | succ n ih =>
    refine ⟨?_, ?_, ?_, ?_, ?_, ?_, ?_, ?_, ?_, ?_, ?_, ?_, ?_, ?_, ?_, ?_, ?_⟩ <;> try intro q
    all_goals simp only [walk]; (repeat' split) <;> simp [ih]

@[simp] theorem startChain_keeps (i : Slot) (head : Fin 64) (s : State) :
    (startChain i head s).flow = s.flow ∧ (startChain i head s).pool = s.pool ∧ (startChain i head s).park = s.park ∧
    (startChain i head s).log = s.log ∧ (startChain i head s).timing = s.timing ∧
    (startChain i head s).nextEdge = s.nextEdge ∧ (startChain i head s).chain = s.chain ∧
    (startChain i head s).watches = s.watches ∧ (startChain i head s).mgmt.msel = s.mgmt.msel ∧
    (startChain i head s).glob = s.glob ∧ (startChain i head s).pending = s.pending ∧
    (∀ q, ((startChain i head s).slot q).cfg = (s.slot q).cfg) ∧
    (∀ q, ((startChain i head s).slot q).port = (s.slot q).port) ∧
    (∀ q, ((startChain i head s).slot q).ing = (s.slot q).ing) ∧
    (∀ q, ((startChain i head s).slot q).egr = (s.slot q).egr) ∧
    (∀ q, ((startChain i head s).slot q).ctl = (s.slot q).ctl) ∧
    (∀ q, ((startChain i head s).slot q).edges = (s.slot q).edges) := by
  refine ⟨?_, ?_, ?_, ?_, ?_, ?_, ?_, ?_, ?_, ?_, ?_, ?_, ?_, ?_, ?_, ?_, ?_⟩ <;> try intro q
  all_goals first
    | (simp [startChain]; done)
    | (simp only [startChain]; (repeat' split) <;> simp)

@[simp] theorem autoStart_keeps (i : Slot) (s : State) :
    (autoStart i s).flow = s.flow ∧ (autoStart i s).pool = s.pool ∧ (autoStart i s).park = s.park ∧
    (autoStart i s).log = s.log ∧ (autoStart i s).timing = s.timing ∧ (autoStart i s).nextEdge = s.nextEdge ∧
    (autoStart i s).chain = s.chain ∧ (autoStart i s).watches = s.watches ∧ (autoStart i s).mgmt.msel = s.mgmt.msel ∧
    (autoStart i s).glob = s.glob ∧ (autoStart i s).pending = s.pending ∧
    (∀ q, ((autoStart i s).slot q).cfg = (s.slot q).cfg) ∧ (∀ q, ((autoStart i s).slot q).port = (s.slot q).port) ∧
    (∀ q, ((autoStart i s).slot q).ing = (s.slot q).ing) ∧ (∀ q, ((autoStart i s).slot q).egr = (s.slot q).egr) ∧
    (∀ q, ((autoStart i s).slot q).ctl = (s.slot q).ctl) ∧ (∀ q, ((autoStart i s).slot q).edges = (s.slot q).edges) := by
  refine ⟨?_, ?_, ?_, ?_, ?_, ?_, ?_, ?_, ?_, ?_, ?_, ?_, ?_, ?_, ?_, ?_, ?_⟩ <;> try intro q
  all_goals first
    | (simp [autoStart]; done)
    | (simp only [autoStart]; (repeat' split) <;> simp)

@[simp] theorem makeChainParcel_keeps (i : Slot) (s : State) :
    (makeChainParcel i s).flow = s.flow ∧ (makeChainParcel i s).park = s.park ∧ (makeChainParcel i s).log = s.log ∧
    (makeChainParcel i s).timing = s.timing ∧ (makeChainParcel i s).nextEdge = s.nextEdge ∧
    (makeChainParcel i s).watches = s.watches ∧ (makeChainParcel i s).mgmt.msel = s.mgmt.msel ∧
    (makeChainParcel i s).glob = s.glob ∧ (makeChainParcel i s).pending = s.pending ∧
    (∀ q, ((makeChainParcel i s).slot q).cfg = (s.slot q).cfg) ∧
    (∀ q, ((makeChainParcel i s).slot q).ing = (s.slot q).ing) ∧
    (∀ q, ((makeChainParcel i s).slot q).edges = (s.slot q).edges) := by
  refine ⟨?_, ?_, ?_, ?_, ?_, ?_, ?_, ?_, ?_, ?_, ?_, ?_⟩ <;> try intro q
  all_goals first
    | (simp [makeChainParcel]; done)
    | (simp only [makeChainParcel]; (repeat' split) <;> simp)

@[simp] theorem chainSent_keeps (i : Slot) (pid : Nat) (s : State) :
    (chainSent i pid s).flow = s.flow ∧ (chainSent i pid s).pool = s.pool ∧ (chainSent i pid s).park = s.park ∧
    (chainSent i pid s).log = s.log ∧ (chainSent i pid s).timing = s.timing ∧
    (chainSent i pid s).nextEdge = s.nextEdge ∧ (chainSent i pid s).chain = s.chain ∧
    (chainSent i pid s).watches = s.watches ∧ (chainSent i pid s).mgmt.msel = s.mgmt.msel ∧
    (chainSent i pid s).glob = s.glob ∧ (chainSent i pid s).pending = s.pending ∧
    (∀ q, ((chainSent i pid s).slot q).cfg = (s.slot q).cfg) ∧
    (∀ q, ((chainSent i pid s).slot q).port = (s.slot q).port) ∧
    (∀ q, ((chainSent i pid s).slot q).ing = (s.slot q).ing) ∧
    (∀ q, ((chainSent i pid s).slot q).egr = (s.slot q).egr) ∧
    (∀ q, ((chainSent i pid s).slot q).ctl = (s.slot q).ctl) ∧
    (∀ q, ((chainSent i pid s).slot q).edges = (s.slot q).edges) := by
  refine ⟨?_, ?_, ?_, ?_, ?_, ?_, ?_, ?_, ?_, ?_, ?_, ?_, ?_, ?_, ?_, ?_, ?_⟩ <;> try intro q
  all_goals first
    | (simp [chainSent]; done)
    | (simp only [chainSent]; (repeat' split) <;> simp)

@[simp] theorem makeSchedules_keeps (i : Slot) (s : State) :
    (makeSchedules i s).flow = s.flow ∧ (makeSchedules i s).pool = s.pool ∧ (makeSchedules i s).park = s.park ∧
    (makeSchedules i s).log = s.log ∧ (makeSchedules i s).timing = s.timing ∧
    (makeSchedules i s).nextEdge = s.nextEdge ∧ (makeSchedules i s).chain = s.chain ∧
    (makeSchedules i s).watches = s.watches ∧ (makeSchedules i s).alarm = s.alarm ∧
    (makeSchedules i s).mgmt = s.mgmt ∧ (makeSchedules i s).glob = s.glob ∧ (makeSchedules i s).pending = s.pending ∧
    (∀ q, ((makeSchedules i s).slot q).cfg = (s.slot q).cfg) ∧
    (∀ q, ((makeSchedules i s).slot q).port = (s.slot q).port) ∧
    (∀ q, ((makeSchedules i s).slot q).ing = (s.slot q).ing) ∧
    (∀ q, ((makeSchedules i s).slot q).egr = (s.slot q).egr) ∧
    (∀ q, ((makeSchedules i s).slot q).ctl = (s.slot q).ctl) ∧
    (∀ q, ((makeSchedules i s).slot q).cursor = (s.slot q).cursor) := by
  refine ⟨?_, ?_, ?_, ?_, ?_, ?_, ?_, ?_, ?_, ?_, ?_, ?_, ?_, ?_, ?_, ?_, ?_, ?_⟩ <;> try intro q
  all_goals first
    | (simp [makeSchedules]; done)
    | (simp only [makeSchedules]; (repeat' split) <;> simp)

@[simp] theorem reschedule_keeps (s : State) :
    (reschedule s).flow = s.flow ∧ (reschedule s).pool = s.pool ∧ (reschedule s).park = s.park ∧
    (reschedule s).log = s.log ∧ (reschedule s).timing = s.timing ∧ (reschedule s).chain = s.chain ∧
    (reschedule s).watches = s.watches ∧ (reschedule s).alarm = s.alarm ∧ (reschedule s).mgmt = s.mgmt ∧
    (reschedule s).glob = s.glob ∧ (reschedule s).pending = s.pending ∧
    (∀ q, ((reschedule s).slot q).cfg = (s.slot q).cfg) ∧ (∀ q, ((reschedule s).slot q).port = (s.slot q).port) ∧
    (∀ q, ((reschedule s).slot q).ing = (s.slot q).ing) ∧ (∀ q, ((reschedule s).slot q).egr = (s.slot q).egr) ∧
    (∀ q, ((reschedule s).slot q).ctl = (s.slot q).ctl) ∧ (∀ q, ((reschedule s).slot q).cursor = (s.slot q).cursor) := by
  refine ⟨?_, ?_, ?_, ?_, ?_, ?_, ?_, ?_, ?_, ?_, ?_, ?_, ?_, ?_, ?_, ?_, ?_⟩ <;> try intro q
  all_goals first
    | (simp [reschedule]; done)
    | (simp only [reschedule]; (repeat' split) <;> simp)

@[simp] theorem setDelay_keeps (i : Slot) (d : Nat) (s : State) :
    (setDelay i d s).flow = s.flow ∧ (setDelay i d s).pool = s.pool ∧ (setDelay i d s).park = s.park ∧
    (setDelay i d s).log = s.log ∧ (setDelay i d s).timing = s.timing ∧ (setDelay i d s).nextEdge = s.nextEdge ∧
    (setDelay i d s).chain = s.chain ∧ (setDelay i d s).watches = s.watches ∧ (setDelay i d s).alarm = s.alarm ∧
    (setDelay i d s).mgmt = s.mgmt ∧ (setDelay i d s).glob = s.glob ∧ (setDelay i d s).pending = s.pending ∧
    (∀ q, ((setDelay i d s).slot q).cfg = (s.slot q).cfg) ∧ (∀ q, ((setDelay i d s).slot q).port = (s.slot q).port) ∧
    (∀ q, ((setDelay i d s).slot q).ing = (s.slot q).ing) ∧ (∀ q, ((setDelay i d s).slot q).egr = (s.slot q).egr) ∧
    (∀ q, ((setDelay i d s).slot q).cursor = (s.slot q).cursor) := by
  refine ⟨?_, ?_, ?_, ?_, ?_, ?_, ?_, ?_, ?_, ?_, ?_, ?_, ?_, ?_, ?_, ?_, ?_⟩ <;> try intro q
  all_goals first
    | (simp [setDelay]; done)
    | (simp only [setDelay]; (repeat' split) <;> simp)

@[simp] theorem callInsertion_keeps (i : Slot) (s : State) :
    (callInsertion i s).flow = s.flow ∧ (callInsertion i s).pool = s.pool ∧ (callInsertion i s).park = s.park ∧
    (callInsertion i s).log = s.log ∧ (callInsertion i s).timing = s.timing ∧
    (callInsertion i s).nextEdge = s.nextEdge ∧ (callInsertion i s).chain = s.chain ∧
    (callInsertion i s).watches = s.watches ∧ (callInsertion i s).alarm = s.alarm ∧
    (callInsertion i s).mgmt = s.mgmt ∧ (callInsertion i s).glob = s.glob ∧ (callInsertion i s).pending = s.pending ∧
    (∀ q, ((callInsertion i s).slot q).cfg = (s.slot q).cfg) ∧
    (∀ q, ((callInsertion i s).slot q).port = (s.slot q).port) ∧
    (∀ q, ((callInsertion i s).slot q).ing = (s.slot q).ing) ∧
    (∀ q, ((callInsertion i s).slot q).ctl = (s.slot q).ctl) ∧
    (∀ q, ((callInsertion i s).slot q).edges = (s.slot q).edges) ∧
    (∀ q, ((callInsertion i s).slot q).cursor = (s.slot q).cursor) := by
  refine ⟨?_, ?_, ?_, ?_, ?_, ?_, ?_, ?_, ?_, ?_, ?_, ?_, ?_, ?_, ?_, ?_, ?_, ?_⟩ <;> try intro q
  all_goals first
    | (simp [callInsertion]; done)
    | (simp only [callInsertion]; (repeat' split) <;> simp)

@[simp] theorem offerExpress_keeps (i : Slot) (p : ExpressParcel) (lost : Word) (s : State) :
    (offerExpress i p lost s).flow = s.flow ∧ (offerExpress i p lost s).pool = s.pool ∧
    (offerExpress i p lost s).park = s.park ∧ (offerExpress i p lost s).log = s.log ∧
    (offerExpress i p lost s).timing = s.timing ∧ (offerExpress i p lost s).nextEdge = s.nextEdge ∧
    (offerExpress i p lost s).chain = s.chain ∧ (offerExpress i p lost s).watches = s.watches ∧
    (offerExpress i p lost s).mgmt.msel = s.mgmt.msel ∧ (offerExpress i p lost s).glob = s.glob ∧
    (offerExpress i p lost s).pending = s.pending ∧ (∀ q, ((offerExpress i p lost s).slot q).cfg = (s.slot q).cfg) ∧
    (∀ q, ((offerExpress i p lost s).slot q).port = (s.slot q).port) ∧
    (∀ q, ((offerExpress i p lost s).slot q).ing = (s.slot q).ing) ∧
    (∀ q, ((offerExpress i p lost s).slot q).ctl = (s.slot q).ctl) ∧
    (∀ q, ((offerExpress i p lost s).slot q).edges = (s.slot q).edges) ∧
    (∀ q, ((offerExpress i p lost s).slot q).cursor = (s.slot q).cursor) := by
  refine ⟨?_, ?_, ?_, ?_, ?_, ?_, ?_, ?_, ?_, ?_, ?_, ?_, ?_, ?_, ?_, ?_, ?_⟩ <;> try intro q
  all_goals first
    | (simp [offerExpress]; done)
    | (simp only [offerExpress]; (repeat' split) <;> simp)

@[simp] theorem dispatchEdge_keeps (i : Slot) (d : Sched) (s : State) :
    (dispatchEdge i d s).flow = s.flow ∧ (dispatchEdge i d s).pool = s.pool ∧ (dispatchEdge i d s).park = s.park ∧
    (dispatchEdge i d s).log = s.log ∧ (dispatchEdge i d s).timing = s.timing ∧
    (dispatchEdge i d s).nextEdge = s.nextEdge ∧ (dispatchEdge i d s).chain = s.chain ∧
    (dispatchEdge i d s).watches = s.watches ∧ (dispatchEdge i d s).mgmt.msel = s.mgmt.msel ∧
    (dispatchEdge i d s).glob = s.glob ∧ (dispatchEdge i d s).pending = s.pending ∧
    (∀ q, ((dispatchEdge i d s).slot q).cfg = (s.slot q).cfg) ∧
    (∀ q, ((dispatchEdge i d s).slot q).port = (s.slot q).port) ∧
    (∀ q, ((dispatchEdge i d s).slot q).ing = (s.slot q).ing) ∧
    (∀ q, ((dispatchEdge i d s).slot q).ctl = (s.slot q).ctl) ∧
    (∀ q, ((dispatchEdge i d s).slot q).cursor = (s.slot q).cursor) := by
  refine ⟨?_, ?_, ?_, ?_, ?_, ?_, ?_, ?_, ?_, ?_, ?_, ?_, ?_, ?_, ?_, ?_⟩ <;> try intro q
  all_goals first
    | (simp [dispatchEdge]; done)
    | (simp only [dispatchEdge]; (repeat' split) <;> simp)

@[simp] theorem offerTime_keeps (p : ExpressParcel) (lost : Word) (i : Slot) (s : State) :
    (offerTime p lost i s).flow = s.flow ∧ (offerTime p lost i s).pool = s.pool ∧
    (offerTime p lost i s).park = s.park ∧ (offerTime p lost i s).log = s.log ∧
    (offerTime p lost i s).timing = s.timing ∧ (offerTime p lost i s).nextEdge = s.nextEdge ∧
    (offerTime p lost i s).chain = s.chain ∧ (offerTime p lost i s).watches = s.watches ∧
    (offerTime p lost i s).mgmt.msel = s.mgmt.msel ∧ (offerTime p lost i s).glob = s.glob ∧
    (offerTime p lost i s).pending = s.pending ∧ (∀ q, ((offerTime p lost i s).slot q).cfg = (s.slot q).cfg) ∧
    (∀ q, ((offerTime p lost i s).slot q).port = (s.slot q).port) ∧
    (∀ q, ((offerTime p lost i s).slot q).ing = (s.slot q).ing) ∧
    (∀ q, ((offerTime p lost i s).slot q).ctl = (s.slot q).ctl) ∧
    (∀ q, ((offerTime p lost i s).slot q).edges = (s.slot q).edges) ∧
    (∀ q, ((offerTime p lost i s).slot q).cursor = (s.slot q).cursor) := by
  refine ⟨?_, ?_, ?_, ?_, ?_, ?_, ?_, ?_, ?_, ?_, ?_, ?_, ?_, ?_, ?_, ?_, ?_⟩ <;> try intro q
  all_goals first
    | (simp [offerTime]; done)
    | (simp only [offerTime]; (repeat' split) <;> simp)

@[simp] theorem makeTimeParcels_keeps (s : State) :
    (makeTimeParcels s).flow = s.flow ∧ (makeTimeParcels s).pool = s.pool ∧ (makeTimeParcels s).park = s.park ∧
    (makeTimeParcels s).log = s.log ∧ (makeTimeParcels s).timing = s.timing ∧
    (makeTimeParcels s).nextEdge = s.nextEdge ∧ (makeTimeParcels s).chain = s.chain ∧
    (makeTimeParcels s).watches = s.watches ∧ (makeTimeParcels s).mgmt.msel = s.mgmt.msel ∧
    (makeTimeParcels s).glob = s.glob ∧ (makeTimeParcels s).pending = s.pending ∧
    (∀ q, ((makeTimeParcels s).slot q).cfg = (s.slot q).cfg) ∧
    (∀ q, ((makeTimeParcels s).slot q).port = (s.slot q).port) ∧
    (∀ q, ((makeTimeParcels s).slot q).ing = (s.slot q).ing) ∧
    (∀ q, ((makeTimeParcels s).slot q).ctl = (s.slot q).ctl) ∧
    (∀ q, ((makeTimeParcels s).slot q).edges = (s.slot q).edges) ∧
    (∀ q, ((makeTimeParcels s).slot q).cursor = (s.slot q).cursor) := by
  refine ⟨?_, ?_, ?_, ?_, ?_, ?_, ?_, ?_, ?_, ?_, ?_, ?_, ?_, ?_, ?_, ?_, ?_⟩ <;> try intro q
  all_goals first
    | (simp [makeTimeParcels]; done)
    | (simp only [makeTimeParcels]; (repeat' split) <;> simp)

@[simp] theorem giveStrobe_keeps (i : Slot) (d : Sched) (s : State) :
    (giveStrobe i d s).flow = s.flow ∧ (giveStrobe i d s).pool = s.pool ∧ (giveStrobe i d s).park = s.park ∧
    (giveStrobe i d s).log = s.log ∧ (giveStrobe i d s).timing = s.timing ∧
    (giveStrobe i d s).nextEdge = s.nextEdge ∧ (giveStrobe i d s).chain = s.chain ∧
    (giveStrobe i d s).watches = s.watches ∧ (giveStrobe i d s).alarm = s.alarm ∧ (giveStrobe i d s).mgmt = s.mgmt ∧
    (giveStrobe i d s).glob = s.glob ∧ (giveStrobe i d s).pending = s.pending ∧
    (∀ q, ((giveStrobe i d s).slot q).cfg = (s.slot q).cfg) ∧
    (∀ q, ((giveStrobe i d s).slot q).port = (s.slot q).port) ∧
    (∀ q, ((giveStrobe i d s).slot q).ing = (s.slot q).ing) ∧
    (∀ q, ((giveStrobe i d s).slot q).egr = (s.slot q).egr) ∧
    (∀ q, ((giveStrobe i d s).slot q).cursor = (s.slot q).cursor) := by
  refine ⟨?_, ?_, ?_, ?_, ?_, ?_, ?_, ?_, ?_, ?_, ?_, ?_, ?_, ?_, ?_, ?_, ?_⟩ <;> try intro q
  all_goals first
    | (simp [giveStrobe]; done)
    | (simp only [giveStrobe]; (repeat' split) <;> simp)

@[simp] theorem logReserve_keeps (i : Slot) (h : Header) (st : Stamp) (park : Bool) (s : State) :
    (logReserve i h st park s).2.flow = s.flow ∧ (logReserve i h st park s).2.pool = s.pool ∧
    (logReserve i h st park s).2.park = s.park ∧ (logReserve i h st park s).2.timing = s.timing ∧
    (logReserve i h st park s).2.nextEdge = s.nextEdge ∧ (logReserve i h st park s).2.chain = s.chain ∧
    (logReserve i h st park s).2.watches = s.watches ∧ (logReserve i h st park s).2.mgmt.msel = s.mgmt.msel ∧
    (logReserve i h st park s).2.glob = s.glob ∧ (logReserve i h st park s).2.pending = s.pending ∧
    (∀ q, ((logReserve i h st park s).2.slot q).cfg = (s.slot q).cfg) ∧
    (∀ q, ((logReserve i h st park s).2.slot q).port = (s.slot q).port) ∧
    (∀ q, ((logReserve i h st park s).2.slot q).ing = (s.slot q).ing) ∧
    (∀ q, ((logReserve i h st park s).2.slot q).egr = (s.slot q).egr) ∧
    (∀ q, ((logReserve i h st park s).2.slot q).ctl = (s.slot q).ctl) ∧
    (∀ q, ((logReserve i h st park s).2.slot q).edges = (s.slot q).edges) ∧
    (∀ q, ((logReserve i h st park s).2.slot q).cursor = (s.slot q).cursor) := by
  refine ⟨?_, ?_, ?_, ?_, ?_, ?_, ?_, ?_, ?_, ?_, ?_, ?_, ?_, ?_, ?_, ?_, ?_⟩ <;> try intro q
  all_goals first
    | (simp [logReserve]; done)
    | (simp only [logReserve]; (repeat' split) <;> simp)

@[simp] theorem logHandOver_keeps (r : Nat) (c0 : Word) (h : HandOver) (s : State) :
    (logHandOver r c0 h s).2.flow = s.flow ∧ (logHandOver r c0 h s).2.pool = s.pool ∧
    (logHandOver r c0 h s).2.park = s.park ∧ (logHandOver r c0 h s).2.timing = s.timing ∧
    (logHandOver r c0 h s).2.nextEdge = s.nextEdge ∧ (logHandOver r c0 h s).2.chain = s.chain ∧
    (logHandOver r c0 h s).2.watches = s.watches ∧ (logHandOver r c0 h s).2.alarm = s.alarm ∧
    (logHandOver r c0 h s).2.mgmt = s.mgmt ∧ (logHandOver r c0 h s).2.glob = s.glob ∧
    (logHandOver r c0 h s).2.pending = s.pending ∧ (∀ q, ((logHandOver r c0 h s).2.slot q).cfg = (s.slot q).cfg) ∧
    (∀ q, ((logHandOver r c0 h s).2.slot q).port = (s.slot q).port) ∧
    (∀ q, ((logHandOver r c0 h s).2.slot q).ing = (s.slot q).ing) ∧
    (∀ q, ((logHandOver r c0 h s).2.slot q).egr = (s.slot q).egr) ∧
    (∀ q, ((logHandOver r c0 h s).2.slot q).ctl = (s.slot q).ctl) ∧
    (∀ q, ((logHandOver r c0 h s).2.slot q).edges = (s.slot q).edges) ∧
    (∀ q, ((logHandOver r c0 h s).2.slot q).cursor = (s.slot q).cursor) := by
  refine ⟨?_, ?_, ?_, ?_, ?_, ?_, ?_, ?_, ?_, ?_, ?_, ?_, ?_, ?_, ?_, ?_, ?_, ?_⟩ <;> try intro q
  all_goals first
    | (simp [logHandOver]; done)
    | (simp only [logHandOver]; (repeat' split) <;> simp)

@[simp] theorem handOver_keeps (hd : Option LogHandle) (h : HandOver) (s : State) :
    (handOver hd h s).flow = s.flow ∧ (handOver hd h s).pool = s.pool ∧ (handOver hd h s).park = s.park ∧
    (handOver hd h s).timing = s.timing ∧ (handOver hd h s).nextEdge = s.nextEdge ∧
    (handOver hd h s).chain = s.chain ∧ (handOver hd h s).watches = s.watches ∧ (handOver hd h s).alarm = s.alarm ∧
    (handOver hd h s).mgmt = s.mgmt ∧ (handOver hd h s).glob = s.glob ∧ (handOver hd h s).pending = s.pending ∧
    (∀ q, ((handOver hd h s).slot q).cfg = (s.slot q).cfg) ∧
    (∀ q, ((handOver hd h s).slot q).port = (s.slot q).port) ∧
    (∀ q, ((handOver hd h s).slot q).ing = (s.slot q).ing) ∧ (∀ q, ((handOver hd h s).slot q).egr = (s.slot q).egr) ∧
    (∀ q, ((handOver hd h s).slot q).ctl = (s.slot q).ctl) ∧
    (∀ q, ((handOver hd h s).slot q).edges = (s.slot q).edges) ∧
    (∀ q, ((handOver hd h s).slot q).cursor = (s.slot q).cursor) := by
  refine ⟨?_, ?_, ?_, ?_, ?_, ?_, ?_, ?_, ?_, ?_, ?_, ?_, ?_, ?_, ?_, ?_, ?_, ?_⟩ <;> try intro q
  all_goals first
    | (simp [handOver]; done)
    | (simp only [handOver]; (repeat' split) <;> simp)

@[simp] theorem emptyLog_keeps (s : State) :
    (emptyLog s).flow = s.flow ∧ (emptyLog s).pool = s.pool ∧ (emptyLog s).park = s.park ∧
    (emptyLog s).timing = s.timing ∧ (emptyLog s).nextEdge = s.nextEdge ∧ (emptyLog s).chain = s.chain ∧
    (emptyLog s).watches = s.watches ∧ (emptyLog s).alarm = s.alarm ∧ (emptyLog s).mgmt = s.mgmt ∧
    (emptyLog s).glob = s.glob ∧ (emptyLog s).pending = s.pending ∧
    (∀ q, ((emptyLog s).slot q).cfg = (s.slot q).cfg) ∧ (∀ q, ((emptyLog s).slot q).port = (s.slot q).port) ∧
    (∀ q, ((emptyLog s).slot q).ing = (s.slot q).ing) ∧ (∀ q, ((emptyLog s).slot q).egr = (s.slot q).egr) ∧
    (∀ q, ((emptyLog s).slot q).ctl = (s.slot q).ctl) ∧ (∀ q, ((emptyLog s).slot q).edges = (s.slot q).edges) ∧
    (∀ q, ((emptyLog s).slot q).cursor = (s.slot q).cursor) := by
  refine ⟨?_, ?_, ?_, ?_, ?_, ?_, ?_, ?_, ?_, ?_, ?_, ?_, ?_, ?_, ?_, ?_, ?_, ?_⟩ <;> try intro q
  all_goals first
    | (simp [emptyLog]; done)
    | (simp only [emptyLog]; (repeat' split) <;> simp)

@[simp] theorem evalWatch_keeps (n : Fin 32) (s : State) :
    (evalWatch n s).flow = s.flow ∧ (evalWatch n s).pool = s.pool ∧ (evalWatch n s).park = s.park ∧
    (evalWatch n s).log = s.log ∧ (evalWatch n s).timing = s.timing ∧ (evalWatch n s).nextEdge = s.nextEdge ∧
    (evalWatch n s).chain = s.chain ∧ (evalWatch n s).mgmt.msel = s.mgmt.msel ∧ (evalWatch n s).glob = s.glob ∧
    (evalWatch n s).pending = s.pending ∧ (∀ q, ((evalWatch n s).slot q).cfg = (s.slot q).cfg) ∧
    (∀ q, ((evalWatch n s).slot q).port = (s.slot q).port) ∧ (∀ q, ((evalWatch n s).slot q).ing = (s.slot q).ing) ∧
    (∀ q, ((evalWatch n s).slot q).egr = (s.slot q).egr) ∧ (∀ q, ((evalWatch n s).slot q).ctl = (s.slot q).ctl) ∧
    (∀ q, ((evalWatch n s).slot q).edges = (s.slot q).edges) ∧
    (∀ q, ((evalWatch n s).slot q).cursor = (s.slot q).cursor) := by
  refine ⟨?_, ?_, ?_, ?_, ?_, ?_, ?_, ?_, ?_, ?_, ?_, ?_, ?_, ?_, ?_, ?_, ?_⟩ <;> try intro q
  all_goals first
    | (simp [evalWatch]; done)
    | (simp only [evalWatch]; (repeat' split) <;> simp)

@[simp] theorem evalOn_keeps (a : Fin 64) (n : Fin 32) (s : State) :
    (evalOn a n s).flow = s.flow ∧ (evalOn a n s).pool = s.pool ∧ (evalOn a n s).park = s.park ∧
    (evalOn a n s).log = s.log ∧ (evalOn a n s).timing = s.timing ∧ (evalOn a n s).nextEdge = s.nextEdge ∧
    (evalOn a n s).chain = s.chain ∧ (evalOn a n s).mgmt.msel = s.mgmt.msel ∧ (evalOn a n s).glob = s.glob ∧
    (evalOn a n s).pending = s.pending ∧ (∀ q, ((evalOn a n s).slot q).cfg = (s.slot q).cfg) ∧
    (∀ q, ((evalOn a n s).slot q).port = (s.slot q).port) ∧ (∀ q, ((evalOn a n s).slot q).ing = (s.slot q).ing) ∧
    (∀ q, ((evalOn a n s).slot q).egr = (s.slot q).egr) ∧ (∀ q, ((evalOn a n s).slot q).ctl = (s.slot q).ctl) ∧
    (∀ q, ((evalOn a n s).slot q).edges = (s.slot q).edges) ∧
    (∀ q, ((evalOn a n s).slot q).cursor = (s.slot q).cursor) := by
  refine ⟨?_, ?_, ?_, ?_, ?_, ?_, ?_, ?_, ?_, ?_, ?_, ?_, ?_, ?_, ?_, ?_, ?_⟩ <;> try intro q
  all_goals first
    | (simp [evalOn]; done)
    | (simp only [evalOn]; (repeat' split) <;> simp)

@[simp] theorem evalArea_keeps (a : Fin 64) (s : State) :
    (evalArea a s).flow = s.flow ∧ (evalArea a s).pool = s.pool ∧ (evalArea a s).park = s.park ∧
    (evalArea a s).log = s.log ∧ (evalArea a s).timing = s.timing ∧ (evalArea a s).nextEdge = s.nextEdge ∧
    (evalArea a s).chain = s.chain ∧ (evalArea a s).mgmt.msel = s.mgmt.msel ∧ (evalArea a s).glob = s.glob ∧
    (evalArea a s).pending = s.pending ∧ (∀ q, ((evalArea a s).slot q).cfg = (s.slot q).cfg) ∧
    (∀ q, ((evalArea a s).slot q).port = (s.slot q).port) ∧ (∀ q, ((evalArea a s).slot q).ing = (s.slot q).ing) ∧
    (∀ q, ((evalArea a s).slot q).egr = (s.slot q).egr) ∧ (∀ q, ((evalArea a s).slot q).ctl = (s.slot q).ctl) ∧
    (∀ q, ((evalArea a s).slot q).edges = (s.slot q).edges) ∧
    (∀ q, ((evalArea a s).slot q).cursor = (s.slot q).cursor) := by
  refine ⟨?_, ?_, ?_, ?_, ?_, ?_, ?_, ?_, ?_, ?_, ?_, ?_, ?_, ?_, ?_, ?_, ?_⟩ <;> try intro q
  all_goals first
    | (simp [evalArea]; done)
    | (simp only [evalArea]; (repeat' split) <;> simp)

@[simp] theorem writeWatch_keeps (n : Fin 32) (ws : List Word) (s : State) :
    (writeWatch n ws s).flow = s.flow ∧ (writeWatch n ws s).pool = s.pool ∧ (writeWatch n ws s).park = s.park ∧
    (writeWatch n ws s).log = s.log ∧ (writeWatch n ws s).timing = s.timing ∧
    (writeWatch n ws s).nextEdge = s.nextEdge ∧ (writeWatch n ws s).chain = s.chain ∧
    (writeWatch n ws s).mgmt.msel = s.mgmt.msel ∧ (writeWatch n ws s).glob = s.glob ∧
    (writeWatch n ws s).pending = s.pending ∧ (∀ q, ((writeWatch n ws s).slot q).cfg = (s.slot q).cfg) ∧
    (∀ q, ((writeWatch n ws s).slot q).port = (s.slot q).port) ∧
    (∀ q, ((writeWatch n ws s).slot q).ing = (s.slot q).ing) ∧
    (∀ q, ((writeWatch n ws s).slot q).egr = (s.slot q).egr) ∧
    (∀ q, ((writeWatch n ws s).slot q).ctl = (s.slot q).ctl) ∧
    (∀ q, ((writeWatch n ws s).slot q).edges = (s.slot q).edges) ∧
    (∀ q, ((writeWatch n ws s).slot q).cursor = (s.slot q).cursor) := by
  refine ⟨?_, ?_, ?_, ?_, ?_, ?_, ?_, ?_, ?_, ?_, ?_, ?_, ?_, ?_, ?_, ?_, ?_⟩ <;> try intro q
  all_goals first
    | (simp [writeWatch]; done)
    | (simp only [writeWatch]; (repeat' split) <;> simp)

@[simp] theorem setLanding_keeps (s : State) (i : Slot) (l : Landing) :
    (s.setLanding i l).flow = s.flow ∧ (s.setLanding i l).pool = s.pool ∧ (s.setLanding i l).park = s.park ∧
    (s.setLanding i l).log = s.log ∧ (s.setLanding i l).timing = s.timing ∧
    (s.setLanding i l).nextEdge = s.nextEdge ∧ (s.setLanding i l).chain = s.chain ∧
    (s.setLanding i l).watches = s.watches ∧ (s.setLanding i l).alarm = s.alarm ∧ (s.setLanding i l).mgmt = s.mgmt ∧
    (s.setLanding i l).glob = s.glob ∧ (s.setLanding i l).pending = s.pending ∧
    (∀ q, ((s.setLanding i l).slot q).cfg = (s.slot q).cfg) ∧
    (∀ q, ((s.setLanding i l).slot q).port = (s.slot q).port) ∧
    (∀ q, ((s.setLanding i l).slot q).egr = (s.slot q).egr) ∧
    (∀ q, ((s.setLanding i l).slot q).ctl = (s.slot q).ctl) ∧
    (∀ q, ((s.setLanding i l).slot q).edges = (s.slot q).edges) ∧
    (∀ q, ((s.setLanding i l).slot q).cursor = (s.slot q).cursor) := by
  refine ⟨?_, ?_, ?_, ?_, ?_, ?_, ?_, ?_, ?_, ?_, ?_, ?_, ?_, ?_, ?_, ?_, ?_, ?_⟩ <;> try intro q
  all_goals first
    | (simp [State.setLanding]; done)
    | (simp only [State.setLanding]; (repeat' split) <;> simp)

@[simp] theorem setArea_keeps (s : State) (a : Fin 64) (x : Area) :
    (s.setArea a x).flow = s.flow ∧ (s.setArea a x).pool = s.pool ∧ (s.setArea a x).log = s.log ∧
    (s.setArea a x).timing = s.timing ∧ (s.setArea a x).nextEdge = s.nextEdge ∧ (s.setArea a x).chain = s.chain ∧
    (s.setArea a x).watches = s.watches ∧ (s.setArea a x).alarm = s.alarm ∧ (s.setArea a x).mgmt = s.mgmt ∧
    (s.setArea a x).glob = s.glob ∧ (s.setArea a x).pending = s.pending ∧
    (∀ q, ((s.setArea a x).slot q).cfg = (s.slot q).cfg) ∧ (∀ q, ((s.setArea a x).slot q).port = (s.slot q).port) ∧
    (∀ q, ((s.setArea a x).slot q).ing = (s.slot q).ing) ∧ (∀ q, ((s.setArea a x).slot q).egr = (s.slot q).egr) ∧
    (∀ q, ((s.setArea a x).slot q).ctl = (s.slot q).ctl) ∧ (∀ q, ((s.setArea a x).slot q).edges = (s.slot q).edges) ∧
    (∀ q, ((s.setArea a x).slot q).cursor = (s.slot q).cursor) := by
  refine ⟨?_, ?_, ?_, ?_, ?_, ?_, ?_, ?_, ?_, ?_, ?_, ?_, ?_, ?_, ?_, ?_, ?_, ?_⟩ <;> try intro q
  all_goals first
    | (simp [State.setArea]; done)
    | (simp only [State.setArea]; (repeat' split) <;> simp)

@[simp] theorem parkDiscard_keeps (i : Slot) (a : Fin 64) (chan : BitVec 6) (reason : Nat) (s : State) :
    (parkDiscard i a chan reason s).flow = s.flow ∧ (parkDiscard i a chan reason s).pool = s.pool ∧
    (parkDiscard i a chan reason s).park = s.park ∧ (parkDiscard i a chan reason s).log = s.log ∧
    (parkDiscard i a chan reason s).timing = s.timing ∧ (parkDiscard i a chan reason s).nextEdge = s.nextEdge ∧
    (parkDiscard i a chan reason s).chain = s.chain ∧ (parkDiscard i a chan reason s).watches = s.watches ∧
    (parkDiscard i a chan reason s).mgmt.msel = s.mgmt.msel ∧ (parkDiscard i a chan reason s).glob = s.glob ∧
    (parkDiscard i a chan reason s).pending = s.pending ∧
    (∀ q, ((parkDiscard i a chan reason s).slot q).cfg = (s.slot q).cfg) ∧
    (∀ q, ((parkDiscard i a chan reason s).slot q).port = (s.slot q).port) ∧
    (∀ q, ((parkDiscard i a chan reason s).slot q).ing = (s.slot q).ing) ∧
    (∀ q, ((parkDiscard i a chan reason s).slot q).egr = (s.slot q).egr) ∧
    (∀ q, ((parkDiscard i a chan reason s).slot q).ctl = (s.slot q).ctl) ∧
    (∀ q, ((parkDiscard i a chan reason s).slot q).edges = (s.slot q).edges) ∧
    (∀ q, ((parkDiscard i a chan reason s).slot q).cursor = (s.slot q).cursor) := by
  refine ⟨?_, ?_, ?_, ?_, ?_, ?_, ?_, ?_, ?_, ?_, ?_, ?_, ?_, ?_, ?_, ?_, ?_, ?_⟩ <;> try intro q
  all_goals first
    | (simp [parkDiscard]; done)
    | (simp only [parkDiscard]; (repeat' split) <;> simp)

@[simp] theorem parkReport_keeps (hd : Option LogHandle) (o : LogOutcome) (reason : Nat) (a : Fin 64) (offset : Nat) (s : State) :
    (parkReport hd o reason a offset s).flow = s.flow ∧ (parkReport hd o reason a offset s).pool = s.pool ∧
    (parkReport hd o reason a offset s).park = s.park ∧ (parkReport hd o reason a offset s).timing = s.timing ∧
    (parkReport hd o reason a offset s).nextEdge = s.nextEdge ∧ (parkReport hd o reason a offset s).chain = s.chain ∧
    (parkReport hd o reason a offset s).watches = s.watches ∧ (parkReport hd o reason a offset s).alarm = s.alarm ∧
    (parkReport hd o reason a offset s).mgmt = s.mgmt ∧ (parkReport hd o reason a offset s).glob = s.glob ∧
    (parkReport hd o reason a offset s).pending = s.pending ∧
    (∀ q, ((parkReport hd o reason a offset s).slot q).cfg = (s.slot q).cfg) ∧
    (∀ q, ((parkReport hd o reason a offset s).slot q).port = (s.slot q).port) ∧
    (∀ q, ((parkReport hd o reason a offset s).slot q).ing = (s.slot q).ing) ∧
    (∀ q, ((parkReport hd o reason a offset s).slot q).egr = (s.slot q).egr) ∧
    (∀ q, ((parkReport hd o reason a offset s).slot q).ctl = (s.slot q).ctl) ∧
    (∀ q, ((parkReport hd o reason a offset s).slot q).edges = (s.slot q).edges) ∧
    (∀ q, ((parkReport hd o reason a offset s).slot q).cursor = (s.slot q).cursor) := by
  refine ⟨?_, ?_, ?_, ?_, ?_, ?_, ?_, ?_, ?_, ?_, ?_, ?_, ?_, ?_, ?_, ?_, ?_, ?_⟩ <;> try intro q
  all_goals first
    | (simp [parkReport]; done)
    | (simp only [parkReport]; (repeat' split) <;> simp)

@[simp] theorem parkHeader_keeps (i : Slot) (a : Fin 64) (h : Header) (hd : Option LogHandle) (s : State) :
    (parkHeader i a h hd s).flow = s.flow ∧ (parkHeader i a h hd s).pool = s.pool ∧
    (parkHeader i a h hd s).park = s.park ∧ (parkHeader i a h hd s).timing = s.timing ∧
    (parkHeader i a h hd s).nextEdge = s.nextEdge ∧ (parkHeader i a h hd s).chain = s.chain ∧
    (parkHeader i a h hd s).watches = s.watches ∧ (parkHeader i a h hd s).mgmt.msel = s.mgmt.msel ∧
    (parkHeader i a h hd s).glob = s.glob ∧ (parkHeader i a h hd s).pending = s.pending ∧
    (∀ q, ((parkHeader i a h hd s).slot q).cfg = (s.slot q).cfg) ∧
    (∀ q, ((parkHeader i a h hd s).slot q).port = (s.slot q).port) ∧
    (∀ q, ((parkHeader i a h hd s).slot q).egr = (s.slot q).egr) ∧
    (∀ q, ((parkHeader i a h hd s).slot q).ctl = (s.slot q).ctl) ∧
    (∀ q, ((parkHeader i a h hd s).slot q).edges = (s.slot q).edges) ∧
    (∀ q, ((parkHeader i a h hd s).slot q).cursor = (s.slot q).cursor) := by
  refine ⟨?_, ?_, ?_, ?_, ?_, ?_, ?_, ?_, ?_, ?_, ?_, ?_, ?_, ?_, ?_, ?_⟩ <;> try intro q
  all_goals first
    | (simp [parkHeader]; done)
    | (simp only [parkHeader]; (repeat' split) <;> simp)

@[simp] theorem parkPayload_keeps (i : Slot) (w : Word) (s : State) :
    (parkPayload i w s).flow = s.flow ∧ (parkPayload i w s).pool = s.pool ∧ (parkPayload i w s).park = s.park ∧
    (parkPayload i w s).log = s.log ∧ (parkPayload i w s).timing = s.timing ∧
    (parkPayload i w s).nextEdge = s.nextEdge ∧ (parkPayload i w s).chain = s.chain ∧
    (parkPayload i w s).watches = s.watches ∧ (parkPayload i w s).alarm = s.alarm ∧
    (parkPayload i w s).mgmt = s.mgmt ∧ (parkPayload i w s).glob = s.glob ∧ (parkPayload i w s).pending = s.pending ∧
    (∀ q, ((parkPayload i w s).slot q).cfg = (s.slot q).cfg) ∧
    (∀ q, ((parkPayload i w s).slot q).port = (s.slot q).port) ∧
    (∀ q, ((parkPayload i w s).slot q).egr = (s.slot q).egr) ∧
    (∀ q, ((parkPayload i w s).slot q).ctl = (s.slot q).ctl) ∧
    (∀ q, ((parkPayload i w s).slot q).edges = (s.slot q).edges) ∧
    (∀ q, ((parkPayload i w s).slot q).cursor = (s.slot q).cursor) := by
  refine ⟨?_, ?_, ?_, ?_, ?_, ?_, ?_, ?_, ?_, ?_, ?_, ?_, ?_, ?_, ?_, ?_, ?_, ?_⟩ <;> try intro q
  all_goals first
    | (simp [parkPayload]; done)
    | (simp only [parkPayload]; (repeat' split) <;> simp)

@[simp] theorem landLatest_keeps (good : Bool) (i : Slot) (n : Fin 64) (h : Header) (ws : List Word) (s : State) :
    (landLatest good i n h ws s).flow = s.flow ∧ (landLatest good i n h ws s).pool = s.pool ∧
    (landLatest good i n h ws s).log = s.log ∧ (landLatest good i n h ws s).timing = s.timing ∧
    (landLatest good i n h ws s).nextEdge = s.nextEdge ∧ (landLatest good i n h ws s).chain = s.chain ∧
    (landLatest good i n h ws s).mgmt.msel = s.mgmt.msel ∧ (landLatest good i n h ws s).glob = s.glob ∧
    (landLatest good i n h ws s).pending = s.pending ∧
    (∀ q, ((landLatest good i n h ws s).slot q).cfg = (s.slot q).cfg) ∧
    (∀ q, ((landLatest good i n h ws s).slot q).port = (s.slot q).port) ∧
    (∀ q, ((landLatest good i n h ws s).slot q).ing = (s.slot q).ing) ∧
    (∀ q, ((landLatest good i n h ws s).slot q).egr = (s.slot q).egr) ∧
    (∀ q, ((landLatest good i n h ws s).slot q).ctl = (s.slot q).ctl) ∧
    (∀ q, ((landLatest good i n h ws s).slot q).edges = (s.slot q).edges) ∧
    (∀ q, ((landLatest good i n h ws s).slot q).cursor = (s.slot q).cursor) := by
  refine ⟨?_, ?_, ?_, ?_, ?_, ?_, ?_, ?_, ?_, ?_, ?_, ?_, ?_, ?_, ?_, ?_⟩ <;> try intro q
  all_goals first
    | (simp [landLatest]; done)
    | (simp only [landLatest]; (repeat' split) <;> simp)

@[simp] theorem postCrossings_keeps (n : Fin 64) (size i f new : Nat) (s : State) :
    (postCrossings n size i f new s).flow = s.flow ∧ (postCrossings n size i f new s).pool = s.pool ∧
    (postCrossings n size i f new s).park = s.park ∧ (postCrossings n size i f new s).log = s.log ∧
    (postCrossings n size i f new s).timing = s.timing ∧ (postCrossings n size i f new s).nextEdge = s.nextEdge ∧
    (postCrossings n size i f new s).chain = s.chain ∧ (postCrossings n size i f new s).watches = s.watches ∧
    (postCrossings n size i f new s).mgmt.msel = s.mgmt.msel ∧ (postCrossings n size i f new s).glob = s.glob ∧
    (postCrossings n size i f new s).pending = s.pending ∧
    (∀ q, ((postCrossings n size i f new s).slot q).cfg = (s.slot q).cfg) ∧
    (∀ q, ((postCrossings n size i f new s).slot q).port = (s.slot q).port) ∧
    (∀ q, ((postCrossings n size i f new s).slot q).ing = (s.slot q).ing) ∧
    (∀ q, ((postCrossings n size i f new s).slot q).egr = (s.slot q).egr) ∧
    (∀ q, ((postCrossings n size i f new s).slot q).ctl = (s.slot q).ctl) ∧
    (∀ q, ((postCrossings n size i f new s).slot q).edges = (s.slot q).edges) ∧
    (∀ q, ((postCrossings n size i f new s).slot q).cursor = (s.slot q).cursor) := by
  refine ⟨?_, ?_, ?_, ?_, ?_, ?_, ?_, ?_, ?_, ?_, ?_, ?_, ?_, ?_, ?_, ?_, ?_, ?_⟩ <;> try intro q
  all_goals first
    | (simp [postCrossings]; done)
    | (simp only [postCrossings]; (repeat' split) <;> simp)

@[simp] theorem landRing_keeps (good : Bool) (i : Slot) (n : Fin 64) (h : Header) (ws : List Word) (s : State) :
    (landRing good i n h ws s).flow = s.flow ∧ (landRing good i n h ws s).pool = s.pool ∧
    (landRing good i n h ws s).log = s.log ∧ (landRing good i n h ws s).timing = s.timing ∧
    (landRing good i n h ws s).nextEdge = s.nextEdge ∧ (landRing good i n h ws s).chain = s.chain ∧
    (landRing good i n h ws s).watches = s.watches ∧ (landRing good i n h ws s).mgmt.msel = s.mgmt.msel ∧
    (landRing good i n h ws s).glob = s.glob ∧ (landRing good i n h ws s).pending = s.pending ∧
    (∀ q, ((landRing good i n h ws s).slot q).cfg = (s.slot q).cfg) ∧
    (∀ q, ((landRing good i n h ws s).slot q).port = (s.slot q).port) ∧
    (∀ q, ((landRing good i n h ws s).slot q).ing = (s.slot q).ing) ∧
    (∀ q, ((landRing good i n h ws s).slot q).egr = (s.slot q).egr) ∧
    (∀ q, ((landRing good i n h ws s).slot q).ctl = (s.slot q).ctl) ∧
    (∀ q, ((landRing good i n h ws s).slot q).edges = (s.slot q).edges) ∧
    (∀ q, ((landRing good i n h ws s).slot q).cursor = (s.slot q).cursor) := by
  refine ⟨?_, ?_, ?_, ?_, ?_, ?_, ?_, ?_, ?_, ?_, ?_, ?_, ?_, ?_, ?_, ?_, ?_⟩ <;> try intro q
  all_goals first
    | (simp [landRing]; done)
    | (simp only [landRing]; (repeat' split) <;> simp)

@[simp] theorem land_keeps (good : Bool) (i : Slot) (n : Fin 64) (h : Header) (ws : List Word) (s : State) :
    (land good i n h ws s).flow = s.flow ∧ (land good i n h ws s).pool = s.pool ∧
    (land good i n h ws s).log = s.log ∧ (land good i n h ws s).timing = s.timing ∧
    (land good i n h ws s).nextEdge = s.nextEdge ∧ (land good i n h ws s).chain = s.chain ∧
    (land good i n h ws s).mgmt.msel = s.mgmt.msel ∧ (land good i n h ws s).glob = s.glob ∧
    (land good i n h ws s).pending = s.pending ∧ (∀ q, ((land good i n h ws s).slot q).cfg = (s.slot q).cfg) ∧
    (∀ q, ((land good i n h ws s).slot q).port = (s.slot q).port) ∧
    (∀ q, ((land good i n h ws s).slot q).ing = (s.slot q).ing) ∧
    (∀ q, ((land good i n h ws s).slot q).egr = (s.slot q).egr) ∧
    (∀ q, ((land good i n h ws s).slot q).ctl = (s.slot q).ctl) ∧
    (∀ q, ((land good i n h ws s).slot q).edges = (s.slot q).edges) ∧
    (∀ q, ((land good i n h ws s).slot q).cursor = (s.slot q).cursor) := by
  refine ⟨?_, ?_, ?_, ?_, ?_, ?_, ?_, ?_, ?_, ?_, ?_, ?_, ?_, ?_, ?_, ?_⟩ <;> try intro q
  all_goals first
    | (simp [land]; done)
    | (simp only [land]; (repeat' split) <;> simp)

@[simp] theorem parkEnd_keeps (i : Slot) (e : PEnd) (hd : Option LogHandle) (s : State) :
    (parkEnd i e hd s).flow = s.flow ∧ (parkEnd i e hd s).pool = s.pool ∧ (parkEnd i e hd s).timing = s.timing ∧
    (parkEnd i e hd s).nextEdge = s.nextEdge ∧ (parkEnd i e hd s).chain = s.chain ∧
    (parkEnd i e hd s).mgmt.msel = s.mgmt.msel ∧ (parkEnd i e hd s).glob = s.glob ∧
    (parkEnd i e hd s).pending = s.pending ∧ (∀ q, ((parkEnd i e hd s).slot q).cfg = (s.slot q).cfg) ∧
    (∀ q, ((parkEnd i e hd s).slot q).port = (s.slot q).port) ∧
    (∀ q, ((parkEnd i e hd s).slot q).egr = (s.slot q).egr) ∧
    (∀ q, ((parkEnd i e hd s).slot q).ctl = (s.slot q).ctl) ∧
    (∀ q, ((parkEnd i e hd s).slot q).edges = (s.slot q).edges) ∧
    (∀ q, ((parkEnd i e hd s).slot q).cursor = (s.slot q).cursor) := by
  refine ⟨?_, ?_, ?_, ?_, ?_, ?_, ?_, ?_, ?_, ?_, ?_, ?_, ?_, ?_⟩ <;> try intro q
  all_goals first
    | (simp [parkEnd]; done)
    | (simp only [parkEnd]; (repeat' split) <;> simp)

@[simp] theorem markChanged_keeps (n : Fin 64) (i : Slot) (s : State) :
    (markChanged n i s).flow = s.flow ∧ (markChanged n i s).pool = s.pool ∧ (markChanged n i s).park = s.park ∧
    (markChanged n i s).log = s.log ∧ (markChanged n i s).timing = s.timing ∧
    (markChanged n i s).nextEdge = s.nextEdge ∧ (markChanged n i s).chain = s.chain ∧
    (markChanged n i s).watches = s.watches ∧ (markChanged n i s).alarm = s.alarm ∧
    (markChanged n i s).mgmt = s.mgmt ∧ (markChanged n i s).glob = s.glob ∧ (markChanged n i s).pending = s.pending ∧
    (∀ q, ((markChanged n i s).slot q).cfg = (s.slot q).cfg) ∧
    (∀ q, ((markChanged n i s).slot q).port = (s.slot q).port) ∧
    (∀ q, ((markChanged n i s).slot q).egr = (s.slot q).egr) ∧
    (∀ q, ((markChanged n i s).slot q).ctl = (s.slot q).ctl) ∧
    (∀ q, ((markChanged n i s).slot q).edges = (s.slot q).edges) ∧
    (∀ q, ((markChanged n i s).slot q).cursor = (s.slot q).cursor) := by
  refine ⟨?_, ?_, ?_, ?_, ?_, ?_, ?_, ?_, ?_, ?_, ?_, ?_, ?_, ?_, ?_, ?_, ?_, ?_⟩ <;> try intro q
  all_goals first
    | (simp [markChanged]; done)
    | (simp only [markChanged]; (repeat' split) <;> simp)

@[simp] theorem writeArea_keeps (n : Fin 64) (ws : List Word) (s : State) :
    (writeArea n ws s).flow = s.flow ∧ (writeArea n ws s).pool = s.pool ∧ (writeArea n ws s).log = s.log ∧
    (writeArea n ws s).timing = s.timing ∧ (writeArea n ws s).nextEdge = s.nextEdge ∧
    (writeArea n ws s).chain = s.chain ∧ (writeArea n ws s).mgmt.msel = s.mgmt.msel ∧
    (writeArea n ws s).glob = s.glob ∧ (writeArea n ws s).pending = s.pending ∧
    (∀ q, ((writeArea n ws s).slot q).cfg = (s.slot q).cfg) ∧
    (∀ q, ((writeArea n ws s).slot q).port = (s.slot q).port) ∧
    (∀ q, ((writeArea n ws s).slot q).egr = (s.slot q).egr) ∧
    (∀ q, ((writeArea n ws s).slot q).ctl = (s.slot q).ctl) ∧
    (∀ q, ((writeArea n ws s).slot q).edges = (s.slot q).edges) ∧
    (∀ q, ((writeArea n ws s).slot q).cursor = (s.slot q).cursor) := by
  refine ⟨?_, ?_, ?_, ?_, ?_, ?_, ?_, ?_, ?_, ?_, ?_, ?_, ?_, ?_, ?_⟩ <;> try intro q
  all_goals first
    | (simp [writeArea]; done)
    | (simp only [writeArea]; (repeat' split) <;> simp)

@[simp] theorem voidExchange_keeps (i : Slot) (s : State) :
    (voidExchange i s).flow = s.flow ∧ (voidExchange i s).pool = s.pool ∧ (voidExchange i s).park = s.park ∧
    (voidExchange i s).log = s.log ∧ (voidExchange i s).timing = s.timing ∧
    (voidExchange i s).nextEdge = s.nextEdge ∧ (voidExchange i s).chain = s.chain ∧
    (voidExchange i s).watches = s.watches ∧ (voidExchange i s).alarm = s.alarm ∧ (voidExchange i s).mgmt = s.mgmt ∧
    (voidExchange i s).glob = s.glob ∧ (voidExchange i s).pending = s.pending ∧
    (∀ q, ((voidExchange i s).slot q).cfg = (s.slot q).cfg) ∧
    (∀ q, ((voidExchange i s).slot q).port = (s.slot q).port) ∧
    (∀ q, ((voidExchange i s).slot q).ing = (s.slot q).ing) ∧
    (∀ q, ((voidExchange i s).slot q).egr = (s.slot q).egr) ∧
    (∀ q, ((voidExchange i s).slot q).edges = (s.slot q).edges) ∧
    (∀ q, ((voidExchange i s).slot q).cursor = (s.slot q).cursor) := by
  refine ⟨?_, ?_, ?_, ?_, ?_, ?_, ?_, ?_, ?_, ?_, ?_, ?_, ?_, ?_, ?_, ?_, ?_, ?_⟩ <;> try intro q
  all_goals first
    | (simp [voidExchange]; done)
    | (simp only [voidExchange]; (repeat' split) <;> simp)

@[simp] theorem moveTimeTo_keeps (t : CabTime) (amount : Int) (s : State) :
    (moveTimeTo t amount s).flow = s.flow ∧ (moveTimeTo t amount s).pool = s.pool ∧
    (moveTimeTo t amount s).park = s.park ∧ (moveTimeTo t amount s).log = s.log ∧
    (moveTimeTo t amount s).chain = s.chain ∧ (moveTimeTo t amount s).watches = s.watches ∧
    (moveTimeTo t amount s).alarm = s.alarm ∧ (moveTimeTo t amount s).mgmt = s.mgmt ∧
    (moveTimeTo t amount s).glob = s.glob ∧ (moveTimeTo t amount s).pending = s.pending ∧
    (∀ q, ((moveTimeTo t amount s).slot q).cfg = (s.slot q).cfg) ∧
    (∀ q, ((moveTimeTo t amount s).slot q).port = (s.slot q).port) ∧
    (∀ q, ((moveTimeTo t amount s).slot q).ing = (s.slot q).ing) ∧
    (∀ q, ((moveTimeTo t amount s).slot q).egr = (s.slot q).egr) ∧
    (∀ q, ((moveTimeTo t amount s).slot q).cursor = (s.slot q).cursor) := by
  refine ⟨?_, ?_, ?_, ?_, ?_, ?_, ?_, ?_, ?_, ?_, ?_, ?_, ?_, ?_, ?_⟩ <;> try intro q
  all_goals first
    | (simp [moveTimeTo]; done)
    | (simp only [moveTimeTo]; (repeat' split) <;> simp)

@[simp] theorem moveTime_keeps (amount : Int) (s : State) :
    (moveTime amount s).flow = s.flow ∧ (moveTime amount s).pool = s.pool ∧ (moveTime amount s).park = s.park ∧
    (moveTime amount s).log = s.log ∧ (moveTime amount s).chain = s.chain ∧ (moveTime amount s).watches = s.watches ∧
    (moveTime amount s).alarm = s.alarm ∧ (moveTime amount s).mgmt = s.mgmt ∧ (moveTime amount s).glob = s.glob ∧
    (moveTime amount s).pending = s.pending ∧ (∀ q, ((moveTime amount s).slot q).cfg = (s.slot q).cfg) ∧
    (∀ q, ((moveTime amount s).slot q).port = (s.slot q).port) ∧
    (∀ q, ((moveTime amount s).slot q).ing = (s.slot q).ing) ∧
    (∀ q, ((moveTime amount s).slot q).egr = (s.slot q).egr) ∧
    (∀ q, ((moveTime amount s).slot q).cursor = (s.slot q).cursor) := by
  refine ⟨?_, ?_, ?_, ?_, ?_, ?_, ?_, ?_, ?_, ?_, ?_, ?_, ?_, ?_, ?_⟩ <;> try intro q
  all_goals first
    | (simp [moveTime]; done)
    | (simp only [moveTime]; (repeat' split) <;> simp)

@[simp] theorem setFreq_keeps (intg freq : Int) (s : State) :
    (setFreq intg freq s).flow = s.flow ∧ (setFreq intg freq s).pool = s.pool ∧ (setFreq intg freq s).park = s.park ∧
    (setFreq intg freq s).log = s.log ∧ (setFreq intg freq s).nextEdge = s.nextEdge ∧
    (setFreq intg freq s).chain = s.chain ∧ (setFreq intg freq s).watches = s.watches ∧
    (setFreq intg freq s).alarm = s.alarm ∧ (setFreq intg freq s).mgmt = s.mgmt ∧
    (setFreq intg freq s).glob = s.glob ∧ (setFreq intg freq s).pending = s.pending ∧
    (∀ q, ((setFreq intg freq s).slot q).cfg = (s.slot q).cfg) ∧
    (∀ q, ((setFreq intg freq s).slot q).port = (s.slot q).port) ∧
    (∀ q, ((setFreq intg freq s).slot q).ing = (s.slot q).ing) ∧
    (∀ q, ((setFreq intg freq s).slot q).egr = (s.slot q).egr) ∧
    (∀ q, ((setFreq intg freq s).slot q).ctl = (s.slot q).ctl) ∧
    (∀ q, ((setFreq intg freq s).slot q).edges = (s.slot q).edges) ∧
    (∀ q, ((setFreq intg freq s).slot q).cursor = (s.slot q).cursor) := by
  refine ⟨?_, ?_, ?_, ?_, ?_, ?_, ?_, ?_, ?_, ?_, ?_, ?_, ?_, ?_, ?_, ?_, ?_, ?_⟩ <;> try intro q
  all_goals first
    | (simp [setFreq]; done)
    | (simp only [setFreq]; (repeat' split) <;> simp)

@[simp] theorem changeLoop_keeps (new : LoopState) (s : State) :
    (changeLoop new s).flow = s.flow ∧ (changeLoop new s).pool = s.pool ∧ (changeLoop new s).park = s.park ∧
    (changeLoop new s).log = s.log ∧ (changeLoop new s).nextEdge = s.nextEdge ∧ (changeLoop new s).chain = s.chain ∧
    (changeLoop new s).watches = s.watches ∧ (changeLoop new s).mgmt.msel = s.mgmt.msel ∧
    (changeLoop new s).glob = s.glob ∧ (changeLoop new s).pending = s.pending ∧
    (∀ q, ((changeLoop new s).slot q).cfg = (s.slot q).cfg) ∧
    (∀ q, ((changeLoop new s).slot q).port = (s.slot q).port) ∧
    (∀ q, ((changeLoop new s).slot q).ing = (s.slot q).ing) ∧
    (∀ q, ((changeLoop new s).slot q).egr = (s.slot q).egr) ∧
    (∀ q, ((changeLoop new s).slot q).ctl = (s.slot q).ctl) ∧
    (∀ q, ((changeLoop new s).slot q).edges = (s.slot q).edges) ∧
    (∀ q, ((changeLoop new s).slot q).cursor = (s.slot q).cursor) := by
  refine ⟨?_, ?_, ?_, ?_, ?_, ?_, ?_, ?_, ?_, ?_, ?_, ?_, ?_, ?_, ?_, ?_, ?_⟩ <;> try intro q
  all_goals first
    | (simp [changeLoop]; done)
    | (simp only [changeLoop]; (repeat' split) <;> simp)

@[simp] theorem enterAcquiring_keeps (s : State) :
    (enterAcquiring s).flow = s.flow ∧ (enterAcquiring s).pool = s.pool ∧ (enterAcquiring s).park = s.park ∧
    (enterAcquiring s).log = s.log ∧ (enterAcquiring s).nextEdge = s.nextEdge ∧ (enterAcquiring s).chain = s.chain ∧
    (enterAcquiring s).watches = s.watches ∧ (enterAcquiring s).mgmt.msel = s.mgmt.msel ∧
    (enterAcquiring s).glob = s.glob ∧ (enterAcquiring s).pending = s.pending ∧
    (∀ q, ((enterAcquiring s).slot q).cfg = (s.slot q).cfg) ∧
    (∀ q, ((enterAcquiring s).slot q).port = (s.slot q).port) ∧
    (∀ q, ((enterAcquiring s).slot q).ing = (s.slot q).ing) ∧
    (∀ q, ((enterAcquiring s).slot q).egr = (s.slot q).egr) ∧
    (∀ q, ((enterAcquiring s).slot q).ctl = (s.slot q).ctl) ∧
    (∀ q, ((enterAcquiring s).slot q).edges = (s.slot q).edges) ∧
    (∀ q, ((enterAcquiring s).slot q).cursor = (s.slot q).cursor) := by
  refine ⟨?_, ?_, ?_, ?_, ?_, ?_, ?_, ?_, ?_, ?_, ?_, ?_, ?_, ?_, ?_, ?_, ?_⟩ <;> try intro q
  all_goals first
    | (simp [enterAcquiring]; done)
    | (simp only [enterAcquiring]; (repeat' split) <;> simp)

@[simp] theorem enterHoldover_keeps (s : State) :
    (enterHoldover s).flow = s.flow ∧ (enterHoldover s).pool = s.pool ∧ (enterHoldover s).park = s.park ∧
    (enterHoldover s).log = s.log ∧ (enterHoldover s).nextEdge = s.nextEdge ∧ (enterHoldover s).chain = s.chain ∧
    (enterHoldover s).watches = s.watches ∧ (enterHoldover s).mgmt.msel = s.mgmt.msel ∧
    (enterHoldover s).glob = s.glob ∧ (enterHoldover s).pending = s.pending ∧
    (∀ q, ((enterHoldover s).slot q).cfg = (s.slot q).cfg) ∧
    (∀ q, ((enterHoldover s).slot q).port = (s.slot q).port) ∧
    (∀ q, ((enterHoldover s).slot q).ing = (s.slot q).ing) ∧ (∀ q, ((enterHoldover s).slot q).egr = (s.slot q).egr) ∧
    (∀ q, ((enterHoldover s).slot q).ctl = (s.slot q).ctl) ∧
    (∀ q, ((enterHoldover s).slot q).edges = (s.slot q).edges) ∧
    (∀ q, ((enterHoldover s).slot q).cursor = (s.slot q).cursor) := by
  refine ⟨?_, ?_, ?_, ?_, ?_, ?_, ?_, ?_, ?_, ?_, ?_, ?_, ?_, ?_, ?_, ?_, ?_⟩ <;> try intro q
  all_goals first
    | (simp [enterHoldover]; done)
    | (simp only [enterHoldover]; (repeat' split) <;> simp)

@[simp] theorem judgeSelection_keeps (s : State) :
    (judgeSelection s).flow = s.flow ∧ (judgeSelection s).pool = s.pool ∧ (judgeSelection s).park = s.park ∧
    (judgeSelection s).log = s.log ∧ (judgeSelection s).nextEdge = s.nextEdge ∧ (judgeSelection s).chain = s.chain ∧
    (judgeSelection s).watches = s.watches ∧ (judgeSelection s).mgmt.msel = s.mgmt.msel ∧
    (judgeSelection s).glob = s.glob ∧ (judgeSelection s).pending = s.pending ∧
    (∀ q, ((judgeSelection s).slot q).cfg = (s.slot q).cfg) ∧
    (∀ q, ((judgeSelection s).slot q).port = (s.slot q).port) ∧
    (∀ q, ((judgeSelection s).slot q).ing = (s.slot q).ing) ∧
    (∀ q, ((judgeSelection s).slot q).egr = (s.slot q).egr) ∧
    (∀ q, ((judgeSelection s).slot q).ctl = (s.slot q).ctl) ∧
    (∀ q, ((judgeSelection s).slot q).edges = (s.slot q).edges) ∧
    (∀ q, ((judgeSelection s).slot q).cursor = (s.slot q).cursor) := by
  refine ⟨?_, ?_, ?_, ?_, ?_, ?_, ?_, ?_, ?_, ?_, ?_, ?_, ?_, ?_, ?_, ?_, ?_⟩ <;> try intro q
  all_goals first
    | (simp [judgeSelection]; done)
    | (simp only [judgeSelection]; (repeat' split) <;> simp)

@[simp] theorem modRef_keeps (r : RefId) (f : Reference → Reference) (s : State) :
    (modRef r f s).flow = s.flow ∧ (modRef r f s).pool = s.pool ∧ (modRef r f s).park = s.park ∧
    (modRef r f s).log = s.log ∧ (modRef r f s).nextEdge = s.nextEdge ∧ (modRef r f s).chain = s.chain ∧
    (modRef r f s).watches = s.watches ∧ (modRef r f s).alarm = s.alarm ∧ (modRef r f s).mgmt = s.mgmt ∧
    (modRef r f s).glob = s.glob ∧ (modRef r f s).pending = s.pending ∧
    (∀ q, ((modRef r f s).slot q).cfg = (s.slot q).cfg) ∧ (∀ q, ((modRef r f s).slot q).port = (s.slot q).port) ∧
    (∀ q, ((modRef r f s).slot q).ing = (s.slot q).ing) ∧ (∀ q, ((modRef r f s).slot q).egr = (s.slot q).egr) ∧
    (∀ q, ((modRef r f s).slot q).ctl = (s.slot q).ctl) ∧ (∀ q, ((modRef r f s).slot q).edges = (s.slot q).edges) ∧
    (∀ q, ((modRef r f s).slot q).cursor = (s.slot q).cursor) := by
  refine ⟨?_, ?_, ?_, ?_, ?_, ?_, ?_, ?_, ?_, ?_, ?_, ?_, ?_, ?_, ?_, ?_, ?_, ?_⟩ <;> try intro q
  all_goals first
    | (simp [modRef]; done)
    | (simp only [modRef]; (repeat' split) <;> simp)

@[simp] theorem qualify_keeps (r : RefId) (s : State) :
    (qualify r s).flow = s.flow ∧ (qualify r s).pool = s.pool ∧ (qualify r s).park = s.park ∧
    (qualify r s).log = s.log ∧ (qualify r s).nextEdge = s.nextEdge ∧ (qualify r s).chain = s.chain ∧
    (qualify r s).watches = s.watches ∧ (qualify r s).mgmt.msel = s.mgmt.msel ∧ (qualify r s).glob = s.glob ∧
    (qualify r s).pending = s.pending ∧ (∀ q, ((qualify r s).slot q).cfg = (s.slot q).cfg) ∧
    (∀ q, ((qualify r s).slot q).port = (s.slot q).port) ∧ (∀ q, ((qualify r s).slot q).ing = (s.slot q).ing) ∧
    (∀ q, ((qualify r s).slot q).egr = (s.slot q).egr) ∧ (∀ q, ((qualify r s).slot q).ctl = (s.slot q).ctl) ∧
    (∀ q, ((qualify r s).slot q).edges = (s.slot q).edges) ∧ (∀ q, ((qualify r s).slot q).cursor = (s.slot q).cursor) := by
  refine ⟨?_, ?_, ?_, ?_, ?_, ?_, ?_, ?_, ?_, ?_, ?_, ?_, ?_, ?_, ?_, ?_, ?_⟩ <;> try intro q
  all_goals first
    | (simp [qualify]; done)
    | (simp only [qualify]; (repeat' split) <;> simp)

@[simp] theorem loseReference_keeps (r : RefId) (s : State) :
    (loseReference r s).flow = s.flow ∧ (loseReference r s).pool = s.pool ∧ (loseReference r s).park = s.park ∧
    (loseReference r s).log = s.log ∧ (loseReference r s).nextEdge = s.nextEdge ∧
    (loseReference r s).chain = s.chain ∧ (loseReference r s).watches = s.watches ∧
    (loseReference r s).mgmt.msel = s.mgmt.msel ∧ (loseReference r s).glob = s.glob ∧
    (loseReference r s).pending = s.pending ∧ (∀ q, ((loseReference r s).slot q).cfg = (s.slot q).cfg) ∧
    (∀ q, ((loseReference r s).slot q).port = (s.slot q).port) ∧
    (∀ q, ((loseReference r s).slot q).ing = (s.slot q).ing) ∧
    (∀ q, ((loseReference r s).slot q).egr = (s.slot q).egr) ∧
    (∀ q, ((loseReference r s).slot q).ctl = (s.slot q).ctl) ∧
    (∀ q, ((loseReference r s).slot q).edges = (s.slot q).edges) ∧
    (∀ q, ((loseReference r s).slot q).cursor = (s.slot q).cursor) := by
  refine ⟨?_, ?_, ?_, ?_, ?_, ?_, ?_, ?_, ?_, ?_, ?_, ?_, ?_, ?_, ?_, ?_, ?_⟩ <;> try intro q
  all_goals first
    | (simp [loseReference]; done)
    | (simp only [loseReference]; (repeat' split) <;> simp)

@[simp] theorem checkSeconds_keeps (r : RefId) (boundary : Nat) (s : State) :
    (checkSeconds r boundary s).flow = s.flow ∧ (checkSeconds r boundary s).pool = s.pool ∧
    (checkSeconds r boundary s).park = s.park ∧ (checkSeconds r boundary s).log = s.log ∧
    (checkSeconds r boundary s).chain = s.chain ∧ (checkSeconds r boundary s).watches = s.watches ∧
    (checkSeconds r boundary s).mgmt.msel = s.mgmt.msel ∧ (checkSeconds r boundary s).glob = s.glob ∧
    (checkSeconds r boundary s).pending = s.pending ∧
    (∀ q, ((checkSeconds r boundary s).slot q).cfg = (s.slot q).cfg) ∧
    (∀ q, ((checkSeconds r boundary s).slot q).port = (s.slot q).port) ∧
    (∀ q, ((checkSeconds r boundary s).slot q).ing = (s.slot q).ing) ∧
    (∀ q, ((checkSeconds r boundary s).slot q).egr = (s.slot q).egr) ∧
    (∀ q, ((checkSeconds r boundary s).slot q).cursor = (s.slot q).cursor) := by
  refine ⟨?_, ?_, ?_, ?_, ?_, ?_, ?_, ?_, ?_, ?_, ?_, ?_, ?_, ?_⟩ <;> try intro q
  all_goals first
    | (simp [checkSeconds]; done)
    | (simp only [checkSeconds]; (repeat' split) <;> simp)

@[simp] theorem stepTime_keeps (lag : Int) (s : State) :
    (stepTime lag s).flow = s.flow ∧ (stepTime lag s).pool = s.pool ∧ (stepTime lag s).park = s.park ∧
    (stepTime lag s).log = s.log ∧ (stepTime lag s).chain = s.chain ∧ (stepTime lag s).watches = s.watches ∧
    (stepTime lag s).mgmt.msel = s.mgmt.msel ∧ (stepTime lag s).glob = s.glob ∧
    (stepTime lag s).pending = s.pending ∧ (∀ q, ((stepTime lag s).slot q).cfg = (s.slot q).cfg) ∧
    (∀ q, ((stepTime lag s).slot q).port = (s.slot q).port) ∧ (∀ q, ((stepTime lag s).slot q).ing = (s.slot q).ing) ∧
    (∀ q, ((stepTime lag s).slot q).egr = (s.slot q).egr) ∧
    (∀ q, ((stepTime lag s).slot q).cursor = (s.slot q).cursor) := by
  refine ⟨?_, ?_, ?_, ?_, ?_, ?_, ?_, ?_, ?_, ?_, ?_, ?_, ?_, ?_⟩ <;> try intro q
  all_goals first
    | (simp [stepTime]; done)
    | (simp only [stepTime]; (repeat' split) <;> simp)

@[simp] theorem slew_keeps (lag : Int) (s : State) :
    (slew lag s).flow = s.flow ∧ (slew lag s).pool = s.pool ∧ (slew lag s).park = s.park ∧ (slew lag s).log = s.log ∧
    (slew lag s).nextEdge = s.nextEdge ∧ (slew lag s).chain = s.chain ∧ (slew lag s).watches = s.watches ∧
    (slew lag s).mgmt.msel = s.mgmt.msel ∧ (slew lag s).glob = s.glob ∧ (slew lag s).pending = s.pending ∧
    (∀ q, ((slew lag s).slot q).cfg = (s.slot q).cfg) ∧ (∀ q, ((slew lag s).slot q).port = (s.slot q).port) ∧
    (∀ q, ((slew lag s).slot q).ing = (s.slot q).ing) ∧ (∀ q, ((slew lag s).slot q).egr = (s.slot q).egr) ∧
    (∀ q, ((slew lag s).slot q).ctl = (s.slot q).ctl) ∧ (∀ q, ((slew lag s).slot q).edges = (s.slot q).edges) ∧
    (∀ q, ((slew lag s).slot q).cursor = (s.slot q).cursor) := by
  refine ⟨?_, ?_, ?_, ?_, ?_, ?_, ?_, ?_, ?_, ?_, ?_, ?_, ?_, ?_, ?_, ?_, ?_⟩ <;> try intro q
  all_goals first
    | (simp [slew]; done)
    | (simp only [slew]; (repeat' split) <;> simp)

@[simp] theorem lockAfterStep_keeps (lag : Int) (s : State) :
    (lockAfterStep lag s).flow = s.flow ∧ (lockAfterStep lag s).pool = s.pool ∧ (lockAfterStep lag s).park = s.park ∧
    (lockAfterStep lag s).log = s.log ∧ (lockAfterStep lag s).nextEdge = s.nextEdge ∧
    (lockAfterStep lag s).chain = s.chain ∧ (lockAfterStep lag s).watches = s.watches ∧
    (lockAfterStep lag s).mgmt.msel = s.mgmt.msel ∧ (lockAfterStep lag s).glob = s.glob ∧
    (lockAfterStep lag s).pending = s.pending ∧ (∀ q, ((lockAfterStep lag s).slot q).cfg = (s.slot q).cfg) ∧
    (∀ q, ((lockAfterStep lag s).slot q).port = (s.slot q).port) ∧
    (∀ q, ((lockAfterStep lag s).slot q).ing = (s.slot q).ing) ∧
    (∀ q, ((lockAfterStep lag s).slot q).egr = (s.slot q).egr) ∧
    (∀ q, ((lockAfterStep lag s).slot q).ctl = (s.slot q).ctl) ∧
    (∀ q, ((lockAfterStep lag s).slot q).edges = (s.slot q).edges) ∧
    (∀ q, ((lockAfterStep lag s).slot q).cursor = (s.slot q).cursor) := by
  refine ⟨?_, ?_, ?_, ?_, ?_, ?_, ?_, ?_, ?_, ?_, ?_, ?_, ?_, ?_, ?_, ?_, ?_⟩ <;> try intro q
  all_goals first
    | (simp [lockAfterStep]; done)
    | (simp only [lockAfterStep]; (repeat' split) <;> simp)

@[simp] theorem lockAfterSlew_keeps (lag : Int) (s : State) :
    (lockAfterSlew lag s).flow = s.flow ∧ (lockAfterSlew lag s).pool = s.pool ∧ (lockAfterSlew lag s).park = s.park ∧
    (lockAfterSlew lag s).log = s.log ∧ (lockAfterSlew lag s).nextEdge = s.nextEdge ∧
    (lockAfterSlew lag s).chain = s.chain ∧ (lockAfterSlew lag s).watches = s.watches ∧
    (lockAfterSlew lag s).mgmt.msel = s.mgmt.msel ∧ (lockAfterSlew lag s).glob = s.glob ∧
    (lockAfterSlew lag s).pending = s.pending ∧ (∀ q, ((lockAfterSlew lag s).slot q).cfg = (s.slot q).cfg) ∧
    (∀ q, ((lockAfterSlew lag s).slot q).port = (s.slot q).port) ∧
    (∀ q, ((lockAfterSlew lag s).slot q).ing = (s.slot q).ing) ∧
    (∀ q, ((lockAfterSlew lag s).slot q).egr = (s.slot q).egr) ∧
    (∀ q, ((lockAfterSlew lag s).slot q).ctl = (s.slot q).ctl) ∧
    (∀ q, ((lockAfterSlew lag s).slot q).edges = (s.slot q).edges) ∧
    (∀ q, ((lockAfterSlew lag s).slot q).cursor = (s.slot q).cursor) := by
  refine ⟨?_, ?_, ?_, ?_, ?_, ?_, ?_, ?_, ?_, ?_, ?_, ?_, ?_, ?_, ?_, ?_, ?_⟩ <;> try intro q
  all_goals first
    | (simp [lockAfterSlew]; done)
    | (simp only [lockAfterSlew]; (repeat' split) <;> simp)

@[simp] theorem processPulse_keeps (r : RefId) (c : CabTime) (s : State) :
    (processPulse r c s).flow = s.flow ∧ (processPulse r c s).pool = s.pool ∧ (processPulse r c s).park = s.park ∧
    (processPulse r c s).log = s.log ∧ (processPulse r c s).chain = s.chain ∧
    (processPulse r c s).watches = s.watches ∧ (processPulse r c s).mgmt.msel = s.mgmt.msel ∧
    (processPulse r c s).glob = s.glob ∧ (processPulse r c s).pending = s.pending ∧
    (∀ q, ((processPulse r c s).slot q).cfg = (s.slot q).cfg) ∧
    (∀ q, ((processPulse r c s).slot q).port = (s.slot q).port) ∧
    (∀ q, ((processPulse r c s).slot q).ing = (s.slot q).ing) ∧
    (∀ q, ((processPulse r c s).slot q).egr = (s.slot q).egr) ∧
    (∀ q, ((processPulse r c s).slot q).cursor = (s.slot q).cursor) := by
  refine ⟨?_, ?_, ?_, ?_, ?_, ?_, ?_, ?_, ?_, ?_, ?_, ?_, ?_, ?_⟩ <;> try intro q
  all_goals first
    | (simp [processPulse]; done)
    | (simp only [processPulse]; (repeat' split) <;> simp)

@[simp] theorem acceptPulse_keeps (r : RefId) (c : CabTime) (run : Nat) (s : State) :
    (acceptPulse r c run s).flow = s.flow ∧ (acceptPulse r c run s).pool = s.pool ∧
    (acceptPulse r c run s).park = s.park ∧ (acceptPulse r c run s).log = s.log ∧
    (acceptPulse r c run s).chain = s.chain ∧ (acceptPulse r c run s).watches = s.watches ∧
    (acceptPulse r c run s).mgmt.msel = s.mgmt.msel ∧ (acceptPulse r c run s).glob = s.glob ∧
    (acceptPulse r c run s).pending = s.pending ∧ (∀ q, ((acceptPulse r c run s).slot q).cfg = (s.slot q).cfg) ∧
    (∀ q, ((acceptPulse r c run s).slot q).port = (s.slot q).port) ∧
    (∀ q, ((acceptPulse r c run s).slot q).ing = (s.slot q).ing) ∧
    (∀ q, ((acceptPulse r c run s).slot q).egr = (s.slot q).egr) ∧
    (∀ q, ((acceptPulse r c run s).slot q).cursor = (s.slot q).cursor) := by
  refine ⟨?_, ?_, ?_, ?_, ?_, ?_, ?_, ?_, ?_, ?_, ?_, ?_, ?_, ?_⟩ <;> try intro q
  all_goals first
    | (simp [acceptPulse]; done)
    | (simp only [acceptPulse]; (repeat' split) <;> simp)

@[simp] theorem judgePulse_keeps (r : RefId) (s : State) :
    (judgePulse r s).flow = s.flow ∧ (judgePulse r s).pool = s.pool ∧ (judgePulse r s).park = s.park ∧
    (judgePulse r s).log = s.log ∧ (judgePulse r s).chain = s.chain ∧ (judgePulse r s).watches = s.watches ∧
    (judgePulse r s).mgmt.msel = s.mgmt.msel ∧ (judgePulse r s).glob = s.glob ∧
    (judgePulse r s).pending = s.pending ∧ (∀ q, ((judgePulse r s).slot q).cfg = (s.slot q).cfg) ∧
    (∀ q, ((judgePulse r s).slot q).port = (s.slot q).port) ∧ (∀ q, ((judgePulse r s).slot q).ing = (s.slot q).ing) ∧
    (∀ q, ((judgePulse r s).slot q).egr = (s.slot q).egr) ∧
    (∀ q, ((judgePulse r s).slot q).cursor = (s.slot q).cursor) := by
  refine ⟨?_, ?_, ?_, ?_, ?_, ?_, ?_, ?_, ?_, ?_, ?_, ?_, ?_, ?_⟩ <;> try intro q
  all_goals first
    | (simp [judgePulse]; done)
    | (simp only [judgePulse]; (repeat' split) <;> simp)

@[simp] theorem stageTimeOfDay_keeps (i : Slot) (ws : List Word) (s : State) :
    (stageTimeOfDay i ws s).flow = s.flow ∧ (stageTimeOfDay i ws s).pool = s.pool ∧
    (stageTimeOfDay i ws s).park = s.park ∧ (stageTimeOfDay i ws s).log = s.log ∧
    (stageTimeOfDay i ws s).nextEdge = s.nextEdge ∧ (stageTimeOfDay i ws s).chain = s.chain ∧
    (stageTimeOfDay i ws s).watches = s.watches ∧ (stageTimeOfDay i ws s).alarm = s.alarm ∧
    (stageTimeOfDay i ws s).mgmt = s.mgmt ∧ (stageTimeOfDay i ws s).glob = s.glob ∧
    (stageTimeOfDay i ws s).pending = s.pending ∧ (∀ q, ((stageTimeOfDay i ws s).slot q).cfg = (s.slot q).cfg) ∧
    (∀ q, ((stageTimeOfDay i ws s).slot q).port = (s.slot q).port) ∧
    (∀ q, ((stageTimeOfDay i ws s).slot q).ing = (s.slot q).ing) ∧
    (∀ q, ((stageTimeOfDay i ws s).slot q).egr = (s.slot q).egr) ∧
    (∀ q, ((stageTimeOfDay i ws s).slot q).ctl = (s.slot q).ctl) ∧
    (∀ q, ((stageTimeOfDay i ws s).slot q).edges = (s.slot q).edges) ∧
    (∀ q, ((stageTimeOfDay i ws s).slot q).cursor = (s.slot q).cursor) := by
  refine ⟨?_, ?_, ?_, ?_, ?_, ?_, ?_, ?_, ?_, ?_, ?_, ?_, ?_, ?_, ?_, ?_, ?_, ?_⟩ <;> try intro q
  all_goals first
    | (simp [stageTimeOfDay]; done)
    | (simp only [stageTimeOfDay]; (repeat' split) <;> simp)

@[simp] theorem writeLoop_keeps (c : LoopSettings) (s : State) :
    (writeLoop c s).flow = s.flow ∧ (writeLoop c s).pool = s.pool ∧ (writeLoop c s).park = s.park ∧
    (writeLoop c s).log = s.log ∧ (writeLoop c s).nextEdge = s.nextEdge ∧ (writeLoop c s).chain = s.chain ∧
    (writeLoop c s).watches = s.watches ∧ (writeLoop c s).mgmt.msel = s.mgmt.msel ∧ (writeLoop c s).glob = s.glob ∧
    (writeLoop c s).pending = s.pending ∧ (∀ q, ((writeLoop c s).slot q).cfg = (s.slot q).cfg) ∧
    (∀ q, ((writeLoop c s).slot q).port = (s.slot q).port) ∧ (∀ q, ((writeLoop c s).slot q).ing = (s.slot q).ing) ∧
    (∀ q, ((writeLoop c s).slot q).egr = (s.slot q).egr) ∧ (∀ q, ((writeLoop c s).slot q).ctl = (s.slot q).ctl) ∧
    (∀ q, ((writeLoop c s).slot q).edges = (s.slot q).edges) ∧
    (∀ q, ((writeLoop c s).slot q).cursor = (s.slot q).cursor) := by
  refine ⟨?_, ?_, ?_, ?_, ?_, ?_, ?_, ?_, ?_, ?_, ?_, ?_, ?_, ?_, ?_, ?_, ?_⟩ <;> try intro q
  all_goals first
    | (simp [writeLoop]; done)
    | (simp only [writeLoop]; (repeat' split) <;> simp)

@[simp] theorem writeRef_keeps (r : RefId) (c : RefSettings) (s : State) :
    (writeRef r c s).flow = s.flow ∧ (writeRef r c s).pool = s.pool ∧ (writeRef r c s).park = s.park ∧
    (writeRef r c s).log = s.log ∧ (writeRef r c s).nextEdge = s.nextEdge ∧ (writeRef r c s).chain = s.chain ∧
    (writeRef r c s).watches = s.watches ∧ (writeRef r c s).mgmt.msel = s.mgmt.msel ∧
    (writeRef r c s).glob = s.glob ∧ (writeRef r c s).pending = s.pending ∧
    (∀ q, ((writeRef r c s).slot q).cfg = (s.slot q).cfg) ∧ (∀ q, ((writeRef r c s).slot q).port = (s.slot q).port) ∧
    (∀ q, ((writeRef r c s).slot q).ing = (s.slot q).ing) ∧ (∀ q, ((writeRef r c s).slot q).egr = (s.slot q).egr) ∧
    (∀ q, ((writeRef r c s).slot q).ctl = (s.slot q).ctl) ∧
    (∀ q, ((writeRef r c s).slot q).edges = (s.slot q).edges) ∧
    (∀ q, ((writeRef r c s).slot q).cursor = (s.slot q).cursor) := by
  refine ⟨?_, ?_, ?_, ?_, ?_, ?_, ?_, ?_, ?_, ?_, ?_, ?_, ?_, ?_, ?_, ?_, ?_⟩ <;> try intro q
  all_goals first
    | (simp [writeRef]; done)
    | (simp only [writeRef]; (repeat' split) <;> simp)

@[simp] theorem setTimeTo_keeps (sec ns : Nat) (s : State) :
    (setTimeTo sec ns s).flow = s.flow ∧ (setTimeTo sec ns s).pool = s.pool ∧ (setTimeTo sec ns s).park = s.park ∧
    (setTimeTo sec ns s).log = s.log ∧ (setTimeTo sec ns s).chain = s.chain ∧
    (setTimeTo sec ns s).watches = s.watches ∧ (setTimeTo sec ns s).alarm = s.alarm ∧
    (setTimeTo sec ns s).mgmt = s.mgmt ∧ (setTimeTo sec ns s).glob = s.glob ∧
    (setTimeTo sec ns s).pending = s.pending ∧ (∀ q, ((setTimeTo sec ns s).slot q).cfg = (s.slot q).cfg) ∧
    (∀ q, ((setTimeTo sec ns s).slot q).port = (s.slot q).port) ∧
    (∀ q, ((setTimeTo sec ns s).slot q).ing = (s.slot q).ing) ∧
    (∀ q, ((setTimeTo sec ns s).slot q).egr = (s.slot q).egr) ∧
    (∀ q, ((setTimeTo sec ns s).slot q).cursor = (s.slot q).cursor) := by
  refine ⟨?_, ?_, ?_, ?_, ?_, ?_, ?_, ?_, ?_, ?_, ?_, ?_, ?_, ?_, ?_⟩ <;> try intro q
  all_goals first
    | (simp [setTimeTo]; done)
    | (simp only [setTimeTo]; (repeat' split) <;> simp)

@[simp] theorem timingRestart_keeps (s : State) :
    (timingRestart s).flow = s.flow ∧ (timingRestart s).pool = s.pool ∧ (timingRestart s).park = s.park ∧
    (timingRestart s).log = s.log ∧ (timingRestart s).chain = s.chain ∧ (timingRestart s).watches = s.watches ∧
    (timingRestart s).mgmt.msel = s.mgmt.msel ∧ (timingRestart s).glob = s.glob ∧
    (timingRestart s).pending = s.pending ∧ (∀ q, ((timingRestart s).slot q).cfg = (s.slot q).cfg) ∧
    (∀ q, ((timingRestart s).slot q).port = (s.slot q).port) ∧
    (∀ q, ((timingRestart s).slot q).ing = (s.slot q).ing) ∧ (∀ q, ((timingRestart s).slot q).egr = (s.slot q).egr) ∧
    (∀ q, ((timingRestart s).slot q).ctl = (s.slot q).ctl) ∧
    (∀ q, ((timingRestart s).slot q).cursor = (s.slot q).cursor) := by
  refine ⟨?_, ?_, ?_, ?_, ?_, ?_, ?_, ?_, ?_, ?_, ?_, ?_, ?_, ?_, ?_⟩ <;> try intro q
  all_goals first
    | (simp [timingRestart]; done)
    | (simp only [timingRestart]; (repeat' split) <;> simp)

end Sys2Proof.Machine
end

