-- ==== Sys2Proof/Laws/Tables.lean ====
section
/-! SUPPORT. Sparse tables and parking memory: what a read gives after a write, and that every operation on parking memory
keeps its canonical form. -/

namespace Sys2Proof.Machine

/-! ## Reads after writes -/

theorem assocGet_put_self {α : Type} (t : Assoc α) (k : Nat) (v : α) : assocGet (assocPut t k v) k = some v := by
  induction t with
  | nil => simp [assocPut, assocGet]
  | cons p r ih =>
    simp only [assocPut]
    split
    · simp [assocGet]
    · split
      · simp [assocGet]
      · next h => simp [assocGet, Ne.symm h, ih]

theorem assocGet_put_ne {α : Type} (t : Assoc α) {k j : Nat} (v : α) (h : j ≠ k) :
    assocGet (assocPut t k v) j = assocGet t j := by
  induction t with
  | nil => simp [assocPut, assocGet, Ne.symm h]
  | cons p r ih =>
    simp only [assocPut]
    split
    · simp [assocGet, Ne.symm h]
    · split
      · next e => subst e; simp [assocGet, Ne.symm h]
      · simp only [assocGet, ih]

/-- What a table holds after a value is listed. -/
theorem assocGet_put {α : Type} (t : Assoc α) (k j : Nat) (v : α) :
    assocGet (assocPut t k v) j = if j = k then some v else assocGet t j := by
  split
  · next h => rw [h, assocGet_put_self]
  · next h => exact assocGet_put_ne t v h

/-- What a table holds after a key is taken out. -/
theorem assocGet_del {α : Type} (t : Assoc α) (k j : Nat) :
    assocGet (assocDel t k) j = if j = k then none else assocGet t j := by
  unfold assocDel
  induction t with
  | nil => simp [assocGet]
  | cons p r ih =>
    obtain ⟨a, v⟩ := p
    rw [List.filter_cons]
    by_cases ha : a = k
    · subst ha
      simp only [bne_self_eq_false, Bool.false_eq_true, if_false, ih, assocGet]
      by_cases hj : j = a
      · simp [hj]
      · simp [hj, Ne.symm hj]
    · have hb : (a != k) = true := by simpa using ha
      simp only [hb, if_true, assocGet, ih]
      by_cases hj : a = j
      · subst hj; simp [ha]
      · simp [hj]

/-- A word of parking memory after one word is written (R58). -/
theorem parkRead_write (m : Assoc Word) (a b : Nat) (v : Word) :
    parkRead (parkWrite m a v) b = if parkIndex b = parkIndex a then v else parkRead m b := by
  unfold parkRead parkWrite
  split
  · next h => rw [assocGet_del]; split <;> simp [h]
  · rw [assocGet_put]; split <;> simp

/-! ## The canonical form -/

/-- Every key of a table is above a bound. -/
def keysAbove {α : Type} (b : Nat) (t : Assoc α) : Prop := ∀ p ∈ t, b < p.1

theorem assocWf_cons {α : Type} (p : Nat × α) (t : Assoc α) :
    assocWf (p :: t) = true ↔ keysAbove p.1 t ∧ assocWf t = true := by
  induction t generalizing p with
  | nil => simp [assocWf, keysAbove]
  | cons q r ih =>
    obtain ⟨a, v⟩ := p
    obtain ⟨b, w⟩ := q
    simp only [assocWf, Bool.and_eq_true, decide_eq_true_eq]
    constructor
    · rintro ⟨h, hw⟩
      refine ⟨?_, hw⟩
      intro x hx
      rcases List.mem_cons.mp hx with rfl | hx
      · exact h
      · exact Nat.lt_trans h (((ih (b, w)).mp hw).1 x hx)
    · rintro ⟨h, hw⟩
      exact ⟨h (b, w) (by simp), hw⟩

theorem assocPut_keysAbove {α : Type} {b k : Nat} {t : Assoc α} {v : α} (h : keysAbove b t) (hk : b < k) :
    keysAbove b (assocPut t k v) := by
  induction t with
  | nil => intro p hp; simp [assocPut] at hp; subst hp; exact hk
  | cons q r ih =>
    simp only [assocPut]
    have hr : keysAbove b r := fun p hp => h p (List.mem_cons_of_mem _ hp)
    split
    · intro p hp
      rcases List.mem_cons.mp hp with rfl | hp
      · exact hk
      · exact h p hp
    · split
      · intro p hp
        rcases List.mem_cons.mp hp with rfl | hp
        · exact hk
        · exact hr p hp
      · intro p hp
        rcases List.mem_cons.mp hp with rfl | hp
        · exact h _ (by simp)
        · exact ih hr p hp

theorem assocPut_wf {α : Type} (t : Assoc α) (k : Nat) (v : α) (h : assocWf t = true) :
    assocWf (assocPut t k v) = true := by
  induction t with
  | nil => rfl
  | cons q r ih =>
    obtain ⟨ha, hr⟩ := (assocWf_cons q r).mp h
    simp only [assocPut]
    split
    · next hk =>
      refine (assocWf_cons _ _).mpr ⟨?_, h⟩
      intro p hp
      rcases List.mem_cons.mp hp with rfl | hp
      · exact hk
      · exact Nat.lt_trans hk (ha p hp)
    · split
      · next hk => subst hk; exact (assocWf_cons _ _).mpr ⟨ha, hr⟩
      · next h1 h2 => exact (assocWf_cons _ _).mpr ⟨assocPut_keysAbove ha (by simp; omega), ih hr⟩

theorem assocDel_wf {α : Type} (t : Assoc α) (k : Nat) (h : assocWf t = true) : assocWf (assocDel t k) = true := by
  induction t with
  | nil => rfl
  | cons q r ih =>
    obtain ⟨ha, hr⟩ := (assocWf_cons q r).mp h
    have hd := ih hr
    unfold assocDel at *
    rw [List.filter_cons]
    split
    · exact (assocWf_cons _ _).mpr ⟨fun p hp => ha p (List.mem_filter.mp hp).1, hd⟩
    · exact hd

theorem assocPut_mem {α : Type} {t : Assoc α} {k : Nat} {v : α} {p : Nat × α} (h : p ∈ assocPut t k v) :
    p = (k, v) ∨ p ∈ t := by
  induction t with
  | nil => left; simpa [assocPut] using h
  | cons q r ih =>
    simp only [assocPut] at h
    split at h
    · rcases List.mem_cons.mp h with rfl | h
      · exact .inl rfl
      · exact .inr h
    · split at h
      · rcases List.mem_cons.mp h with rfl | h
        · exact .inl rfl
        · exact .inr (List.mem_cons_of_mem _ h)
      · rcases List.mem_cons.mp h with rfl | h
        · exact .inr (by simp)
        · rcases ih h with e | e
          · exact .inl e
          · exact .inr (List.mem_cons_of_mem _ e)

/-- One write keeps the canonical form of parking memory. -/
theorem parkWrite_wf (m : Assoc Word) (a : Nat) (v : Word) (h : parkWf m = true) : parkWf (parkWrite m a v) = true := by
  simp only [parkWf, Bool.and_eq_true, List.all_eq_true] at h ⊢
  unfold parkWrite
  split
  · exact ⟨assocDel_wf m _ h.1, fun p hp => h.2 p (List.mem_filter.mp hp).1⟩
  · next hv =>
    refine ⟨assocPut_wf m _ v h.1, fun p hp => ?_⟩
    rcases assocPut_mem hp with rfl | hp
    · have hb : (v != 0) = true := by simpa using hv
      have hi : parkIndex a < Config.parkWords := Nat.mod_lt a (by decide)
      simp only [hb, hi, decide_true, and_self]
    · exact h.2 p hp

/-- Writing a run of words keeps the canonical form. -/
theorem parkWriteSeq_wf (ws : List Word) (m : Assoc Word) (a : Nat) (h : parkWf m = true) :
    parkWf (parkWriteSeq m a ws) = true := by
  induction ws generalizing m a with
  | nil => exact h
  | cons w r ih => exact ih _ _ (parkWrite_wf m a w h)

/-- Writing words round a ring keeps the canonical form. -/
theorem parkWriteRing_wf (ws : List Word) (m : Assoc Word) (base size k : Nat) (h : parkWf m = true) :
    parkWf (parkWriteRing m base size k ws) = true := by
  induction ws generalizing m k with
  | nil => exact h
  | cons w r ih => exact ih _ _ (parkWrite_wf m _ w h)

/-- Parking memory after POWER-ON has the canonical form. -/
theorem reset_parkWf : parkWf State.reset.park.mem = true := by decide

/-- A read of `n` words gives `n` words. -/
@[simp] theorem parkReadN_length (m : Assoc Word) (a n : Nat) : (parkReadN m a n).length = n := by
  induction n generalizing a with
  | zero => rfl
  | succ n ih => simp [parkReadN, ih]

end Sys2Proof.Machine
end

