-- ==== Sys2Proof/Laws/Alarms.lean ====
section
/-! SUPPORT. What reports to the alarm unit do: to the raised set, to the inputs, and to the reply queue. -/

namespace Sys2Proof.Machine

/-! ## The reply queue grows at its tail, and nothing else of the management unit changes -/

/-- One state's management unit is another's with parcels added at the tail of the reply queue. -/
def RepliesGrow (s t : State) : Prop := ∃ l, t.mgmt = { s.mgmt with replies := s.mgmt.replies ++ l }

theorem RepliesGrow.refl (s : State) : RepliesGrow s s := ⟨[], by simp⟩

theorem RepliesGrow.of_eq {s t : State} (h : t.mgmt = s.mgmt) : RepliesGrow s t := ⟨[], by simp [h]⟩

theorem RepliesGrow.trans {s t u : State} (h : RepliesGrow s t) (g : RepliesGrow t u) : RepliesGrow s u := by
  obtain ⟨l, h⟩ := h
  obtain ⟨m, g⟩ := g
  exact ⟨l ++ m, by rw [g, h]; simp⟩

theorem modAlarm_grow (s : State) (f : Alarm → Alarm) : RepliesGrow s (s.modAlarm f) := .of_eq (by simp)

theorem judgeRelays_grow (s : State) : RepliesGrow s (judgeRelays s) := .of_eq (by simp)

theorem trackPosted_grow (c : Fin 64) (n : Nat) (s : State) : RepliesGrow s (trackPosted c n s) := .of_eq (by simp)

theorem offerAlarmParcel_grow (e : AlarmEntry) (s : State) : RepliesGrow s (offerAlarmParcel e s) := by
  unfold offerAlarmParcel
  split
  · exact ⟨[alarmParcel s.alarm.count e], by simp⟩
  · exact .refl s

theorem writeEntry_grow (e : AlarmEntry) (s : State) : RepliesGrow s (writeEntry e s) :=
  (modAlarm_grow s _).trans (offerAlarmParcel_grow e _)

theorem judgeWrap_grow (s : State) : RepliesGrow s (judgeWrap s) := by
  unfold judgeWrap
  split
  · exact (writeEntry_grow _ s).trans (trackPosted_grow _ _ _)
  · exact .refl s

theorem postEntry_grow (c : Fin 64) (inst : Nat) (act : AlarmAction) (repeats : Nat) (param : Word) (s : State) :
    RepliesGrow s (postEntry c inst act repeats param s) :=
  (writeEntry_grow _ s).trans (judgeWrap_grow _)

theorem raiseCond_grow (c : Fin 64) (inst : Nat) (param : Word) (s : State) :
    RepliesGrow s (raiseCond c inst param s) := by
  unfold raiseCond
  split
  · exact .refl s
  · dsimp only
    split
    · exact (modAlarm_grow s _).trans ((postEntry_grow _ _ _ _ _ _).trans (judgeRelays_grow _))
    · exact (modAlarm_grow s _).trans (judgeRelays_grow _)

theorem clearCond_grow (c : Fin 64) (inst : Nat) (param : Word) (s : State) :
    RepliesGrow s (clearCond c inst param s) := by
  unfold clearCond
  split
  · dsimp only
    split
    · exact (modAlarm_grow s _).trans ((postEntry_grow _ _ _ _ _ _).trans (judgeRelays_grow _))
    · exact (modAlarm_grow s _).trans (judgeRelays_grow _)
  · exact .refl s

theorem postEvent_grow (c : Fin 64) (inst : Nat) (param : Word) (s : State) :
    RepliesGrow s (postEvent c inst param s) := by
  unfold postEvent
  split
  · split
    · exact .of_eq (by simp)
    · exact (trackPosted_grow _ _ s).trans (postEntry_grow _ _ _ _ _ _)
  · exact .refl s

/-! ## The raised set and the inputs -/

@[simp] theorem judgeRelays_raised (s : State) : (judgeRelays s).alarm.raised = s.alarm.raised := by simp [judgeRelays]
@[simp] theorem judgeRelays_inputs (s : State) : (judgeRelays s).alarm.inputs = s.alarm.inputs := by simp [judgeRelays]
@[simp] theorem writeEntry_raised (e : AlarmEntry) (s : State) : (writeEntry e s).alarm.raised = s.alarm.raised := by
  simp [writeEntry]
@[simp] theorem writeEntry_inputs (e : AlarmEntry) (s : State) : (writeEntry e s).alarm.inputs = s.alarm.inputs := by
  simp [writeEntry]
@[simp] theorem trackPosted_raised (c : Fin 64) (n : Nat) (s : State) :
    (trackPosted c n s).alarm.raised = s.alarm.raised := by simp [trackPosted]
@[simp] theorem trackPosted_inputs (c : Fin 64) (n : Nat) (s : State) :
    (trackPosted c n s).alarm.inputs = s.alarm.inputs := by simp [trackPosted]
@[simp] theorem judgeWrap_raised (s : State) : (judgeWrap s).alarm.raised = s.alarm.raised := by
  unfold judgeWrap; split <;> simp
@[simp] theorem judgeWrap_inputs (s : State) : (judgeWrap s).alarm.inputs = s.alarm.inputs := by
  unfold judgeWrap; split <;> simp
@[simp] theorem postEntry_raised (c : Fin 64) (n : Nat) (a : AlarmAction) (r : Nat) (p : Word) (s : State) :
    (postEntry c n a r p s).alarm.raised = s.alarm.raised := by simp [postEntry]
@[simp] theorem postEntry_inputs (c : Fin 64) (n : Nat) (a : AlarmAction) (r : Nat) (p : Word) (s : State) :
    (postEntry c n a r p s).alarm.inputs = s.alarm.inputs := by simp [postEntry]
@[simp] theorem postEvent_raised (c : Fin 64) (n : Nat) (p : Word) (s : State) :
    (postEvent c n p s).alarm.raised = s.alarm.raised := by
  unfold postEvent suppressEvent; (repeat' split) <;> simp
@[simp] theorem postEvent_inputs (c : Fin 64) (n : Nat) (p : Word) (s : State) :
    (postEvent c n p s).alarm.inputs = s.alarm.inputs := by
  unfold postEvent suppressEvent; (repeat' split) <;> simp

/-- The raised set after a raise (R157). -/
theorem raiseCond_raised (c : Fin 64) (n : Nat) (p : Word) (s : State) :
    (raiseCond c n p s).alarm.raised =
      if s.isRaised c n then s.alarm.raised else assocPut s.alarm.raised (pairKey c n) p := by
  unfold raiseCond
  split
  · rfl
  · dsimp only; split <;> simp

/-- The raised set after a clear (R157). -/
theorem clearCond_raised (c : Fin 64) (n : Nat) (p : Word) (s : State) :
    (clearCond c n p s).alarm.raised =
      if s.isRaised c n then assocDel s.alarm.raised (pairKey c n) else s.alarm.raised := by
  unfold clearCond
  split
  · dsimp only; split <;> simp
  · rfl

@[simp] theorem raiseCond_inputs (c : Fin 64) (n : Nat) (p : Word) (s : State) :
    (raiseCond c n p s).alarm.inputs = s.alarm.inputs := by
  unfold raiseCond; dsimp only; (repeat' split) <;> simp
@[simp] theorem clearCond_inputs (c : Fin 64) (n : Nat) (p : Word) (s : State) :
    (clearCond c n p s).alarm.inputs = s.alarm.inputs := by
  unfold clearCond; dsimp only; (repeat' split) <;> simp

/-- Which pairs are raised after a raise: the pair itself, and what was raised before. -/
theorem isRaised_raiseCond (c d : Fin 64) (n m : Nat) (p : Word) (s : State) :
    (raiseCond c n p s).isRaised d m = (decide (pairKey d m = pairKey c n) || s.isRaised d m) := by
  unfold State.isRaised
  rw [raiseCond_raised]
  split
  · next h =>
    by_cases e : pairKey d m = pairKey c n
    · unfold State.isRaised at h; rw [e]; simp [h]
    · simp [e]
  · rw [assocGet_put]; split <;> simp_all

/-- Which pairs are raised after a clear: what was raised before, but for the pair. -/
theorem isRaised_clearCond (c d : Fin 64) (n m : Nat) (p : Word) (s : State) :
    (clearCond c n p s).isRaised d m = (decide (pairKey d m ≠ pairKey c n) && s.isRaised d m) := by
  unfold State.isRaised
  rw [clearCond_raised]
  split
  · rw [assocGet_del]; split <;> simp_all
  · next h =>
    by_cases e : pairKey d m = pairKey c n
    · unfold State.isRaised at h; rw [e]; simpa using h
    · simp [e]

/-- An event leaves the raised set alone. -/
@[simp] theorem isRaised_postEvent (c d : Fin 64) (n m : Nat) (p : Word) (s : State) :
    (postEvent c n p s).isRaised d m = s.isRaised d m := by simp [State.isRaised]

end Sys2Proof.Machine
end

