-- ==== Sys2Proof/Laws/Choices.lean ====
section
/-! SUPPORT. Occasions for a choice: what handing back leaves alone, and when a choice is open (R49, R50). -/

namespace Sys2Proof.Machine

@[simp] theorem Egress.occasion_stream (e : Egress) : e.occasion.stream = e.stream := rfl
@[simp] theorem Egress.occasion_control (e : Egress) : e.occasion.control = e.control := rfl
@[simp] theorem Egress.occasion_bulk (e : Egress) : e.occasion.bulk = e.bulk := rfl
@[simp] theorem Egress.occasion_express (e : Egress) : e.occasion.express = e.express := rfl
@[simp] theorem Egress.occasion_bulkTurn (e : Egress) : e.occasion.bulkTurn = e.bulkTurn := rfl
@[simp] theorem Egress.occasion_dwell (e : Egress) : e.occasion.dwell = e.dwell := rfl

@[simp] theorem Egress.occasion_queue (e : Egress) (c : Cls) : e.occasion.queue c = e.queue c := by cases c <;> rfl

/-- Handing back leaves a transmit side alone that has nothing handed over, and one with a parcel in transmission. -/
theorem Egress.occasion_of_idle {e : Egress} (h : e.tx = .idle ∨ e.tx.free = false) : e.occasion = e := by
  unfold Egress.occasion
  rcases h with h | h <;> cases e <;> simp_all [Tx.free]

/-- With nothing handed over a choice is open. -/
theorem choiceOpen_of_idle {s : State} {i : Slot} (h : (s.slot i).egr.tx = .idle) : s.choiceOpen i = true := by
  simp [State.choiceOpen, h]

/-- A choice is open only on a free transmit side (R49). -/
theorem free_of_choiceOpen {s : State} {i : Slot} (h : s.choiceOpen i = true) : (s.slot i).egr.tx.free = true := by
  unfold State.choiceOpen at h
  split at h <;> simp_all [Tx.free]

end Sys2Proof.Machine
end

