-- ==== Sys2Proof/Laws/KeepsForward.lean ====
section
/-! SUPPORT. What each shared operation leaves as it was: forwarding, the slot controller and the receive side. -/

namespace Sys2Proof.Machine

@[simp] theorem offerRequest_keeps (r : Request) (s : State) :
    (offerRequest r s).flow = s.flow ∧ (offerRequest r s).pool = s.pool ∧ (offerRequest r s).park = s.park ∧
    (offerRequest r s).log = s.log ∧ (offerRequest r s).timing = s.timing ∧
    (offerRequest r s).nextEdge = s.nextEdge ∧ (offerRequest r s).chain = s.chain ∧
    (offerRequest r s).watches = s.watches ∧ (offerRequest r s).alarm = s.alarm ∧
    (offerRequest r s).mgmt.msel = s.mgmt.msel ∧ (offerRequest r s).glob = s.glob ∧
    (offerRequest r s).pending = s.pending ∧ (∀ q, ((offerRequest r s).slot q).cfg = (s.slot q).cfg) ∧
    (∀ q, ((offerRequest r s).slot q).ing = (s.slot q).ing) ∧
    (∀ q, ((offerRequest r s).slot q).egr = (s.slot q).egr) ∧
    (∀ q, ((offerRequest r s).slot q).edges = (s.slot q).edges) ∧
    (∀ q, ((offerRequest r s).slot q).cursor = (s.slot q).cursor) := by
  refine ⟨?_, ?_, ?_, ?_, ?_, ?_, ?_, ?_, ?_, ?_, ?_, ?_, ?_, ?_, ?_, ?_, ?_⟩ <;> try intro q
  all_goals first
    | (simp [offerRequest]; done)
    | (simp only [offerRequest]; (repeat' split) <;> simp)

@[simp] theorem offerOne_keeps (pid : Nat) (c : Cls) (owner : Slot) (b : Nat) (d : Slot) (o : Offered) (s : State) :
    (offerOne pid c owner b d o s).2.flow = s.flow ∧ (offerOne pid c owner b d o s).2.park = s.park ∧
    (offerOne pid c owner b d o s).2.log = s.log ∧ (offerOne pid c owner b d o s).2.timing = s.timing ∧
    (offerOne pid c owner b d o s).2.nextEdge = s.nextEdge ∧ (offerOne pid c owner b d o s).2.chain = s.chain ∧
    (offerOne pid c owner b d o s).2.watches = s.watches ∧ (offerOne pid c owner b d o s).2.mgmt.msel = s.mgmt.msel ∧
    (offerOne pid c owner b d o s).2.glob = s.glob ∧ (offerOne pid c owner b d o s).2.pending = s.pending ∧
    (∀ q, ((offerOne pid c owner b d o s).2.slot q).cfg = (s.slot q).cfg) ∧
    (∀ q, ((offerOne pid c owner b d o s).2.slot q).edges = (s.slot q).edges) ∧
    (∀ q, ((offerOne pid c owner b d o s).2.slot q).cursor = (s.slot q).cursor) := by
  refine ⟨?_, ?_, ?_, ?_, ?_, ?_, ?_, ?_, ?_, ?_, ?_, ?_, ?_⟩ <;> try intro q
  all_goals first
    | (simp [offerOne]; done)
    | (simp only [offerOne]; (repeat' split) <;> simp)

@[simp] theorem offerEach_keeps (pid : Nat) (c : Cls) (owner : Slot) (b : Nat) (l : List Slot) (o : Offered) (s : State) :
    (offerEach pid c owner b l o s).2.flow = s.flow ∧ (offerEach pid c owner b l o s).2.park = s.park ∧
    (offerEach pid c owner b l o s).2.log = s.log ∧ (offerEach pid c owner b l o s).2.timing = s.timing ∧
    (offerEach pid c owner b l o s).2.nextEdge = s.nextEdge ∧ (offerEach pid c owner b l o s).2.chain = s.chain ∧
    (offerEach pid c owner b l o s).2.watches = s.watches ∧
    (offerEach pid c owner b l o s).2.mgmt.msel = s.mgmt.msel ∧ (offerEach pid c owner b l o s).2.glob = s.glob ∧
    (offerEach pid c owner b l o s).2.pending = s.pending ∧
    (∀ q, ((offerEach pid c owner b l o s).2.slot q).cfg = (s.slot q).cfg) ∧
    (∀ q, ((offerEach pid c owner b l o s).2.slot q).edges = (s.slot q).edges) ∧
    (∀ q, ((offerEach pid c owner b l o s).2.slot q).cursor = (s.slot q).cursor) := by
  induction l generalizing s o with
  | nil => simp [offerEach]
  | cons b r ih =>
    refine ⟨?_, ?_, ?_, ?_, ?_, ?_, ?_, ?_, ?_, ?_, ?_, ?_, ?_⟩ <;> try intro q
    all_goals simp only [offerEach]; (repeat' split) <;> simp [ih]

@[simp] theorem offerAll_keeps (pid : Nat) (c : Cls) (owner : Slot) (dest : SlotSet) (s : State) :
    (offerAll pid c owner dest s).2.flow = s.flow ∧ (offerAll pid c owner dest s).2.park = s.park ∧
    (offerAll pid c owner dest s).2.log = s.log ∧ (offerAll pid c owner dest s).2.timing = s.timing ∧
    (offerAll pid c owner dest s).2.nextEdge = s.nextEdge ∧ (offerAll pid c owner dest s).2.chain = s.chain ∧
    (offerAll pid c owner dest s).2.watches = s.watches ∧ (offerAll pid c owner dest s).2.mgmt.msel = s.mgmt.msel ∧
    (offerAll pid c owner dest s).2.glob = s.glob ∧ (offerAll pid c owner dest s).2.pending = s.pending ∧
    (∀ q, ((offerAll pid c owner dest s).2.slot q).cfg = (s.slot q).cfg) ∧
    (∀ q, ((offerAll pid c owner dest s).2.slot q).edges = (s.slot q).edges) ∧
    (∀ q, ((offerAll pid c owner dest s).2.slot q).cursor = (s.slot q).cursor) := by
  refine ⟨?_, ?_, ?_, ?_, ?_, ?_, ?_, ?_, ?_, ?_, ?_, ?_, ?_⟩ <;> try intro q
  all_goals first
    | (simp [offerAll]; done)
    | (simp only [offerAll]; (repeat' split) <;> simp)

@[simp] theorem settleAs_keeps (o : LogOutcome) (pid : Nat) (hd : Option LogHandle) (enq disc : SlotSet) (s : State) :
    (settleAs o pid hd enq disc s).flow = s.flow ∧ (settleAs o pid hd enq disc s).park = s.park ∧
    (settleAs o pid hd enq disc s).timing = s.timing ∧ (settleAs o pid hd enq disc s).nextEdge = s.nextEdge ∧
    (settleAs o pid hd enq disc s).chain = s.chain ∧ (settleAs o pid hd enq disc s).watches = s.watches ∧
    (settleAs o pid hd enq disc s).mgmt.msel = s.mgmt.msel ∧ (settleAs o pid hd enq disc s).glob = s.glob ∧
    (settleAs o pid hd enq disc s).pending = s.pending ∧
    (∀ q, ((settleAs o pid hd enq disc s).slot q).cfg = (s.slot q).cfg) ∧
    (∀ q, ((settleAs o pid hd enq disc s).slot q).port = (s.slot q).port) ∧
    (∀ q, ((settleAs o pid hd enq disc s).slot q).ing = (s.slot q).ing) ∧
    (∀ q, ((settleAs o pid hd enq disc s).slot q).egr = (s.slot q).egr) ∧
    (∀ q, ((settleAs o pid hd enq disc s).slot q).ctl = (s.slot q).ctl) ∧
    (∀ q, ((settleAs o pid hd enq disc s).slot q).edges = (s.slot q).edges) ∧
    (∀ q, ((settleAs o pid hd enq disc s).slot q).cursor = (s.slot q).cursor) := by
  refine ⟨?_, ?_, ?_, ?_, ?_, ?_, ?_, ?_, ?_, ?_, ?_, ?_, ?_, ?_, ?_, ?_⟩ <;> try intro q
  all_goals first
    | (simp [settleAs]; done)
    | (simp only [settleAs]; (repeat' split) <;> simp)

@[simp] theorem settle_keeps (pid : Nat) (hd : Option LogHandle) (enq disc : SlotSet) (s : State) :
    (settle pid hd enq disc s).flow = s.flow ∧ (settle pid hd enq disc s).park = s.park ∧
    (settle pid hd enq disc s).timing = s.timing ∧ (settle pid hd enq disc s).nextEdge = s.nextEdge ∧
    (settle pid hd enq disc s).chain = s.chain ∧ (settle pid hd enq disc s).watches = s.watches ∧
    (settle pid hd enq disc s).mgmt.msel = s.mgmt.msel ∧ (settle pid hd enq disc s).glob = s.glob ∧
    (settle pid hd enq disc s).pending = s.pending ∧
    (∀ q, ((settle pid hd enq disc s).slot q).cfg = (s.slot q).cfg) ∧
    (∀ q, ((settle pid hd enq disc s).slot q).port = (s.slot q).port) ∧
    (∀ q, ((settle pid hd enq disc s).slot q).ing = (s.slot q).ing) ∧
    (∀ q, ((settle pid hd enq disc s).slot q).egr = (s.slot q).egr) ∧
    (∀ q, ((settle pid hd enq disc s).slot q).ctl = (s.slot q).ctl) ∧
    (∀ q, ((settle pid hd enq disc s).slot q).edges = (s.slot q).edges) ∧
    (∀ q, ((settle pid hd enq disc s).slot q).cursor = (s.slot q).cursor) := by
  refine ⟨?_, ?_, ?_, ?_, ?_, ?_, ?_, ?_, ?_, ?_, ?_, ?_, ?_, ?_, ?_, ?_⟩ <;> try intro q
  all_goals first
    | (simp [settle]; done)
    | (simp only [settle]; (repeat' split) <;> simp)

@[simp] theorem waitEnd_keeps (j : Slot) (w : Waiting) (s : State) :
    (waitEnd j w s).flow = s.flow ∧ (waitEnd j w s).park = s.park ∧ (waitEnd j w s).timing = s.timing ∧
    (waitEnd j w s).nextEdge = s.nextEdge ∧ (waitEnd j w s).chain = s.chain ∧ (waitEnd j w s).watches = s.watches ∧
    (waitEnd j w s).mgmt.msel = s.mgmt.msel ∧ (waitEnd j w s).glob = s.glob ∧ (waitEnd j w s).pending = s.pending ∧
    (∀ q, ((waitEnd j w s).slot q).cfg = (s.slot q).cfg) ∧ (∀ q, ((waitEnd j w s).slot q).egr = (s.slot q).egr) ∧
    (∀ q, ((waitEnd j w s).slot q).ctl = (s.slot q).ctl) ∧ (∀ q, ((waitEnd j w s).slot q).edges = (s.slot q).edges) ∧
    (∀ q, ((waitEnd j w s).slot q).cursor = (s.slot q).cursor) := by
  refine ⟨?_, ?_, ?_, ?_, ?_, ?_, ?_, ?_, ?_, ?_, ?_, ?_, ?_, ?_⟩ <;> try intro q
  all_goals first
    | (simp [waitEnd]; done)
    | (simp only [waitEnd]; (repeat' split) <;> simp)

@[simp] theorem putWaiting_keeps (j : Slot) (w : Waiting) (s : State) :
    (putWaiting j w s).flow = s.flow ∧ (putWaiting j w s).park = s.park ∧ (putWaiting j w s).timing = s.timing ∧
    (putWaiting j w s).nextEdge = s.nextEdge ∧ (putWaiting j w s).chain = s.chain ∧
    (putWaiting j w s).watches = s.watches ∧ (putWaiting j w s).mgmt.msel = s.mgmt.msel ∧
    (putWaiting j w s).glob = s.glob ∧ (putWaiting j w s).pending = s.pending ∧
    (∀ q, ((putWaiting j w s).slot q).cfg = (s.slot q).cfg) ∧
    (∀ q, ((putWaiting j w s).slot q).egr = (s.slot q).egr) ∧
    (∀ q, ((putWaiting j w s).slot q).ctl = (s.slot q).ctl) ∧
    (∀ q, ((putWaiting j w s).slot q).edges = (s.slot q).edges) ∧
    (∀ q, ((putWaiting j w s).slot q).cursor = (s.slot q).cursor) := by
  refine ⟨?_, ?_, ?_, ?_, ?_, ?_, ?_, ?_, ?_, ?_, ?_, ?_, ?_, ?_⟩ <;> try intro q
  all_goals first
    | (simp [putWaiting]; done)
    | (simp only [putWaiting]; (repeat' split) <;> simp)

@[simp] theorem postStalls_keeps (j : Slot) (m : SlotSet) (s : State) :
    (postStalls j m s).flow = s.flow ∧ (postStalls j m s).pool = s.pool ∧ (postStalls j m s).park = s.park ∧
    (postStalls j m s).log = s.log ∧ (postStalls j m s).timing = s.timing ∧
    (postStalls j m s).nextEdge = s.nextEdge ∧ (postStalls j m s).chain = s.chain ∧
    (postStalls j m s).watches = s.watches ∧ (postStalls j m s).mgmt.msel = s.mgmt.msel ∧
    (postStalls j m s).glob = s.glob ∧ (postStalls j m s).pending = s.pending ∧
    (∀ q, ((postStalls j m s).slot q).cfg = (s.slot q).cfg) ∧
    (∀ q, ((postStalls j m s).slot q).port = (s.slot q).port) ∧
    (∀ q, ((postStalls j m s).slot q).ing = (s.slot q).ing) ∧
    (∀ q, ((postStalls j m s).slot q).egr = (s.slot q).egr) ∧
    (∀ q, ((postStalls j m s).slot q).ctl = (s.slot q).ctl) ∧
    (∀ q, ((postStalls j m s).slot q).edges = (s.slot q).edges) ∧
    (∀ q, ((postStalls j m s).slot q).cursor = (s.slot q).cursor) := by
  refine ⟨?_, ?_, ?_, ?_, ?_, ?_, ?_, ?_, ?_, ?_, ?_, ?_, ?_, ?_, ?_, ?_, ?_, ?_⟩ <;> try intro q
  all_goals first
    | (simp [postStalls]; done)
    | (simp only [postStalls]; (repeat' split) <;> simp)

@[simp] theorem enterWaiting_keeps (i : Slot) (pid : Nat) (c : Cls) (hd : Option LogHandle) (o : Offered) (s : State) :
    (enterWaiting i pid c hd o s).flow = s.flow ∧ (enterWaiting i pid c hd o s).park = s.park ∧
    (enterWaiting i pid c hd o s).timing = s.timing ∧ (enterWaiting i pid c hd o s).nextEdge = s.nextEdge ∧
    (enterWaiting i pid c hd o s).chain = s.chain ∧ (enterWaiting i pid c hd o s).watches = s.watches ∧
    (enterWaiting i pid c hd o s).mgmt.msel = s.mgmt.msel ∧ (enterWaiting i pid c hd o s).glob = s.glob ∧
    (enterWaiting i pid c hd o s).pending = s.pending ∧
    (∀ q, ((enterWaiting i pid c hd o s).slot q).cfg = (s.slot q).cfg) ∧
    (∀ q, ((enterWaiting i pid c hd o s).slot q).egr = (s.slot q).egr) ∧
    (∀ q, ((enterWaiting i pid c hd o s).slot q).ctl = (s.slot q).ctl) ∧
    (∀ q, ((enterWaiting i pid c hd o s).slot q).edges = (s.slot q).edges) ∧
    (∀ q, ((enterWaiting i pid c hd o s).slot q).cursor = (s.slot q).cursor) := by
  refine ⟨?_, ?_, ?_, ?_, ?_, ?_, ?_, ?_, ?_, ?_, ?_, ?_, ?_, ?_⟩ <;> try intro q
  all_goals first
    | (simp [enterWaiting]; done)
    | (simp only [enterWaiting]; (repeat' split) <;> simp)

@[simp] theorem reresolveIn_keeps (d : Slot) (j : Slot) (s : State) :
    (reresolveIn d j s).flow = s.flow ∧ (reresolveIn d j s).park = s.park ∧ (reresolveIn d j s).timing = s.timing ∧
    (reresolveIn d j s).nextEdge = s.nextEdge ∧ (reresolveIn d j s).chain = s.chain ∧
    (reresolveIn d j s).watches = s.watches ∧ (reresolveIn d j s).mgmt.msel = s.mgmt.msel ∧
    (reresolveIn d j s).glob = s.glob ∧ (reresolveIn d j s).pending = s.pending ∧
    (∀ q, ((reresolveIn d j s).slot q).cfg = (s.slot q).cfg) ∧
    (∀ q, ((reresolveIn d j s).slot q).egr = (s.slot q).egr) ∧
    (∀ q, ((reresolveIn d j s).slot q).ctl = (s.slot q).ctl) ∧
    (∀ q, ((reresolveIn d j s).slot q).edges = (s.slot q).edges) ∧
    (∀ q, ((reresolveIn d j s).slot q).cursor = (s.slot q).cursor) := by
  refine ⟨?_, ?_, ?_, ?_, ?_, ?_, ?_, ?_, ?_, ?_, ?_, ?_, ?_, ?_⟩ <;> try intro q
  all_goals first
    | (simp [reresolveIn]; done)
    | (simp only [reresolveIn]; (repeat' split) <;> simp)

@[simp] theorem reresolve_keeps (d : Slot) (s : State) :
    (reresolve d s).flow = s.flow ∧ (reresolve d s).park = s.park ∧ (reresolve d s).timing = s.timing ∧
    (reresolve d s).nextEdge = s.nextEdge ∧ (reresolve d s).chain = s.chain ∧ (reresolve d s).watches = s.watches ∧
    (reresolve d s).mgmt.msel = s.mgmt.msel ∧ (reresolve d s).glob = s.glob ∧ (reresolve d s).pending = s.pending ∧
    (∀ q, ((reresolve d s).slot q).cfg = (s.slot q).cfg) ∧ (∀ q, ((reresolve d s).slot q).egr = (s.slot q).egr) ∧
    (∀ q, ((reresolve d s).slot q).ctl = (s.slot q).ctl) ∧ (∀ q, ((reresolve d s).slot q).edges = (s.slot q).edges) ∧
    (∀ q, ((reresolve d s).slot q).cursor = (s.slot q).cursor) := by
  refine ⟨?_, ?_, ?_, ?_, ?_, ?_, ?_, ?_, ?_, ?_, ?_, ?_, ?_, ?_⟩ <;> try intro q
  all_goals first
    | (simp [reresolve]; done)
    | (simp only [reresolve]; (repeat' split) <;> simp)

@[simp] theorem serveWaiter_keeps (d : Slot) (c : Cls) (j : Slot) (w : Waiting) (s : State) :
    (serveWaiter d c j w s).flow = s.flow ∧ (serveWaiter d c j w s).park = s.park ∧
    (serveWaiter d c j w s).timing = s.timing ∧ (serveWaiter d c j w s).nextEdge = s.nextEdge ∧
    (serveWaiter d c j w s).chain = s.chain ∧ (serveWaiter d c j w s).watches = s.watches ∧
    (serveWaiter d c j w s).mgmt.msel = s.mgmt.msel ∧ (serveWaiter d c j w s).glob = s.glob ∧
    (serveWaiter d c j w s).pending = s.pending ∧ (∀ q, ((serveWaiter d c j w s).slot q).cfg = (s.slot q).cfg) ∧
    (∀ q, ((serveWaiter d c j w s).slot q).edges = (s.slot q).edges) ∧
    (∀ q, ((serveWaiter d c j w s).slot q).cursor = (s.slot q).cursor) := by
  refine ⟨?_, ?_, ?_, ?_, ?_, ?_, ?_, ?_, ?_, ?_, ?_, ?_⟩ <;> try intro q
  all_goals first
    | (simp [serveWaiter]; done)
    | (simp only [serveWaiter]; (repeat' split) <;> simp)

@[simp] theorem servePending_keeps (d : Slot) (c : Cls) (n : Nat) (s : State) :
    (servePending d c n s).flow = s.flow ∧ (servePending d c n s).park = s.park ∧
    (servePending d c n s).timing = s.timing ∧ (servePending d c n s).nextEdge = s.nextEdge ∧
    (servePending d c n s).chain = s.chain ∧ (servePending d c n s).watches = s.watches ∧
    (servePending d c n s).mgmt.msel = s.mgmt.msel ∧ (servePending d c n s).glob = s.glob ∧
    (servePending d c n s).pending = s.pending ∧ (∀ q, ((servePending d c n s).slot q).cfg = (s.slot q).cfg) ∧
    (∀ q, ((servePending d c n s).slot q).edges = (s.slot q).edges) ∧
    (∀ q, ((servePending d c n s).slot q).cursor = (s.slot q).cursor) := by
  induction n generalizing s with
  | zero => simp [servePending]
  | succ n ih =>
    refine ⟨?_, ?_, ?_, ?_, ?_, ?_, ?_, ?_, ?_, ?_, ?_, ?_⟩ <;> try intro q
    all_goals simp only [servePending]; (repeat' split) <;> simp [ih]

@[simp] theorem stallExpire_keeps (j : Slot) (w : Waiting) (s : State) :
    (stallExpire j w s).flow = s.flow ∧ (stallExpire j w s).park = s.park ∧ (stallExpire j w s).timing = s.timing ∧
    (stallExpire j w s).nextEdge = s.nextEdge ∧ (stallExpire j w s).chain = s.chain ∧
    (stallExpire j w s).watches = s.watches ∧ (stallExpire j w s).mgmt.msel = s.mgmt.msel ∧
    (stallExpire j w s).glob = s.glob ∧ (stallExpire j w s).pending = s.pending ∧
    (∀ q, ((stallExpire j w s).slot q).cfg = (s.slot q).cfg) ∧
    (∀ q, ((stallExpire j w s).slot q).egr = (s.slot q).egr) ∧
    (∀ q, ((stallExpire j w s).slot q).ctl = (s.slot q).ctl) ∧
    (∀ q, ((stallExpire j w s).slot q).edges = (s.slot q).edges) ∧
    (∀ q, ((stallExpire j w s).slot q).cursor = (s.slot q).cursor) := by
  refine ⟨?_, ?_, ?_, ?_, ?_, ?_, ?_, ?_, ?_, ?_, ?_, ?_, ?_, ?_⟩ <;> try intro q
  all_goals first
    | (simp [stallExpire]; done)
    | (simp only [stallExpire]; (repeat' split) <;> simp)

@[simp] theorem failAt_keeps (pid : Nat) (d : Slot) (s : State) :
    (failAt pid d s).flow = s.flow ∧ (failAt pid d s).park = s.park ∧ (failAt pid d s).log = s.log ∧
    (failAt pid d s).timing = s.timing ∧ (failAt pid d s).nextEdge = s.nextEdge ∧ (failAt pid d s).chain = s.chain ∧
    (failAt pid d s).watches = s.watches ∧ (failAt pid d s).mgmt.msel = s.mgmt.msel ∧
    (failAt pid d s).glob = s.glob ∧ (failAt pid d s).pending = s.pending ∧
    (∀ q, ((failAt pid d s).slot q).cfg = (s.slot q).cfg) ∧ (∀ q, ((failAt pid d s).slot q).port = (s.slot q).port) ∧
    (∀ q, ((failAt pid d s).slot q).ing = (s.slot q).ing) ∧ (∀ q, ((failAt pid d s).slot q).ctl = (s.slot q).ctl) ∧
    (∀ q, ((failAt pid d s).slot q).edges = (s.slot q).edges) ∧
    (∀ q, ((failAt pid d s).slot q).cursor = (s.slot q).cursor) := by
  refine ⟨?_, ?_, ?_, ?_, ?_, ?_, ?_, ?_, ?_, ?_, ?_, ?_, ?_, ?_, ?_, ?_⟩ <;> try intro q
  all_goals first
    | (simp [failAt]; done)
    | (simp only [failAt]; (repeat' split) <;> simp)

@[simp] theorem openParcel_keeps (i : Slot) (r : Reception) (pid : Nat) (s : State) :
    (openParcel i r pid s).flow = s.flow ∧ (openParcel i r pid s).park = s.park ∧
    (openParcel i r pid s).log = s.log ∧ (openParcel i r pid s).timing = s.timing ∧
    (openParcel i r pid s).nextEdge = s.nextEdge ∧ (openParcel i r pid s).chain = s.chain ∧
    (openParcel i r pid s).watches = s.watches ∧ (openParcel i r pid s).mgmt.msel = s.mgmt.msel ∧
    (openParcel i r pid s).glob = s.glob ∧ (openParcel i r pid s).pending = s.pending ∧
    (∀ q, ((openParcel i r pid s).slot q).cfg = (s.slot q).cfg) ∧
    (∀ q, ((openParcel i r pid s).slot q).edges = (s.slot q).edges) ∧
    (∀ q, ((openParcel i r pid s).slot q).cursor = (s.slot q).cursor) := by
  refine ⟨?_, ?_, ?_, ?_, ?_, ?_, ?_, ?_, ?_, ?_, ?_, ?_, ?_⟩ <;> try intro q
  all_goals first
    | (simp [openParcel]; done)
    | (simp only [openParcel]; (repeat' split) <;> simp)

@[simp] theorem passedPayload_keeps (i : Slot) (r : Reception) (pid : Nat) (w : Word) (s : State) :
    (passedPayload i r pid w s).flow = s.flow ∧ (passedPayload i r pid w s).park = s.park ∧
    (passedPayload i r pid w s).log = s.log ∧ (passedPayload i r pid w s).timing = s.timing ∧
    (passedPayload i r pid w s).nextEdge = s.nextEdge ∧ (passedPayload i r pid w s).chain = s.chain ∧
    (passedPayload i r pid w s).watches = s.watches ∧ (passedPayload i r pid w s).mgmt.msel = s.mgmt.msel ∧
    (passedPayload i r pid w s).glob = s.glob ∧ (passedPayload i r pid w s).pending = s.pending ∧
    (∀ q, ((passedPayload i r pid w s).slot q).cfg = (s.slot q).cfg) ∧
    (∀ q, ((passedPayload i r pid w s).slot q).edges = (s.slot q).edges) ∧
    (∀ q, ((passedPayload i r pid w s).slot q).cursor = (s.slot q).cursor) := by
  refine ⟨?_, ?_, ?_, ?_, ?_, ?_, ?_, ?_, ?_, ?_, ?_, ?_, ?_⟩ <;> try intro q
  all_goals first
    | (simp [passedPayload]; done)
    | (simp only [passedPayload]; (repeat' split) <;> simp)

@[simp] theorem passedGood_keeps (i : Slot) (r : Reception) (pid : Nat) (isOpen : Bool) (s : State) :
    (passedGood i r pid isOpen s).flow = s.flow ∧ (passedGood i r pid isOpen s).park = s.park ∧
    (passedGood i r pid isOpen s).timing = s.timing ∧ (passedGood i r pid isOpen s).nextEdge = s.nextEdge ∧
    (passedGood i r pid isOpen s).chain = s.chain ∧ (passedGood i r pid isOpen s).watches = s.watches ∧
    (passedGood i r pid isOpen s).mgmt.msel = s.mgmt.msel ∧ (passedGood i r pid isOpen s).glob = s.glob ∧
    (passedGood i r pid isOpen s).pending = s.pending ∧
    (∀ q, ((passedGood i r pid isOpen s).slot q).cfg = (s.slot q).cfg) ∧
    (∀ q, ((passedGood i r pid isOpen s).slot q).edges = (s.slot q).edges) ∧
    (∀ q, ((passedGood i r pid isOpen s).slot q).cursor = (s.slot q).cursor) := by
  refine ⟨?_, ?_, ?_, ?_, ?_, ?_, ?_, ?_, ?_, ?_, ?_, ?_⟩ <;> try intro q
  all_goals first
    | (simp [passedGood]; done)
    | (simp only [passedGood]; (repeat' split) <;> simp)

@[simp] theorem postCheckFail_keeps (i : Slot) (chan : BitVec 6) (s : State) :
    (postCheckFail i chan s).flow = s.flow ∧ (postCheckFail i chan s).pool = s.pool ∧
    (postCheckFail i chan s).park = s.park ∧ (postCheckFail i chan s).log = s.log ∧
    (postCheckFail i chan s).timing = s.timing ∧ (postCheckFail i chan s).nextEdge = s.nextEdge ∧
    (postCheckFail i chan s).chain = s.chain ∧ (postCheckFail i chan s).watches = s.watches ∧
    (postCheckFail i chan s).mgmt.msel = s.mgmt.msel ∧ (postCheckFail i chan s).glob = s.glob ∧
    (postCheckFail i chan s).pending = s.pending ∧ (∀ q, ((postCheckFail i chan s).slot q).cfg = (s.slot q).cfg) ∧
    (∀ q, ((postCheckFail i chan s).slot q).port = (s.slot q).port) ∧
    (∀ q, ((postCheckFail i chan s).slot q).ing = (s.slot q).ing) ∧
    (∀ q, ((postCheckFail i chan s).slot q).egr = (s.slot q).egr) ∧
    (∀ q, ((postCheckFail i chan s).slot q).ctl = (s.slot q).ctl) ∧
    (∀ q, ((postCheckFail i chan s).slot q).edges = (s.slot q).edges) ∧
    (∀ q, ((postCheckFail i chan s).slot q).cursor = (s.slot q).cursor) := by
  refine ⟨?_, ?_, ?_, ?_, ?_, ?_, ?_, ?_, ?_, ?_, ?_, ?_, ?_, ?_, ?_, ?_, ?_, ?_⟩ <;> try intro q
  all_goals first
    | (simp [postCheckFail]; done)
    | (simp only [postCheckFail]; (repeat' split) <;> simp)

@[simp] theorem passedFail_keeps (i : Slot) (r : Reception) (pid : Nat) (isOpen bad : Bool) (s : State) :
    (passedFail i r pid isOpen bad s).flow = s.flow ∧ (passedFail i r pid isOpen bad s).park = s.park ∧
    (passedFail i r pid isOpen bad s).timing = s.timing ∧ (passedFail i r pid isOpen bad s).nextEdge = s.nextEdge ∧
    (passedFail i r pid isOpen bad s).chain = s.chain ∧ (passedFail i r pid isOpen bad s).watches = s.watches ∧
    (passedFail i r pid isOpen bad s).mgmt.msel = s.mgmt.msel ∧ (passedFail i r pid isOpen bad s).glob = s.glob ∧
    (passedFail i r pid isOpen bad s).pending = s.pending ∧
    (∀ q, ((passedFail i r pid isOpen bad s).slot q).cfg = (s.slot q).cfg) ∧
    (∀ q, ((passedFail i r pid isOpen bad s).slot q).port = (s.slot q).port) ∧
    (∀ q, ((passedFail i r pid isOpen bad s).slot q).ing = (s.slot q).ing) ∧
    (∀ q, ((passedFail i r pid isOpen bad s).slot q).ctl = (s.slot q).ctl) ∧
    (∀ q, ((passedFail i r pid isOpen bad s).slot q).edges = (s.slot q).edges) ∧
    (∀ q, ((passedFail i r pid isOpen bad s).slot q).cursor = (s.slot q).cursor) := by
  refine ⟨?_, ?_, ?_, ?_, ?_, ?_, ?_, ?_, ?_, ?_, ?_, ?_, ?_, ?_, ?_⟩ <;> try intro q
  all_goals first
    | (simp [passedFail]; done)
    | (simp only [passedFail]; (repeat' split) <;> simp)

@[simp] theorem passedEnd_keeps (i : Slot) (r : Reception) (pid : Nat) (e : PEnd) (s : State) :
    (passedEnd i r pid e s).flow = s.flow ∧ (passedEnd i r pid e s).park = s.park ∧
    (passedEnd i r pid e s).timing = s.timing ∧ (passedEnd i r pid e s).nextEdge = s.nextEdge ∧
    (passedEnd i r pid e s).chain = s.chain ∧ (passedEnd i r pid e s).watches = s.watches ∧
    (passedEnd i r pid e s).mgmt.msel = s.mgmt.msel ∧ (passedEnd i r pid e s).glob = s.glob ∧
    (passedEnd i r pid e s).pending = s.pending ∧ (∀ q, ((passedEnd i r pid e s).slot q).cfg = (s.slot q).cfg) ∧
    (∀ q, ((passedEnd i r pid e s).slot q).edges = (s.slot q).edges) ∧
    (∀ q, ((passedEnd i r pid e s).slot q).cursor = (s.slot q).cursor) := by
  refine ⟨?_, ?_, ?_, ?_, ?_, ?_, ?_, ?_, ?_, ?_, ?_, ?_⟩ <;> try intro q
  all_goals first
    | (simp [passedEnd]; done)
    | (simp only [passedEnd]; (repeat' split) <;> simp)

@[simp] theorem parcelEnd_keeps (i : Slot) (e : PEnd) (s : State) :
    (parcelEnd i e s).flow = s.flow ∧ (parcelEnd i e s).nextEdge = s.nextEdge ∧ (parcelEnd i e s).chain = s.chain ∧
    (parcelEnd i e s).mgmt.msel = s.mgmt.msel ∧ (parcelEnd i e s).glob = s.glob ∧
    (parcelEnd i e s).pending = s.pending ∧ (∀ q, ((parcelEnd i e s).slot q).cfg = (s.slot q).cfg) ∧
    (∀ q, ((parcelEnd i e s).slot q).edges = (s.slot q).edges) ∧
    (∀ q, ((parcelEnd i e s).slot q).cursor = (s.slot q).cursor) := by
  refine ⟨?_, ?_, ?_, ?_, ?_, ?_, ?_, ?_, ?_⟩ <;> try intro q
  all_goals first
    | (simp [parcelEnd]; done)
    | (simp only [parcelEnd]; (repeat' split) <;> simp)

@[simp] theorem parcelPayload_keeps (i : Slot) (w : Word) (s : State) :
    (parcelPayload i w s).flow = s.flow ∧ (parcelPayload i w s).park = s.park ∧ (parcelPayload i w s).log = s.log ∧
    (parcelPayload i w s).timing = s.timing ∧ (parcelPayload i w s).nextEdge = s.nextEdge ∧
    (parcelPayload i w s).chain = s.chain ∧ (parcelPayload i w s).watches = s.watches ∧
    (parcelPayload i w s).mgmt.msel = s.mgmt.msel ∧ (parcelPayload i w s).glob = s.glob ∧
    (parcelPayload i w s).pending = s.pending ∧ (∀ q, ((parcelPayload i w s).slot q).cfg = (s.slot q).cfg) ∧
    (∀ q, ((parcelPayload i w s).slot q).edges = (s.slot q).edges) ∧
    (∀ q, ((parcelPayload i w s).slot q).cursor = (s.slot q).cursor) := by
  refine ⟨?_, ?_, ?_, ?_, ?_, ?_, ?_, ?_, ?_, ?_, ?_, ?_, ?_⟩ <;> try intro q
  all_goals first
    | (simp [parcelPayload]; done)
    | (simp only [parcelPayload]; (repeat' split) <;> simp)

@[simp] theorem beginReception_keeps (i : Slot) (h : Header) (e : FlowEntry) (st : Stamp) (hd : Option LogHandle) (f : Fate) (s : State) :
    (beginReception i h e st hd f s).flow = s.flow ∧ (beginReception i h e st hd f s).pool = s.pool ∧
    (beginReception i h e st hd f s).park = s.park ∧ (beginReception i h e st hd f s).log = s.log ∧
    (beginReception i h e st hd f s).timing = s.timing ∧ (beginReception i h e st hd f s).nextEdge = s.nextEdge ∧
    (beginReception i h e st hd f s).chain = s.chain ∧ (beginReception i h e st hd f s).watches = s.watches ∧
    (beginReception i h e st hd f s).alarm = s.alarm ∧ (beginReception i h e st hd f s).mgmt = s.mgmt ∧
    (beginReception i h e st hd f s).glob = s.glob ∧ (beginReception i h e st hd f s).pending = s.pending ∧
    (∀ q, ((beginReception i h e st hd f s).slot q).cfg = (s.slot q).cfg) ∧
    (∀ q, ((beginReception i h e st hd f s).slot q).port = (s.slot q).port) ∧
    (∀ q, ((beginReception i h e st hd f s).slot q).egr = (s.slot q).egr) ∧
    (∀ q, ((beginReception i h e st hd f s).slot q).ctl = (s.slot q).ctl) ∧
    (∀ q, ((beginReception i h e st hd f s).slot q).edges = (s.slot q).edges) ∧
    (∀ q, ((beginReception i h e st hd f s).slot q).cursor = (s.slot q).cursor) := by
  refine ⟨?_, ?_, ?_, ?_, ?_, ?_, ?_, ?_, ?_, ?_, ?_, ?_, ?_, ?_, ?_, ?_, ?_, ?_⟩ <;> try intro q
  all_goals first
    | (simp [beginReception]; done)
    | (simp only [beginReception]; (repeat' split) <;> simp)

@[simp] theorem reportRefusal_keeps (i : Slot) (h : Header) (e : FlowEntry) (reason : Nat) (s : State) :
    (reportRefusal i h e reason s).flow = s.flow ∧ (reportRefusal i h e reason s).pool = s.pool ∧
    (reportRefusal i h e reason s).park = s.park ∧ (reportRefusal i h e reason s).log = s.log ∧
    (reportRefusal i h e reason s).timing = s.timing ∧ (reportRefusal i h e reason s).nextEdge = s.nextEdge ∧
    (reportRefusal i h e reason s).chain = s.chain ∧ (reportRefusal i h e reason s).watches = s.watches ∧
    (reportRefusal i h e reason s).mgmt.msel = s.mgmt.msel ∧ (reportRefusal i h e reason s).glob = s.glob ∧
    (reportRefusal i h e reason s).pending = s.pending ∧
    (∀ q, ((reportRefusal i h e reason s).slot q).cfg = (s.slot q).cfg) ∧
    (∀ q, ((reportRefusal i h e reason s).slot q).port = (s.slot q).port) ∧
    (∀ q, ((reportRefusal i h e reason s).slot q).ing = (s.slot q).ing) ∧
    (∀ q, ((reportRefusal i h e reason s).slot q).egr = (s.slot q).egr) ∧
    (∀ q, ((reportRefusal i h e reason s).slot q).ctl = (s.slot q).ctl) ∧
    (∀ q, ((reportRefusal i h e reason s).slot q).edges = (s.slot q).edges) ∧
    (∀ q, ((reportRefusal i h e reason s).slot q).cursor = (s.slot q).cursor) := by
  refine ⟨?_, ?_, ?_, ?_, ?_, ?_, ?_, ?_, ?_, ?_, ?_, ?_, ?_, ?_, ?_, ?_, ?_, ?_⟩ <;> try intro q
  all_goals first
    | (simp [reportRefusal]; done)
    | (simp only [reportRefusal]; (repeat' split) <;> simp)

@[simp] theorem passHeader_keeps (i : Slot) (h : Header) (e : FlowEntry) (st : Stamp) (hd : Option LogHandle) (s : State) :
    (passHeader i h e st hd s).flow = s.flow ∧ (passHeader i h e st hd s).park = s.park ∧
    (passHeader i h e st hd s).timing = s.timing ∧ (passHeader i h e st hd s).nextEdge = s.nextEdge ∧
    (passHeader i h e st hd s).chain = s.chain ∧ (passHeader i h e st hd s).watches = s.watches ∧
    (passHeader i h e st hd s).mgmt.msel = s.mgmt.msel ∧ (passHeader i h e st hd s).glob = s.glob ∧
    (passHeader i h e st hd s).pending = s.pending ∧
    (∀ q, ((passHeader i h e st hd s).slot q).cfg = (s.slot q).cfg) ∧
    (∀ q, ((passHeader i h e st hd s).slot q).port = (s.slot q).port) ∧
    (∀ q, ((passHeader i h e st hd s).slot q).egr = (s.slot q).egr) ∧
    (∀ q, ((passHeader i h e st hd s).slot q).ctl = (s.slot q).ctl) ∧
    (∀ q, ((passHeader i h e st hd s).slot q).edges = (s.slot q).edges) ∧
    (∀ q, ((passHeader i h e st hd s).slot q).cursor = (s.slot q).cursor) := by
  refine ⟨?_, ?_, ?_, ?_, ?_, ?_, ?_, ?_, ?_, ?_, ?_, ?_, ?_, ?_, ?_⟩ <;> try intro q
  all_goals first
    | (simp [passHeader]; done)
    | (simp only [passHeader]; (repeat' split) <;> simp)

@[simp] theorem lookupHeader_keeps (i : Slot) (h : Header) (s : State) :
    (lookupHeader i h s).flow = s.flow ∧ (lookupHeader i h s).park = s.park ∧
    (lookupHeader i h s).timing = s.timing ∧ (lookupHeader i h s).nextEdge = s.nextEdge ∧
    (lookupHeader i h s).chain = s.chain ∧ (lookupHeader i h s).watches = s.watches ∧
    (lookupHeader i h s).mgmt.msel = s.mgmt.msel ∧ (lookupHeader i h s).glob = s.glob ∧
    (lookupHeader i h s).pending = s.pending ∧ (∀ q, ((lookupHeader i h s).slot q).cfg = (s.slot q).cfg) ∧
    (∀ q, ((lookupHeader i h s).slot q).port = (s.slot q).port) ∧
    (∀ q, ((lookupHeader i h s).slot q).egr = (s.slot q).egr) ∧
    (∀ q, ((lookupHeader i h s).slot q).ctl = (s.slot q).ctl) ∧
    (∀ q, ((lookupHeader i h s).slot q).edges = (s.slot q).edges) ∧
    (∀ q, ((lookupHeader i h s).slot q).cursor = (s.slot q).cursor) := by
  refine ⟨?_, ?_, ?_, ?_, ?_, ?_, ?_, ?_, ?_, ?_, ?_, ?_, ?_, ?_, ?_⟩ <;> try intro q
  all_goals first
    | (simp [lookupHeader]; done)
    | (simp only [lookupHeader]; (repeat' split) <;> simp)

@[simp] theorem parcelHeader_keeps (i : Slot) (h : Header) (s : State) :
    (parcelHeader i h s).flow = s.flow ∧ (parcelHeader i h s).park = s.park ∧
    (parcelHeader i h s).timing = s.timing ∧ (parcelHeader i h s).nextEdge = s.nextEdge ∧
    (parcelHeader i h s).chain = s.chain ∧ (parcelHeader i h s).watches = s.watches ∧
    (parcelHeader i h s).mgmt.msel = s.mgmt.msel ∧ (parcelHeader i h s).glob = s.glob ∧
    (parcelHeader i h s).pending = s.pending ∧ (∀ q, ((parcelHeader i h s).slot q).cfg = (s.slot q).cfg) ∧
    (∀ q, ((parcelHeader i h s).slot q).port = (s.slot q).port) ∧
    (∀ q, ((parcelHeader i h s).slot q).egr = (s.slot q).egr) ∧
    (∀ q, ((parcelHeader i h s).slot q).ctl = (s.slot q).ctl) ∧
    (∀ q, ((parcelHeader i h s).slot q).edges = (s.slot q).edges) ∧
    (∀ q, ((parcelHeader i h s).slot q).cursor = (s.slot q).cursor) := by
  refine ⟨?_, ?_, ?_, ?_, ?_, ?_, ?_, ?_, ?_, ?_, ?_, ?_, ?_, ?_, ?_⟩ <;> try intro q
  all_goals first
    | (simp [parcelHeader]; done)
    | (simp only [parcelHeader]; (repeat' split) <;> simp)

@[simp] theorem abandonTx_keeps (i : Slot) (s : State) :
    (abandonTx i s).flow = s.flow ∧ (abandonTx i s).park = s.park ∧ (abandonTx i s).log = s.log ∧
    (abandonTx i s).timing = s.timing ∧ (abandonTx i s).nextEdge = s.nextEdge ∧ (abandonTx i s).chain = s.chain ∧
    (abandonTx i s).watches = s.watches ∧ (abandonTx i s).mgmt.msel = s.mgmt.msel ∧ (abandonTx i s).glob = s.glob ∧
    (abandonTx i s).pending = s.pending ∧ (∀ q, ((abandonTx i s).slot q).cfg = (s.slot q).cfg) ∧
    (∀ q, ((abandonTx i s).slot q).port = (s.slot q).port) ∧ (∀ q, ((abandonTx i s).slot q).ing = (s.slot q).ing) ∧
    (∀ q, ((abandonTx i s).slot q).ctl = (s.slot q).ctl) ∧ (∀ q, ((abandonTx i s).slot q).edges = (s.slot q).edges) ∧
    (∀ q, ((abandonTx i s).slot q).cursor = (s.slot q).cursor) := by
  refine ⟨?_, ?_, ?_, ?_, ?_, ?_, ?_, ?_, ?_, ?_, ?_, ?_, ?_, ?_, ?_, ?_⟩ <;> try intro q
  all_goals first
    | (simp [abandonTx]; done)
    | (simp only [abandonTx]; (repeat' split) <;> simp)

@[simp] theorem abortReception_keeps (i : Slot) (s : State) :
    (abortReception i s).flow = s.flow ∧ (abortReception i s).nextEdge = s.nextEdge ∧
    (abortReception i s).chain = s.chain ∧ (abortReception i s).mgmt.msel = s.mgmt.msel ∧
    (abortReception i s).glob = s.glob ∧ (abortReception i s).pending = s.pending ∧
    (∀ q, ((abortReception i s).slot q).cfg = (s.slot q).cfg) ∧
    (∀ q, ((abortReception i s).slot q).edges = (s.slot q).edges) ∧
    (∀ q, ((abortReception i s).slot q).cursor = (s.slot q).cursor) := by
  refine ⟨?_, ?_, ?_, ?_, ?_, ?_, ?_, ?_, ?_⟩ <;> try intro q
  all_goals first
    | (simp [abortReception]; done)
    | (simp only [abortReception]; (repeat' split) <;> simp)

@[simp] theorem setLink_keeps (i : Slot) (dst : LinkState) (s : State) :
    (setLink i dst s).flow = s.flow ∧ (setLink i dst s).nextEdge = s.nextEdge ∧ (setLink i dst s).chain = s.chain ∧
    (setLink i dst s).mgmt.msel = s.mgmt.msel ∧ (setLink i dst s).glob = s.glob ∧
    (setLink i dst s).pending = s.pending ∧ (∀ q, ((setLink i dst s).slot q).cfg = (s.slot q).cfg) ∧
    (∀ q, ((setLink i dst s).slot q).edges = (s.slot q).edges) ∧
    (∀ q, ((setLink i dst s).slot q).cursor = (s.slot q).cursor) := by
  refine ⟨?_, ?_, ?_, ?_, ?_, ?_, ?_, ?_, ?_⟩ <;> try intro q
  all_goals first
    | (simp [setLink]; done)
    | (simp only [setLink]; (repeat' split) <;> simp)

@[simp] theorem followLines_keeps (i : Slot) (s : State) :
    (followLines i s).flow = s.flow ∧ (followLines i s).pool = s.pool ∧ (followLines i s).park = s.park ∧
    (followLines i s).log = s.log ∧ (followLines i s).timing = s.timing ∧ (followLines i s).nextEdge = s.nextEdge ∧
    (followLines i s).chain = s.chain ∧ (followLines i s).watches = s.watches ∧ (followLines i s).alarm = s.alarm ∧
    (followLines i s).mgmt = s.mgmt ∧ (followLines i s).glob = s.glob ∧ (followLines i s).pending = s.pending ∧
    (∀ q, ((followLines i s).slot q).cfg = (s.slot q).cfg) ∧
    (∀ q, ((followLines i s).slot q).port = (s.slot q).port) ∧
    (∀ q, ((followLines i s).slot q).ing = (s.slot q).ing) ∧ (∀ q, ((followLines i s).slot q).egr = (s.slot q).egr) ∧
    (∀ q, ((followLines i s).slot q).edges = (s.slot q).edges) ∧
    (∀ q, ((followLines i s).slot q).cursor = (s.slot q).cursor) := by
  refine ⟨?_, ?_, ?_, ?_, ?_, ?_, ?_, ?_, ?_, ?_, ?_, ?_, ?_, ?_, ?_, ?_, ?_, ?_⟩ <;> try intro q
  all_goals first
    | (simp [followLines]; done)
    | (simp only [followLines]; (repeat' split) <;> simp)

@[simp] theorem powerOffLines_keeps (i : Slot) (s : State) :
    (powerOffLines i s).flow = s.flow ∧ (powerOffLines i s).pool = s.pool ∧ (powerOffLines i s).park = s.park ∧
    (powerOffLines i s).log = s.log ∧ (powerOffLines i s).timing = s.timing ∧
    (powerOffLines i s).nextEdge = s.nextEdge ∧ (powerOffLines i s).chain = s.chain ∧
    (powerOffLines i s).watches = s.watches ∧ (powerOffLines i s).mgmt.msel = s.mgmt.msel ∧
    (powerOffLines i s).glob = s.glob ∧ (powerOffLines i s).pending = s.pending ∧
    (∀ q, ((powerOffLines i s).slot q).cfg = (s.slot q).cfg) ∧
    (∀ q, ((powerOffLines i s).slot q).port = (s.slot q).port) ∧
    (∀ q, ((powerOffLines i s).slot q).ing = (s.slot q).ing) ∧
    (∀ q, ((powerOffLines i s).slot q).egr = (s.slot q).egr) ∧
    (∀ q, ((powerOffLines i s).slot q).edges = (s.slot q).edges) ∧
    (∀ q, ((powerOffLines i s).slot q).cursor = (s.slot q).cursor) := by
  refine ⟨?_, ?_, ?_, ?_, ?_, ?_, ?_, ?_, ?_, ?_, ?_, ?_, ?_, ?_, ?_, ?_, ?_⟩ <;> try intro q
  all_goals first
    | (simp [powerOffLines]; done)
    | (simp only [powerOffLines]; (repeat' split) <;> simp)

@[simp] theorem goodSeen_keeps (i : Slot) (s : State) :
    (goodSeen i s).flow = s.flow ∧ (goodSeen i s).pool = s.pool ∧ (goodSeen i s).park = s.park ∧
    (goodSeen i s).log = s.log ∧ (goodSeen i s).timing = s.timing ∧ (goodSeen i s).nextEdge = s.nextEdge ∧
    (goodSeen i s).chain = s.chain ∧ (goodSeen i s).watches = s.watches ∧ (goodSeen i s).alarm = s.alarm ∧
    (goodSeen i s).mgmt = s.mgmt ∧ (goodSeen i s).glob = s.glob ∧ (goodSeen i s).pending = s.pending ∧
    (∀ q, ((goodSeen i s).slot q).cfg = (s.slot q).cfg) ∧ (∀ q, ((goodSeen i s).slot q).port = (s.slot q).port) ∧
    (∀ q, ((goodSeen i s).slot q).ing = (s.slot q).ing) ∧ (∀ q, ((goodSeen i s).slot q).egr = (s.slot q).egr) ∧
    (∀ q, ((goodSeen i s).slot q).edges = (s.slot q).edges) ∧
    (∀ q, ((goodSeen i s).slot q).cursor = (s.slot q).cursor) := by
  refine ⟨?_, ?_, ?_, ?_, ?_, ?_, ?_, ?_, ?_, ?_, ?_, ?_, ?_, ?_, ?_, ?_, ?_, ?_⟩ <;> try intro q
  all_goals first
    | (simp [goodSeen]; done)
    | (simp only [goodSeen]; (repeat' split) <;> simp)

@[simp] theorem startTimer_keeps (i : Slot) (k : TimerKind) (s : State) :
    (startTimer i k s).flow = s.flow ∧ (startTimer i k s).pool = s.pool ∧ (startTimer i k s).park = s.park ∧
    (startTimer i k s).log = s.log ∧ (startTimer i k s).timing = s.timing ∧
    (startTimer i k s).nextEdge = s.nextEdge ∧ (startTimer i k s).chain = s.chain ∧
    (startTimer i k s).watches = s.watches ∧ (startTimer i k s).alarm = s.alarm ∧ (startTimer i k s).mgmt = s.mgmt ∧
    (startTimer i k s).glob = s.glob ∧ (startTimer i k s).pending = s.pending ∧
    (∀ q, ((startTimer i k s).slot q).cfg = (s.slot q).cfg) ∧
    (∀ q, ((startTimer i k s).slot q).port = (s.slot q).port) ∧
    (∀ q, ((startTimer i k s).slot q).ing = (s.slot q).ing) ∧
    (∀ q, ((startTimer i k s).slot q).egr = (s.slot q).egr) ∧
    (∀ q, ((startTimer i k s).slot q).edges = (s.slot q).edges) ∧
    (∀ q, ((startTimer i k s).slot q).cursor = (s.slot q).cursor) := by
  refine ⟨?_, ?_, ?_, ?_, ?_, ?_, ?_, ?_, ?_, ?_, ?_, ?_, ?_, ?_, ?_, ?_, ?_, ?_⟩ <;> try intro q
  all_goals first
    | (simp [startTimer]; done)
    | (simp only [startTimer]; (repeat' split) <;> simp)

@[simp] theorem setPhase_keeps (i : Slot) (ph : Phase) (s : State) :
    (setPhase i ph s).flow = s.flow ∧ (setPhase i ph s).park = s.park ∧ (setPhase i ph s).timing = s.timing ∧
    (setPhase i ph s).nextEdge = s.nextEdge ∧ (setPhase i ph s).chain = s.chain ∧
    (setPhase i ph s).watches = s.watches ∧ (setPhase i ph s).mgmt.msel = s.mgmt.msel ∧
    (setPhase i ph s).glob = s.glob ∧ (setPhase i ph s).pending = s.pending ∧
    (∀ q, ((setPhase i ph s).slot q).cfg = (s.slot q).cfg) ∧ (∀ q, ((setPhase i ph s).slot q).egr = (s.slot q).egr) ∧
    (∀ q, ((setPhase i ph s).slot q).edges = (s.slot q).edges) ∧
    (∀ q, ((setPhase i ph s).slot q).cursor = (s.slot q).cursor) := by
  refine ⟨?_, ?_, ?_, ?_, ?_, ?_, ?_, ?_, ?_, ?_, ?_, ?_, ?_⟩ <;> try intro q
  all_goals first
    | (simp [setPhase]; done)
    | (simp only [setPhase]; (repeat' split) <;> simp)

@[simp] theorem emptyMgmt_keeps (i : Slot) (s : State) :
    (emptyMgmt i s).flow = s.flow ∧ (emptyMgmt i s).pool = s.pool ∧ (emptyMgmt i s).park = s.park ∧
    (emptyMgmt i s).log = s.log ∧ (emptyMgmt i s).timing = s.timing ∧ (emptyMgmt i s).nextEdge = s.nextEdge ∧
    (emptyMgmt i s).chain = s.chain ∧ (emptyMgmt i s).watches = s.watches ∧ (emptyMgmt i s).alarm = s.alarm ∧
    (emptyMgmt i s).mgmt.msel = s.mgmt.msel ∧ (emptyMgmt i s).glob = s.glob ∧ (emptyMgmt i s).pending = s.pending ∧
    (∀ q, ((emptyMgmt i s).slot q).cfg = (s.slot q).cfg) ∧ (∀ q, ((emptyMgmt i s).slot q).port = (s.slot q).port) ∧
    (∀ q, ((emptyMgmt i s).slot q).ing = (s.slot q).ing) ∧ (∀ q, ((emptyMgmt i s).slot q).egr = (s.slot q).egr) ∧
    (∀ q, ((emptyMgmt i s).slot q).ctl = (s.slot q).ctl) ∧ (∀ q, ((emptyMgmt i s).slot q).edges = (s.slot q).edges) ∧
    (∀ q, ((emptyMgmt i s).slot q).cursor = (s.slot q).cursor) := by
  refine ⟨?_, ?_, ?_, ?_, ?_, ?_, ?_, ?_, ?_, ?_, ?_, ?_, ?_, ?_, ?_, ?_, ?_, ?_, ?_⟩ <;> try intro q
  all_goals first
    | (simp [emptyMgmt]; done)
    | (simp only [emptyMgmt]; (repeat' split) <;> simp)

@[simp] theorem enterOut_keeps (i : Slot) (ph : Phase) (s : State) :
    (enterOut i ph s).flow = s.flow ∧ (enterOut i ph s).park = s.park ∧ (enterOut i ph s).timing = s.timing ∧
    (enterOut i ph s).nextEdge = s.nextEdge ∧ (enterOut i ph s).chain = s.chain ∧
    (enterOut i ph s).watches = s.watches ∧ (enterOut i ph s).mgmt.msel = s.mgmt.msel ∧
    (enterOut i ph s).glob = s.glob ∧ (enterOut i ph s).pending = s.pending ∧
    (∀ q, ((enterOut i ph s).slot q).cfg = (s.slot q).cfg) ∧
    (∀ q, ((enterOut i ph s).slot q).edges = (s.slot q).edges) ∧
    (∀ q, ((enterOut i ph s).slot q).cursor = (s.slot q).cursor) := by
  refine ⟨?_, ?_, ?_, ?_, ?_, ?_, ?_, ?_, ?_, ?_, ?_, ?_⟩ <;> try intro q
  all_goals first
    | (simp [enterOut]; done)
    | (simp only [enterOut]; (repeat' split) <;> simp)

@[simp] theorem takeDown_keeps (i : Slot) (ph : Phase) (s : State) :
    (takeDown i ph s).flow = s.flow ∧ (takeDown i ph s).nextEdge = s.nextEdge ∧ (takeDown i ph s).chain = s.chain ∧
    (takeDown i ph s).mgmt.msel = s.mgmt.msel ∧ (takeDown i ph s).glob = s.glob ∧
    (takeDown i ph s).pending = s.pending ∧ (∀ q, ((takeDown i ph s).slot q).cfg = (s.slot q).cfg) ∧
    (∀ q, ((takeDown i ph s).slot q).edges = (s.slot q).edges) := by
  refine ⟨?_, ?_, ?_, ?_, ?_, ?_, ?_, ?_⟩ <;> try intro q
  all_goals first
    | (simp [takeDown]; done)
    | (simp only [takeDown]; (repeat' split) <;> simp)

@[simp] theorem seatDebounce_keeps (i : Slot) (s : State) :
    (seatDebounce i s).flow = s.flow ∧ (seatDebounce i s).pool = s.pool ∧ (seatDebounce i s).park = s.park ∧
    (seatDebounce i s).log = s.log ∧ (seatDebounce i s).timing = s.timing ∧
    (seatDebounce i s).nextEdge = s.nextEdge ∧ (seatDebounce i s).chain = s.chain ∧
    (seatDebounce i s).watches = s.watches ∧ (seatDebounce i s).alarm = s.alarm ∧ (seatDebounce i s).mgmt = s.mgmt ∧
    (seatDebounce i s).glob = s.glob ∧ (seatDebounce i s).pending = s.pending ∧
    (∀ q, ((seatDebounce i s).slot q).cfg = (s.slot q).cfg) ∧
    (∀ q, ((seatDebounce i s).slot q).port = (s.slot q).port) ∧
    (∀ q, ((seatDebounce i s).slot q).ing = (s.slot q).ing) ∧
    (∀ q, ((seatDebounce i s).slot q).egr = (s.slot q).egr) ∧
    (∀ q, ((seatDebounce i s).slot q).edges = (s.slot q).edges) ∧
    (∀ q, ((seatDebounce i s).slot q).cursor = (s.slot q).cursor) := by
  refine ⟨?_, ?_, ?_, ?_, ?_, ?_, ?_, ?_, ?_, ?_, ?_, ?_, ?_, ?_, ?_, ?_, ?_, ?_⟩ <;> try intro q
  all_goals first
    | (simp [seatDebounce]; done)
    | (simp only [seatDebounce]; (repeat' split) <;> simp)

@[simp] theorem enterEmpty_keeps (i : Slot) (s : State) :
    (enterEmpty i s).flow = s.flow ∧ (enterEmpty i s).park = s.park ∧ (enterEmpty i s).timing = s.timing ∧
    (enterEmpty i s).nextEdge = s.nextEdge ∧ (enterEmpty i s).chain = s.chain ∧
    (enterEmpty i s).watches = s.watches ∧ (enterEmpty i s).mgmt.msel = s.mgmt.msel ∧
    (enterEmpty i s).glob = s.glob ∧ (enterEmpty i s).pending = s.pending ∧
    (∀ q, ((enterEmpty i s).slot q).cfg = (s.slot q).cfg) ∧
    (∀ q, ((enterEmpty i s).slot q).edges = (s.slot q).edges) ∧
    (∀ q, ((enterEmpty i s).slot q).cursor = (s.slot q).cursor) := by
  refine ⟨?_, ?_, ?_, ?_, ?_, ?_, ?_, ?_, ?_, ?_, ?_, ?_⟩ <;> try intro q
  all_goals first
    | (simp [enterEmpty]; done)
    | (simp only [enterEmpty]; (repeat' split) <;> simp)

@[simp] theorem enterPowering_keeps (i : Slot) (s : State) :
    (enterPowering i s).flow = s.flow ∧ (enterPowering i s).park = s.park ∧ (enterPowering i s).timing = s.timing ∧
    (enterPowering i s).nextEdge = s.nextEdge ∧ (enterPowering i s).chain = s.chain ∧
    (enterPowering i s).watches = s.watches ∧ (enterPowering i s).mgmt.msel = s.mgmt.msel ∧
    (enterPowering i s).glob = s.glob ∧ (enterPowering i s).pending = s.pending ∧
    (∀ q, ((enterPowering i s).slot q).cfg = (s.slot q).cfg) ∧
    (∀ q, ((enterPowering i s).slot q).egr = (s.slot q).egr) ∧
    (∀ q, ((enterPowering i s).slot q).edges = (s.slot q).edges) ∧
    (∀ q, ((enterPowering i s).slot q).cursor = (s.slot q).cursor) := by
  refine ⟨?_, ?_, ?_, ?_, ?_, ?_, ?_, ?_, ?_, ?_, ?_, ?_, ?_⟩ <;> try intro q
  all_goals first
    | (simp [enterPowering]; done)
    | (simp only [enterPowering]; (repeat' split) <;> simp)

@[simp] theorem enterSeated_keeps (i : Slot) (s : State) :
    (enterSeated i s).flow = s.flow ∧ (enterSeated i s).park = s.park ∧ (enterSeated i s).timing = s.timing ∧
    (enterSeated i s).nextEdge = s.nextEdge ∧ (enterSeated i s).chain = s.chain ∧
    (enterSeated i s).watches = s.watches ∧ (enterSeated i s).mgmt.msel = s.mgmt.msel ∧
    (enterSeated i s).glob = s.glob ∧ (enterSeated i s).pending = s.pending ∧
    (∀ q, ((enterSeated i s).slot q).cfg = (s.slot q).cfg) ∧
    (∀ q, ((enterSeated i s).slot q).edges = (s.slot q).edges) ∧
    (∀ q, ((enterSeated i s).slot q).cursor = (s.slot q).cursor) := by
  refine ⟨?_, ?_, ?_, ?_, ?_, ?_, ?_, ?_, ?_, ?_, ?_, ?_⟩ <;> try intro q
  all_goals first
    | (simp [enterSeated]; done)
    | (simp only [enterSeated]; (repeat' split) <;> simp)

@[simp] theorem askTrain_keeps (i : Slot) (t : Training) (s : State) :
    (askTrain i t s).flow = s.flow ∧ (askTrain i t s).pool = s.pool ∧ (askTrain i t s).park = s.park ∧
    (askTrain i t s).log = s.log ∧ (askTrain i t s).timing = s.timing ∧ (askTrain i t s).nextEdge = s.nextEdge ∧
    (askTrain i t s).chain = s.chain ∧ (askTrain i t s).watches = s.watches ∧ (askTrain i t s).alarm = s.alarm ∧
    (askTrain i t s).mgmt = s.mgmt ∧ (askTrain i t s).glob = s.glob ∧ (askTrain i t s).pending = s.pending ∧
    (∀ q, ((askTrain i t s).slot q).cfg = (s.slot q).cfg) ∧ (∀ q, ((askTrain i t s).slot q).ing = (s.slot q).ing) ∧
    (∀ q, ((askTrain i t s).slot q).egr = (s.slot q).egr) ∧
    (∀ q, ((askTrain i t s).slot q).edges = (s.slot q).edges) ∧
    (∀ q, ((askTrain i t s).slot q).cursor = (s.slot q).cursor) := by
  refine ⟨?_, ?_, ?_, ?_, ?_, ?_, ?_, ?_, ?_, ?_, ?_, ?_, ?_, ?_, ?_, ?_, ?_⟩ <;> try intro q
  all_goals first
    | (simp [askTrain]; done)
    | (simp only [askTrain]; (repeat' split) <;> simp)

@[simp] theorem enterTraining_keeps (i : Slot) (s : State) :
    (enterTraining i s).flow = s.flow ∧ (enterTraining i s).nextEdge = s.nextEdge ∧
    (enterTraining i s).chain = s.chain ∧ (enterTraining i s).mgmt.msel = s.mgmt.msel ∧
    (enterTraining i s).glob = s.glob ∧ (enterTraining i s).pending = s.pending ∧
    (∀ q, ((enterTraining i s).slot q).cfg = (s.slot q).cfg) ∧
    (∀ q, ((enterTraining i s).slot q).edges = (s.slot q).edges) := by
  refine ⟨?_, ?_, ?_, ?_, ?_, ?_, ?_, ?_⟩ <;> try intro q
  all_goals first
    | (simp [enterTraining]; done)
    | (simp only [enterTraining]; (repeat' split) <;> simp)

@[simp] theorem fault_keeps (i : Slot) (r : FaultReason) (s : State) :
    (fault i r s).flow = s.flow ∧ (fault i r s).nextEdge = s.nextEdge ∧ (fault i r s).chain = s.chain ∧
    (fault i r s).mgmt.msel = s.mgmt.msel ∧ (fault i r s).glob = s.glob ∧ (fault i r s).pending = s.pending ∧
    (∀ q, ((fault i r s).slot q).cfg = (s.slot q).cfg) ∧ (∀ q, ((fault i r s).slot q).edges = (s.slot q).edges) := by
  refine ⟨?_, ?_, ?_, ?_, ?_, ?_, ?_, ?_⟩ <;> try intro q
  all_goals first
    | (simp [fault]; done)
    | (simp only [fault]; (repeat' split) <;> simp)

@[simp] theorem remove_keeps (i : Slot) (param : Nat) (s : State) :
    (remove i param s).flow = s.flow ∧ (remove i param s).nextEdge = s.nextEdge ∧
    (remove i param s).chain = s.chain ∧ (remove i param s).mgmt.msel = s.mgmt.msel ∧
    (remove i param s).glob = s.glob ∧ (remove i param s).pending = s.pending ∧
    (∀ q, ((remove i param s).slot q).cfg = (s.slot q).cfg) ∧
    (∀ q, ((remove i param s).slot q).edges = (s.slot q).edges) := by
  refine ⟨?_, ?_, ?_, ?_, ?_, ?_, ?_, ?_⟩ <;> try intro q
  all_goals first
    | (simp [remove]; done)
    | (simp only [remove]; (repeat' split) <;> simp)

@[simp] theorem admitSlot_keeps (i : Slot) (d : Nat) (s : State) :
    (admitSlot i d s).flow = s.flow ∧ (admitSlot i d s).nextEdge = s.nextEdge ∧ (admitSlot i d s).chain = s.chain ∧
    (admitSlot i d s).mgmt.msel = s.mgmt.msel ∧ (admitSlot i d s).glob = s.glob ∧ (admitSlot i d s).pending = s.pending ∧
    (∀ q, ((admitSlot i d s).slot q).cfg = (s.slot q).cfg) := by
  refine ⟨?_, ?_, ?_, ?_, ?_, ?_, ?_⟩ <;> try intro q
  all_goals first
    | (simp [admitSlot]; done)
    | (simp only [admitSlot]; (repeat' split) <;> simp)

@[simp] theorem attemptEnd_keeps (i : Slot) (s : State) :
    (attemptEnd i s).flow = s.flow ∧ (attemptEnd i s).nextEdge = s.nextEdge ∧ (attemptEnd i s).chain = s.chain ∧
    (attemptEnd i s).mgmt.msel = s.mgmt.msel ∧ (attemptEnd i s).glob = s.glob ∧
    (attemptEnd i s).pending = s.pending ∧ (∀ q, ((attemptEnd i s).slot q).cfg = (s.slot q).cfg) := by
  refine ⟨?_, ?_, ?_, ?_, ?_, ?_, ?_⟩ <;> try intro q
  all_goals first
    | (simp [attemptEnd]; done)
    | (simp only [attemptEnd]; (repeat' split) <;> simp)

@[simp] theorem nextExchange_keeps (i : Slot) (s : State) :
    (nextExchange i s).flow = s.flow ∧ (nextExchange i s).nextEdge = s.nextEdge ∧
    (nextExchange i s).chain = s.chain ∧ (nextExchange i s).mgmt.msel = s.mgmt.msel ∧
    (nextExchange i s).glob = s.glob ∧ (nextExchange i s).pending = s.pending ∧
    (∀ q, ((nextExchange i s).slot q).cfg = (s.slot q).cfg) := by
  refine ⟨?_, ?_, ?_, ?_, ?_, ?_, ?_⟩ <;> try intro q
  all_goals first
    | (simp [nextExchange]; done)
    | (simp only [nextExchange]; (repeat' split) <;> simp)

@[simp] theorem addSample_keeps (i : Slot) (x : Nat) (s : State) :
    (addSample i x s).flow = s.flow ∧ (addSample i x s).pool = s.pool ∧ (addSample i x s).park = s.park ∧
    (addSample i x s).log = s.log ∧ (addSample i x s).timing = s.timing ∧ (addSample i x s).nextEdge = s.nextEdge ∧
    (addSample i x s).chain = s.chain ∧ (addSample i x s).watches = s.watches ∧ (addSample i x s).alarm = s.alarm ∧
    (addSample i x s).mgmt = s.mgmt ∧ (addSample i x s).glob = s.glob ∧ (addSample i x s).pending = s.pending ∧
    (∀ q, ((addSample i x s).slot q).cfg = (s.slot q).cfg) ∧
    (∀ q, ((addSample i x s).slot q).port = (s.slot q).port) ∧
    (∀ q, ((addSample i x s).slot q).ing = (s.slot q).ing) ∧ (∀ q, ((addSample i x s).slot q).egr = (s.slot q).egr) ∧
    (∀ q, ((addSample i x s).slot q).edges = (s.slot q).edges) ∧
    (∀ q, ((addSample i x s).slot q).cursor = (s.slot q).cursor) := by
  refine ⟨?_, ?_, ?_, ?_, ?_, ?_, ?_, ?_, ?_, ?_, ?_, ?_, ?_, ?_, ?_, ?_, ?_, ?_⟩ <;> try intro q
  all_goals first
    | (simp [addSample]; done)
    | (simp only [addSample]; (repeat' split) <;> simp)

/-- Powering off at once leaves alone what the lines of the slot and the alarm unit do not hold. -/
@[simp] theorem powerOffAtOnce_keeps (i : Slot) (s : State) :
    (powerOffAtOnce i s).flow = s.flow ∧ (powerOffAtOnce i s).park = s.park ∧ (powerOffAtOnce i s).timing = s.timing ∧
    (powerOffAtOnce i s).pool = s.pool ∧ (powerOffAtOnce i s).log = s.log ∧
    (powerOffAtOnce i s).nextEdge = s.nextEdge ∧ (powerOffAtOnce i s).chain = s.chain ∧
    (powerOffAtOnce i s).watches = s.watches ∧ (powerOffAtOnce i s).mgmt.msel = s.mgmt.msel ∧
    (powerOffAtOnce i s).glob = s.glob ∧ (powerOffAtOnce i s).pending = s.pending ∧
    (∀ q, ((powerOffAtOnce i s).slot q).cfg = (s.slot q).cfg) ∧
    (∀ q, ((powerOffAtOnce i s).slot q).ing = (s.slot q).ing) ∧
    (∀ q, ((powerOffAtOnce i s).slot q).egr = (s.slot q).egr) ∧
    (∀ q, ((powerOffAtOnce i s).slot q).edges = (s.slot q).edges) ∧
    (∀ q, ((powerOffAtOnce i s).slot q).cursor = (s.slot q).cursor) := by
  unfold powerOffAtOnce
  split <;> simp

/-- A slot that does not quiesce at once, or keeps its power then, is left as it is. -/
theorem powerOffAtOnce_of_not {i : Slot} {s : State} (h : s.egressEmpty i = false ∨ (s.slot i).cfg.autoPowerOff = false) :
    powerOffAtOnce i s = s := by
  rcases h with h | h <;> simp [powerOffAtOnce, h]

@[simp] theorem enterDraining_keeps (i : Slot) (s : State) :
    (enterDraining i s).flow = s.flow ∧ (enterDraining i s).park = s.park ∧ (enterDraining i s).timing = s.timing ∧
    (enterDraining i s).nextEdge = s.nextEdge ∧ (enterDraining i s).chain = s.chain ∧
    (enterDraining i s).watches = s.watches ∧ (enterDraining i s).mgmt.msel = s.mgmt.msel ∧
    (enterDraining i s).glob = s.glob ∧ (enterDraining i s).pending = s.pending ∧
    (∀ q, ((enterDraining i s).slot q).cfg = (s.slot q).cfg) ∧
    (∀ q, ((enterDraining i s).slot q).egr = (s.slot q).egr) ∧
    (∀ q, ((enterDraining i s).slot q).edges = (s.slot q).edges) := by
  refine ⟨?_, ?_, ?_, ?_, ?_, ?_, ?_, ?_, ?_, ?_, ?_, ?_⟩ <;> try intro q
  all_goals first
    | (simp [enterDraining]; done)
    | (simp only [enterDraining]; (repeat' split) <;> simp)

@[simp] theorem quiesce_keeps (i : Slot) (s : State) :
    (quiesce i s).flow = s.flow ∧ (quiesce i s).nextEdge = s.nextEdge ∧ (quiesce i s).chain = s.chain ∧
    (quiesce i s).mgmt.msel = s.mgmt.msel ∧ (quiesce i s).glob = s.glob ∧ (quiesce i s).pending = s.pending ∧
    (∀ q, ((quiesce i s).slot q).cfg = (s.slot q).cfg) ∧ (∀ q, ((quiesce i s).slot q).edges = (s.slot q).edges) ∧
    (∀ q, ((quiesce i s).slot q).cursor = (s.slot q).cursor) := by
  refine ⟨?_, ?_, ?_, ?_, ?_, ?_, ?_, ?_, ?_⟩ <;> try intro q
  all_goals first
    | (simp [quiesce]; done)
    | (simp only [quiesce]; (repeat' split) <;> simp)

@[simp] theorem settleRounds_keeps  (n : Nat) (s : State) :
    (settleRounds n s).flow = s.flow ∧ (settleRounds n s).nextEdge = s.nextEdge ∧
    (settleRounds n s).chain = s.chain ∧ (settleRounds n s).mgmt.msel = s.mgmt.msel ∧
    (settleRounds n s).glob = s.glob ∧ (settleRounds n s).pending = s.pending ∧
    (∀ q, ((settleRounds n s).slot q).cfg = (s.slot q).cfg) ∧
    (∀ q, ((settleRounds n s).slot q).edges = (s.slot q).edges) ∧
    (∀ q, ((settleRounds n s).slot q).cursor = (s.slot q).cursor) := by
  induction n generalizing s with
  | zero => simp [settleRounds]
  | succ n ih =>
    refine ⟨?_, ?_, ?_, ?_, ?_, ?_, ?_, ?_, ?_⟩ <;> try intro q
    all_goals simp only [settleRounds]; (repeat' split) <;> simp [ih]

@[simp] theorem settleDrains_keeps (s : State) :
    (settleDrains s).flow = s.flow ∧ (settleDrains s).nextEdge = s.nextEdge ∧ (settleDrains s).chain = s.chain ∧
    (settleDrains s).mgmt.msel = s.mgmt.msel ∧ (settleDrains s).glob = s.glob ∧
    (settleDrains s).pending = s.pending ∧ (∀ q, ((settleDrains s).slot q).cfg = (s.slot q).cfg) ∧
    (∀ q, ((settleDrains s).slot q).edges = (s.slot q).edges) ∧
    (∀ q, ((settleDrains s).slot q).cursor = (s.slot q).cursor) := by
  refine ⟨?_, ?_, ?_, ?_, ?_, ?_, ?_, ?_, ?_⟩ <;> try intro q
  all_goals first
    | (simp [settleDrains]; done)
    | (simp only [settleDrains]; (repeat' split) <;> simp)

@[simp] theorem setRx_keeps (s : State) (i : Slot) (r : RxState) :
    (s.setRx i r).flow = s.flow ∧ (s.setRx i r).pool = s.pool ∧ (s.setRx i r).park = s.park ∧
    (s.setRx i r).log = s.log ∧ (s.setRx i r).timing = s.timing ∧ (s.setRx i r).nextEdge = s.nextEdge ∧
    (s.setRx i r).chain = s.chain ∧ (s.setRx i r).watches = s.watches ∧ (s.setRx i r).alarm = s.alarm ∧
    (s.setRx i r).mgmt = s.mgmt ∧ (s.setRx i r).glob = s.glob ∧ (s.setRx i r).pending = s.pending ∧
    (∀ q, ((s.setRx i r).slot q).cfg = (s.slot q).cfg) ∧ (∀ q, ((s.setRx i r).slot q).ing = (s.slot q).ing) ∧
    (∀ q, ((s.setRx i r).slot q).egr = (s.slot q).egr) ∧ (∀ q, ((s.setRx i r).slot q).ctl = (s.slot q).ctl) ∧
    (∀ q, ((s.setRx i r).slot q).edges = (s.slot q).edges) ∧ (∀ q, ((s.setRx i r).slot q).cursor = (s.slot q).cursor) := by
  refine ⟨?_, ?_, ?_, ?_, ?_, ?_, ?_, ?_, ?_, ?_, ?_, ?_, ?_, ?_, ?_, ?_, ?_, ?_⟩ <;> try intro q
  all_goals first
    | (simp [State.setRx]; done)
    | (simp only [State.setRx]; (repeat' split) <;> simp)

@[simp] theorem linkError_keeps (i : Slot) (s : State) :
    (linkError i s).flow = s.flow ∧ (linkError i s).nextEdge = s.nextEdge ∧ (linkError i s).chain = s.chain ∧
    (linkError i s).mgmt.msel = s.mgmt.msel ∧ (linkError i s).glob = s.glob ∧ (linkError i s).pending = s.pending ∧
    (∀ q, ((linkError i s).slot q).cfg = (s.slot q).cfg) ∧ (∀ q, ((linkError i s).slot q).edges = (s.slot q).edges) := by
  refine ⟨?_, ?_, ?_, ?_, ?_, ?_, ?_, ?_⟩ <;> try intro q
  all_goals first
    | (simp [linkError]; done)
    | (simp only [linkError]; (repeat' split) <;> simp)

@[simp] theorem endDamaged_keeps (i : Slot) (s : State) :
    (endDamaged i s).flow = s.flow ∧ (endDamaged i s).nextEdge = s.nextEdge ∧ (endDamaged i s).chain = s.chain ∧
    (endDamaged i s).mgmt.msel = s.mgmt.msel ∧ (endDamaged i s).glob = s.glob ∧
    (endDamaged i s).pending = s.pending ∧ (∀ q, ((endDamaged i s).slot q).cfg = (s.slot q).cfg) ∧
    (∀ q, ((endDamaged i s).slot q).edges = (s.slot q).edges) ∧
    (∀ q, ((endDamaged i s).slot q).cursor = (s.slot q).cursor) := by
  refine ⟨?_, ?_, ?_, ?_, ?_, ?_, ?_, ?_, ?_⟩ <;> try intro q
  all_goals first
    | (simp [endDamaged]; done)
    | (simp only [endDamaged]; (repeat' split) <;> simp)

@[simp] theorem beginParcel_keeps (i : Slot) (w : Word) (s : State) :
    (beginParcel i w s).flow = s.flow ∧ (beginParcel i w s).park = s.park ∧ (beginParcel i w s).timing = s.timing ∧
    (beginParcel i w s).nextEdge = s.nextEdge ∧ (beginParcel i w s).chain = s.chain ∧
    (beginParcel i w s).watches = s.watches ∧ (beginParcel i w s).mgmt.msel = s.mgmt.msel ∧
    (beginParcel i w s).glob = s.glob ∧ (beginParcel i w s).pending = s.pending ∧
    (∀ q, ((beginParcel i w s).slot q).cfg = (s.slot q).cfg) ∧
    (∀ q, ((beginParcel i w s).slot q).egr = (s.slot q).egr) ∧
    (∀ q, ((beginParcel i w s).slot q).ctl = (s.slot q).ctl) ∧
    (∀ q, ((beginParcel i w s).slot q).edges = (s.slot q).edges) ∧
    (∀ q, ((beginParcel i w s).slot q).cursor = (s.slot q).cursor) := by
  refine ⟨?_, ?_, ?_, ?_, ?_, ?_, ?_, ?_, ?_, ?_, ?_, ?_, ?_, ?_⟩ <;> try intro q
  all_goals first
    | (simp [beginParcel]; done)
    | (simp only [beginParcel]; (repeat' split) <;> simp)

@[simp] theorem rxHeader_keeps (i : Slot) (w : Word) (s : State) :
    (rxHeader i w s).flow = s.flow ∧ (rxHeader i w s).nextEdge = s.nextEdge ∧ (rxHeader i w s).chain = s.chain ∧
    (rxHeader i w s).mgmt.msel = s.mgmt.msel ∧ (rxHeader i w s).glob = s.glob ∧
    (rxHeader i w s).pending = s.pending ∧ (∀ q, ((rxHeader i w s).slot q).cfg = (s.slot q).cfg) ∧
    (∀ q, ((rxHeader i w s).slot q).edges = (s.slot q).edges) := by
  refine ⟨?_, ?_, ?_, ?_, ?_, ?_, ?_, ?_⟩ <;> try intro q
  all_goals first
    | (simp [rxHeader]; done)
    | (simp only [rxHeader]; (repeat' split) <;> simp)

@[simp] theorem rxBody_keeps (i : Slot) (w : Word) (s : State) :
    (rxBody i w s).flow = s.flow ∧ (rxBody i w s).nextEdge = s.nextEdge ∧ (rxBody i w s).chain = s.chain ∧
    (rxBody i w s).mgmt.msel = s.mgmt.msel ∧ (rxBody i w s).glob = s.glob ∧ (rxBody i w s).pending = s.pending ∧
    (∀ q, ((rxBody i w s).slot q).cfg = (s.slot q).cfg) ∧ (∀ q, ((rxBody i w s).slot q).edges = (s.slot q).edges) := by
  refine ⟨?_, ?_, ?_, ?_, ?_, ?_, ?_, ?_⟩ <;> try intro q
  all_goals first
    | (simp [rxBody]; done)
    | (simp only [rxBody]; (repeat' split) <;> simp)

@[simp] theorem rxUndecodable_keeps (i : Slot) (s : State) :
    (rxUndecodable i s).flow = s.flow ∧ (rxUndecodable i s).nextEdge = s.nextEdge ∧
    (rxUndecodable i s).chain = s.chain ∧ (rxUndecodable i s).mgmt.msel = s.mgmt.msel ∧
    (rxUndecodable i s).glob = s.glob ∧ (rxUndecodable i s).pending = s.pending ∧
    (∀ q, ((rxUndecodable i s).slot q).cfg = (s.slot q).cfg) ∧
    (∀ q, ((rxUndecodable i s).slot q).edges = (s.slot q).edges) := by
  refine ⟨?_, ?_, ?_, ?_, ?_, ?_, ?_, ?_⟩ <;> try intro q
  all_goals first
    | (simp [rxUndecodable]; done)
    | (simp only [rxUndecodable]; (repeat' split) <;> simp)

@[simp] theorem rxBadMark_keeps (i : Slot) (s : State) :
    (rxBadMark i s).flow = s.flow ∧ (rxBadMark i s).nextEdge = s.nextEdge ∧ (rxBadMark i s).chain = s.chain ∧
    (rxBadMark i s).mgmt.msel = s.mgmt.msel ∧ (rxBadMark i s).glob = s.glob ∧ (rxBadMark i s).pending = s.pending ∧
    (∀ q, ((rxBadMark i s).slot q).cfg = (s.slot q).cfg) ∧ (∀ q, ((rxBadMark i s).slot q).edges = (s.slot q).edges) := by
  refine ⟨?_, ?_, ?_, ?_, ?_, ?_, ?_, ?_⟩ <;> try intro q
  all_goals first
    | (simp [rxBadMark]; done)
    | (simp only [rxBadMark]; (repeat' split) <;> simp)

@[simp] theorem cardHoldOff_keeps (i : Slot) (s : State) :
    (cardHoldOff i s).flow = s.flow ∧ (cardHoldOff i s).pool = s.pool ∧ (cardHoldOff i s).park = s.park ∧
    (cardHoldOff i s).log = s.log ∧ (cardHoldOff i s).timing = s.timing ∧ (cardHoldOff i s).nextEdge = s.nextEdge ∧
    (cardHoldOff i s).chain = s.chain ∧ (cardHoldOff i s).watches = s.watches ∧ (cardHoldOff i s).alarm = s.alarm ∧
    (cardHoldOff i s).mgmt = s.mgmt ∧ (cardHoldOff i s).glob = s.glob ∧ (cardHoldOff i s).pending = s.pending ∧
    (∀ q, ((cardHoldOff i s).slot q).cfg = (s.slot q).cfg) ∧ (∀ q, ((cardHoldOff i s).slot q).ing = (s.slot q).ing) ∧
    (∀ q, ((cardHoldOff i s).slot q).egr = (s.slot q).egr) ∧ (∀ q, ((cardHoldOff i s).slot q).ctl = (s.slot q).ctl) ∧
    (∀ q, ((cardHoldOff i s).slot q).edges = (s.slot q).edges) ∧
    (∀ q, ((cardHoldOff i s).slot q).cursor = (s.slot q).cursor) := by
  refine ⟨?_, ?_, ?_, ?_, ?_, ?_, ?_, ?_, ?_, ?_, ?_, ?_, ?_, ?_, ?_, ?_, ?_, ?_⟩ <;> try intro q
  all_goals first
    | (simp [cardHoldOff]; done)
    | (simp only [cardHoldOff]; (repeat' split) <;> simp)

@[simp] theorem cardResume_keeps (i : Slot) (s : State) :
    (cardResume i s).flow = s.flow ∧ (cardResume i s).pool = s.pool ∧ (cardResume i s).park = s.park ∧
    (cardResume i s).log = s.log ∧ (cardResume i s).timing = s.timing ∧ (cardResume i s).nextEdge = s.nextEdge ∧
    (cardResume i s).chain = s.chain ∧ (cardResume i s).watches = s.watches ∧
    (cardResume i s).mgmt.msel = s.mgmt.msel ∧ (cardResume i s).glob = s.glob ∧
    (cardResume i s).pending = s.pending ∧ (∀ q, ((cardResume i s).slot q).cfg = (s.slot q).cfg) ∧
    (∀ q, ((cardResume i s).slot q).ing = (s.slot q).ing) ∧
    (∀ q, ((cardResume i s).slot q).ctl = (s.slot q).ctl) ∧
    (∀ q, ((cardResume i s).slot q).edges = (s.slot q).edges) ∧
    (∀ q, ((cardResume i s).slot q).cursor = (s.slot q).cursor) := by
  refine ⟨?_, ?_, ?_, ?_, ?_, ?_, ?_, ?_, ?_, ?_, ?_, ?_, ?_, ?_, ?_, ?_⟩ <;> try intro q
  all_goals first
    | (simp [cardResume]; done)
    | (simp only [cardResume]; (repeat' split) <;> simp)

@[simp] theorem cardAwake_keeps (i : Slot) (s : State) :
    (cardAwake i s).flow = s.flow ∧ (cardAwake i s).pool = s.pool ∧ (cardAwake i s).park = s.park ∧
    (cardAwake i s).log = s.log ∧ (cardAwake i s).timing = s.timing ∧ (cardAwake i s).nextEdge = s.nextEdge ∧
    (cardAwake i s).chain = s.chain ∧ (cardAwake i s).watches = s.watches ∧ (cardAwake i s).alarm = s.alarm ∧
    (cardAwake i s).mgmt = s.mgmt ∧ (cardAwake i s).glob = s.glob ∧ (cardAwake i s).pending = s.pending ∧
    (∀ q, ((cardAwake i s).slot q).cfg = (s.slot q).cfg) ∧ (∀ q, ((cardAwake i s).slot q).ing = (s.slot q).ing) ∧
    (∀ q, ((cardAwake i s).slot q).egr = (s.slot q).egr) ∧ (∀ q, ((cardAwake i s).slot q).edges = (s.slot q).edges) ∧
    (∀ q, ((cardAwake i s).slot q).cursor = (s.slot q).cursor) := by
  refine ⟨?_, ?_, ?_, ?_, ?_, ?_, ?_, ?_, ?_, ?_, ?_, ?_, ?_, ?_, ?_, ?_, ?_⟩ <;> try intro q
  all_goals first
    | (simp [cardAwake]; done)
    | (simp only [cardAwake]; (repeat' split) <;> simp)

@[simp] theorem trainAnswer_keeps (i : Slot) (k : Nat) (turnaround : Nat) (s : State) :
    (trainAnswer i k turnaround s).flow = s.flow ∧ (trainAnswer i k turnaround s).nextEdge = s.nextEdge ∧
    (trainAnswer i k turnaround s).chain = s.chain ∧ (trainAnswer i k turnaround s).mgmt.msel = s.mgmt.msel ∧
    (trainAnswer i k turnaround s).glob = s.glob ∧ (trainAnswer i k turnaround s).pending = s.pending ∧
    (∀ q, ((trainAnswer i k turnaround s).slot q).cfg = (s.slot q).cfg) := by
  refine ⟨?_, ?_, ?_, ?_, ?_, ?_, ?_⟩ <;> try intro q
  all_goals first
    | (simp [trainAnswer]; done)
    | (simp only [trainAnswer]; (repeat' split) <;> simp)

@[simp] theorem rxMark_keeps (i : Slot) (w : Word) (s : State) :
    (rxMark i w s).flow = s.flow ∧ (rxMark i w s).nextEdge = s.nextEdge ∧ (rxMark i w s).chain = s.chain ∧
    (rxMark i w s).mgmt.msel = s.mgmt.msel ∧ (rxMark i w s).glob = s.glob ∧ (rxMark i w s).pending = s.pending ∧
    (∀ q, ((rxMark i w s).slot q).cfg = (s.slot q).cfg) := by
  refine ⟨?_, ?_, ?_, ?_, ?_, ?_, ?_⟩ <;> try intro q
  all_goals first
    | (simp [rxMark]; done)
    | (simp only [rxMark]; (repeat' split) <;> simp)

end Sys2Proof.Machine
end

