-- ==== Sys2Proof/Laws/KeepsPort.lean ====
section
/-! SUPPORT. What each shared operation leaves as it was: the transmit side, the management unit and the operations beside single commands. -/

namespace Sys2Proof.Machine

@[simp] theorem sendWord_keeps (i : Slot) (w : LinkWord) (s : State) :
    (sendWord i w s).flow = s.flow ∧ (sendWord i w s).pool = s.pool ∧ (sendWord i w s).park = s.park ∧
    (sendWord i w s).log = s.log ∧ (sendWord i w s).timing = s.timing ∧ (sendWord i w s).nextEdge = s.nextEdge ∧
    (sendWord i w s).chain = s.chain ∧ (sendWord i w s).watches = s.watches ∧ (sendWord i w s).alarm = s.alarm ∧
    (sendWord i w s).mgmt = s.mgmt ∧ (sendWord i w s).glob = s.glob ∧ (sendWord i w s).pending = s.pending ∧
    (∀ q, ((sendWord i w s).slot q).cfg = (s.slot q).cfg) ∧ (∀ q, ((sendWord i w s).slot q).ing = (s.slot q).ing) ∧
    (∀ q, ((sendWord i w s).slot q).egr = (s.slot q).egr) ∧ (∀ q, ((sendWord i w s).slot q).ctl = (s.slot q).ctl) ∧
    (∀ q, ((sendWord i w s).slot q).edges = (s.slot q).edges) ∧
    (∀ q, ((sendWord i w s).slot q).cursor = (s.slot q).cursor) := by
  refine ⟨?_, ?_, ?_, ?_, ?_, ?_, ?_, ?_, ?_, ?_, ?_, ?_, ?_, ?_, ?_, ?_, ?_, ?_⟩ <;> try intro q
  all_goals first
    | (simp [sendWord]; done)
    | (simp only [sendWord]; (repeat' split) <;> simp)

@[simp] theorem sendMark_keeps (i : Slot) (code : Nat) (s : State) :
    (sendMark i code s).flow = s.flow ∧ (sendMark i code s).pool = s.pool ∧ (sendMark i code s).park = s.park ∧
    (sendMark i code s).log = s.log ∧ (sendMark i code s).timing = s.timing ∧
    (sendMark i code s).nextEdge = s.nextEdge ∧ (sendMark i code s).chain = s.chain ∧
    (sendMark i code s).watches = s.watches ∧ (sendMark i code s).alarm = s.alarm ∧
    (sendMark i code s).mgmt = s.mgmt ∧ (sendMark i code s).glob = s.glob ∧ (sendMark i code s).pending = s.pending ∧
    (∀ q, ((sendMark i code s).slot q).cfg = (s.slot q).cfg) ∧
    (∀ q, ((sendMark i code s).slot q).ing = (s.slot q).ing) ∧
    (∀ q, ((sendMark i code s).slot q).egr = (s.slot q).egr) ∧
    (∀ q, ((sendMark i code s).slot q).ctl = (s.slot q).ctl) ∧
    (∀ q, ((sendMark i code s).slot q).edges = (s.slot q).edges) ∧
    (∀ q, ((sendMark i code s).slot q).cursor = (s.slot q).cursor) := by
  refine ⟨?_, ?_, ?_, ?_, ?_, ?_, ?_, ?_, ?_, ?_, ?_, ?_, ?_, ?_, ?_, ?_, ?_, ?_⟩ <;> try intro q
  all_goals first
    | (simp [sendMark]; done)
    | (simp only [sendMark]; (repeat' split) <;> simp)

@[simp] theorem startClass_keeps (i : Slot) (c : Cls) (s : State) :
    (startClass i c s).flow = s.flow ∧ (startClass i c s).pool = s.pool ∧ (startClass i c s).park = s.park ∧
    (startClass i c s).log = s.log ∧ (startClass i c s).timing = s.timing ∧
    (startClass i c s).nextEdge = s.nextEdge ∧ (startClass i c s).chain = s.chain ∧
    (startClass i c s).watches = s.watches ∧ (startClass i c s).alarm = s.alarm ∧ (startClass i c s).mgmt = s.mgmt ∧
    (startClass i c s).glob = s.glob ∧ (startClass i c s).pending = s.pending ∧
    (∀ q, ((startClass i c s).slot q).cfg = (s.slot q).cfg) ∧
    (∀ q, ((startClass i c s).slot q).port = (s.slot q).port) ∧
    (∀ q, ((startClass i c s).slot q).ing = (s.slot q).ing) ∧
    (∀ q, ((startClass i c s).slot q).ctl = (s.slot q).ctl) ∧
    (∀ q, ((startClass i c s).slot q).edges = (s.slot q).edges) ∧
    (∀ q, ((startClass i c s).slot q).cursor = (s.slot q).cursor) := by
  refine ⟨?_, ?_, ?_, ?_, ?_, ?_, ?_, ?_, ?_, ?_, ?_, ?_, ?_, ?_, ?_, ?_, ?_, ?_⟩ <;> try intro q
  all_goals first
    | (simp [startClass]; done)
    | (simp only [startClass]; (repeat' split) <;> simp)

@[simp] theorem startExpress_keeps (i : Slot) (s : State) :
    (startExpress i s).flow = s.flow ∧ (startExpress i s).pool = s.pool ∧ (startExpress i s).park = s.park ∧
    (startExpress i s).log = s.log ∧ (startExpress i s).timing = s.timing ∧
    (startExpress i s).nextEdge = s.nextEdge ∧ (startExpress i s).chain = s.chain ∧
    (startExpress i s).watches = s.watches ∧ (startExpress i s).alarm = s.alarm ∧ (startExpress i s).mgmt = s.mgmt ∧
    (startExpress i s).glob = s.glob ∧ (startExpress i s).pending = s.pending ∧
    (∀ q, ((startExpress i s).slot q).cfg = (s.slot q).cfg) ∧
    (∀ q, ((startExpress i s).slot q).port = (s.slot q).port) ∧
    (∀ q, ((startExpress i s).slot q).ing = (s.slot q).ing) ∧
    (∀ q, ((startExpress i s).slot q).ctl = (s.slot q).ctl) ∧
    (∀ q, ((startExpress i s).slot q).edges = (s.slot q).edges) ∧
    (∀ q, ((startExpress i s).slot q).cursor = (s.slot q).cursor) := by
  refine ⟨?_, ?_, ?_, ?_, ?_, ?_, ?_, ?_, ?_, ?_, ?_, ?_, ?_, ?_, ?_, ?_, ?_, ?_⟩ <;> try intro q
  all_goals first
    | (simp [startExpress]; done)
    | (simp only [startExpress]; (repeat' split) <;> simp)

@[simp] theorem startReply_keeps (i : Slot) (s : State) :
    (startReply i s).flow = s.flow ∧ (startReply i s).pool = s.pool ∧ (startReply i s).park = s.park ∧
    (startReply i s).log = s.log ∧ (startReply i s).timing = s.timing ∧ (startReply i s).nextEdge = s.nextEdge ∧
    (startReply i s).chain = s.chain ∧ (startReply i s).watches = s.watches ∧ (startReply i s).alarm = s.alarm ∧
    (startReply i s).mgmt = s.mgmt ∧ (startReply i s).glob = s.glob ∧ (startReply i s).pending = s.pending ∧
    (∀ q, ((startReply i s).slot q).cfg = (s.slot q).cfg) ∧ (∀ q, ((startReply i s).slot q).port = (s.slot q).port) ∧
    (∀ q, ((startReply i s).slot q).ing = (s.slot q).ing) ∧ (∀ q, ((startReply i s).slot q).ctl = (s.slot q).ctl) ∧
    (∀ q, ((startReply i s).slot q).edges = (s.slot q).edges) ∧
    (∀ q, ((startReply i s).slot q).cursor = (s.slot q).cursor) := by
  refine ⟨?_, ?_, ?_, ?_, ?_, ?_, ?_, ?_, ?_, ?_, ?_, ?_, ?_, ?_, ?_, ?_, ?_, ?_⟩ <;> try intro q
  all_goals first
    | (simp [startReply]; done)
    | (simp only [startReply]; (repeat' split) <;> simp)

@[simp] theorem choose_keeps (i : Slot) (s : State) :
    (choose i s).flow = s.flow ∧ (choose i s).pool = s.pool ∧ (choose i s).park = s.park ∧ (choose i s).log = s.log ∧
    (choose i s).timing = s.timing ∧ (choose i s).nextEdge = s.nextEdge ∧ (choose i s).chain = s.chain ∧
    (choose i s).watches = s.watches ∧ (choose i s).alarm = s.alarm ∧ (choose i s).mgmt = s.mgmt ∧
    (choose i s).glob = s.glob ∧ (choose i s).pending = s.pending ∧
    (∀ q, ((choose i s).slot q).cfg = (s.slot q).cfg) ∧ (∀ q, ((choose i s).slot q).port = (s.slot q).port) ∧
    (∀ q, ((choose i s).slot q).ing = (s.slot q).ing) ∧ (∀ q, ((choose i s).slot q).ctl = (s.slot q).ctl) ∧
    (∀ q, ((choose i s).slot q).edges = (s.slot q).edges) ∧ (∀ q, ((choose i s).slot q).cursor = (s.slot q).cursor) := by
  refine ⟨?_, ?_, ?_, ?_, ?_, ?_, ?_, ?_, ?_, ?_, ?_, ?_, ?_, ?_, ?_, ?_, ?_, ?_⟩ <;> try intro q
  all_goals first
    | (simp [choose]; done)
    | (simp only [choose]; (repeat' split) <;> simp)

@[simp] theorem makeChoice_keeps (i : Slot) (s : State) :
    (makeChoice i s).flow = s.flow ∧ (makeChoice i s).pool = s.pool ∧ (makeChoice i s).park = s.park ∧
    (makeChoice i s).log = s.log ∧ (makeChoice i s).timing = s.timing ∧ (makeChoice i s).nextEdge = s.nextEdge ∧
    (makeChoice i s).chain = s.chain ∧ (makeChoice i s).watches = s.watches ∧ (makeChoice i s).alarm = s.alarm ∧
    (makeChoice i s).mgmt = s.mgmt ∧ (makeChoice i s).glob = s.glob ∧ (makeChoice i s).pending = s.pending ∧
    (∀ q, ((makeChoice i s).slot q).cfg = (s.slot q).cfg) ∧ (∀ q, ((makeChoice i s).slot q).port = (s.slot q).port) ∧
    (∀ q, ((makeChoice i s).slot q).ing = (s.slot q).ing) ∧ (∀ q, ((makeChoice i s).slot q).ctl = (s.slot q).ctl) ∧
    (∀ q, ((makeChoice i s).slot q).edges = (s.slot q).edges) ∧
    (∀ q, ((makeChoice i s).slot q).cursor = (s.slot q).cursor) := by
  refine ⟨?_, ?_, ?_, ?_, ?_, ?_, ?_, ?_, ?_, ?_, ?_, ?_, ?_, ?_, ?_, ?_, ?_, ?_⟩ <;> try intro q
  all_goals first
    | (simp [makeChoice]; done)
    | (simp only [makeChoice]; (repeat' split) <;> simp)

@[simp] theorem sendParcelWord_keeps (i : Slot) (s : State) :
    (sendParcelWord i s).flow = s.flow ∧ (sendParcelWord i s).pool = s.pool ∧ (sendParcelWord i s).park = s.park ∧
    (sendParcelWord i s).log = s.log ∧ (sendParcelWord i s).timing = s.timing ∧
    (sendParcelWord i s).nextEdge = s.nextEdge ∧ (sendParcelWord i s).chain = s.chain ∧
    (sendParcelWord i s).watches = s.watches ∧ (sendParcelWord i s).alarm = s.alarm ∧
    (sendParcelWord i s).mgmt = s.mgmt ∧ (sendParcelWord i s).glob = s.glob ∧ (sendParcelWord i s).pending = s.pending ∧
    (∀ q, ((sendParcelWord i s).slot q).cfg = (s.slot q).cfg) ∧
    (∀ q, ((sendParcelWord i s).slot q).ing = (s.slot q).ing) ∧
    (∀ q, ((sendParcelWord i s).slot q).ctl = (s.slot q).ctl) ∧
    (∀ q, ((sendParcelWord i s).slot q).edges = (s.slot q).edges) ∧
    (∀ q, ((sendParcelWord i s).slot q).cursor = (s.slot q).cursor) := by
  refine ⟨?_, ?_, ?_, ?_, ?_, ?_, ?_, ?_, ?_, ?_, ?_, ?_, ?_, ?_, ?_, ?_, ?_⟩ <;> try intro q
  all_goals first
    | (simp [sendParcelWord]; done)
    | (simp only [sendParcelWord]; (repeat' split) <;> simp)

@[simp] theorem leaveQueue_keeps (i : Slot) (p : TxParcel) (s : State) :
    (leaveQueue i p s).flow = s.flow ∧ (leaveQueue i p s).park = s.park ∧ (leaveQueue i p s).log = s.log ∧
    (leaveQueue i p s).timing = s.timing ∧ (leaveQueue i p s).nextEdge = s.nextEdge ∧
    (leaveQueue i p s).chain = s.chain ∧ (leaveQueue i p s).watches = s.watches ∧
    (leaveQueue i p s).mgmt.msel = s.mgmt.msel ∧ (leaveQueue i p s).glob = s.glob ∧
    (leaveQueue i p s).pending = s.pending ∧ (∀ q, ((leaveQueue i p s).slot q).cfg = (s.slot q).cfg) ∧
    (∀ q, ((leaveQueue i p s).slot q).port = (s.slot q).port) ∧
    (∀ q, ((leaveQueue i p s).slot q).ing = (s.slot q).ing) ∧
    (∀ q, ((leaveQueue i p s).slot q).ctl = (s.slot q).ctl) ∧
    (∀ q, ((leaveQueue i p s).slot q).edges = (s.slot q).edges) := by
  refine ⟨?_, ?_, ?_, ?_, ?_, ?_, ?_, ?_, ?_, ?_, ?_, ?_, ?_, ?_, ?_⟩ <;> try intro q
  all_goals first
    | (simp [leaveQueue]; done)
    | (simp only [leaveQueue]; (repeat' split) <;> simp)

@[simp] theorem dropLateReplies_keeps (i : Slot) (s : State) :
    (dropLateReplies i s).flow = s.flow ∧ (dropLateReplies i s).pool = s.pool ∧ (dropLateReplies i s).park = s.park ∧
    (dropLateReplies i s).log = s.log ∧ (dropLateReplies i s).timing = s.timing ∧
    (dropLateReplies i s).nextEdge = s.nextEdge ∧ (dropLateReplies i s).chain = s.chain ∧
    (dropLateReplies i s).watches = s.watches ∧ (dropLateReplies i s).alarm = s.alarm ∧
    (dropLateReplies i s).mgmt.msel = s.mgmt.msel ∧ (dropLateReplies i s).glob = s.glob ∧
    (dropLateReplies i s).pending = s.pending ∧ (∀ q, ((dropLateReplies i s).slot q).cfg = (s.slot q).cfg) ∧
    (∀ q, ((dropLateReplies i s).slot q).port = (s.slot q).port) ∧
    (∀ q, ((dropLateReplies i s).slot q).ing = (s.slot q).ing) ∧
    (∀ q, ((dropLateReplies i s).slot q).egr = (s.slot q).egr) ∧
    (∀ q, ((dropLateReplies i s).slot q).ctl = (s.slot q).ctl) ∧
    (∀ q, ((dropLateReplies i s).slot q).edges = (s.slot q).edges) ∧
    (∀ q, ((dropLateReplies i s).slot q).cursor = (s.slot q).cursor) := by
  refine ⟨?_, ?_, ?_, ?_, ?_, ?_, ?_, ?_, ?_, ?_, ?_, ?_, ?_, ?_, ?_, ?_, ?_, ?_, ?_⟩ <;> try intro q
  all_goals first
    | (simp [dropLateReplies]; done)
    | (simp only [dropLateReplies]; (repeat' split) <;> simp)

@[simp] theorem endOf_keeps (i : Slot) (s : State) :
    (endOf i s).flow = s.flow ∧ (endOf i s).park = s.park ∧ (endOf i s).log = s.log ∧ (endOf i s).timing = s.timing ∧
    (endOf i s).nextEdge = s.nextEdge ∧ (endOf i s).chain = s.chain ∧ (endOf i s).watches = s.watches ∧
    (endOf i s).mgmt.msel = s.mgmt.msel ∧ (endOf i s).glob = s.glob ∧ (endOf i s).pending = s.pending ∧
    (∀ q, ((endOf i s).slot q).cfg = (s.slot q).cfg) ∧ (∀ q, ((endOf i s).slot q).ing = (s.slot q).ing) ∧
    (∀ q, ((endOf i s).slot q).ctl = (s.slot q).ctl) ∧ (∀ q, ((endOf i s).slot q).edges = (s.slot q).edges) := by
  refine ⟨?_, ?_, ?_, ?_, ?_, ?_, ?_, ?_, ?_, ?_, ?_, ?_, ?_, ?_⟩ <;> try intro q
  all_goals first
    | (simp [endOf]; done)
    | (simp only [endOf]; (repeat' split) <;> simp)

@[simp] theorem sendSuspend_keeps (i : Slot) (s : State) :
    (sendSuspend i s).flow = s.flow ∧ (sendSuspend i s).pool = s.pool ∧ (sendSuspend i s).park = s.park ∧
    (sendSuspend i s).log = s.log ∧ (sendSuspend i s).timing = s.timing ∧ (sendSuspend i s).nextEdge = s.nextEdge ∧
    (sendSuspend i s).chain = s.chain ∧ (sendSuspend i s).watches = s.watches ∧ (sendSuspend i s).alarm = s.alarm ∧
    (sendSuspend i s).mgmt = s.mgmt ∧ (sendSuspend i s).glob = s.glob ∧ (sendSuspend i s).pending = s.pending ∧
    (∀ q, ((sendSuspend i s).slot q).cfg = (s.slot q).cfg) ∧ (∀ q, ((sendSuspend i s).slot q).ing = (s.slot q).ing) ∧
    (∀ q, ((sendSuspend i s).slot q).ctl = (s.slot q).ctl) ∧
    (∀ q, ((sendSuspend i s).slot q).edges = (s.slot q).edges) ∧
    (∀ q, ((sendSuspend i s).slot q).cursor = (s.slot q).cursor) := by
  refine ⟨?_, ?_, ?_, ?_, ?_, ?_, ?_, ?_, ?_, ?_, ?_, ?_, ?_, ?_, ?_, ?_, ?_⟩ <;> try intro q
  all_goals first
    | (simp [sendSuspend]; done)
    | (simp only [sendSuspend]; (repeat' split) <;> simp)

@[simp] theorem sendContinue_keeps (i : Slot) (s : State) :
    (sendContinue i s).flow = s.flow ∧ (sendContinue i s).pool = s.pool ∧ (sendContinue i s).park = s.park ∧
    (sendContinue i s).log = s.log ∧ (sendContinue i s).timing = s.timing ∧
    (sendContinue i s).nextEdge = s.nextEdge ∧ (sendContinue i s).chain = s.chain ∧
    (sendContinue i s).watches = s.watches ∧ (sendContinue i s).alarm = s.alarm ∧ (sendContinue i s).mgmt = s.mgmt ∧
    (sendContinue i s).glob = s.glob ∧ (sendContinue i s).pending = s.pending ∧
    (∀ q, ((sendContinue i s).slot q).cfg = (s.slot q).cfg) ∧
    (∀ q, ((sendContinue i s).slot q).ing = (s.slot q).ing) ∧
    (∀ q, ((sendContinue i s).slot q).ctl = (s.slot q).ctl) ∧
    (∀ q, ((sendContinue i s).slot q).edges = (s.slot q).edges) ∧
    (∀ q, ((sendContinue i s).slot q).cursor = (s.slot q).cursor) := by
  refine ⟨?_, ?_, ?_, ?_, ?_, ?_, ?_, ?_, ?_, ?_, ?_, ?_, ?_, ?_, ?_, ?_, ?_⟩ <;> try intro q
  all_goals first
    | (simp [sendContinue]; done)
    | (simp only [sendContinue]; (repeat' split) <;> simp)

@[simp] theorem judgeLate_keeps (i : Slot) (edge : CabTime) (delay : Nat) (s : State) :
    (judgeLate i edge delay s).flow = s.flow ∧ (judgeLate i edge delay s).pool = s.pool ∧
    (judgeLate i edge delay s).park = s.park ∧ (judgeLate i edge delay s).log = s.log ∧
    (judgeLate i edge delay s).timing = s.timing ∧ (judgeLate i edge delay s).nextEdge = s.nextEdge ∧
    (judgeLate i edge delay s).chain = s.chain ∧ (judgeLate i edge delay s).watches = s.watches ∧
    (judgeLate i edge delay s).mgmt.msel = s.mgmt.msel ∧ (judgeLate i edge delay s).glob = s.glob ∧
    (judgeLate i edge delay s).pending = s.pending ∧
    (∀ q, ((judgeLate i edge delay s).slot q).cfg = (s.slot q).cfg) ∧
    (∀ q, ((judgeLate i edge delay s).slot q).port = (s.slot q).port) ∧
    (∀ q, ((judgeLate i edge delay s).slot q).ing = (s.slot q).ing) ∧
    (∀ q, ((judgeLate i edge delay s).slot q).egr = (s.slot q).egr) ∧
    (∀ q, ((judgeLate i edge delay s).slot q).ctl = (s.slot q).ctl) ∧
    (∀ q, ((judgeLate i edge delay s).slot q).edges = (s.slot q).edges) ∧
    (∀ q, ((judgeLate i edge delay s).slot q).cursor = (s.slot q).cursor) := by
  refine ⟨?_, ?_, ?_, ?_, ?_, ?_, ?_, ?_, ?_, ?_, ?_, ?_, ?_, ?_, ?_, ?_, ?_, ?_⟩ <;> try intro q
  all_goals first
    | (simp [judgeLate]; done)
    | (simp only [judgeLate]; (repeat' split) <;> simp)

@[simp] theorem departEdge_keeps (i : Slot) (p : TxParcel) (n : EdgeNote) (s : State) :
    (departEdge i p n s).flow = s.flow ∧ (departEdge i p n s).pool = s.pool ∧
    (departEdge i p n s).park = s.park ∧ (departEdge i p n s).log = s.log ∧
    (departEdge i p n s).timing = s.timing ∧ (departEdge i p n s).nextEdge = s.nextEdge ∧
    (departEdge i p n s).chain = s.chain ∧ (departEdge i p n s).watches = s.watches ∧
    (departEdge i p n s).mgmt.msel = s.mgmt.msel ∧ (departEdge i p n s).glob = s.glob ∧
    (departEdge i p n s).pending = s.pending ∧
    (∀ q, ((departEdge i p n s).slot q).cfg = (s.slot q).cfg) ∧
    (∀ q, ((departEdge i p n s).slot q).ing = (s.slot q).ing) ∧
    (∀ q, ((departEdge i p n s).slot q).ctl = (s.slot q).ctl) ∧
    (∀ q, ((departEdge i p n s).slot q).edges = (s.slot q).edges) ∧
    (∀ q, ((departEdge i p n s).slot q).cursor = (s.slot q).cursor) := by
  refine ⟨?_, ?_, ?_, ?_, ?_, ?_, ?_, ?_, ?_, ?_, ?_, ?_, ?_, ?_, ?_, ?_⟩ <;> try intro q
  all_goals first
    | (simp [departEdge]; done)
    | (simp only [departEdge]; (repeat' split) <;> simp)

@[simp] theorem departNext_keeps (i : Slot) (s : State) :
    (departNext i s).flow = s.flow ∧ (departNext i s).pool = s.pool ∧ (departNext i s).park = s.park ∧
    (departNext i s).log = s.log ∧ (departNext i s).timing = s.timing ∧ (departNext i s).nextEdge = s.nextEdge ∧
    (departNext i s).chain = s.chain ∧ (departNext i s).watches = s.watches ∧
    (departNext i s).mgmt.msel = s.mgmt.msel ∧ (departNext i s).glob = s.glob ∧
    (departNext i s).pending = s.pending ∧ (∀ q, ((departNext i s).slot q).cfg = (s.slot q).cfg) ∧
    (∀ q, ((departNext i s).slot q).ing = (s.slot q).ing) ∧ (∀ q, ((departNext i s).slot q).ctl = (s.slot q).ctl) ∧
    (∀ q, ((departNext i s).slot q).edges = (s.slot q).edges) ∧
    (∀ q, ((departNext i s).slot q).cursor = (s.slot q).cursor) := by
  refine ⟨?_, ?_, ?_, ?_, ?_, ?_, ?_, ?_, ?_, ?_, ?_, ?_, ?_, ?_, ?_, ?_⟩ <;> try intro q
  all_goals first
    | (simp [departNext]; done)
    | (simp only [departNext]; (repeat' split) <;> simp)

@[simp] theorem sendHoldMark_keeps (i : Slot) (s : State) :
    (sendHoldMark i s).flow = s.flow ∧ (sendHoldMark i s).pool = s.pool ∧ (sendHoldMark i s).park = s.park ∧
    (sendHoldMark i s).log = s.log ∧ (sendHoldMark i s).timing = s.timing ∧
    (sendHoldMark i s).nextEdge = s.nextEdge ∧ (sendHoldMark i s).chain = s.chain ∧
    (sendHoldMark i s).watches = s.watches ∧ (sendHoldMark i s).alarm = s.alarm ∧ (sendHoldMark i s).mgmt = s.mgmt ∧
    (sendHoldMark i s).glob = s.glob ∧ (sendHoldMark i s).pending = s.pending ∧
    (∀ q, ((sendHoldMark i s).slot q).cfg = (s.slot q).cfg) ∧
    (∀ q, ((sendHoldMark i s).slot q).ing = (s.slot q).ing) ∧
    (∀ q, ((sendHoldMark i s).slot q).egr = (s.slot q).egr) ∧
    (∀ q, ((sendHoldMark i s).slot q).ctl = (s.slot q).ctl) ∧
    (∀ q, ((sendHoldMark i s).slot q).edges = (s.slot q).edges) ∧
    (∀ q, ((sendHoldMark i s).slot q).cursor = (s.slot q).cursor) := by
  refine ⟨?_, ?_, ?_, ?_, ?_, ?_, ?_, ?_, ?_, ?_, ?_, ?_, ?_, ?_, ?_, ?_, ?_, ?_⟩ <;> try intro q
  all_goals first
    | (simp [sendHoldMark]; done)
    | (simp only [sendHoldMark]; (repeat' split) <;> simp)

@[simp] theorem sendRest_keeps (i : Slot) (s : State) :
    (sendRest i s).flow = s.flow ∧ (sendRest i s).pool = s.pool ∧ (sendRest i s).park = s.park ∧
    (sendRest i s).log = s.log ∧ (sendRest i s).timing = s.timing ∧ (sendRest i s).nextEdge = s.nextEdge ∧
    (sendRest i s).chain = s.chain ∧ (sendRest i s).watches = s.watches ∧ (sendRest i s).alarm = s.alarm ∧
    (sendRest i s).mgmt = s.mgmt ∧ (sendRest i s).glob = s.glob ∧ (sendRest i s).pending = s.pending ∧
    (∀ q, ((sendRest i s).slot q).cfg = (s.slot q).cfg) ∧ (∀ q, ((sendRest i s).slot q).ing = (s.slot q).ing) ∧
    (∀ q, ((sendRest i s).slot q).edges = (s.slot q).edges) ∧
    (∀ q, ((sendRest i s).slot q).cursor = (s.slot q).cursor) := by
  refine ⟨?_, ?_, ?_, ?_, ?_, ?_, ?_, ?_, ?_, ?_, ?_, ?_, ?_, ?_, ?_, ?_⟩ <;> try intro q
  all_goals first
    | (simp [sendRest]; done)
    | (simp only [sendRest]; (repeat' split) <;> simp)

@[simp] theorem sendWake_keeps (i : Slot) (s : State) :
    (sendWake i s).flow = s.flow ∧ (sendWake i s).pool = s.pool ∧ (sendWake i s).park = s.park ∧
    (sendWake i s).log = s.log ∧ (sendWake i s).timing = s.timing ∧ (sendWake i s).nextEdge = s.nextEdge ∧
    (sendWake i s).chain = s.chain ∧ (sendWake i s).watches = s.watches ∧ (sendWake i s).alarm = s.alarm ∧
    (sendWake i s).mgmt = s.mgmt ∧ (sendWake i s).glob = s.glob ∧ (sendWake i s).pending = s.pending ∧
    (∀ q, ((sendWake i s).slot q).cfg = (s.slot q).cfg) ∧ (∀ q, ((sendWake i s).slot q).ing = (s.slot q).ing) ∧
    (∀ q, ((sendWake i s).slot q).egr = (s.slot q).egr) ∧ (∀ q, ((sendWake i s).slot q).ctl = (s.slot q).ctl) ∧
    (∀ q, ((sendWake i s).slot q).edges = (s.slot q).edges) ∧
    (∀ q, ((sendWake i s).slot q).cursor = (s.slot q).cursor) := by
  refine ⟨?_, ?_, ?_, ?_, ?_, ?_, ?_, ?_, ?_, ?_, ?_, ?_, ?_, ?_, ?_, ?_, ?_, ?_⟩ <;> try intro q
  all_goals first
    | (simp [sendWake]; done)
    | (simp only [sendWake]; (repeat' split) <;> simp)

@[simp] theorem sendTrainReq_keeps (i : Slot) (s : State) :
    (sendTrainReq i s).flow = s.flow ∧ (sendTrainReq i s).pool = s.pool ∧ (sendTrainReq i s).park = s.park ∧
    (sendTrainReq i s).log = s.log ∧ (sendTrainReq i s).timing = s.timing ∧
    (sendTrainReq i s).nextEdge = s.nextEdge ∧ (sendTrainReq i s).chain = s.chain ∧
    (sendTrainReq i s).watches = s.watches ∧ (sendTrainReq i s).alarm = s.alarm ∧ (sendTrainReq i s).mgmt = s.mgmt ∧
    (sendTrainReq i s).glob = s.glob ∧ (sendTrainReq i s).pending = s.pending ∧
    (∀ q, ((sendTrainReq i s).slot q).cfg = (s.slot q).cfg) ∧
    (∀ q, ((sendTrainReq i s).slot q).ing = (s.slot q).ing) ∧
    (∀ q, ((sendTrainReq i s).slot q).egr = (s.slot q).egr) ∧
    (∀ q, ((sendTrainReq i s).slot q).edges = (s.slot q).edges) ∧
    (∀ q, ((sendTrainReq i s).slot q).cursor = (s.slot q).cursor) := by
  refine ⟨?_, ?_, ?_, ?_, ?_, ?_, ?_, ?_, ?_, ?_, ?_, ?_, ?_, ?_, ?_, ?_, ?_⟩ <;> try intro q
  all_goals first
    | (simp [sendTrainReq]; done)
    | (simp only [sendTrainReq]; (repeat' split) <;> simp)

@[simp] theorem fillSlot_keeps (i : Slot) (s : State) :
    (fillSlot i s).flow = s.flow ∧ (fillSlot i s).park = s.park ∧ (fillSlot i s).log = s.log ∧
    (fillSlot i s).timing = s.timing ∧ (fillSlot i s).nextEdge = s.nextEdge ∧ (fillSlot i s).chain = s.chain ∧
    (fillSlot i s).watches = s.watches ∧ (fillSlot i s).mgmt.msel = s.mgmt.msel ∧ (fillSlot i s).glob = s.glob ∧
    (fillSlot i s).pending = s.pending ∧ (∀ q, ((fillSlot i s).slot q).cfg = (s.slot q).cfg) ∧
    (∀ q, ((fillSlot i s).slot q).ing = (s.slot q).ing) ∧ (∀ q, ((fillSlot i s).slot q).edges = (s.slot q).edges) := by
  refine ⟨?_, ?_, ?_, ?_, ?_, ?_, ?_, ?_, ?_, ?_, ?_, ?_, ?_⟩ <;> try intro q
  all_goals first
    | (simp [fillSlot]; done)
    | (simp only [fillSlot]; (repeat' split) <;> simp)

@[simp] theorem wordSlot_keeps (i : Slot) (s : State) :
    (wordSlot i s).flow = s.flow ∧ (wordSlot i s).park = s.park ∧ (wordSlot i s).log = s.log ∧
    (wordSlot i s).timing = s.timing ∧ (wordSlot i s).nextEdge = s.nextEdge ∧ (wordSlot i s).chain = s.chain ∧
    (wordSlot i s).watches = s.watches ∧ (wordSlot i s).mgmt.msel = s.mgmt.msel ∧ (wordSlot i s).glob = s.glob ∧
    (wordSlot i s).pending = s.pending ∧ (∀ q, ((wordSlot i s).slot q).cfg = (s.slot q).cfg) ∧
    (∀ q, ((wordSlot i s).slot q).ing = (s.slot q).ing) ∧ (∀ q, ((wordSlot i s).slot q).edges = (s.slot q).edges) := by
  refine ⟨?_, ?_, ?_, ?_, ?_, ?_, ?_, ?_, ?_, ?_, ?_, ?_, ?_⟩ <;> try intro q
  all_goals first
    | (simp [wordSlot]; done)
    | (simp only [wordSlot]; (repeat' split) <;> simp)

@[simp] theorem giveReply_keeps (p : ReplyParcel) (s : State) :
    (giveReply p s).flow = s.flow ∧ (giveReply p s).pool = s.pool ∧ (giveReply p s).park = s.park ∧
    (giveReply p s).log = s.log ∧ (giveReply p s).timing = s.timing ∧ (giveReply p s).nextEdge = s.nextEdge ∧
    (giveReply p s).chain = s.chain ∧ (giveReply p s).watches = s.watches ∧ (giveReply p s).alarm = s.alarm ∧
    (giveReply p s).mgmt.msel = s.mgmt.msel ∧ (giveReply p s).glob = s.glob ∧ (giveReply p s).pending = s.pending ∧
    (∀ q, ((giveReply p s).slot q).cfg = (s.slot q).cfg) ∧ (∀ q, ((giveReply p s).slot q).ing = (s.slot q).ing) ∧
    (∀ q, ((giveReply p s).slot q).egr = (s.slot q).egr) ∧ (∀ q, ((giveReply p s).slot q).edges = (s.slot q).edges) ∧
    (∀ q, ((giveReply p s).slot q).cursor = (s.slot q).cursor) := by
  refine ⟨?_, ?_, ?_, ?_, ?_, ?_, ?_, ?_, ?_, ?_, ?_, ?_, ?_, ?_, ?_, ?_, ?_⟩ <;> try intro q
  all_goals first
    | (simp [giveReply]; done)
    | (simp only [giveReply]; (repeat' split) <;> simp)

@[simp] theorem takeRequest_keeps (rest : List Request) (s : State) :
    (takeRequest rest s).flow = s.flow ∧ (takeRequest rest s).pool = s.pool ∧ (takeRequest rest s).park = s.park ∧
    (takeRequest rest s).log = s.log ∧ (takeRequest rest s).timing = s.timing ∧
    (takeRequest rest s).nextEdge = s.nextEdge ∧ (takeRequest rest s).chain = s.chain ∧
    (takeRequest rest s).watches = s.watches ∧ (takeRequest rest s).alarm = s.alarm ∧
    (takeRequest rest s).mgmt.msel = s.mgmt.msel ∧ (takeRequest rest s).glob = s.glob ∧
    (takeRequest rest s).pending = s.pending ∧ (∀ q, ((takeRequest rest s).slot q).cfg = (s.slot q).cfg) ∧
    (∀ q, ((takeRequest rest s).slot q).port = (s.slot q).port) ∧
    (∀ q, ((takeRequest rest s).slot q).ing = (s.slot q).ing) ∧
    (∀ q, ((takeRequest rest s).slot q).egr = (s.slot q).egr) ∧
    (∀ q, ((takeRequest rest s).slot q).ctl = (s.slot q).ctl) ∧
    (∀ q, ((takeRequest rest s).slot q).edges = (s.slot q).edges) ∧
    (∀ q, ((takeRequest rest s).slot q).cursor = (s.slot q).cursor) := by
  refine ⟨?_, ?_, ?_, ?_, ?_, ?_, ?_, ?_, ?_, ?_, ?_, ?_, ?_, ?_, ?_, ?_, ?_, ?_, ?_⟩ <;> try intro q
  all_goals first
    | (simp [takeRequest]; done)
    | (simp only [takeRequest]; (repeat' split) <;> simp)

@[simp] theorem offerRaised_keeps (i : Slot) (c : Cls) (old new : Nat) (s : State) :
    (offerRaised i c old new s).flow = s.flow ∧ (offerRaised i c old new s).park = s.park ∧
    (offerRaised i c old new s).timing = s.timing ∧ (offerRaised i c old new s).nextEdge = s.nextEdge ∧
    (offerRaised i c old new s).chain = s.chain ∧ (offerRaised i c old new s).watches = s.watches ∧
    (offerRaised i c old new s).mgmt.msel = s.mgmt.msel ∧ (offerRaised i c old new s).glob = s.glob ∧
    (offerRaised i c old new s).pending = s.pending ∧
    (∀ q, ((offerRaised i c old new s).slot q).cfg = (s.slot q).cfg) ∧
    (∀ q, ((offerRaised i c old new s).slot q).edges = (s.slot q).edges) ∧
    (∀ q, ((offerRaised i c old new s).slot q).cursor = (s.slot q).cursor) := by
  refine ⟨?_, ?_, ?_, ?_, ?_, ?_, ?_, ?_, ?_, ?_, ?_, ?_⟩ <;> try intro q
  all_goals first
    | (simp [offerRaised]; done)
    | (simp only [offerRaised]; (repeat' split) <;> simp)

@[simp] theorem writeSlot_keeps (i : Slot) (c : SlotSettings) (s : State) :
    (writeSlot i c s).flow = s.flow ∧ (writeSlot i c s).park = s.park ∧ (writeSlot i c s).timing = s.timing ∧
    (writeSlot i c s).nextEdge = s.nextEdge ∧ (writeSlot i c s).chain = s.chain ∧
    (writeSlot i c s).watches = s.watches ∧ (writeSlot i c s).mgmt.msel = s.mgmt.msel ∧
    (writeSlot i c s).glob = s.glob ∧ (writeSlot i c s).pending = s.pending ∧
    (∀ q, ((writeSlot i c s).slot q).cursor = (s.slot q).cursor) := by
  refine ⟨?_, ?_, ?_, ?_, ?_, ?_, ?_, ?_, ?_, ?_⟩ <;> try intro q
  all_goals first
    | (simp [writeSlot]; done)
    | (simp only [writeSlot]; (repeat' split) <;> simp)

@[simp] theorem putFlow_keeps (k : Nat) (e : FlowEntry) (s : State) :
    (putFlow k e s).pool = s.pool ∧ (putFlow k e s).park = s.park ∧ (putFlow k e s).log = s.log ∧
    (putFlow k e s).timing = s.timing ∧ (putFlow k e s).nextEdge = s.nextEdge ∧ (putFlow k e s).chain = s.chain ∧
    (putFlow k e s).watches = s.watches ∧ (putFlow k e s).alarm = s.alarm ∧ (putFlow k e s).mgmt = s.mgmt ∧
    (putFlow k e s).glob = s.glob ∧ (putFlow k e s).pending = s.pending ∧
    (∀ q, ((putFlow k e s).slot q).cfg = (s.slot q).cfg) ∧ (∀ q, ((putFlow k e s).slot q).port = (s.slot q).port) ∧
    (∀ q, ((putFlow k e s).slot q).ing = (s.slot q).ing) ∧ (∀ q, ((putFlow k e s).slot q).egr = (s.slot q).egr) ∧
    (∀ q, ((putFlow k e s).slot q).ctl = (s.slot q).ctl) ∧ (∀ q, ((putFlow k e s).slot q).edges = (s.slot q).edges) ∧
    (∀ q, ((putFlow k e s).slot q).cursor = (s.slot q).cursor) := by
  refine ⟨?_, ?_, ?_, ?_, ?_, ?_, ?_, ?_, ?_, ?_, ?_, ?_, ?_, ?_, ?_, ?_, ?_, ?_⟩ <;> try intro q
  all_goals first
    | (simp [putFlow]; done)
    | (simp only [putFlow]; (repeat' split) <;> simp)

@[simp] theorem judgePolarity_keeps (old : GlobalSettings) (n : Fin 8) (s : State) :
    (judgePolarity old n s).flow = s.flow ∧ (judgePolarity old n s).pool = s.pool ∧
    (judgePolarity old n s).park = s.park ∧ (judgePolarity old n s).log = s.log ∧
    (judgePolarity old n s).timing = s.timing ∧ (judgePolarity old n s).nextEdge = s.nextEdge ∧
    (judgePolarity old n s).chain = s.chain ∧ (judgePolarity old n s).watches = s.watches ∧
    (judgePolarity old n s).mgmt = s.mgmt ∧ (judgePolarity old n s).glob = s.glob ∧
    (judgePolarity old n s).pending = s.pending ∧ (∀ q, ((judgePolarity old n s).slot q).cfg = (s.slot q).cfg) ∧
    (∀ q, ((judgePolarity old n s).slot q).port = (s.slot q).port) ∧
    (∀ q, ((judgePolarity old n s).slot q).ing = (s.slot q).ing) ∧
    (∀ q, ((judgePolarity old n s).slot q).egr = (s.slot q).egr) ∧
    (∀ q, ((judgePolarity old n s).slot q).ctl = (s.slot q).ctl) ∧
    (∀ q, ((judgePolarity old n s).slot q).edges = (s.slot q).edges) ∧
    (∀ q, ((judgePolarity old n s).slot q).cursor = (s.slot q).cursor) := by
  refine ⟨?_, ?_, ?_, ?_, ?_, ?_, ?_, ?_, ?_, ?_, ?_, ?_, ?_, ?_, ?_, ?_, ?_, ?_⟩ <;> try intro q
  all_goals first
    | (simp [judgePolarity]; done)
    | (simp only [judgePolarity]; (repeat' split) <;> simp)

@[simp] theorem writeGlobal_keeps (g : GlobalSettings) (s : State) :
    (writeGlobal g s).flow = s.flow ∧ (writeGlobal g s).pool = s.pool ∧ (writeGlobal g s).park = s.park ∧
    (writeGlobal g s).timing = s.timing ∧ (writeGlobal g s).chain = s.chain ∧ (writeGlobal g s).watches = s.watches ∧
    (writeGlobal g s).mgmt.msel = s.mgmt.msel ∧ (writeGlobal g s).pending = s.pending ∧
    (∀ q, ((writeGlobal g s).slot q).cfg = (s.slot q).cfg) ∧
    (∀ q, ((writeGlobal g s).slot q).port = (s.slot q).port) ∧
    (∀ q, ((writeGlobal g s).slot q).ing = (s.slot q).ing) ∧ (∀ q, ((writeGlobal g s).slot q).egr = (s.slot q).egr) ∧
    (∀ q, ((writeGlobal g s).slot q).ctl = (s.slot q).ctl) ∧
    (∀ q, ((writeGlobal g s).slot q).cursor = (s.slot q).cursor) := by
  refine ⟨?_, ?_, ?_, ?_, ?_, ?_, ?_, ?_, ?_, ?_, ?_, ?_, ?_, ?_⟩ <;> try intro q
  all_goals first
    | (simp [writeGlobal]; done)
    | (simp only [writeGlobal]; (repeat' split) <;> simp)

@[simp] theorem postRestarted_keeps (inst param : Nat) (s : State) :
    (postRestarted inst param s).flow = s.flow ∧ (postRestarted inst param s).pool = s.pool ∧
    (postRestarted inst param s).park = s.park ∧ (postRestarted inst param s).log = s.log ∧
    (postRestarted inst param s).timing = s.timing ∧ (postRestarted inst param s).nextEdge = s.nextEdge ∧
    (postRestarted inst param s).chain = s.chain ∧ (postRestarted inst param s).watches = s.watches ∧
    (postRestarted inst param s).mgmt.msel = s.mgmt.msel ∧ (postRestarted inst param s).glob = s.glob ∧
    (postRestarted inst param s).pending = s.pending ∧
    (∀ q, ((postRestarted inst param s).slot q).cfg = (s.slot q).cfg) ∧
    (∀ q, ((postRestarted inst param s).slot q).port = (s.slot q).port) ∧
    (∀ q, ((postRestarted inst param s).slot q).ing = (s.slot q).ing) ∧
    (∀ q, ((postRestarted inst param s).slot q).egr = (s.slot q).egr) ∧
    (∀ q, ((postRestarted inst param s).slot q).ctl = (s.slot q).ctl) ∧
    (∀ q, ((postRestarted inst param s).slot q).edges = (s.slot q).edges) ∧
    (∀ q, ((postRestarted inst param s).slot q).cursor = (s.slot q).cursor) := by
  refine ⟨?_, ?_, ?_, ?_, ?_, ?_, ?_, ?_, ?_, ?_, ?_, ?_, ?_, ?_, ?_, ?_, ?_, ?_⟩ <;> try intro q
  all_goals first
    | (simp [postRestarted]; done)
    | (simp only [postRestarted]; (repeat' split) <;> simp)

@[simp] theorem timingRestartAll_keeps (s : State) :
    (timingRestartAll s).flow = s.flow ∧ (timingRestartAll s).pool = s.pool ∧ (timingRestartAll s).park = s.park ∧
    (timingRestartAll s).log = s.log ∧ (timingRestartAll s).chain = s.chain ∧
    (timingRestartAll s).watches = s.watches ∧ (timingRestartAll s).mgmt.msel = s.mgmt.msel ∧
    (timingRestartAll s).glob = s.glob ∧ (timingRestartAll s).pending = s.pending ∧
    (∀ q, ((timingRestartAll s).slot q).cfg = (s.slot q).cfg) ∧
    (∀ q, ((timingRestartAll s).slot q).port = (s.slot q).port) ∧
    (∀ q, ((timingRestartAll s).slot q).ing = (s.slot q).ing) ∧
    (∀ q, ((timingRestartAll s).slot q).egr = (s.slot q).egr) ∧
    (∀ q, ((timingRestartAll s).slot q).ctl = (s.slot q).ctl) ∧
    (∀ q, ((timingRestartAll s).slot q).cursor = (s.slot q).cursor) := by
  refine ⟨?_, ?_, ?_, ?_, ?_, ?_, ?_, ?_, ?_, ?_, ?_, ?_, ?_, ?_, ?_⟩ <;> try intro q
  all_goals first
    | (simp [timingRestartAll]; done)
    | (simp only [timingRestartAll]; (repeat' split) <;> simp)

@[simp] theorem fabricSlot_keeps (i : Slot) (s : State) :
    (fabricSlot i s).flow = s.flow ∧ (fabricSlot i s).pool = s.pool ∧ (fabricSlot i s).park = s.park ∧
    (fabricSlot i s).log = s.log ∧ (fabricSlot i s).timing = s.timing ∧ (fabricSlot i s).nextEdge = s.nextEdge ∧
    (fabricSlot i s).chain = s.chain ∧ (fabricSlot i s).watches = s.watches ∧ (fabricSlot i s).alarm = s.alarm ∧
    (fabricSlot i s).mgmt = s.mgmt ∧ (fabricSlot i s).glob = s.glob ∧ (fabricSlot i s).pending = s.pending ∧
    (∀ q, ((fabricSlot i s).slot q).cfg = (s.slot q).cfg) ∧ (∀ q, ((fabricSlot i s).slot q).ctl = (s.slot q).ctl) ∧
    (∀ q, ((fabricSlot i s).slot q).edges = (s.slot q).edges) ∧
    (∀ q, ((fabricSlot i s).slot q).cursor = (s.slot q).cursor) := by
  refine ⟨?_, ?_, ?_, ?_, ?_, ?_, ?_, ?_, ?_, ?_, ?_, ?_, ?_, ?_, ?_, ?_⟩ <;> try intro q
  all_goals first
    | (simp [fabricSlot]; done)
    | (simp only [fabricSlot, slot_setSlot]; split <;> simp_all)

@[simp] theorem fabricPool_keeps (s : State) :
    (fabricPool s).flow = s.flow ∧ (fabricPool s).park = s.park ∧ (fabricPool s).log = s.log ∧
    (fabricPool s).timing = s.timing ∧ (fabricPool s).nextEdge = s.nextEdge ∧ (fabricPool s).chain = s.chain ∧
    (fabricPool s).watches = s.watches ∧ (fabricPool s).mgmt.msel = s.mgmt.msel ∧ (fabricPool s).glob = s.glob ∧
    (fabricPool s).pending = s.pending ∧ (∀ q, ((fabricPool s).slot q).cfg = (s.slot q).cfg) ∧
    (∀ q, ((fabricPool s).slot q).port = (s.slot q).port) ∧ (∀ q, ((fabricPool s).slot q).ing = (s.slot q).ing) ∧
    (∀ q, ((fabricPool s).slot q).egr = (s.slot q).egr) ∧ (∀ q, ((fabricPool s).slot q).ctl = (s.slot q).ctl) ∧
    (∀ q, ((fabricPool s).slot q).edges = (s.slot q).edges) ∧
    (∀ q, ((fabricPool s).slot q).cursor = (s.slot q).cursor) := by
  refine ⟨?_, ?_, ?_, ?_, ?_, ?_, ?_, ?_, ?_, ?_, ?_, ?_, ?_, ?_, ?_, ?_, ?_⟩ <;> try intro q
  all_goals first
    | (simp [fabricPool]; done)
    | (simp only [fabricPool]; (repeat' split) <;> simp)

@[simp] theorem fabricRestart_keeps (s : State) :
    (fabricRestart s).flow = s.flow ∧ (fabricRestart s).nextEdge = s.nextEdge ∧
    (fabricRestart s).mgmt.msel = s.mgmt.msel ∧ (fabricRestart s).glob = s.glob ∧
    (fabricRestart s).pending = s.pending ∧ (∀ q, ((fabricRestart s).slot q).cfg = (s.slot q).cfg) ∧
    (∀ q, ((fabricRestart s).slot q).edges = (s.slot q).edges) := by
  refine ⟨?_, ?_, ?_, ?_, ?_, ?_, ?_⟩ <;> try intro q
  all_goals first
    | (simp [fabricRestart]; done)
    | (simp only [fabricRestart]; (repeat' split) <;> simp)

@[simp] theorem takeUptime_keeps (s : State) :
    (takeUptime s).flow = s.flow ∧ (takeUptime s).pool = s.pool ∧ (takeUptime s).park = s.park ∧
    (takeUptime s).log = s.log ∧ (takeUptime s).nextEdge = s.nextEdge ∧ (takeUptime s).chain = s.chain ∧
    (takeUptime s).watches = s.watches ∧ (takeUptime s).alarm = s.alarm ∧ (takeUptime s).mgmt = s.mgmt ∧
    (takeUptime s).glob = s.glob ∧ (takeUptime s).pending = s.pending ∧
    (∀ q, ((takeUptime s).slot q).cfg = (s.slot q).cfg) ∧ (∀ q, ((takeUptime s).slot q).ing = (s.slot q).ing) ∧
    (∀ q, ((takeUptime s).slot q).egr = (s.slot q).egr) ∧ (∀ q, ((takeUptime s).slot q).ctl = (s.slot q).ctl) ∧
    (∀ q, ((takeUptime s).slot q).edges = (s.slot q).edges) ∧
    (∀ q, ((takeUptime s).slot q).cursor = (s.slot q).cursor) := by
  refine ⟨?_, ?_, ?_, ?_, ?_, ?_, ?_, ?_, ?_, ?_, ?_, ?_, ?_, ?_, ?_, ?_, ?_⟩ <;> try intro q
  all_goals first
    | (simp [takeUptime]; done)
    | (simp only [takeUptime]; (repeat' split) <;> simp)

@[simp] theorem corePeriod_keeps (s : State) :
    (corePeriod s).flow = s.flow ∧ (corePeriod s).nextEdge = s.nextEdge ∧ (corePeriod s).mgmt.msel = s.mgmt.msel ∧
    (corePeriod s).glob = s.glob ∧ (corePeriod s).pending = s.pending ∧
    (∀ q, ((corePeriod s).slot q).cfg = (s.slot q).cfg) ∧ (∀ q, ((corePeriod s).slot q).edges = (s.slot q).edges) := by
  refine ⟨?_, ?_, ?_, ?_, ?_, ?_, ?_⟩ <;> try intro q
  all_goals first
    | (simp [corePeriod]; done)
    | (simp only [corePeriod]; (repeat' split) <;> simp)

@[simp] theorem contactGone_keeps (i : Slot) (k : Contact) (s : State) :
    (contactGone i k s).flow = s.flow ∧ (contactGone i k s).nextEdge = s.nextEdge ∧
    (contactGone i k s).chain = s.chain ∧ (contactGone i k s).mgmt.msel = s.mgmt.msel ∧
    (contactGone i k s).glob = s.glob ∧ (contactGone i k s).pending = s.pending ∧
    (∀ q, ((contactGone i k s).slot q).cfg = (s.slot q).cfg) ∧
    (∀ q, ((contactGone i k s).slot q).edges = (s.slot q).edges) := by
  refine ⟨?_, ?_, ?_, ?_, ?_, ?_, ?_, ?_⟩ <;> try intro q
  all_goals first
    | (simp [contactGone]; done)
    | (simp only [contactGone]; (repeat' split) <;> simp)

@[simp] theorem judgeCardAlarm_keeps (i : Slot) (was : Bool) (s : State) :
    (judgeCardAlarm i was s).flow = s.flow ∧ (judgeCardAlarm i was s).pool = s.pool ∧
    (judgeCardAlarm i was s).park = s.park ∧ (judgeCardAlarm i was s).log = s.log ∧
    (judgeCardAlarm i was s).timing = s.timing ∧ (judgeCardAlarm i was s).nextEdge = s.nextEdge ∧
    (judgeCardAlarm i was s).chain = s.chain ∧ (judgeCardAlarm i was s).watches = s.watches ∧
    (judgeCardAlarm i was s).mgmt.msel = s.mgmt.msel ∧ (judgeCardAlarm i was s).glob = s.glob ∧
    (judgeCardAlarm i was s).pending = s.pending ∧ (∀ q, ((judgeCardAlarm i was s).slot q).cfg = (s.slot q).cfg) ∧
    (∀ q, ((judgeCardAlarm i was s).slot q).port = (s.slot q).port) ∧
    (∀ q, ((judgeCardAlarm i was s).slot q).ing = (s.slot q).ing) ∧
    (∀ q, ((judgeCardAlarm i was s).slot q).egr = (s.slot q).egr) ∧
    (∀ q, ((judgeCardAlarm i was s).slot q).ctl = (s.slot q).ctl) ∧
    (∀ q, ((judgeCardAlarm i was s).slot q).edges = (s.slot q).edges) ∧
    (∀ q, ((judgeCardAlarm i was s).slot q).cursor = (s.slot q).cursor) := by
  refine ⟨?_, ?_, ?_, ?_, ?_, ?_, ?_, ?_, ?_, ?_, ?_, ?_, ?_, ?_, ?_, ?_, ?_, ?_⟩ <;> try intro q
  all_goals first
    | (simp [judgeCardAlarm]; done)
    | (simp only [judgeCardAlarm]; (repeat' split) <;> simp)

@[simp] theorem setInput_keeps (s : State) (n : Fin 8) (x : CabInput) :
    (s.setInput n x).flow = s.flow ∧ (s.setInput n x).pool = s.pool ∧ (s.setInput n x).park = s.park ∧
    (s.setInput n x).log = s.log ∧ (s.setInput n x).timing = s.timing ∧ (s.setInput n x).nextEdge = s.nextEdge ∧
    (s.setInput n x).chain = s.chain ∧ (s.setInput n x).watches = s.watches ∧ (s.setInput n x).mgmt = s.mgmt ∧
    (s.setInput n x).glob = s.glob ∧ (s.setInput n x).pending = s.pending ∧
    (∀ q, ((s.setInput n x).slot q).cfg = (s.slot q).cfg) ∧ (∀ q, ((s.setInput n x).slot q).port = (s.slot q).port) ∧
    (∀ q, ((s.setInput n x).slot q).ing = (s.slot q).ing) ∧ (∀ q, ((s.setInput n x).slot q).egr = (s.slot q).egr) ∧
    (∀ q, ((s.setInput n x).slot q).ctl = (s.slot q).ctl) ∧
    (∀ q, ((s.setInput n x).slot q).edges = (s.slot q).edges) ∧
    (∀ q, ((s.setInput n x).slot q).cursor = (s.slot q).cursor) := by
  refine ⟨?_, ?_, ?_, ?_, ?_, ?_, ?_, ?_, ?_, ?_, ?_, ?_, ?_, ?_, ?_, ?_, ?_, ?_⟩ <;> try intro q
  all_goals first
    | (simp [State.setInput]; done)
    | (simp only [State.setInput]; (repeat' split) <;> simp)

end Sys2Proof.Machine
end

