-- ==== Sys2Proof/Laws/Settle.lean ====
section
/-! SUPPORT. When the egress-empty reports at the end of a command change nothing. -/

namespace Sys2Proof.Machine

/-- With no DRAINING slot whose egress is empty, the reports change nothing. -/
theorem settleDrains_of_settled {s : State} (h : s.drained = none) : settleDrains s = s := by
  unfold settleDrains settleRounds
  rw [h]

/-- The reports have nothing to do after a command that leaves slot states and egresses alone and takes no reply away. -/
theorem drained_none_of_same {s t : State} (h : s.drained = none)
    (hp : ∀ i, (t.slot i).ctl.phase = (s.slot i).ctl.phase) (he : ∀ i, (t.slot i).egr = (s.slot i).egr)
    (hm : t.mgmt.msel = s.mgmt.msel) (hc : t.mgmt.claim = s.mgmt.claim)
    (hr : t.mgmt.replies = [] → s.mgmt.replies = []) : t.drained = none := by
  unfold State.drained at *
  rw [List.find?_eq_none] at *
  intro i hi
  have hs := h i hi
  have hslot : t.mgmtSlot = s.mgmtSlot := by unfold State.mgmtSlot; rw [hm]
  simp only [State.egressEmpty, hp, he, hslot, hc, Bool.and_eq_true, Bool.or_eq_true, List.isEmpty_iff] at *
  intro ⟨h1, h2, h3⟩
  exact hs ⟨h1, h2, h3.imp id (fun ⟨a, b⟩ => ⟨hr a, b⟩)⟩

/-- The same, for a command whose only effect on the management unit is parcels added to the reply queue. -/
theorem drained_none_of_grow {s t : State} (h : s.drained = none)
    (hp : ∀ i, (t.slot i).ctl.phase = (s.slot i).ctl.phase) (he : ∀ i, (t.slot i).egr = (s.slot i).egr)
    (hm : RepliesGrow s t) : t.drained = none := by
  obtain ⟨l, hm⟩ := hm
  refine drained_none_of_same h hp he ?_ ?_ ?_ <;> rw [hm]
  intro e
  exact (List.append_eq_nil_iff.mp e).1

end Sys2Proof.Machine
end

