-- ==== Sys2Proof/Laws/WordSlots.lean ====
section
/-! SUPPORT. The word slot of a link: a word put on it takes the slot, and in a slot that is taken no operation that sends a
word does anything (R1, R8). -/

namespace Sys2Proof.Machine

variable {i : Slot} {s : State}

theorem slotFree_eq_false (h : (s.slot i).port.slotTaken = true) : s.slotFree i = false := by simp [State.slotFree, h]

theorem parcelSlot_eq_false (h : (s.slot i).port.slotTaken = true) : s.parcelSlot i = false := by
  simp [State.parcelSlot, slotFree_eq_false h]

theorem sendHoldMark_taken (h : (s.slot i).port.slotTaken = true) : sendHoldMark i s = s := by
  simp [sendHoldMark, slotFree_eq_false h]

theorem sendRest_taken (h : (s.slot i).port.slotTaken = true) : sendRest i s = s := by
  simp [sendRest, slotFree_eq_false h]

theorem sendWake_taken (h : (s.slot i).port.slotTaken = true) : sendWake i s = s := by
  simp [sendWake, slotFree_eq_false h]

theorem sendTrainReq_taken (h : (s.slot i).port.slotTaken = true) : sendTrainReq i s = s := by
  simp only [sendTrainReq]
  split <;> simp [slotFree_eq_false h]

theorem sendSuspend_taken (h : (s.slot i).port.slotTaken = true) : sendSuspend i s = s := by
  unfold sendSuspend
  split <;> simp [slotFree_eq_false h]

theorem sendContinue_taken (h : (s.slot i).port.slotTaken = true) : sendContinue i s = s := by
  unfold sendContinue
  split <;> simp [slotFree_eq_false h]

theorem sendParcelWord_taken (h : (s.slot i).port.slotTaken = true) : sendParcelWord i s = s := by
  simp only [sendParcelWord, parcelSlot_eq_false h]
  split <;> simp

theorem departNext_taken (h : (s.slot i).port.slotTaken = true) : departNext i s = s := by
  simp only [departNext, parcelSlot_eq_false h]
  split <;> try split
  all_goals simp

theorem mayEnd_eq_false (p : TxParcel) (h : (s.slot i).port.slotTaken = true) : s.mayEnd i p = false := by
  simp [State.mayEnd, parcelSlot_eq_false h]

end Sys2Proof.Machine
end

