-- ==== Sys2Proof/WellFormed.lean ====
section
/-! DEFINITION. Which commands the links can carry: the checks on operands that the types do not make. -/

namespace Sys2Proof

/-- Codes of the four marks that have a row of their own: HOLD-OFF, RESUME, TRAIN-ECHO, AWAKE (R184). -/
def ownRowMarks : List Nat := [1, 2, 6, 9]

/-- A command is well formed when
1. a complete management request or time-of-day parcel has at most 255 payload words (R2);
2. PENDING_SERVED names a CONTROL or BULK queue, since STREAM queues have no pending parcels (R33, R42);
3. MARK_WORD carries none of the four marks that have a row of their own (R7, R184). -/
def Instr.wf : Instr → Bool
  | .mgmtRequest _ payload => payload.length ≤ 255
  | .timeOfDayParcel _ payload => payload.length ≤ 255
  | .pendingServed _ c => c != .stream
  | .markWord _ w => !ownRowMarks.contains (w.extractLsb' 24 8).toNat
  | _ => true

end Sys2Proof
end

