-- ==== Sys2Proof/Tests/Slice0.lean ====
section
/-! SUPPORT. Tests: what WellFormed refuses, worked examples of the manual, and for every statement with hypotheses a
state and operands that meet them. -/

namespace Sys2Proof.Tests

open Sys2Proof Sys2Proof.Machine

/-! ## WellFormed refuses -/

theorem test_wf_request_too_long (ws : List Word) (h : ws.length = 256) : (Instr.mgmtRequest 0 ws).wf = false := by
  simp [Instr.wf, h]
theorem test_wf_request_longest (ws : List Word) (h : ws.length = 255) : (Instr.mgmtRequest 0 ws).wf = true := by
  simp [Instr.wf, h]
theorem test_wf_time_of_day_too_long (ws : List Word) (h : ws.length = 256) :
    (Instr.timeOfDayParcel 0 ws).wf = false := by
  simp [Instr.wf, h]
theorem test_wf_pending_stream : (Instr.pendingServed 0 .stream).wf = false := by decide
theorem test_wf_mark_with_own_row : (Instr.markWord 0 0x01000000#32).wf = false := by decide
theorem test_wf_unknown_mark : (Instr.markWord 0 0xFF000000#32).wf = true := by decide
theorem test_overlong_request_is_refused (ws : List Word) (h : ws.length = 256) :
    exec (.mgmtRequest 0 ws) State.reset = .refused .overlongPayload := by
  simp [exec, execMgmtRequest, h]
theorem test_no_word_spells_a_command : decodeTableWord 32 0x12345678 = none := by decide

/-! ## Worked examples of the manual -/

/-- 02, worked sequence of a waiting parcel: length 40 takes 3 blocks. -/
theorem test_blocks_of_40 : blocksFor 40 = 3 := by decide
/-- 03, worked sequence of a head-drop: lengths 60, 70, 127, 130, 255 take 4, 5, 8, 9, 16 blocks. -/
theorem test_blocks_head_drop : [60, 70, 127, 130, 255].map blocksFor = [4, 5, 8, 9, 16] := by decide
/-- 06, rounding at a shift: ki 18 and L = −6 give −2, −1, −1, −2. -/
theorem test_shift_negative :
    [Rounding.nearestEven, .towardZero, .up, .down].map (fun m => shiftBy m (-6) 18) = [-2, -1, -1, -2] := by decide
/-- 06, rounding at a shift: L = +6 gives 2, 1, 2, 1. -/
theorem test_shift_positive :
    [Rounding.nearestEven, .towardZero, .up, .down].map (fun m => shiftBy m 6 18) = [2, 1, 2, 1] := by decide
/-- 06, a clamp: F = 655,360,000 gives D = 343,597. -/
theorem test_adjustment_at_clamp : adjOf .nearestEven 655360000 = 343597 := by decide
/-- 06, steps: 999,900,000 ns moved by +250,000 ns is 150,000 ns of the next second. -/
theorem test_step_forward :
    CabTime.move { sec := 7, ns := 999900000, frac := 5 } (nsUnits 250000) = { sec := 8, ns := 150000, frac := 5 } := by
  decide
/-- 06, steps: at seconds 2^48 − 1 the seconds wrap to 0. -/
theorem test_step_wraps :
    CabTime.move { sec := 281474976710655, ns := 999900000, frac := 5 } (nsUnits 250000)
      = { sec := 0, ns := 150000, frac := 5 } := by decide
/-- 06, R102: with offset +250 cabinet time is right when the pulse is captured at nanoseconds 250. -/
theorem test_lag_right : lagOf 250 250 = 0 := by decide
/-- R102: x of 500,000,000 becomes −500,000,000; x of −500,000,000 stays. -/
theorem test_lag_ends : lagOf 500000000 0 = -500000000 ∧ lagOf 0 500000000 = -500000000 := by decide
/-- 07, one edge to three slots: the edge at 1,000 s, 10,000,000 ns has number 673. -/
theorem test_edge_number : edgeNumber 10000000 1024 { sec := 1000, ns := 10000000, frac := 0 } = 673 := by decide
/-- 07, setting the time back: slot 3's first dispatch time after 9,650,000 is 9,798,750. -/
theorem test_schedule_kept :
    (makeSched 10000000 201250 { sec := 1000, ns := 10000000, frac := 0 } { sec := 1000, ns := 9650000, frac := 0 }).due
      = { sec := 1000, ns := 9798750, frac := 0 } := by decide
/-- 07, setting the time forward: at 9,950,000 edge 673 is skipped and the next dispatch time is 19,798,750. -/
theorem test_schedule_skipped :
    (makeSched 10000000 201250 { sec := 1000, ns := 10000000, frac := 0 } { sec := 1000, ns := 9950000, frac := 0 }).due
      = { sec := 1000, ns := 19798750, frac := 0 } := by decide
/-- R81: emptying raises a count of 1 to 4,096 and a count of 2,048 to 4,096. -/
theorem test_log_count : [1, 2048].map (fun n => (n + 4095) / 2048 * 2048) = [4096, 4096] := by decide
/-- R79: a handle of the record just reserved stands, and the same handle 256 records later does not. -/
theorem test_log_stands : logStands 256 3 4 4 = true ∧ logStands 256 3 4 260 = false := by decide
/-- R182, R183: the fields of a header word with every unused bit 1. -/
theorem test_header_fields :
    Header.ofWord 0b1111111_010_001100_00101000_00000111#32
      = { kind := 2, chan := 12, len := 40, tag := 7 } := by decide
/-- R184: TRAIN-REQ of exchange 5. -/
theorem test_train_req : trainReqWord 5 = 0x05050000#32 := by decide
/-- R186: an image that permits MGMT, bit 28 of word 0, is refused. -/
theorem test_flow_image_mgmt : flowImageOk [0x10000000#32, 0#32] = false ∧ flowImageOk [0x8F800000#32, 0#32] = true := by
  decide

/-! ## The first step after reset -/

theorem test_step_runs_the_front :
    step (State.reset.withPending [.uptimeAdvance, .awake 3]) = exec .uptimeAdvance (State.reset.withPending [.awake 3]) := by
  rfl

/-! ## Witnesses: for every statement with hypotheses, a state and operands that meet them -/

/-- The reset state with slot 2 changed. -/
def at2 (f : SlotState → SlotState) (s : State := State.reset) : State := s.setSlot 2 (f (s.slot 2))

/-- Slot 2 with its link in a state and its slot state. -/
def linked (ph : Phase) (l : LinkState) : State :=
  at2 (fun x => { x with port := { x.port with link := l }, ctl := { x.ctl with phase := ph, pwrEn := true } })

/-- Slot 2 ADMITTED with its link UP. -/
def up2 : State := linked .admitted .up

theorem witness_StepRunsFront :
    (State.reset.withPending [.fabricRestart, .awake 3]).pending = .fabricRestart :: [.awake 3] := rfl

/-- The state from which the invariants are shown to be met: after reset, with a command waiting. -/
def waits : State := State.reset.withPending [.uptimeAdvance]

theorem witness_waits_steps : ∃ t, step waits = .next t := ⟨_, rfl⟩
theorem witness_StepKeepsIndexesAndBounds :
    waits.parkOk ∧ waits.alarmIndexOk ∧ waits.logIndexOk ∧ waits.queuesOk := by
  unfold State.parkOk State.alarmIndexOk State.logIndexOk State.queuesOk
  decide
theorem witness_StepKeepsTimeInRange : waits.timeOk ∧ waits.uptimeOk := by
  refine ⟨⟨⟨?_, ?_, ?_⟩, ?_, ?_, ?_, ?_⟩, Or.inl ?_⟩ <;> decide
theorem witness_StepKeepsLoop : waits.loopOk ∧ waits.capturesOk := by
  refine ⟨⟨?_, ?_, ?_, ?_, ?_⟩, ?_⟩
  · decide
  · decide
  · decide
  · decide
  · decide
  · intro r; cases r <;> decide
theorem witness_StepKeepsRelays : waits.relaysOk ∧ waits.raisedOk := by
  unfold State.relaysOk State.raisedOk
  decide
theorem witness_StepKeepsRelays_reports :
    State.reset.isRaised causePoolLow 0 = false ∧ (State.reset.cause causePoolLow).enable = true ∧
    (raiseCond causePoolLow 0 5 State.reset).isRaised causePoolLow 0 = true := by decide
theorem witness_StepKeepsPoolLow : waits.poolLowOk := by
  refine ⟨?_, ?_, ?_⟩ <;> decide
theorem witness_StepKeepsPool : waits.poolOk := by
  refine ⟨by decide, by decide, by decide, ?_, ?_⟩
  · simp [waits, State.withPending, State.reset, Pool.reset]
  · simp [waits, State.withPending, State.reset, Pool.reset]
theorem witness_slot_ok : waits.linksOk ∧ waits.powerOk ∧ waits.chainsOk := by
  unfold State.linksOk State.powerOk State.chainsOk
  decide
theorem waits_timer : ∀ i, (waits.slot i).ctl.timer = none := by decide
theorem waits_waiting : ∀ i, (waits.slot i).ing.waiting = none := by decide
theorem waits_rest :
    ∀ i, (waits.slot i).ctl.sub = .awake ∧ (waits.slot i).ctl.restReq = false ∧ waits.isAwake i = false := by decide
theorem witness_rests : waits.restsOk := by
  intro i
  have h := waits_rest i
  refine ⟨fun n => absurd h.1 n, fun n => ?_, fun n => ?_⟩
  · rw [h.2.2] at n; cases n
  · rw [h.2.1] at n; cases n
theorem witness_StepKeepsSlots : waits.linksOk ∧ waits.powerOk ∧ waits.timersOk ∧ waits.restsOk ∧ waits.chainsOk :=
  ⟨witness_slot_ok.1, witness_slot_ok.2.1, fun i t h => (by rw [waits_timer i] at h; cases h), witness_rests,
   witness_slot_ok.2.2⟩
theorem witness_StepKeepsHolds : waits.holdsOk := by
  intro i
  have h : (waits.slot i).port.holdReq = (waits.slot i).ing.waiting.isSome := by revert i; decide
  exact ⟨h, fun w e => by rw [waits_waiting i] at e; cases e⟩
theorem witness_StepKeepsTraffic : waits.linksOk ∧ waits.restsOk ∧ waits.chainsOk ∧ waits.trafficOk := by
  refine ⟨witness_slot_ok.1, witness_rests, witness_slot_ok.2.2, ?_, ?_, ?_⟩
  · decide
  · intro j w d e
    rw [waits_waiting j] at e; cases e
  · decide
theorem witness_StepKeepsFaults : waits.faultsOk ∧ waits.heldOk := by
  unfold State.faultsOk State.heldOk
  decide
theorem waits_idle : ∀ i, (waits.slot i).egr = Egress.reset ∧ (waits.slot i).ing = Ingress.reset ∧
    (waits.slot i).port.rx = .awaitHeader := by decide
theorem witness_sends : waits.sendsOk := by
  intro i
  simp [(waits_idle i).1, Egress.reset, Tx.parcels, Tx.main]
theorem witness_StepKeepsSettled :
    waits.linksOk ∧ waits.restsOk ∧ waits.chainsOk ∧ waits.trafficOk ∧ waits.sendsOk ∧ waits.settled :=
  ⟨witness_slot_ok.1, witness_rests, witness_slot_ok.2.2, witness_StepKeepsTraffic.2.2.2, witness_sends,
   (show waits.drained = none by decide)⟩
theorem witness_StepKeepsHoldCounts :
    waits.linksOk ∧ waits.restsOk ∧ waits.chainsOk ∧ waits.trafficOk ∧ waits.sendsOk ∧ waits.countsOk := by
  refine ⟨witness_slot_ok.1, witness_rests, witness_slot_ok.2.2, witness_StepKeepsTraffic.2.2.2, witness_sends, ?_, ?_, ?_, ?_⟩
  · intro i
    simp [(waits_idle i).2.1, (waits_idle i).2.2, Ingress.reset]
  · intro pid p h
    cases h
  · intro pid _
    simp [State.holdCount, waits_idle, Egress.reset, Ingress.reset, Ingress.holds]
  · intro pid _
    rfl

/-- Slot 2 powered, with its short contact made or not and PWR-GOOD active or not. -/
def powered (short good : Bool) : State :=
  at2 (fun x => { x with ctl := { x.ctl with
    phase := .admitted, pwrEn := true, presL := true, presS := short, pwrGood := good } })

theorem witness_ResetsLeave :
    (∀ i, KeepsPower false true (powered true true) i = false) ∧ KeepsPower true true (powered true true) 2 = true ∧
    LosesPower true true (powered true false) 2 = true ∧ KeepsPower true true (powered false true) 2 = true ∧
    (∀ i, LosesPower true true (powered true true) i = false) ∧ (powered true true).alarm.idx < 127 := by decide

/-! ### Words from the cards -/

/-- A flow entry that passes SAMPLE parcels as CONTROL to slots 2 and 5. -/
def passEntry : FlowEntry := { FlowEntry.zero with valid := true, kinds := 1, dest := 0x24, cls := 1, egress := 20 }
/-- A reception of a parcel of length 3. -/
def rcp (f : Fate) (e : FlowEntry) : Reception :=
  { hdr := { kind := 0, chan := 0, len := 3, tag := 9 }, stamp := { sec := 0, ns := 0 }, entry := e, log := none, fate := f,
    enq := 0, disc := 0 }
/-- A stored CONTROL parcel of 3 words with a reference count. -/
def box (refs : Nat) : Stored :=
  { hdr := { kind := 0, chan := 0, len := 3, tag := 9 }, cls := .control, egress := 20, owner := 4, nBlocks := 1,
    blocks := [7], words := [11, 12, 13], isOpen := false, refs := refs }
/-- A state whose pool stores one parcel, handle 0. -/
def stores (refs : Nat) (s : State) : State := s.modPool (fun q => { q with parcels := [(0, box refs)], nextId := 1 })

theorem awaits_header {s : State} (h : (s.slot 2).port.rx = .awaitHeader) :
    ∀ w n c, (s.slot 2).port.rx ≠ .inParcel w n c := by
  intro w n c; rw [h]; nofun

theorem witness_HeaderAtInvalidEntryIsRefused :
    up2.framing 2 = true ∧ (∀ h n c, (up2.slot 2).port.rx ≠ .inParcel h n c) ∧ up2.settled ∧
    up2.isMgmtParcel 2 (Header.ofWord 0x0000FF00#32) = false ∧ up2.isTodParcel 2 (Header.ofWord 0x0000FF00#32) = false ∧
    (up2.flowAt ((2 : Slot).val * 64 + (Header.ofWord 0x0000FF00#32).chan.toNat)).valid = false ∧
    up2.glob.alarmUnknown = false ∧ ({ up2 with glob := { up2.glob with alarmUnknown := true } } : State).framing 2 = true :=
  ⟨by decide, awaits_header (by decide), (show up2.drained = none by decide), by decide, by decide, by decide, by decide,
   by decide⟩

/-- The entry of channel 0 of slot 2 listed, with just the 16 free blocks that the longest parcel takes. -/
def passes : State := { up2 with flow := [(128, passEntry)], pool := { up2.pool with freeCount := 16 } }

theorem witness_PassedParcelsAreStored :
    passEntry = passes.flowAt ((2 : Slot).val * 64 + (Header.ofWord 0x0000FF00#32).chan.toNat) ∧
    passes.framing 2 = true ∧ (∀ h n c, (passes.slot 2).port.rx ≠ .inParcel h n c) ∧ passes.settled ∧
    passes.isMgmtParcel 2 (Header.ofWord 0x0000FF00#32) = false ∧
    passes.isTodParcel 2 (Header.ofWord 0x0000FF00#32) = false ∧
    passEntry.valid = true ∧ passEntry.log = false ∧ passEntry.park = false ∧
    (Header.ofWord 0x0000FF00#32).kind.toNat < 6 ∧ passEntry.permits (Header.ofWord 0x0000FF00#32).kind = true ∧
    ((Header.ofWord 0x0000FF00#32).len.toNat + 16) / 16 = passes.pool.freeCount ∧
    (passes.modPool (fun q => { q with freeCount := 15 })).pool.freeCount <
      ((Header.ofWord 0x0000FF00#32).len.toNat + 16) / 16 :=
  ⟨by decide, by decide, awaits_header (by decide), (show passes.drained = none by decide), by decide, by decide,
   by decide, by decide, by decide, by decide, by decide, by decide, by decide⟩

/-- The header of the parcel of `rcp`. -/
def hdr9 : Header := { kind := 0, chan := 0, len := 3, tag := 9 }
/-- Slot 2 in the parcel of `rcp`, with some words due. -/
def inParcel (due : Nat) (f : Fate) (e : FlowEntry) (l : Landing) (s : State) : State :=
  at2 (fun x => { x with
    port := { x.port with rx := .inParcel hdr9 due 0x11111111#32 },
    ing := { x.ing with reception := some (rcp f e), landing := l } }) s
/-- Slot 2 with the last payload word of a passed parcel due. -/
def gathers : State := inParcel 1 (.passed 0) passEntry .clear (stores 1 up2)

theorem witness_PassedParcelsAreStored_payload :
    gathers.framing 2 = true ∧ gathers.settled ∧ (gathers.slot 2).port.rx = .inParcel hdr9 (0 + 1) 0x11111111#32 ∧
    (gathers.slot 2).ing.reception = some (rcp (.passed 0) passEntry) ∧
    (rcp (.passed 0) passEntry).fate = .passed 0 ∧ (rcp (.passed 0) passEntry).entry.govern ≠ .stream ∧
    gathers.parcel 0 = some (box 1) ∧
    ((inParcel 1 .poolCut passEntry .clear up2).slot 2).port.rx = .inParcel hdr9 (0 + 1) 0x11111111#32 ∧
    ((inParcel 1 .poolCut passEntry .clear up2).slot 2).ing.reception = some (rcp .poolCut passEntry) ∧
    (inParcel 1 .poolCut passEntry .clear up2).settled :=
  ⟨by decide, (show gathers.drained = none by decide), by decide, by decide, by decide, by decide, by decide, by decide,
   by decide, (show (inParcel 1 .poolCut passEntry .clear up2).drained = none by decide)⟩

/-- A LATEST area whose halves are just as long as the footprint and end at the last word of parking memory. -/
def topArea : Area := { Area.zero with mode := .latest, base := 32760, size := 4 }
/-- Slot 2 at the check word of a parcel that lands in area 63. -/
def lands : State :=
  inParcel 0 .parked { passEntry with park := true, area := 63 } (.landing 63 (rcp .parked passEntry).hdr [1, 2, 3] false)
    (up2.modPark (fun p => { p with areas := p.areas.set 63 topArea }))

/-- The entry that parks the parcel of `rcp` in area 63. -/
def parkEntry : FlowEntry := { passEntry with park := true, area := 63 }
/-- Slot 2 awaiting a header, its channel 0 parked in area 63, which is as given. -/
def parks (mode : AreaMode) (size : Nat) : State :=
  { up2.modPark (fun p => { p with areas := p.areas.set 63 { Area.zero with mode := mode, size := size } }) with
    flow := [(128, parkEntry)] }
/-- R62 for the area of `parks` and a parcel of length 3: the reason it is discarded for, 0 when it is accepted. -/
def reasonOf (mode : AreaMode) (size : Nat) : Nat :=
  if (parks mode size).park.areas[(63 : Fin 64)].mode = .off then 1
  else if ((parks mode size).park.areas[(63 : Fin 64)].mode = .latest ∧
      (parks mode size).park.areas[(63 : Fin 64)].size < 3 + 1) ∨
    ((parks mode size).park.areas[(63 : Fin 64)].mode = .ring ∧ (parks mode size).park.areas[(63 : Fin 64)].size < 3 + 2)
  then 2 else 0

theorem witness_ParkHeaderIsJudged :
    parkEntry = (parks .latest 4).flowAt ((2 : Slot).val * 64 + (Header.ofWord 0x00000300#32).chan.toNat) ∧
    (parks .latest 4).framing 2 = true ∧ (∀ h n c, ((parks .latest 4).slot 2).port.rx ≠ .inParcel h n c) ∧
    (parks .latest 4).settled ∧ (parks .latest 4).isMgmtParcel 2 (Header.ofWord 0x00000300#32) = false ∧
    (parks .latest 4).isTodParcel 2 (Header.ofWord 0x00000300#32) = false ∧ parkEntry.valid = true ∧
    parkEntry.log = false ∧ parkEntry.park = true ∧ (Header.ofWord 0x00000300#32).kind.toNat < 6 ∧
    parkEntry.permits (Header.ofWord 0x00000300#32).kind = true ∧ parkEntry.area.toNat = (63 : Fin 64).val ∧
    reasonOf .off 0 = 1 ∧ reasonOf .latest 3 = 2 ∧ reasonOf .latest 4 = 0 ∧ reasonOf .ring 4 = 2 ∧ reasonOf .ring 5 = 0 :=
  ⟨by decide, by decide, awaits_header (by decide), (show (parks .latest 4).drained = none by decide), by decide, by decide,
   by decide, by decide, by decide, by decide, by decide, by decide, by decide, by decide, by decide, by decide, by decide⟩
theorem witness_ParkHeaderIsJudged_discards (m : Nat) :
    (inParcel m .parked parkEntry .discarding up2).framing 2 = true ∧
    (inParcel m .parked parkEntry .discarding up2).settled ∧
    ((inParcel m .parked parkEntry .discarding up2).slot 2).ing.reception = some (rcp .parked parkEntry) ∧
    ((inParcel m .parked parkEntry .discarding up2).slot 2).ing.landing = .discarding ∧
    ((inParcel m .parked parkEntry .discarding up2).slot 2).port.rx = .inParcel hdr9 m 0x11111111#32 :=
  ⟨rfl, rfl, rfl, rfl, rfl⟩

theorem witness_GoodLatestLanding :
    lands.framing 2 = true ∧ lands.settled ∧ (lands.slot 2).port.rx = .inParcel hdr9 0 0x11111111#32 ∧
    (lands.slot 2).ing.reception = some (rcp .parked { passEntry with park := true, area := 63 }) ∧
    (lands.slot 2).ing.landing = .landing 63 (rcp .parked passEntry).hdr [1, 2, 3] false ∧
    [1, 2, (3 : Word)].length = (rcp .parked passEntry).hdr.len.toNat ∧ lands.park.areas[(63 : Fin 64)] = topArea ∧
    topArea.mode = .latest ∧ (rcp .parked passEntry).hdr.len.toNat + 1 ≤ topArea.size ∧
    topArea.base + 2 * topArea.size ≤ 32768 :=
  ⟨by decide, (show lands.drained = none by decide), by decide, by decide, by decide, by decide, by decide, by decide,
   by decide, by decide⟩

/-- R66: a bad check word leaves the readable half and the copy count, and marks the landing word bad. -/
theorem test_bad_latest_landing :
    (match exec (.bodyWord 2 0) lands with
     | .next t => (t.park.areas[(63 : Fin 64)] == topArea, (parkRead t.park.mem 32760).getLsbD 31,
         parkRead t.park.mem 32763, (0 : Word) == ~~~0x11111111#32)
     | _ => (false, true, 0, true)) = (true, false, 3, false) := by decide

/-- Slot 2 with 6 link errors in the window. -/
def sixErrors : State := at2 (fun x => { x with port := { x.port with windowErrs := 6, errTotal := 65535 } }) up2

/-- Slot 2 with 7 link errors in the window. -/
def sevenErrors : State := at2 (fun x => { x with port := { x.port with windowErrs := 7 } }) up2

theorem witness_LinkErrorIsCounted_eighth :
    sevenErrors.framing 2 = true ∧ sevenErrors.settled ∧ (∀ h n c, (sevenErrors.slot 2).port.rx ≠ .inParcel h n c) ∧
    (sevenErrors.slot 2).port.windowErrs = 7 ∧ (sevenErrors.slot 2).ing.reception = none :=
  ⟨by decide, (show sevenErrors.drained = none by decide), awaits_header (by decide), by decide, by decide⟩
theorem witness_LinkErrorIsCounted :
    sixErrors.framing 2 = true ∧ sixErrors.settled ∧ (∀ h n c, (sixErrors.slot 2).port.rx ≠ .inParcel h n c) ∧
    (sixErrors.slot 2).port.windowErrs < 7 ∧ badMark (markCode 0xFF000000#32) = true ∧
    (sixErrors.slot 2).port.rx = .awaitHeader :=
  ⟨by decide, (show sixErrors.drained = none by decide), awaits_header (by decide), by decide, by decide, by decide⟩
theorem witness_LinkErrorIsCounted_skip :
    ((at2 (fun x => { x with port := { x.port with rx := .skip } }) up2).slot 2).port.rx = .skip ∧
    (∀ h n c, ((at2 (fun x => { x with port := { x.port with rx := .skip } }) up2).slot 2).port.rx ≠ .inParcel h n c) :=
  ⟨by decide, fun h n c => nofun⟩
/-- Slot 2 with 6 link errors in the window and a passed parcel in reception. -/
def receives (refs : Nat) : State := inParcel 3 (.passed 0) passEntry .clear (stores refs sixErrors)
theorem witness_LinkErrorIsCounted_reception :
    (receives 1).framing 2 = true ∧ (receives 1).settled ∧ ((receives 1).slot 2).port.rx = .inParcel hdr9 3 0x11111111#32 ∧
    ((receives 1).slot 2).port.windowErrs < 7 ∧ ((receives 1).slot 2).ing.reception = some (rcp (.passed 0) passEntry) ∧
    (rcp (.passed 0) passEntry).log = none ∧ (receives 1).parcel 0 = some (box 1) ∧ (box 1).isOpen = false ∧
    (receives 2).parcel 0 = some (box 2) ∧ (receives 1).isRaised causePoolLow 0 = false ∧
    (receives 1).glob.lowMark ≤ (receives 1).pool.freeCount ∧
    (receives 1).isMgmtParcel 2 (Header.ofWord 0x00010200#32) = false ∧
    (receives 1).isTodParcel 2 (Header.ofWord 0x00010200#32) = false ∧
    ((receives 1).flowAt ((2 : Slot).val * 64 + (Header.ofWord 0x00010200#32).chan.toNat)).valid = false ∧
    (receives 1).glob.alarmUnknown = false := by
  unfold State.settled
  decide

/-! ### Ends of parcels -/

/-- The entry of a parcel of a class for slot 5. -/
def for5 (cls : BitVec 2) : FlowEntry := { passEntry with dest := slotBit 5, cls := cls }
/-- A state with slot 5 ADMITTED, every class limit of it given. -/
def open5 (lim : Nat) (s : State) : State :=
  s.setSlot 5 { s.slot 5 with
    cfg := { (s.slot 5).cfg with streamLimit := lim, controlLimit := lim, bulkLimit := lim },
    port := { (s.slot 5).port with link := .up }, ctl := { (s.slot 5).ctl with phase := .admitted, pwrEn := true } }
/-- Slot 2 at the check word of a stored CONTROL parcel for slot 5. -/
def closes (refs lim : Nat) : State := open5 lim (inParcel 0 (.passed 0) (for5 1) .clear (stores refs up2))
/-- The same with the waiting place of slot 2 taken by another parcel. -/
def closesBehind (refs : Nat) : State :=
  (closes refs 0).modIng 2 (fun g =>
    { g with waiting := some { pid := 1, cls := .bulk, pending := 1, enq := 0, disc := 0, since := 0, log := none } })

theorem witness_CheckWordEndsStoredParcel :
    (closes 1 1).framing 2 = true ∧ (closes 1 1).settled ∧ ((closes 1 1).slot 2).port.rx = .inParcel hdr9 0 0x11111111#32 ∧
    ((closes 1 1).slot 2).ing.reception = some (rcp (.passed 0) (for5 1)) ∧ (rcp (.passed 0) (for5 1)).log = none ∧
    (rcp (.passed 0) (for5 1)).entry.govern = .control ∧ (closes 1 1).parcel 0 = some (box 1) ∧ (box 1).isOpen = false ∧
    1 ≤ (box 1).refs ∧ 1 = (slotsOf (slotsThat (Takes (closes 1 1) (slotBit 5) .control 1))).length ∧
    slotsThat (Blocks (closes 1 1) (slotBit 5) .control 1) = 0 ∧ 1 < (box 1).refs + 1 := by
  unfold State.settled
  decide
theorem witness_CheckWordEndsStoredParcel_blocked :
    0 = (slotsOf (slotsThat (Takes (closes 1 0) (slotBit 5) .control 1))).length ∧
    slotsThat (Blocks (closes 1 0) (slotBit 5) .control 1) ≠ 0 ∧ ((closes 1 0).slot 2).ing.waiting = none ∧
    slotsThat (Blocks (closesBehind 2) (slotBit 5) .control 1) ≠ 0 ∧
    ((closesBehind 2).slot 2).ing.waiting.isSome = true ∧ (closesBehind 2).parcel 0 = some (box 2) ∧ 1 < (box 2).refs + 0 ∧
    slotsThat (Blocks (closesBehind 1) (slotBit 5) .control 1) ≠ 0 ∧ (closesBehind 1).parcel 0 = some (box 1) ∧
    (box 1).refs + 0 = 1 ∧
    slotsThat (Blocks (inParcel 0 (.passed 0) (for5 1) .clear (stores 1 up2)) (slotBit 5) .control 1) = 0 ∧
    slotsThat (Takes (inParcel 0 (.passed 0) (for5 1) .clear (stores 1 up2)) (slotBit 5) .control 1) = 0 ∧
    (closes 1 0).glob.lowMark ≤ (closes 1 0).pool.freeCount := by decide

/-- A stored STREAM parcel of one block, open or not. -/
def flowBox (refs : Nat) (isOpen : Bool) : Stored := { box refs with cls := .stream, isOpen := isOpen }
/-- Slot 2 at the check word of a STREAM parcel, handle 0, for slot 5, whose STREAM queue holds parcels 1 and 2. -/
def crowds (lim : Nat) : State :=
  (open5 lim (inParcel 0 (.passed 0) (for5 0) .clear (up2.modPool (fun q =>
    { q with parcels := [(0, flowBox 1 false), (1, flowBox 2 false), (2, flowBox 2 false)], nextId := 3 })))).modEgr 5
    (fun e => { e with stream := [1, 2] })

theorem witness_StreamHeadDropMakesRoom :
    (crowds 2).framing 2 = true ∧ (crowds 2).settled ∧ ((crowds 2).slot 2).port.rx = .inParcel hdr9 0 0x11111111#32 ∧
    ((crowds 2).slot 2).ing.reception = some (rcp (.passed 0) (for5 0)) ∧
    (rcp (.passed 0) (for5 0)).entry.govern = .stream ∧ (for5 0).dest = slotBit 5 ∧
    (crowds 2).parcel 0 = some (flowBox 1 false) ∧ (crowds 2).treatment 5 = .queued ∧
    ((crowds 2).slot 5).egr.tx = .idle ∧ [1, 2] = ((crowds 2).slot 5).egr.stream ∧ [1, 2].Nodup ∧ 0 ∉ [1, 2] ∧
    (∀ v, v ∈ [1, 2] → (crowds 2).parcel v = some (flowBox 2 false)) ∧
    (∀ j, j < 1 → ((crowds 2).slot 5).cfg.streamLimit < blocksSum (crowds 2) ([1, 2].drop j) + 1) ∧
    blocksSum (crowds 2) ([1, 2].drop 1) + 1 ≤ ((crowds 2).slot 5).cfg.streamLimit ∧
    (∀ j, j < 2 → ((crowds 0).slot 5).cfg.streamLimit < blocksSum (crowds 0) ([1, 2].drop j) + 1) ∧
    ((crowds 0).slot 5).cfg.streamLimit < blocksSum (crowds 0) ([1, 2].drop 2) + 1 := by
  unfold State.settled
  decide

/-- The entry of a STREAM parcel for slot 5 with a cut threshold. -/
def cut5 : FlowEntry := { for5 0 with cut := 4 }
/-- The reception of such a parcel of length 5. -/
def cutRcp : Reception := { rcp (.passed 0) cut5 with hdr := { hdr9 with len := 5 } }
/-- Slot 2 in it, with words due, the parcel open or not; and slot 5 with a transmit side. -/
def cuts (due refs : Nat) (isOpen : Bool) (q : List Nat) (tx : Tx) : State :=
  (open5 9 (at2 (fun x => { x with
    port := { x.port with rx := .inParcel hdr9 due 0x11111111#32 }, ing := { x.ing with reception := some cutRcp } })
    (up2.modPool (fun p => { p with parcels := [(0, flowBox refs isOpen)], nextId := 1 })))).modEgr 5
    (fun e => { e with stream := q, tx := tx })
/-- The open parcel handed over, its header sent or not. -/
def sendsOpen (sent : Bool) : TxParcel := { txClass .stream 0 (flowBox 2 true) with headerSent := sent }

theorem witness_CutThroughOpensAndEnds_opens :
    (cuts 2 1 false [] .idle).framing 2 = true ∧ (cuts 2 1 false [] .idle).settled ∧
    ((cuts 2 1 false [] .idle).slot 2).ing.reception = some cutRcp ∧ cutRcp.entry.govern = .stream ∧
    (cuts 2 1 false [] .idle).parcel 0 = some (flowBox 1 false) ∧
    ((cuts 2 1 false [] .idle).slot 2).port.rx = .inParcel hdr9 (1 + 1) 0x11111111#32 ∧ cut5.dest = slotBit 5 ∧
    (flowBox 1 false).words.length + 1 = cut5.cut.toNat ∧ cut5.cut.toNat ≤ cutRcp.hdr.len.toNat ∧
    (cuts 2 1 false [] .idle).treatment 5 = .queued ∧
    (cuts 2 1 false [] .idle).occupancy 5 .stream + 1 ≤ ((cuts 2 1 false [] .idle).slot 5).cfg.streamLimit := by
  unfold State.settled
  decide
theorem witness_CutThroughOpensAndEnds_ends (b : Bool) :
    (cuts 0 2 true [0] (.sending (sendsOpen b))).settled ∧
    ((cuts 0 2 true [0] (.sending (sendsOpen b))).slot 2).port.rx = .inParcel hdr9 0 0x11111111#32 ∧
    (cuts 0 2 true [0] (.sending (sendsOpen b))).parcel 0 = some (flowBox 2 true) ∧
    ((cuts 0 2 true [0] (.sending (sendsOpen b))).slot 5).ctl.phase = .admitted ∧
    ((cuts 0 2 true [0] (.sending (sendsOpen b))).slot 5).egr.stream = 0 :: [] ∧
    (∀ j, j ≠ (5 : Slot) → ((cuts 0 2 true [0] (.sending (sendsOpen b))).slot j).egr.stream.contains 0 = false) ∧
    (sendsOpen b).attached = true ∧ (sendsOpen b).origin = .cls .stream ∧ (sendsOpen b).pid = 0 ∧
    (sendsOpen b).headerSent = b := by
  unfold State.settled
  cases b <;> decide

/-- A RING area of 6 words that ends at the last word of parking memory, its write index at its last word. -/
def ringArea (adv : Bool) : Area :=
  { Area.zero with mode := .ring, base := 32762, size := 6, writeIdx := 5, advance := adv, crossing := true }
/-- Slot 2 at the check word of a parcel that lands in it. -/
def rings (adv : Bool) : State :=
  inParcel 0 .parked { passEntry with park := true, area := 63 } (.landing 63 hdr9 [1, 2, 3] false)
    (up2.modPark (fun p => { p with areas := p.areas.set 63 (ringArea adv) }))

theorem witness_RingLandingAdvances (b : Bool) :
    (rings b).framing 2 = true ∧ (rings b).settled ∧ ((rings b).slot 2).port.rx = .inParcel hdr9 0 0x11111111#32 ∧
    ((rings b).slot 2).ing.reception = some (rcp .parked { passEntry with park := true, area := 63 }) ∧
    ((rings b).slot 2).ing.landing = .landing 63 hdr9 [1, 2, 3] false ∧ [1, 2, (3 : Word)].length = hdr9.len.toNat ∧
    ringArea b = (rings b).park.areas[(63 : Fin 64)] ∧ (ringArea b).mode = .ring ∧
    [1, 2, (3 : Word)].length + 1 < (ringArea b).size ∧ (ringArea b).writeIdx < (ringArea b).size ∧
    (ringArea b).base + (ringArea b).size = 32768 := by
  unfold State.settled
  cases b <;> decide
/-- R69: a footprint of 4 words from index 1 of a ring of 6 crosses the half; from index 5 it wraps and crosses the
half. -/
theorem test_crossings : crossings 6 1 4 = [causeRingHalf] ∧ crossings 6 5 4 = [causeRingWrap, causeRingHalf] := by decide

/-! ### The transit log and the alarm queue -/

/-- A valid entry that asks for a log record and permits no kind. -/
def logEntry : FlowEntry := { FlowEntry.zero with valid := true, log := true }
/-- Slot 2's channel 0 looked up at it, the log one record short of its end. -/
def logs : State :=
  { up2 with
    flow := [(128, logEntry)], glob := { up2.glob with logEnable := true, logSize := 256 },
    log := { recs := [], idx := 255, count := 0xFFFFFFFF } }

theorem witness_LogRecordsFollowR79 :
    logEntry = logs.flowAt ((2 : Slot).val * 64 + (Header.ofWord 0x0000FF00#32).chan.toNat) ∧ logs.framing 2 = true ∧
    (∀ h n c, (logs.slot 2).port.rx ≠ .inParcel h n c) ∧ logs.settled ∧
    logs.isMgmtParcel 2 (Header.ofWord 0x0000FF00#32) = false ∧
    logs.isTodParcel 2 (Header.ofWord 0x0000FF00#32) = false ∧ logs.logIndexOk ∧ logEntry.valid = true ∧
    logEntry.log = true ∧ logEntry.alarm = false ∧ logs.glob.logEnable = true ∧
    logEntry.permits (Header.ofWord 0x0000FF00#32).kind = false ∧ 6 ≤ (Header.ofWord 0xFFFFFFFF#32).kind.toNat :=
  ⟨by decide, by decide, awaits_header (by decide), (show logs.drained = none by decide), by decide, by decide,
   ⟨by decide, by decide⟩, by decide, by decide, by decide, by decide, by decide, by decide⟩
/-- A record of nothing. -/
def noRecord : LogRecord :=
  { outcome := .refused, reason := 0, ingress := 0, hdr := hdr9, stamp := { sec := 0, ns := 0 }, loc := 0, parked := false,
    area := 0, enq := 0, second := 0 }
/-- A log of 256 places whose record 1 was the second of two since the count was 256, with more reserved since. -/
def written (n : Nat) : State :=
  { State.reset with
    glob := { GlobalSettings.default with logSize := 256 },
    log := { recs := [(1, noRecord)], idx := n % 256, count := wordOf n } }
theorem witness_LogRecordsFollowR79_stands :
    1 < (written 257).glob.logSize ∧ ((256 : Word).toNat + 1) % (written 257).glob.logSize = 1 ∧
    assocGet (written 257).log.recs 1 = some noRecord ∧ ((written 257).log.count - 256).toNat = 1 ∧
    ((written 258).log.count - 256).toNat = 1 + 1 := by decide

/-- The first of the causes enabled with a hold-off of 10 ms, its pair of instance 2 last posted at uptime 0. -/
def tracked (up pend idx : Nat) : State :=
  (State.reset.modAlarm (fun a =>
    { a with
      idx := idx, track := [(pairKey 0 2, { last := 0, pending := pend })],
      causes := a.causes.set 0 { enable := true, severity := .minor, holdOff := 10, suppressed := 65535 } })).modTiming
    (fun t => { t with uptime := wordOf up })

theorem witness_EntriesAreMadeAndQueued :
    ((State.reset.modAlarm (fun a => { a with causes := a.causes.set 0 { (a.causes[0]) with enable := false } })).cause 0).enable
      = false ∧
    ((tracked 9 255 5).cause 0).enable = true ∧
    assocGet (tracked 9 255 5).alarm.track (pairKey 0 2) = some { last := 0, pending := 255 } ∧
    ((tracked 9 255 5).timing.uptime - 0).toNat < ((tracked 9 255 5).cause 0).holdOff ∧
    assocGet (tracked 10 3 126).alarm.track (pairKey 0 2) = some { last := 0, pending := 3 } ∧
    ((tracked 10 3 126).cause 0).holdOff ≤ ((tracked 10 3 126).timing.uptime - 0).toNat ∧
    (tracked 10 3 126).alarm.idx < 127 ∧ (tracked 10 3 126).isRaised 0 2 = false ∧
    (tracked 10 3 127).alarm.idx = 127 ∧ ((tracked 10 3 127).cause causeQueueWrapped).enable = true := by decide

/-! ### Marks from the cards and training -/

/-- Slot 2 with the hold-off timer just at its limit, over a wrap of the uptime. -/
def heldLong : State :=
  (at2 (fun x => { x with port := { x.port with cardHold := true, holdTimer := some 0xFFFFFFFF#32 } }) up2).modTiming
    (fun t => { t with uptime := 99 })

theorem witness_CardMarksAct :
    up2.framing 2 = true ∧ (heldLong.slot 2).port.holdTimer = some 0xFFFFFFFF#32 ∧
    (heldLong.slot 2).cfg.holdOffLimit = (heldLong.timing.uptime - 0xFFFFFFFF#32).toNat ∧
    ((linked .admitted .resting).slot 2).port.link = .resting := by decide

/-- Slot 2 in TRAINING, waiting for the answer to an exchange that left at cabinet time 0. -/
def trains (k core : Nat) : State :=
  (at2 (fun x => { x with ctl := { x.ctl with
    train := { attempt := 1, exchange := k, step := .wait { sec := 0, ns := 0, frac := 0 } 0 false, samples := [] } } })
    (linked .training .training)).modTiming (fun t => { t with core := core, time := { sec := 0, ns := 900, frac := 0 } })
/-- Slot 2 in TRAINING at the end of the gap of 10 ms. -/
def gapDone : State :=
  (at2 (fun x => { x with ctl := { x.ctl with timer := some { kind := .gap, start := 0 } } })
    (linked .training .training)).modTiming (fun t => { t with uptime := 10 })

theorem witness_TrainingGoesOn_answer :
    ((trains 6 12500).slot 2).port.link = .training ∧ ((trains 6 12500).slot 2).ctl.phase = .training ∧
    (trains 6 12500).settled ∧
    ((trains 6 12500).slot 2).ctl.train.step = .wait { sec := 0, ns := 0, frac := 0 } 0 false ∧
    (trains 6 12500).timing.core - 0 ≤ 12500 ∧ ((trains 6 12500).slot 2).ctl.train.exchange < 7 ∧
    (((900 : BitVec 16).toNat : Int)) ≤ roundTrip (trains 6 12500).timing.time { sec := 0, ns := 0, frac := 0 } :=
  ⟨by decide, by decide, (show (trains 6 12500).drained = none by decide), by decide, by decide, by decide, by decide⟩
theorem witness_TrainingGoesOn_expiry :
    12500 ≤ (trains 6 12500).timing.core - 0 ∧ (gapDone.slot 2).ctl.phase = .training ∧
    (gapDone.slot 2).ctl.timer = some { kind := .gap, start := 0 } ∧ 10 ≤ (gapDone.timing.uptime - 0).toNat := by decide

/-- Slot 2 at the end of the eighth exchange of an attempt, with the samples given. -/
def attemptOver (a : Nat) (samples : List Nat) : State :=
  at2 (fun x => { x with ctl := { x.ctl with
    train := { attempt := a, exchange := 7, step := .wait { sec := 0, ns := 0, frac := 0 } 0 false, samples := samples } } })
    (trains 7 12500)
theorem witness_TrainingGoesOn_attempt :
    NoneWaits (attemptOver 1 [20000, 20001, 20002, 20003]) ∧ (attemptOver 1 [20000, 20001, 20002, 20003]).settled ∧
    ((attemptOver 1 [20000, 20001, 20002, 20003]).slot 2).ctl.phase = .training ∧
    ((attemptOver 1 [20000, 20001, 20002, 20003]).slot 2).ing.reception = none ∧
    ((attemptOver 1 [20000, 20001, 20002, 20003]).slot 2).ctl.train.step = .wait { sec := 0, ns := 0, frac := 0 } 0 false ∧
    ((attemptOver 1 [20000, 20001, 20002, 20003]).slot 2).ctl.train.exchange = 7 ∧
    ((attemptOver 1 [20000, 20001, 20002, 20003]).slot 2).cfg.chainAuto = false ∧
    (∀ x, x ∈ [20000, 20001, 20002, 20003] → 20000 ≤ x) ∧ 20000 / 2 = 10000 ∧ 10000 < 20002 / 2 ∧
    ((attemptOver 2 [1, 2, 3]).slot 2).ctl.train.samples.length < 4 ∧
    ((attemptOver 2 [1, 2, 3]).slot 2).ctl.train.attempt < 3 ∧ 3 ≤ ((attemptOver 3 [1, 2, 3]).slot 2).ctl.train.attempt := by
  unfold NoneWaits State.settled
  decide

/-- The management slot's link UP, with some requests and replies queued. -/
def asked (requests replies : Nat) : State :=
  (State.reset.setSlot 0 { State.reset.slot 0 with
    port := { Port.reset with link := .up },
    ctl := { (State.reset.slot 0).ctl with phase := .admitted } }).modMgmt
    (fun m => { m with
      queue := List.replicate requests { tag := 0, words := [] },
      replies := List.replicate replies { kind := 5, tag := 0, words := [0] } })

theorem witness_DivertedParcelsAreTaken :
    (asked 3 0).framing (asked 3 0).mgmtSlot = true ∧ (asked 3 0).mgmt.queue.length < 4 ∧
    4 ≤ (asked 4 7).mgmt.queue.length ∧ (asked 4 7).mgmt.replies.length < 8 ∧ (asked 4 7).mgmt.claim = false ∧
    4 ≤ (asked 4 8).mgmt.queue.length ∧ 8 ≤ (asked 4 8).mgmt.replies.length ∧ (asked 4 7).framing (asked 4 7).mgmtSlot = true ∧
    (asked 4 8).framing (asked 4 8).mgmtSlot = true ∧ up2.framing 2 = true := by decide

/-! ### Waiting places and schedulers -/

/-- Slot 4's parcel waits for the CONTROL queues of slots 2 and 5; slot 2's limit is just its one block. -/
def pends (refs : Nat) : State :=
  (at2 (fun x => { x with cfg := { x.cfg with controlLimit := 1 } }) (stores refs up2)).modIng 4 (fun g =>
    { g with waiting := some { pid := 0, cls := .control, pending := 0x24, enq := 0, disc := 0, since := 0, log := none } })
/-- The waiting record of slot 4. -/
def wait4 : Waiting := { pid := 0, cls := .control, pending := 0x24, enq := 0, disc := 0, since := 0, log := none }

theorem witness_WaitingPlacesEmpty :
    ((pends 2).slot 4).ing.waiting = some wait4 ∧ wait4.cls = .control ∧ hasSlot wait4.pending 2 = true ∧
    delSlot wait4.pending 2 ≠ 0 ∧ (∀ k, k ≠ (4 : Slot) → (pends 2).waitsOn 2 .control k = false) ∧
    (pends 2).parcel wait4.pid = some (box 2) ∧
    (pends 2).occupancy 2 .control + (box 2).nBlocks = ((pends 2).slot 2).cfg.limit .control := by decide
/-- Slots 4 and 5 with the parcel waiting for slot 2, slot 5 from an earlier core period. -/
def pendsTwo (limit pending : Nat) : State :=
  ((at2 (fun x => { x with cfg := { x.cfg with controlLimit := limit } }) (stores 2 up2)).modIng 4 (fun g =>
    { g with waiting := some { wait4 with since := 7 } })).modIng 5 (fun g =>
    { g with waiting := some { wait4 with pending := BitVec.ofNat 16 pending, since := 6 } })

theorem witness_WaitingPlacesEmpty_oldest :
    OldestPending (pendsTwo 0 4) 2 .control 5 ∧ OldestPending (pendsTwo 1 4) 2 .control 5 ∧
    OldestPending (pendsTwo 2 0x24) 2 .control 5 ∧ (pendsTwo 1 4).waitsOn 2 .control 4 = true ∧
    (pendsTwo 0 4).parcel wait4.pid = some (box 2) ∧ 1 ≤ (box 2).refs ∧
    ((pendsTwo 0 4).slot 2).cfg.limit .control < (pendsTwo 0 4).occupancy 2 .control + (box 2).nBlocks ∧
    (pendsTwo 1 4).occupancy 2 .control + (box 2).nBlocks = ((pendsTwo 1 4).slot 2).cfg.limit .control ∧
    delSlot 4 2 = 0 ∧ delSlot 0x24 2 ≠ 0 := by
  unfold OldestPending
  decide
theorem witness_WaitingPlacesEmpty_stall (b : Bool) :
    (((pends (if b then 1 else 2)).modTiming (fun t => { t with core := 250000 })).slot 4).cfg.stallTime * 125 =
      ((pends (if b then 1 else 2)).modTiming (fun t => { t with core := 250000 })).timing.core - wait4.since ∧
    (pends (if b then 1 else 2)).parcel wait4.pid = some (box (if b then 1 else 2)) ∧ 1 ≤ (box (if b then 1 else 2)).refs ∧
    (pends (if b then 1 else 2)).isRaised causePoolLow 0 = false ∧
    (pends (if b then 1 else 2)).glob.lowMark ≤ (pends (if b then 1 else 2)).pool.freeCount := by
  cases b <;> decide

/-- Slot 2 with both class queues holding the stored parcel. -/
def chooses (a : Arbitration) (turn : Bool) : State :=
  at2 (fun x => { x with cfg := { x.cfg with arb := a }, egr := { x.egr with control := [0], bulk := [0], bulkTurn := turn } })
    (stores 2 up2)
/-- The same with a STREAM parcel at the head and the dwell count at its limit. -/
def dwells : State := at2 (fun x => { x with egr := { x.egr with stream := [0], dwell := 8192 } }) (chooses .alternate true)

theorem witness_ArbitrationChoosesByR51 :
    (chooses .alternate true).mayChoose 2 = true ∧ ((chooses .alternate true).slot 2).egr.express = [] ∧
    ((chooses .alternate true).slot 2).port.cardHold = false ∧ ((chooses .alternate true).slot 2).egr.stream = [] ∧
    ((chooses .alternate true).slot 2).egr.bulk.head? = some 0 ∧ (chooses .alternate true).parcel 0 = some (box 2) ∧
    ((chooses .controlFirst true).slot 2).egr.control.head? = some 0 ∧ (chooses .controlFirst true).mayChoose 2 = true ∧
    (dwells.slot 2).cfg.dwellLimit ≠ 0 ∧ (dwells.slot 2).cfg.dwellLimit ≤ (dwells.slot 2).egr.dwell ∧
    dwells.mayChoose 2 = true ∧ (2 : Slot) ≠ (chooses .alternate true).mgmtSlot := by decide
theorem plain_chooses : PlainPeriod 2 (chooses .alternate true) := by
  unfold PlainPeriod QuietSlot State.settled CabTime.inRange
  decide
theorem witness_ArbitrationChoosesByR51_start :
    PlainPeriod 2 (chooses .alternate true) ∧ ((chooses .alternate true).slot 2).port.slotTaken = false ∧
    ((chooses .alternate true).slot 2).port.holdReq = ((chooses .alternate true).slot 2).port.announcedHeld :=
  ⟨plain_chooses, by decide, by decide⟩

/-- An EDGE parcel for the edge at 10 ms with no path delay, made in core period 0. -/
def edge10 : ExpressParcel := edgeParcel { sec := 0, ns := 10000000, frac := 0 } 1 0 0
/-- Slot 2 with an EDGE parcel in its express queue. -/
def express2 : State := at2 (fun x => { x with egr := { x.egr with express := [edge10] } }) up2
/-- Slot 2 with a STREAM parcel at the head, the dwell count one below its limit. -/
def streams : State := at2 (fun x => { x with egr := { x.egr with stream := [0], dwell := 8191, bulk := [0] } }) (stores 2 up2)

/-- Slot 2 with its EDGE parcel chosen and its header not sent, in the core period it was made in. -/
def hands : State := at2 (fun x => { x with egr := { x.egr with tx := .sending (txExpress edge10) } }) express2
/-- The management slot with a reply in its queue. -/
def replies : State :=
  (State.reset.setSlot 0 { State.reset.slot 0 with
    port := { Port.reset with link := .up }, ctl := { (State.reset.slot 0).ctl with phase := .admitted } }).modMgmt
    (fun m => { m with replies := [{ kind := 5, tag := 0, words := [0] }] })

theorem witness_ChoicesGoByR50 :
    express2.mayChoose 2 = true ∧ (express2.slot 2).egr.express = edge10 :: [] ∧ streams.mayChoose 2 = true ∧
    (streams.slot 2).egr.express = [] ∧ (streams.slot 2).port.cardHold = false ∧ (2 : Slot) ≠ streams.mgmtSlot ∧
    (streams.slot 2).egr.stream = 0 :: [] ∧ streams.parcel 0 = some (box 2) ∧
    (streams.slot 2).egr.dwell < (streams.slot 2).cfg.dwellLimit ∧
    ((at2 (fun x => { x with cfg := { x.cfg with dwellLimit := 0 } }) streams).slot 2).cfg.dwellLimit = 0 ∧
    ((at2 (fun x => { x with egr := { x.egr with bulk := [] } }) streams).slot 2).egr.control = [] ∧
    ((at2 (fun x => { x with egr := { x.egr with bulk := [] } }) streams).slot 2).egr.bulk = [] ∧
    (at2 (fun x => { x with port := { x.port with cardHold := true } }) streams).mayChoose 2 = true ∧
    replies.mayChoose 0 = true ∧ (replies.slot 0).egr.express = [] ∧ (replies.slot 0).port.cardHold = false ∧
    (0 : Slot) = replies.mgmtSlot ∧ replies.mgmt.replies = { kind := 5, tag := 0, words := [0] } :: [] ∧
    (hands.slot 2).egr.tx = .sending (txExpress edge10) ∧ (txExpress edge10).headerSent = false ∧
    (2 : Slot) ≠ hands.mgmtSlot := by decide

/-- The stored parcel in transmission, every payload word sent. -/
def sentAll : TxParcel := { txClass .control 0 (box 2) with headerSent := true, sent := 3 }
/-- Slot 2 about to send its check word, of the parcel at the head of a class queue. -/
def ends (c : Cls) (refs : Nat) : State :=
  at2 (fun x => { x with egr := { x.egr.setQueue c [0] with tx := .sending { sentAll with origin := .cls c } } })
    (stores refs up2)

theorem witness_TransmissionEndRemovesTheHead (b : Bool) :
    (ends (if b then .stream else .bulk) 1).settled ∧ ((ends (if b then .stream else .bulk) 1).slot 2).ctl.phase = .admitted ∧
    ((ends (if b then .stream else .bulk) 1).slot 2).port.link = .up ∧
    ((ends (if b then .stream else .bulk) 1).slot 2).port.slotTaken = false ∧
    ((ends (if b then .stream else .bulk) 1).slot 2).port.holdReq =
      ((ends (if b then .stream else .bulk) 1).slot 2).port.announcedHeld ∧
    ((ends (if b then .stream else .bulk) 1).slot 2).egr.tx =
      .sending { sentAll with origin := .cls (if b then .stream else .bulk) } ∧
    ((ends (if b then .stream else .bulk) 1).slot 2).egr.queue (if b then .stream else .bulk) = 0 :: [] ∧
    (ends (if b then .stream else .bulk) 1).parcel 0 = some (box 1) ∧
    ((ends (if b then .stream else .bulk) 1).slot 2).cursor.state = .idle := by
  unfold State.settled
  cases b <;> decide
theorem witness_TransmissionEndRemovesTheHead_parcel :
    sentAll.attached = true ∧ sentAll.early = false ∧ sentAll.headerSent = true ∧ sentAll.sent = sentAll.len ∧
    sentAll.pid = 0 ∧ (box 1).isOpen = false ∧ (ends .control 2).parcel 0 = some (box 2) ∧ 1 < (box 2).refs ∧
    (((ends .bulk 2).setCursor 2 { Cursor.idle with state := .finishing, last := some 0 }).slot 2).cursor.state =
      .finishing ∧
    (((ends .bulk 2).setCursor 2 { Cursor.idle with state := .finishing, last := some 0 }).slot 2).cursor.last =
      some sentAll.pid := by decide
/-- R5, R47, R48: an express parcel and a reply about to send their check words. -/
theorem witness_TransmissionEndRemovesTheHead_express :
    (at2 (fun x => { x with egr := { x.egr with tx := .sending { sentAll with origin := .express } } }) express2).settled ∧
    ((at2 (fun x => { x with egr := { x.egr with tx := .sending { sentAll with origin := .express } } }) express2).slot
      2).egr.express = edge10 :: [] ∧
    (replies.modEgr 0 (fun e => { e with tx := .sending { sentAll with origin := .reply } })).settled ∧
    (replies.slot 0).ctl.phase = .admitted ∧ replies.mgmtSlot = 0 := by
  unfold State.settled
  decide
theorem witness_TransmissionEndRemovesTheHead_words_left :
    (at2 (fun x => { x with egr := { x.egr with tx := .sending { sentAll with sent := 2 } } }) (ends .control 2)).settled ∧
    ({ sentAll with sent := 2 } : TxParcel).sent < ({ sentAll with sent := 2 } : TxParcel).len ∧ hands.settled := by
  unfold State.settled
  decide

/-- The same as `hands` in the next core period. -/
def departs : State := hands.modTiming (fun t => { t with core := 1 })

theorem witness_EdgeDepartureIsStamped :
    (departs.slot 2).egr.tx = .sending (txExpress edge10) ∧
    (txExpress edge10).edge = some { instant := { sec := 0, ns := 10000000, frac := 0 }, delay := 0, made := 0 } ∧
    (txExpress edge10).headerSent = false ∧ (txExpress edge10).attached = true ∧ hands.timing.core ≤ 0 ∧
    0 < departs.timing.core ∧ (departs.slot 2).port.link = .up ∧ (departs.slot 2).port.slotTaken = false ∧
    (departs.slot 2).ctl.restReq = false ∧
    (departs.slot 2).port.holdReq = (departs.slot 2).port.announcedHeld ∧ (departs.slot 2).egr.express = edge10 :: [] := by
  decide
/-- R118: the header of an EDGE parcel leaves in the core period after its making, and not in it. -/
theorem test_edge_header_leaves_in_the_next_period :
    [hands, departs].map (fun s => match exec (.edgeDeparture 2) s with
      | .next t => (t.slot 2).port.slotTaken
      | _ => false) = [false, true] := by decide

/-- Slot 2 asked for marks: hold request, rest request, WAKE, TRAIN-REQ. -/
def marks (hold rest wake : Bool) (train : Option Nat) (s : State) : State :=
  at2 (fun x => { x with
    port := { x.port with holdReq := hold, wakeAsked := wake, trainReq := train },
    ctl := { x.ctl with restReq := rest } }) s

theorem witness_MarksLeave :
    ((marks true false false none up2).slot 2).port.slotTaken = false ∧ (marks true false false none up2).framing 2 = true ∧
    ((marks true false false none up2).slot 2).port.holdReq ≠ ((marks true false false none up2).slot 2).port.announcedHeld ∧
    ((marks false true false none up2).slot 2).ctl.restReq = true ∧
    ((marks false true false none up2).slot 2).port.link = .up ∧
    ((marks false true false none up2).slot 2).egr.tx.free = true ∧
    ((marks false true false none departs).slot 2).egr.tx.free = true ∧
    ((marks false false true none (linked .admitted .resting)).slot 2).port.wakeAsked = true ∧
    ((marks false false true none (linked .admitted .resting)).slot 2).port.link = .resting ∧
    ((marks false false false (some 7) (linked .training .training)).slot 2).port.trainReq = some 7 ∧
    ((marks false false false (some 7) (linked .training .training)).slot 2).port.link = .training ∧
    ((marks false false false (some 7) (linked .training .training)).slot 2).ctl.phase = .training := by decide

/-- Slot 2 with an EDGE parcel in its express queue and a transmit side. -/
def inserts (tx : Tx) : State := at2 (fun x => { x with egr := { x.egr with tx := tx } }) express2

theorem witness_MarksLeave_insertion :
    ((inserts (.insertCalled sentAll .suspendDue)).slot 2).egr.tx = .insertCalled sentAll .suspendDue ∧
    ((inserts (.insertCalled sentAll .suspendDue)).slot 2).egr.express = edge10 :: [] ∧
    ((inserts (.continueDue sentAll)).slot 2).egr.tx = .continueDue sentAll ∧
    (express2.slot 2).port.slotTaken = false ∧
    (express2.slot 2).port.holdReq = (express2.slot 2).port.announcedHeld := by decide

/-- Slot 2 sending the stored parcel, two of its three words sent, its word slot taken or free. -/
def sends (taken : Bool) : State :=
  at2 (fun x => { x with
    port := { x.port with slotTaken := taken },
    egr := { x.egr with control := [0], tx := .sending { sentAll with sent := 2 } } }) (stores 2 up2)

theorem witness_WordSlotsCarryOneWord (b : Bool) :
    PlainPeriod 2 (sends b) ∧ (sends b).mayChoose 2 = false ∧ ((sends b).slot 2).port.slotTaken = b ∧
    ((sends b).slot 2).egr.tx ≠ .idle ∧ ((sends b).slot 2).port.link = .up ∧
    ((sends b).slot 2).port.holdReq = ((sends b).slot 2).port.announcedHeld ∧
    ({ sentAll with sent := 2 } : TxParcel).headerSent = true ∧
    ({ sentAll with sent := 2 } : TxParcel).sent < ({ sentAll with sent := 2 } : TxParcel).len ∧
    (sends b).txReady 2 { sentAll with sent := 2 } = true := by
  unfold PlainPeriod QuietSlot State.settled CabTime.inRange
  cases b <;> decide
theorem witness_WordSlotsCarryOneWord_mark :
    PlainPeriod 2 (marks true false false none up2) ∧ ((marks true false false none up2).slot 2).egr.tx = .idle ∧
    ((marks true false false none up2).slot 2).port.slotTaken = false ∧ (marks true false false none up2).framing 2 = true ∧
    ((marks true false false none up2).slot 2).port.holdReq ≠
      ((marks true false false none up2).slot 2).port.announcedHeld := by
  unfold PlainPeriod QuietSlot State.settled CabTime.inRange
  decide

/-! ### Time, references, edges -/

/-- The reset state with its timing unit changed. -/
def timed (f : Timing → Timing) (s : State := State.reset) : State := s.modTiming f
/-- Just before a carry into the seconds, and two nanoseconds before that. -/
def beforeCarry (ns : Nat) : State := timed (fun t => { t with time := { sec := 281474976710655, ns := ns, frac := 0 } })

theorem witness_CoreTimeAdvances :
    (beforeCarry 999999992).timing.time.inRange ∧ (beforeCarry 999999992).timing.adj.natAbs ≤ 6871948 ∧
    (beforeCarry 999999992).timing.time.carries (beforeCarry 999999992).timing.adj = true ∧
    (beforeCarry 999999990).timing.time.inRange ∧ (beforeCarry 999999990).timing.time.ns + 9 < 1000000000 ∧
    (beforeCarry 999999990).timing.time.carries (beforeCarry 999999990).timing.adj = false ∧
    (beforeCarry 999999990).settled ∧ ∀ j, QuietSlot (beforeCarry 999999990) j := by
  unfold CabTime.inRange State.settled QuietSlot
  decide

/-- Slot 2 time-enrolled, one period before a carry. -/
def enrolled : State := at2 (fun x => { x with cfg := { x.cfg with timeEnrol := true } })
  (up2.modTiming (fun t => { t with time := { sec := 0, ns := 999999992, frac := 0 } }))

theorem witness_CoreTimeAdvances_time_parcels :
    enrolled.timing.time.carries enrolled.timing.adj = true ∧ enrolled.settled ∧ (∀ j, QuietSlot enrolled j) ∧
    (enrolled.slot 2).cfg.timeEnrol = true ∧ enrolled.isAwake 2 = true ∧ (enrolled.slot 2).egr.express = [] ∧
    (enrolled.slot 3).cfg.timeEnrol = false := by
  unfold State.settled QuietSlot
  decide
/-- R87: the uptime is due after 125,000 core periods, over its wrap too, and not one period before. -/
theorem witness_CoreTimeAdvances_uptime :
    (timed (fun t => { t with core := 125000 })).timing.uptime ≠ BitVec.ofNat 32 (125000 / 125000) ∧
    (timed (fun t => { t with core := 124999 })).timing.uptime = BitVec.ofNat 32 (124999 / 125000) ∧
    (timed (fun t => { t with core := 125000 * 4294967296, uptime := 0xFFFFFFFF })).timing.uptimeDue = true := by decide

/-- Reference A on line SB0 of slot 2, which is enabled as PULSE-IN, in some state, cabinet time given. -/
def pulses (ns : Nat) (f : Reference → Reference) (g : Timing → Timing) : State :=
  (at2 (fun x => { x with cfg := { x.cfg with fn0 := .pulseIn }, ctl := { x.ctl with inputsEn := true } }) up2).modTiming
    (fun t => g { t with
      time := { sec := 100 + ns / 1000000000, ns := ns % 1000000000, frac := 0 },
      refA := f { t.refA with cfg := { slot := 2, line := .sb0, offset := 0 } } })
/-- The remembered capture of reference A. -/
def lastCap : CabTime := { sec := 100, ns := 0, frac := 0 }

theorem witness_PulsesAreJudged :
    (pulses 0 id id).captures .a = true ∧ (pulses 0 id id).timing.sel ≠ refSel .a ∧
    2 ≤ (pulses 0 id id).timing.cfg.qualCount ∧ ((pulses 0 id id).timing.ref .a).last = none := by decide
/-- Reference A with a capture, some nanoseconds before the pulse. -/
def follows (ns : Nat) (q : Bool) : State :=
  pulses ns (fun r => { r with run := 2, last := some lastCap, qualified := q }) (fun t => { t with sel := .b })
/-- The spacing of that pulse. -/
def spacing (ns : Nat) : Option Int :=
  ((follows ns false).timing.ref .a).last.map (CabTime.diff { (follows ns false).timing.time with frac := 0 })
theorem witness_PulsesAreJudged_spacing :
    (follows 0 false).captures .a = true ∧ (follows 0 false).timing.sel ≠ refSel .a ∧
    spacing 998999999 = some (998999999 * 4294967296) ∧ spacing 999000000 = some (999000000 * 4294967296) ∧
    spacing 1001000000 = some (1001000000 * 4294967296) ∧ spacing 1001000001 = some (1001000001 * 4294967296) ∧
    ((follows 1001000000 true).timing.ref .a).qualified = true ∧
    Nat.min 15 (((follows 1001000000 false).timing.ref .a).run + 1) < (follows 1001000000 false).timing.cfg.qualCount := by
  decide

/-- Reference A one pulse short of its qualification, the loop in FREE with no reference selected. -/
def qualifies (pref : Sel) : State :=
  pulses 1000000000 (fun r => { r with run := 3, last := some lastCap })
    (fun t => { t with cfg := { t.cfg with preferred := pref } })
theorem witness_PulsesAreJudged_qualifies :
    ((qualifies .b).timing.ref .a).last.map (CabTime.diff { (qualifies .b).timing.time with frac := 0 }) =
      some (1000000000 * 4294967296) ∧
    ((qualifies .b).timing.ref .a).qualified = false ∧ 4 = Nat.min 15 (((qualifies .b).timing.ref .a).run + 1) ∧
    (qualifies .b).timing.cfg.qualCount ≤ 4 ∧
    (qualifies .b).timing.selQualified .b = false ∧ (qualifies .b).timing.cfg.preferred.other = refSel .a ∧
    (qualifies .b).timing.sel = .none ∧ (qualifies .b).timing.loop = .free ∧
    (qualifies .none).timing.cfg.preferred = .none := by decide

/-- Reference A selected and qualified, cabinet time some nanoseconds past the boundary, so that the lag is as many
below 0, with a staged value or none. -/
def corrects (ns : Nat) (staged : Option Nat) (g : Timing → Timing) : State :=
  pulses (1000000000 + ns) (fun r => { r with run := 5, last := some lastCap, qualified := true, staged := staged })
    (fun t => g { t with sel := .a, loop := .acquiring, lock := 7 })
/-- The loop LOCKED, with step-in-lock or not. -/
def locked (step : Bool) (t : Timing) : Timing := { t with loop := .locked, cfg := { t.cfg with stepInLock := step } }

theorem witness_SlewFollowsTheLag (b : Bool) :
    (corrects 100 none (if b then locked false else id)).captures .a = true ∧
    (corrects 100 none (if b then locked false else id)).timing.sel = refSel .a ∧
    ((corrects 100 none (if b then locked false else id)).timing.ref .a).qualified = true ∧
    ((corrects 100 none (if b then locked false else id)).timing.ref .a).staged = none ∧
    ((corrects 100 none (if b then locked false else id)).timing.ref .a).last = some lastCap ∧
    (corrects 100 none (if b then locked false else id)).timing.loop = (if b then .locked else .acquiring) ∧
    CabTime.diff { (corrects 100 none (if b then locked false else id)).timing.time with frac := 0 } lastCap =
      1000000100 * 4294967296 := by
  cases b <;> decide
/-- R102, R103, R106: lags at the lock window and the step threshold, and beyond each. -/
theorem witness_SlewFollowsTheLag_lags :
    [100, 101, 20000, 20001].map (fun n => (lagOf 0 n).natAbs) = [100, 101, 20000, 20001] ∧
    ((corrects 100 none id).timing.ref .a).cfg.offset = 0 ∧ (corrects 100 none id).timing.time.ns = 100 ∧
    (corrects 100 none id).timing.cfg.lockWindow = 100 ∧ (corrects 100 none id).timing.cfg.stepThreshold = 20000 ∧
    (corrects 101 none (locked false)).timing.loop = .locked ∧
    (corrects 20001 none (locked false)).timing.cfg.stepInLock = false ∧
    (corrects 20001 none (locked true)).timing.cfg.stepInLock = true ∧
    (corrects 20001 none id).timing.loop = .acquiring := by decide
/-- R104: with I at its lower bound a negative lag is clamped. -/
theorem witness_SlewFollowsTheLag_clamped :
    (corrects 100 none (fun t => { t with intg := -655360000 })).timing.cfg.fmax * 65536 = 655360000 ∧
    max (-655360000) (min 655360000 ((-655360000 : Int) + shiftBy .nearestEven (lagOf 0 100)
      (corrects 100 none id).timing.cfg.ki)) ≠
      (-655360000 : Int) + shiftBy .nearestEven (lagOf 0 100) (corrects 100 none id).timing.cfg.ki ∧
    ((corrects 100 none id).cause causeFreqLimit).enable = true ∧
    assocGet (corrects 100 none id).alarm.track (pairKey causeFreqLimit 0) = none ∧
    (corrects 100 none id).alarm.idx < 120 ∧ ((corrects 100 none id).cause causeTimeStep).enable = true ∧
    assocGet (corrects 100 none id).alarm.track (pairKey causeTimeStep 0) = none := by decide
/-- R101: at 101 s and 20,000 ns the boundary is 101 s; a staged 101 differs by 0, a staged 7 by −94. -/
theorem witness_SlewFollowsTheLag_corrects :
    ((corrects 20000 (some 7) id).timing.ref .a).staged = some 7 ∧
    (lagOf 0 20000).natAbs = (corrects 20000 (some 7) id).timing.cfg.stepThreshold ∧
    ((101 * 1000000000 + 20000 : Nat) + (-20000 : Int) - 0) / 1000000000 = 101 ∧
    (BitVec.ofInt 48 ((7 : Int) - 101)).toInt = -94 ∧ (BitVec.ofInt 48 ((101 : Int) - 101)).toInt = 0 ∧
    ((corrects 20000 (some 7) id).cause causeSecondsMismatch).enable = true ∧
    assocGet (corrects 20000 (some 7) id).alarm.track (pairKey causeSecondsMismatch 0) = none := by decide

/-- Cabinet time one nanosecond past the loss deadline of reference A. -/
def lost (q : Bool) (g : Timing → Timing) : State :=
  pulses 1100000001 (fun r => { r with run := 5, last := some lastCap, qualified := q }) g
/-- The loop in HOLDOVER, its limit of 14,400 s just reached. -/
def heldOver : State := timed (fun t => { t with loop := .holdover, holdover := some 0, uptime := 14400000 })

theorem witness_LossAndHoldover :
    ((lost false id).timing.ref .a).last = some lastCap ∧
    1100000000 * 4294967296 < (lost false id).timing.time.diff lastCap ∧ ((lost false id).timing.ref .a).qualified = false ∧
    ((lost true (fun t => { t with sel := .a, loop := .locked })).timing.ref .a).qualified = true ∧
    (lost true (fun t => { t with sel := .a, loop := .locked })).timing.sel = refSel .a ∧
    (lost true (fun t => { t with sel := .a, loop := .locked })).timing.selQualified (refSel .a).other = false ∧
    (lost true (fun t => { t with sel := .a, loop := .locked })).timing.loop = .locked ∧
    ((lost true (fun t => { t with sel := .a, loop := .locked })).timing.ref .a).last = some lastCap ∧
    1100000000 * 4294967296 < (lost true (fun t => { t with sel := .a, loop := .locked })).timing.time.diff lastCap ∧
    heldOver.timing.loop = .holdover ∧ heldOver.timing.holdover = some 0 ∧
    heldOver.timing.cfg.holdoverLimit * 1000 = (heldOver.timing.uptime - 0).toNat := by decide

/-- A schedule of the edge at 10 ms whose time is now. -/
def dueNow : Sched := { edge := { sec := 0, ns := 10000000, frac := 0 }, due := { sec := 0, ns := 9800000, frac := 0 } }
/-- Slot 2 with both schedules due now. -/
def edgesDue (s : State) : State :=
  (at2 (fun x => { x with edges := { parcel := some dueNow, strobe := some dueNow } }) s).modTiming
    (fun t => { t with time := { sec := 0, ns := 9800000, frac := 0 } })

theorem witness_EdgesAndStrobesAreServed :
    0 ≤ (timed (fun t => { t with time := { sec := 0, ns := 10000000, frac := 0 } })).timing.time.diff State.reset.nextEdge ∧
    ((edgesDue up2).slot 2).edges.parcel = some dueNow ∧ 0 ≤ (edgesDue up2).timing.time.diff dueNow.due ∧
    (edgesDue up2).isAwake 2 = true ∧ ((edgesDue up2).slot 2).egr.tx = .idle ∧
    ((edgesDue up2).slot 2).egr.express.length < 4 ∧ (edgesDue State.reset).isAwake 2 = false ∧
    ((edgesDue State.reset).slot 2).edges.parcel = some dueNow := by decide

/-- Slot 2 with a strobe pulse of 125 core periods over. -/
def pulseDone : State :=
  (at2 (fun x => { x with ctl := { x.ctl with pulse0 := some 5, pulse1 := some 5 } }) up2).modTiming
    (fun t => { t with core := 130 })

theorem witness_EdgesAndStrobesAreServed_strobes :
    ((edgesDue up2).slot 2).edges.strobe = some dueNow ∧ 0 ≤ (edgesDue up2).timing.time.diff dueNow.due ∧
    (pulseDone.slot 2).ctl.pulse0 = some 5 ∧ (pulseDone.slot 2).ctl.pulse1 = some 5 ∧
    125 = pulseDone.timing.core - 5 := by decide

/-! ### The slot controller -/

/-- Slot 2 in a slot state with a timer that has run for 1,000 ms. -/
def timer (ph : Phase) (l : LinkState) (k : TimerKind) (s : State := State.reset) : State :=
  (at2 (fun x => { x with
    port := { x.port with link := l },
    ctl := { x.ctl with phase := ph, pwrEn := true, presL := true, presS := true,
                        timer := some { kind := k, start := 0 } } }) s).modTiming (fun t => { t with uptime := 1000 })
/-- A seat timer just at the seat time, with auto-power or without. -/
def seats (auto : Bool) : State :=
  (at2 (fun x => { x with cfg := { x.cfg with autoPower := auto } }) (timer .empty .down .seat)).modTiming
    (fun t => { t with uptime := 100 })

theorem witness_CardsAreSeatedAndPowered :
    (State.reset.slot 2).ctl.made .long = false ∧ NoneWaits (seats true) ∧ ((seats true).slot 2).ctl.phase = .empty ∧
    ((seats true).slot 2).ctl.timer = some { kind := .seat, start := 0 } ∧
    (seats true).glob.seatTime = ((seats true).timing.uptime - 0).toNat ∧ ((seats true).slot 2).cfg.autoPower = true ∧
    ((seats true).slot 2).ctl.pwrGood = false ∧ NoneWaits (seats false) ∧ ((seats false).slot 2).cfg.autoPower = false := by
  unfold NoneWaits
  decide

theorem witness_CardsAreSeatedAndPowered_training :
    ((timer .powering .down .power).slot 2).ctl.phase = .powering ∧
    ((timer .powering .down .power).slot 2).ctl.timer = some { kind := .power, start := 0 } ∧
    ((timer .powering .down .power).slot 2).ctl.pwrGood = false ∧ NoneWaits (timer .powering .down .release) ∧
    (timer .powering .down .release).settled ∧ ((timer .powering .down .release).slot 2).ctl.phase = .powering ∧
    (timer .powering .down .release).framing 2 = false ∧
    ((timer .powering .down .release).slot 2).cursor.state = .idle ∧
    ((timer .powering .down .release).slot 2).ctl.timer = some { kind := .release, start := 0 } ∧
    ((timer .powering .down .release).slot 2).cfg.releaseTime ≤
      ((timer .powering .down .release).timing.uptime - 0).toNat := by
  unfold NoneWaits State.settled
  decide

theorem witness_PowerFaults :
    (timer .powering .down .power).settled ∧ ((timer .powering .down .power).slot 2).ing.reception = none ∧
    ((timer .powering .down .power).slot 2).ctl.phase = .powering ∧
    ((timer .powering .down .power).slot 2).ctl.timer = some { kind := .power, start := 0 } ∧
    ((timer .powering .down .power).slot 2).cfg.powerTime ≤ ((timer .powering .down .power).timing.uptime - 0).toNat ∧
    up2.settled ∧ ((at2 (fun x => { x with ctl := { x.ctl with pwrGood := true } }) up2).slot 2).ctl.pwrGood = true ∧
    ((at2 (fun x => { x with ctl := { x.ctl with pwrGood := true } }) up2).slot 2).ctl.judgesGood = true := by
  unfold State.settled
  decide

/-- Slot 2 ADMITTED with both contacts made, and a BULK parcel queued or not. -/
def carded (bulk : List Nat) : State :=
  at2 (fun x => { x with egr := { x.egr with bulk := bulk }, ctl := { x.ctl with presL := true, presS := true } })
    (stores 1 up2)

theorem witness_ContactsLost :
    NoneWaits (carded [0]) ∧ (carded [0]).settled ∧ ((carded [0]).slot 2).ctl.phase = .admitted ∧
    ((carded [0]).slot 2).ctl.presS = true ∧ ((carded [0]).slot 2).cursor.state = .idle ∧
    (carded [0]).egressEmpty 2 = false ∧ NoneWaits (carded []) ∧ (carded []).settled ∧ (carded []).egressEmpty 2 = true ∧
    ((carded []).slot 2).ctl.phase = .admitted ∧ ((carded []).slot 2).ctl.presS = true ∧
    ((carded []).slot 2).ctl.presL = true ∧ ((carded []).slot 2).ing.reception = none ∧
    ((carded []).slot 2).cursor.state = .idle ∧ ((carded []).slot 2).egr.tx = .idle ∧ ((carded []).slot 2).egr.stream = [] ∧
    ((carded []).slot 2).egr.control = [] ∧ ((carded []).slot 2).egr.bulk = [] ∧
    (carded []).isRaised causeCardAlarm 2 = false ∧ (carded []).isRaised causeLinkHeld 2 = false := by
  unfold NoneWaits State.settled
  decide
/-- Slot 2 ADMITTED and empty, with auto-power-off, a running chain and CARD-ALARM raised. -/
def leaves : State :=
  (at2 (fun x => { x with cfg := { x.cfg with autoPowerOff := true }, cursor := { Cursor.idle with state := .running } })
    (carded [])).modAlarm (fun a => { a with raised := [(pairKey causeCardAlarm 2, 0)] })
theorem witness_ContactsLost_chain :
    NoneWaits leaves ∧ leaves.settled ∧ (leaves.slot 2).ctl.phase = .admitted ∧ (leaves.slot 2).ctl.presS = true ∧
    (leaves.slot 2).cursor.state ≠ .idle ∧ leaves.egressEmpty 2 = true ∧ (leaves.slot 2).cfg.autoPowerOff = true ∧
    leaves.isRaised causeLinkHeld 2 = false := by
  unfold NoneWaits State.settled
  decide
set_option maxRecDepth 4000 in
/-- R123: of the entries of one event, the CARD-ALARM clear comes ahead of CHAIN-ABORTED. -/
theorem test_card_alarm_clears_first :
    (match exec (.contactLost 2 .short) leaves with
     | .next t => (t.alarm.queue.drop 1).map (fun (p : Nat × AlarmEntry) => (p.2.cause, p.2.action))
     | _ => []) = [(causeCardAlarm, .clear), (causeChainAborted, .event)] := by
  decide
/-- Slot 2 in a slot state with both contacts made and a BULK parcel queued or not. -/
def inState (ph : Phase) (l : LinkState) (bulk : List Nat) : State :=
  at2 (fun x => { x with port := { x.port with link := l }, ctl := { x.ctl with phase := ph } }) (carded bulk)
theorem witness_ContactsLost_removals :
    (∀ p, p ∈ [(Phase.powering, LinkState.down), (.training, .training), (.quiesced, .down)] →
      (inState p.1 p.2 []).settled ∧ ((inState p.1 p.2 []).slot 2).ctl.phase = p.1 ∧
      ((inState p.1 p.2 []).slot 2).ctl.made .short = true ∧ ((inState p.1 p.2 []).slot 2).ctl.made .long = true ∧
      ((inState p.1 p.2 []).slot 2).ing.reception = none) ∧
    (inState .draining .up [0]).settled ∧ NoneWaits (inState .quiesced .down []) := by
  unfold NoneWaits State.settled
  decide
theorem witness_ContactsLost_rest :
    (∀ p, p ∈ [Phase.empty, .seated, .faulted, .quiesced] →
      (inState p .down []).settled ∧ ((inState p .down []).slot 2).ctl.phase = p ∧
      ((inState p .down []).slot 2).ctl.made .short = true) ∧
    (inState .draining .up [0]).settled ∧ ((inState .draining .up [0]).slot 2).ctl.phase = .draining ∧
    (up2.slot 2).ctl.made .long = false ∧ up2.settled ∧ NoneWaits (inState .faulted .down []) := by
  unfold NoneWaits State.settled
  decide

/-- Slot 2 DRAINING with its drain timer past its limit, a parcel queued and in transmission or not. -/
def drains (tx : Tx) : State :=
  at2 (fun x => { x with egr := { x.egr with control := [0], tx := tx } }) (timer .draining .up .drain (stores 1 State.reset))

theorem witness_DrainAndWakeTimersExpire :
    ((drains .idle).slot 2).ctl.phase = .draining ∧ (drains .idle).mgmt.claim = false ∧
    ((drains .idle).slot 2).ctl.timer = some { kind := .drain, start := 0 } ∧
    ((drains .idle).slot 2).cfg.drainTime ≤ ((drains .idle).timing.uptime - 0).toNat ∧
    ((drains .idle).slot 2).egr.tx.withdraw = .idle ∧
    ((drains (.sending (txClass .control 0 (box 1)))).slot 2).egr.tx.withdraw = .idle ∧
    (drains (.sending sentAll)).settled ∧ sentAll.notLeft = false ∧
    ((drains (.sending sentAll)).slot 2).egr.tx = .sending sentAll ∧
    ((drains (.sending sentAll)).slot 2).ctl.phase = .draining ∧
    NoneWaits (timer .admitted .resting .wake) ∧ (timer .admitted .resting .wake).settled ∧
    ((timer .admitted .resting .wake).slot 2).ctl.phase = .admitted ∧
    ((timer .admitted .resting .wake).slot 2).cursor.state = .idle ∧
    ((timer .admitted .resting .wake).slot 2).ing.reception = none ∧
    ((timer .admitted .resting .wake).slot 2).egr.tx = .idle ∧
    ((timer .admitted .resting .wake).slot 2).ctl.timer = some { kind := .wake, start := 0 } ∧
    ((timer .admitted .resting .wake).slot 2).cfg.wakeTime ≤ ((timer .admitted .resting .wake).timing.uptime - 0).toNat := by
  unfold NoneWaits State.settled
  decide

/-- Slot 2 RESTING with functions of its lines and the runs of their debounces, 20 ms after 0. -/
def lines (f0 f1 : LineFn) (run0 run1 : Option Uptime) (en rest : Bool := true) : State :=
  (at2 (fun x => { x with
    cfg := { x.cfg with fn0 := f0, fn1 := f1 },
    ctl := { x.ctl with
      inputsEn := en, sub := .resting, restReq := !rest, deb0 := { active := false, run := run0 },
      deb1 := { active := false, run := run1 } } })
    (linked .admitted .resting)).modTiming (fun t => { t with uptime := 20 })

theorem witness_InputsActAndDebounce_lines (l : Line) (rest : Bool) :
    ((lines .wakeIn .wakeIn none none true rest).slot 2).ctl.level l ≠ true ∧
    ((lines .wakeIn .wakeIn none none true rest).slot 2).cfg.fn l = .wakeIn ∧
    ((lines .wakeIn .wakeIn none none true rest).slot 2).ctl.inputsEn = true ∧
    ((lines .wakeIn .wakeIn none none true rest).slot 2).ctl.phase = .admitted ∧
    ((lines .wakeIn .wakeIn none none true rest).slot 2).ctl.sub = .resting ∧
    ((lines .wakeIn .wakeIn none none true rest).slot 2).ctl.restReq = !rest ∧
    ((lines .alarmIn .alarmIn none none).slot 2).ctl.level l ≠ true ∧
    ((lines .alarmIn .alarmIn none none).slot 2).cfg.fn l ≠ .wakeIn ∧
    ((lines .alarmIn .alarmIn none none false).slot 2).ctl.level l ≠ true ∧
    ((lines .alarmIn .alarmIn none none false).slot 2).ctl.inputsEn = false := by
  cases l <;> cases rest <;> decide

/-- SB1 alone, and both lines, whose 20 ms are just over; SB0 has not run long enough in the first. -/
theorem witness_InputsActAndDebounce_expiry :
    (let x := (lines .alarmIn .alarmIn (some 1) (some 0)).slot 2
     x.ctl.inputsEn = true ∧ lineExpired x.cfg.fn0 x.ctl.deb0 20 = x.ctl.deb0 ∧
       lineExpired x.cfg.fn1 x.ctl.deb1 20 = { active := true, run := none }) ∧
    (let x := (lines .alarmIn .alarmIn (some 0) (some 0)).slot 2
     lineAlarms x.cfg.fn0 x.ctl.deb0 = false ∧ lineAlarms x.cfg.fn1 x.ctl.deb1 = false ∧
       lineAlarms x.cfg.fn0 (lineExpired x.cfg.fn0 x.ctl.deb0 20) = true ∧
       lineAlarms x.cfg.fn1 (lineExpired x.cfg.fn1 x.ctl.deb1 20) = true) := by decide

/-- R128: a raise by SB1 alone carries 1, one by both lines 0. -/
theorem test_card_alarm_line :
    (match exec (.cardAlarmDebounceExpiry 2) (lines .alarmIn .alarmIn (some 1) (some 0)) with
     | .next t => assocGet t.alarm.raised (pairKey causeCardAlarm 2)
     | _ => none) = some 1 ∧
    (match exec (.cardAlarmDebounceExpiry 2) (lines .alarmIn .alarmIn (some 0) (some 0)) with
     | .next t => assocGet t.alarm.raised (pairKey causeCardAlarm 2)
     | _ => none) = some 0 := by decide

/-- Cabinet input 7 whose debounce of 20 ms is just over. -/
def input7 : State :=
  (State.reset.modAlarm (fun a =>
    { a with inputs := a.inputs.set 7 { level := true, active := false, run := some 0 } })).modTiming
    (fun t => { t with uptime := 20 })

theorem witness_InputsActAndDebounce_cabinet :
    input7.alarm.inputs[(7 : Fin 8)].run = some 0 ∧
    input7.glob.debounce[(7 : Fin 8)] = (input7.timing.uptime - 0).toNat := by decide

/-- Watch 31 on area 63, whose copy is just as old as the stale limit. -/
def stale31 : State :=
  { ((State.reset.modPark (fun p => { p with areas := p.areas.set 63 { topArea with readable := some true } })).modTiming
      (fun t => { t with uptime := 500 })) with
    watches := State.reset.watches.set 31 { Watch.zero with enabled := true, area := 63, stale := 500, mask := 1 } }

theorem witness_StaleCopiesAreUnknown :
    stale31.park.areas[stale31.watches[(31 : Fin 32)].area] = { topArea with readable := some true } ∧
    stale31.watches[(31 : Fin 32)].enabled = true ∧ topArea.mode = .latest ∧ stale31.watches[(31 : Fin 32)].stale ≠ 0 ∧
    stale31.watches[(31 : Fin 32)].stale = (stale31.timing.uptime - topArea.doneUp).toNat := by decide

/-- Watch 31 before a write, on area 63 with a readable copy of one payload word, 600. -/
def watched (on : Bool) : State :=
  let s := State.reset.modPark (fun p =>
    { p with mem := [(32760, 0x80000100), (32761, 600)], areas := p.areas.set 63 { topArea with readable := some false } })
  if on then s.modAlarm (fun a => { a with raised := [(pairKey causeWatch 31, 701)] }) else s

/-- The image of watch 31 on word 0 of area 63: SIGNED, a threshold, a mask and a clear margin. -/
def watchOn (threshold mask margin : Word) : List Word := [1, 63, 0, 0, threshold, mask, margin, 0, 2, 0, 0, 0]

/-- R168's table: 600 is G of 599 and L of 650, E of itself, and as far from 650 as the margin. -/
theorem witness_StaleCopiesAreUnknown_finds :
    watchFinds (Watch.zero.withWords (watchOn 599 8 0)) (watched false) = (.g, 600) ∧
    watchFinds (Watch.zero.withWords (watchOn 600 4 0)) (watched false) = (.e, 600) ∧
    watchFinds (Watch.zero.withWords (watchOn 650 8 50)) (watched true) = (.l, 600) ∧
    watchFinds (Watch.zero.withWords [1, 63, 1, 0, 0, 1, 0, 0, 2]) (watched false) = (.u, 0) ∧
    watchDistance (Watch.zero.withWords (watchOn 650 8 50)) 600 = 50 ∧
    (Watch.zero.withWords (watchOn 650 8 50)).margin = 50 ∧ (Watch.zero.withWords (watchOn 650 8 51)).margin = 51 ∧
    (Watch.zero.withWords (watchOn 650 8 50)).mask.getLsbD Relation.l.code = false ∧
    (Watch.zero.withWords (watchOn 599 8 0)).mask.getLsbD Relation.g.code = true ∧
    (watched true).isRaised causeWatch 31 = true ∧ (watched false).isRaised causeWatch 31 = false := by decide

/-- A RUNNING cursor of slot 2 in a block of so many words, the pool with just the room it asks for; descriptor 63 is
the next one. -/
def makes (len : Nat) (last : Bool := false) (visits : Nat := 1) (next : Descriptor := Descriptor.zero) : State :=
  { at2 (fun x => { x with cursor := { Cursor.idle with
      state := .running, cur := 5, visits := visits,
      copy := { Descriptor.zero with len := len, kind := 1, next := 63, endOfChain := last } } }) up2 with
    pool := { up2.pool with freeCount := 528 },
    chain := { up2.chain with table := up2.chain.table.set 63 next } }

theorem witness_ChainEngineMakesParcels :
    (makes 256).chain.busy = none ∧ (makes 256).chainTurn = some 2 ∧
    255 = Nat.min 255 (((makes 256).slot 2).cursor.copy.len - ((makes 256).slot 2).cursor.offset) ∧
    ((makes 256).slot 2).cursor.offset + 255 < ((makes 256).slot 2).cursor.copy.len ∧
    (makes 256).isRaised causePoolLow 0 = false ∧
    ((timed (fun t => { t with core := 256 })).modChain (fun c => { c with busy := some (0, 256) })).chain.busy =
      some (0, 256) ∧
    256 = ((timed (fun t => { t with core := 256 })).modChain (fun c => { c with busy := some (0, 256) })).timing.core - 0 := by
  decide

/-- Witnesses for the last parcel of a block: the end of the chain, a next descriptor with words or with none, and the
65th visit. -/
theorem witness_ChainEngineMakesParcels_last :
    (makes 255 true).chain.busy = none ∧ (makes 255 true).chainTurn = some 2 ∧
    ((makes 255 true).slot 2).cursor.copy.len ≤ 0 + 255 ∧ ((makes 255 true).slot 2).cursor.copy.endOfChain = true ∧
    (let s := makes 255 false 63 { Descriptor.zero with len := 1 }
     s.chainTurn = some 2 ∧ (s.slot 2).cursor.copy.endOfChain = false ∧ (s.slot 2).cursor.visits < 64 ∧
       0 < (s.chain.table[(s.slot 2).cursor.copy.next]).len) ∧
    (let s := makes 255 false 63 { Descriptor.zero with endOfChain := true }
     s.chainTurn = some 2 ∧ (s.chain.table[(s.slot 2).cursor.copy.next]).len = 0 ∧
       (s.chain.table[(s.slot 2).cursor.copy.next]).endOfChain = true) ∧
    (let s := makes 255 false 64
     s.chainTurn = some 2 ∧ (s.slot 2).cursor.copy.endOfChain = false ∧ (s.slot 2).cursor.visits = 64 ∧
       s.isRaised causePoolLow 0 = false) := by decide

/-- R151: the 65th visit is not made: CHAIN-ABORTED carries TOO-LONG, 64 visits and the descriptor. -/
theorem test_chain_too_long :
    (match exec .chainParcelMake (makes 255 false 64) with
     | .next t => ((t.slot 2).cursor.state, (assocGet t.alarm.queue (State.reset.alarm.idx)).map (·.param))
     | _ => (.running, none)) = (.idle, some (wordOf (3 * 65536 + 64 * 256 + 5))) := by decide

/-! ### The management channel -/

/-- A request of a code and a subject with further words. -/
def req (code subject : Nat) (ws : List Word) : Request := { tag := 1, words := wordOf (code * 16777216 + subject) :: ws }
/-- A state with a request at the head of its queue, seven replies waiting and the management slot ADMITTED. -/
def served (r : Request) (s : State := State.reset) : State :=
  (s.setSlot 0 { s.slot 0 with
    port := { Port.reset with link := .up }, ctl := { (s.slot 0).ctl with phase := .admitted } }).modMgmt
    (fun m => { m with queue := [r], replies := List.replicate 7 { kind := 5, tag := 0, words := [0] } })

theorem servable {s : State} {r : Request} {rest : List Request}
    (h : s.mgmt.queue = r :: rest ∧ s.mgmt.replies.length < 8 ∧ s.mgmt.claim = false ∧ s.mgmtOut = false ∧
      s.drained = none) : Servable s r rest := h

theorem witness_ReadsAnswerImages_servable :
    Servable (served (req 1 1 [6, 10])) (req 1 1 [6, 10]) [] ∧ (req 1 1 [6, 10]).words.length = 3 ∧
    (req 1 1 [6, 10]).code = 1 ∧ (req 1 1 [6, 10]).subject = 1 ∧
    (req 1 1 [6, 10]).first + (req 1 1 [6, 10]).count = 16 := ⟨servable (by decide), by decide⟩
theorem witness_ReadsAnswerImages_lengths (s : State) :
    ((List.range 10).flatMap (fun k => (s.slot (Fin.ofNat 16 (6 + k))).cfg.words)).length = 230 ∧
    254 < ((List.range 12).flatMap (fun k => (s.slot (Fin.ofNat 16 (4 + k))).cfg.words)).length := by
  simp [List.length_flatMap, SlotSettings.words]
theorem witness_ReadsAnswerImages_rows (s : State) (n : Nat) (h : 1 ≤ n ∧ n ≤ 13) :
    ∃ c e f, (n, c, e, f) ∈ readRows s := by
  obtain ⟨h1, h2⟩ := h
  unfold readRows
  interval_cases n <;> exact ⟨_, _, _, by simp; exact ⟨rfl, rfl, rfl⟩⟩

theorem witness_ReadParkAnswersR72 :
    Servable (served (req 3 0 [32514, 254])) (req 3 0 [32514, 254]) [] ∧ (req 3 0 [32514, 254]).words.length = 3 ∧
    (req 3 0 [32514, 254]).code = 3 ∧ (req 3 0 [32514, 254]).first + (req 3 0 [32514, 254]).count = 32768 :=
  ⟨servable (by decide), by decide⟩

/-- The state with a LATEST area 63 at the top of parking memory. -/
def latest : State := State.reset.modPark (fun p => { p with areas := p.areas.set 63 { topArea with readable := some true } })

theorem witness_ReadLatestAnswers :
    Servable (served (req 4 0 [63, 255]) latest) (req 4 0 [63, 255]) [] ∧ (req 4 0 [63, 255]).words.length = 3 ∧
    (req 4 0 [63, 255]).code = 4 ∧ (req 4 0 [63, 255]).first = (63 : Fin 64).val ∧ (req 4 0 [63, 255]).count ≤ 255 ∧
    (served (req 4 0 [63, 255]) latest).park.areas[(63 : Fin 64)].mode = .latest ∧
    (served (req 4 0 [63, 255]) latest).park.areas[(63 : Fin 64)].readable = some true ∧
    (served (req 4 0 [63, 255]) latest).park.areas[(62 : Fin 64)].mode ≠ .latest ∧ 63 < (req 4 0 [64, 0]).first ∧
    255 < (req 4 0 [63, 256]).count := ⟨servable (by decide), by decide⟩

theorem witness_RefusedWritesHaveNoEffect :
    (2, Instr.writeFlowTable, flowTable) ∈ writeRows ∧
    Servable (served (req 2 2 [1023, 1, 0x10000000, 0])) (req 2 2 [1023, 1, 0x10000000, 0]) [] ∧
    (req 2 2 [1023, 1, 0x10000000, 0]).words ≠ [] ∧ (req 2 2 [1023, 1, 0x10000000, 0]).code = 2 ∧
    (req 2 2 [1023, 1, 0x10000000, 0]).subject = 2 ∧
    (req 2 2 [1023, 1, 0x10000000, 0]).first + (req 2 2 [1023, 1, 0x10000000, 0]).count ≤ flowTable.entries ∧
    (req 2 2 [1023, 1, 0x10000000, 0]).words.length = 3 + imagesLength flowTable.size 1023 1 ∧
    firstRefused flowTable.ok (splitImages flowTable.size 1023 1 [0x10000000, 0]) = some 1023 ∧
    flowTable.entries < (req 2 2 [1023, 2]).first + (req 2 2 [1023, 2]).count ∧
    (req 2 2 [1023, 1, 0]).words.length ≠ 3 + imagesLength flowTable.size 1023 1 :=
  ⟨by simp [writeRows], servable (by decide), by decide⟩
/-- The image of slot 15's default settings with the functions of its lines changed. -/
def lineWords : List Word := { SlotSettings.default false with fn1 := .alarmIn }.words
/-- Slot 15 ADMITTED, or QUIESCED under power, with that image in a request. -/
def linesHeld (ph : Phase) : State :=
  served (req 2 1 (15 :: 1 :: lineWords)) (State.reset.modCtl 15 (fun c => { c with phase := ph, pwrEn := true }))
theorem witness_RefusedWritesHaveNoEffect_lines :
    (1, Instr.writeSlotSettings, slotTable) ∈ writeRows ∧
    Servable (linesHeld .quiesced) (req 2 1 (15 :: 1 :: lineWords)) [] ∧
    (req 2 1 (15 :: 1 :: lineWords)).words.length = 26 ∧ inRanges lineWords slotRanges = true ∧
    (SlotSettings.ofWords lineWords).fn1 ≠ ((linesHeld .quiesced).slot 15).cfg.fn1 ∧
    ((linesHeld .quiesced).slot 15).ctl.phase ∉ [.empty, .seated] ∧ ((linesHeld .quiesced).slot 15).ctl.pwrEn = true ∧
    firstRefused slotTable.ok (splitImages slotTable.size 15 1 lineWords) = none ∧
    firstRefused (slotTable.allowed (linesHeld .quiesced)) (splitImages slotTable.size 15 1 lineWords) = some 15 :=
  ⟨by simp [writeRows], servable (by decide), by decide⟩
theorem witness_RefusedWritesHaveNoEffect_tables :
    Servable (served (req 2 4 [31, 1, 1, 63, 254, 1, 0, 15, 0, 65535, 3, 0, 0, 0]))
      (req 2 4 [31, 1, 1, 63, 254, 1, 0, 15, 0, 65535, 3, 0, 0, 0]) [] ∧
    (req 2 4 [31, 1, 1, 63, 254, 1, 0, 15, 0, 65535, 3, 0, 0, 0]).words.length = 15 ∧
    inRanges [1, 63, 254, 1, 0, 15, 0, 65535, 3] watchRanges = true ∧
    State.reset.park.areas[(63 : Fin 64)].mode ≠ .latest ∧ Servable (served (req 2 13 [])) (req 2 13 []) [] ∧
    (req 2 13 []).words ≠ [] ∧ (req 2 13 []).code = 2 ∧ (req 2 13 []).subject = 13 ∧
    Servable (served (req 2 14 [])) (req 2 14 []) [] ∧ 13 < (req 2 14 []).subject ∧ (req 2 0 []).subject = 0 :=
  ⟨servable (by decide), by decide, by decide, by decide, servable (by decide), by decide, by decide, by decide,
   servable (by decide), by decide, by decide⟩

theorem witness_WritesAreStored_flow :
    Servable (served (req 2 2 [1023, 1, 0x80800000, 0])) (req 2 2 [1023, 1, 0x80800000, 0]) [] ∧
    (req 2 2 [1023, 1, 0x80800000, 0]).code = 2 ∧ (req 2 2 [1023, 1, 0x80800000, 0]).count = 1 ∧
    (req 2 2 [1023, 1, 0x80800000, 0]).subject = 2 ∧ (req 2 2 [1023, 1, 0x80800000, 0]).first < 1024 ∧
    (req 2 2 [1023, 1, 0x80800000, 0]).words.length = 5 ∧ flowImageOk [0x80800000, 0] = true :=
  ⟨servable (by decide), by decide⟩
/-- The image of a LATEST area that ends at the last word. -/
def areaWords : List Word := [1, 32256, 256, 1, 0, 0, 0, 0, 0, 0, 0, 0]
theorem witness_WritesAreStored_area :
    Servable (served (req 2 3 (63 :: 1 :: areaWords))) (req 2 3 (63 :: 1 :: areaWords)) [] ∧
    (req 2 3 (63 :: 1 :: areaWords)).code = 2 ∧ (req 2 3 (63 :: 1 :: areaWords)).count = 1 ∧
    (req 2 3 (63 :: 1 :: areaWords)).subject = 3 ∧ (req 2 3 (63 :: 1 :: areaWords)).first = (63 : Fin 64).val ∧
    (req 2 3 (63 :: 1 :: areaWords)).words.length = 15 ∧ areaImageOk areaWords = true := ⟨servable (by decide), by decide⟩
theorem witness_WritesAreStored_chain :
    Servable (served (req 2 5 [63, 1, 32767, 1, 0, 2, 0, 1])) (req 2 5 [63, 1, 32767, 1, 0, 2, 0, 1]) [] ∧
    (req 2 5 [63, 1, 32767, 1, 0, 2, 0, 1]).subject = 5 ∧
    (req 2 5 [63, 1, 32767, 1, 0, 2, 0, 1]).words.length = 9 ∧
    descriptorImageOk [32767, 1, 0, 2, 0, 1] = true := ⟨servable (by decide), by decide⟩

/-- The image of slot 15's default settings with the longest stall time. -/
def slotWords : List Word := { SlotSettings.default false with stallTime := 65535 }.words
theorem witness_WritesAreStored_slot :
    Servable (served (req 2 1 (15 :: 1 :: slotWords))) (req 2 1 (15 :: 1 :: slotWords)) [] ∧
    (req 2 1 (15 :: 1 :: slotWords)).code = 2 ∧ (req 2 1 (15 :: 1 :: slotWords)).count = 1 ∧
    (req 2 1 (15 :: 1 :: slotWords)).subject = 1 ∧ (req 2 1 (15 :: 1 :: slotWords)).first = (15 : Slot).val ∧
    (req 2 1 (15 :: 1 :: slotWords)).words.length = 26 ∧ inRanges slotWords slotRanges = true ∧
    (SlotSettings.ofWords slotWords).fn0 = ((served (req 2 1 (15 :: 1 :: slotWords))).slot 15).cfg.fn0 ∧
    (SlotSettings.ofWords slotWords).fn1 = ((served (req 2 1 (15 :: 1 :: slotWords))).slot 15).cfg.fn1 :=
  ⟨servable (by decide), by decide⟩
theorem witness_WritesAreStored_slot_none_waits : NoneWaits (served (req 2 1 (15 :: 1 :: slotWords))) := by
  unfold NoneWaits
  decide
/-- The image of a watch of area 63, enabled or not. -/
def watchWords (on : Word) : List Word := [on, 63, 254, 1, 0xFFFFFFFF, 15, 0x7FFFFFFF, 65535, 3, 0, 0, 0]
theorem witness_WritesAreStored_watch :
    Servable (served (req 2 4 (31 :: 1 :: watchWords 1)) latest) (req 2 4 (31 :: 1 :: watchWords 1)) [] ∧
    (req 2 4 (31 :: 1 :: watchWords 1)).subject = 4 ∧ (req 2 4 (31 :: 1 :: watchWords 1)).first = (31 : Fin 32).val ∧
    (req 2 4 (31 :: 1 :: watchWords 1)).words.length = 15 ∧ inRanges ((watchWords 1).take 9) watchRanges = true ∧
    (served (req 2 4 (31 :: 1 :: watchWords 1)) latest).watchAreaOk (watchWords 1) = true ∧
    ((req 2 4 (31 :: 1 :: watchWords 0)).word 3).toNat = 0 ∧
    (served (req 2 4 (31 :: 1 :: watchWords 0))).watchAreaOk (watchWords 0) = true := ⟨servable (by decide), by decide⟩
theorem witness_StaleCopiesAreUnknown_write (b : Bool) :
    Servable (served (req 2 4 (31 :: 1 :: watchOn 650 8 50)) (watched b)) (req 2 4 (31 :: 1 :: watchOn 650 8 50)) [] ∧
    (req 2 4 (31 :: 1 :: watchOn 650 8 50)).words.length = 15 ∧ inRanges ((watchOn 650 8 50).take 9) watchRanges = true ∧
    ((req 2 4 (31 :: 1 :: watchOn 650 8 50)).word 3).toNat = 1 ∧
    (served (req 2 4 (31 :: 1 :: watchOn 650 8 50)) (watched b)).park.areas[(63 : Fin 64)] =
      { topArea with readable := some false } ∧
    topArea.base + 1 + 0 < 32768 := by
  cases b <;> exact ⟨servable (by decide), by decide⟩
theorem witness_WritesAreStored_cause :
    Servable (served (req 2 6 [63, 1, 0, 3, 65535, 0, 0])) (req 2 6 [63, 1, 0, 3, 65535, 0, 0]) [] ∧
    (req 2 6 [63, 1, 0, 3, 65535, 0, 0]).subject = 6 ∧ (req 2 6 [63, 1, 0, 3, 65535, 0, 0]).words.length = 8 ∧
    inRanges ([0, 3, 65535, 0, (0 : Word)].take 3) causeRanges = true := ⟨servable (by decide), by decide⟩
theorem witness_WritesAreStored_global :
    Servable (served (req 2 7 (0 :: 1 :: GlobalSettings.default.words))) (req 2 7 (0 :: 1 :: GlobalSettings.default.words)) [] ∧
    (req 2 7 (0 :: 1 :: GlobalSettings.default.words)).subject = 7 ∧
    (req 2 7 (0 :: 1 :: GlobalSettings.default.words)).words.length = 29 ∧
    globalImageOk GlobalSettings.default.words = true := ⟨servable (by decide), by decide⟩
theorem witness_WritesAreStored_timing :
    Servable (served (req 2 8 (0 :: 1 :: LoopSettings.default.words))) (req 2 8 (0 :: 1 :: LoopSettings.default.words)) [] ∧
    (req 2 8 (0 :: 1 :: LoopSettings.default.words)).subject = 8 ∧
    (req 2 8 (0 :: 1 :: LoopSettings.default.words)).words.length = 15 ∧
    inRanges LoopSettings.default.words loopRanges = true ∧
    (req 2 8 [2, 1, 15, 1, wordOfInt (-1000000)]).first = 1 + refNum .b ∧
    (req 2 8 [2, 1, 15, 1, wordOfInt (-1000000)]).words.length = 6 ∧
    refImageOk [15, 1, wordOfInt (-1000000)] = true := ⟨servable (by decide), by decide⟩

/-- Slot 2 in a slot state with both contacts made, an action on it at the head of the request queue. -/
def acts (code : Nat) (ph : Phase) (l : LinkState) : State :=
  served (req 5 code [2]) (at2 (fun x => { x with ctl := { x.ctl with presL := true, presS := true } }) (linked ph l))

theorem witness_PowerAndClearActions :
    Servable (acts 1 .quiesced .down) (req 5 1 [2]) [] ∧ NoneWaits (acts 1 .quiesced .down) ∧
    (2 : Slot) ≠ (acts 1 .quiesced .down).mgmtSlot ∧ ((acts 1 .quiesced .down).slot 2).ing.reception = none ∧
    SlotRequest 1 2 (req 5 1 [2]) ∧ ((acts 1 .quiesced .down).slot 2).ctl.phase = .quiesced ∧
    ((acts 1 .quiesced .down).slot 2).ctl.presL = true ∧ ((acts 1 .quiesced .down).slot 2).ctl.presS = true ∧
    SlotRequest 2 2 (req 5 2 [2]) ∧
    ((acts 2 .admitted .up).slot 2).ctl.phase ∈ [.powering, .training, .admitted, .draining] := by
  refine ⟨servable (by decide), ?_⟩
  unfold NoneWaits SlotRequest
  decide
theorem witness_PowerAndClearActions_off :
    Servable (acts 2 .admitted .up) (req 5 2 [2]) [] ∧ NoneWaits (acts 2 .admitted .up) ∧
    Servable (acts 2 .faulted .down) (req 5 2 [2]) [] ∧ NoneWaits (acts 2 .faulted .down) ∧
    ((acts 2 .faulted .down).slot 2).ctl.phase ∈ [.empty, .seated, .faulted] := by
  refine ⟨servable (by decide), by unfold NoneWaits; decide, servable (by decide), by unfold NoneWaits; decide, by decide⟩

theorem witness_TrafficActions :
    Servable (acts 3 .admitted .up) (req 5 3 [2]) [] ∧ NoneWaits (acts 3 .admitted .up) ∧ SlotRequest 3 2 (req 5 3 [2]) ∧
    SlotRequest 4 2 (req 5 4 [2]) ∧ SlotRequest 5 2 (req 5 5 [2]) ∧ SlotRequest 7 2 (req 5 7 [2]) ∧
    (2 : Slot) ≠ (acts 3 .admitted .up).mgmtSlot ∧ ((acts 3 .admitted .up).slot 2).cursor.state = .idle ∧
    ((acts 3 .admitted .up).slot 2).ing.reception = none ∧ (acts 4 .admitted .up).isAwake 2 = true ∧
    ((acts 7 .admitted .up).slot 2).egr.tx = .idle ∧
    (at2 (fun x => { x with egr := { x.egr with bulk := [0] } }) (stores 1 (acts 3 .admitted .up))).egressEmpty 2 = false := by
  refine ⟨servable (by decide), ?_⟩
  unfold NoneWaits SlotRequest
  decide
/-- Slot 2 RESTING, with REST sent or not. -/
def restsNow (asked : Bool) : State :=
  at2 (fun x => { x with ctl := { x.ctl with sub := .resting, restReq := asked } }) (acts 5 .admitted .up)
theorem witness_TrafficActions_wake :
    Servable (restsNow true) (req 5 5 [2]) [] ∧ ((restsNow true).slot 2).ctl.phase = .admitted ∧
    ((restsNow true).slot 2).ctl.sub = .resting ∧ Servable (restsNow false) (req 5 5 [2]) [] ∧
    ((restsNow false).slot 2).ctl.restReq = false :=
  ⟨servable (by decide), by decide, by decide, servable (by decide), by decide⟩

theorem witness_PowerAndClearActions_clear :
    Servable (acts 6 .faulted .down) (req 5 6 [2]) [] ∧ NoneWaits (acts 6 .faulted .down) ∧
    (2 : Slot) ≠ (acts 6 .faulted .down).mgmtSlot ∧ SlotRequest 6 2 (req 5 6 [2]) ∧
    ((acts 6 .faulted .down).slot 2).ctl.phase = .faulted ∧
    (((acts 6 .faulted .down).slot 2).ctl.presL && ((acts 6 .faulted .down).slot 2).ctl.presS) = true := by
  refine ⟨servable (by decide), ?_⟩
  unfold NoneWaits SlotRequest
  decide

/-- The management slot in a slot state and sub-mode, an action on it at the head of the request queue. -/
def actsOn0 (code : Nat) (ph : Phase) (sub : SubMode) (wake : Bool) : State :=
  (served (req 5 code [0]) (State.reset.setCfg 0 { (State.reset.slot 0).cfg with wakeOnTraffic := wake })).modCtl 0
    (fun c => { c with phase := ph, sub := sub })
theorem witness_ManagementSlotActions :
    (0 : Slot) = (actsOn0 2 .admitted .awake false).mgmtSlot ∧
    (∀ c, c ∈ [1, 2, 3, 4, 5, 6, 7] → Servable (actsOn0 c .admitted .awake false) (req 5 c [0]) [] ∧
      SlotRequest c 0 (req 5 c [0])) ∧
    NoneWaits (actsOn0 2 .admitted .awake false) ∧ ((actsOn0 2 .admitted .awake false).slot 0).ing.reception = none ∧
    ((actsOn0 2 .admitted .awake false).slot 0).cursor.state = .idle ∧
    ((actsOn0 3 .admitted .awake false).slot 0).ctl.phase = .admitted ∧
    (actsOn0 4 .admitted .awake false).isAwake 0 = true ∧ (actsOn0 4 .admitted .awake true).isAwake 0 = true ∧
    ((actsOn0 4 .admitted .awake true).slot 0).cfg.wakeOnTraffic = true ∧
    ((actsOn0 5 .admitted .resting false).slot 0).ctl.sub = .resting ∧
    ((actsOn0 7 .admitted .awake false).slot 0).egr.tx = .idle := by
  unfold NoneWaits SlotRequest Servable State.settled
  decide
theorem witness_ManagementSlotActions_refused :
    (∀ c, c ∈ [3, 4, 5, 7] → Servable (actsOn0 c .draining .awake false) (req 5 c [0]) [] ∧
      ((actsOn0 c .draining .awake false).slot 0).ctl.phase ≠ .admitted ∧
      (actsOn0 c .draining .awake false).isAwake 0 = false) := by
  unfold Servable State.settled
  decide

/-- Slot 2 ADMITTED with a chain head, descriptor 63 of one word. -/
def headed (h : Nat) : State :=
  at2 (fun x => { x with cfg := { x.cfg with chainHead := h } })
    ((acts 8 .admitted .up).modChain (fun c => { c with table := c.table.set 63 { Descriptor.zero with len := 1, kind := 1 } }))
theorem witness_ChainActions :
    Servable (headed 63) (req 5 8 [2]) [] ∧ Servable (headed 64) (req 5 8 [2]) [] ∧
    Servable (acts 9 .admitted .up) (req 5 9 [2]) [] ∧ SlotRequest 8 2 (req 5 8 [2]) ∧ SlotRequest 9 2 (req 5 9 [2]) ∧
    ((headed 63).slot 2).ctl.phase = .admitted ∧ ((headed 63).slot 2).cfg.chainHead = (63 : Fin 64).val ∧
    0 < (headed 63).chain.table[(63 : Fin 64)].len ∧ 64 ≤ ((headed 64).slot 2).cfg.chainHead := by
  refine ⟨servable (by decide), servable (by decide), servable (by decide), ?_⟩
  unfold SlotRequest
  decide

theorem witness_TimeActions :
    Servable (served (req 5 16 [65535, 0xFFFFFFFF, 999999999])) (req 5 16 [65535, 0xFFFFFFFF, 999999999]) [] ∧
    (req 5 16 [65535, 0xFFFFFFFF, 999999999]).code = 5 ∧ (req 5 16 [65535, 0xFFFFFFFF, 999999999]).subject = 16 ∧
    (req 5 16 [65535, 0xFFFFFFFF, 999999999]).words.length = 4 ∧
    ((req 5 16 [65535, 0xFFFFFFFF, 999999999]).word 1).toNat ≤ 65535 ∧
    ((req 5 16 [65535, 0xFFFFFFFF, 999999999]).word 3).toNat ≤ 999999999 ∧
    65535 < ((req 5 16 [65536, 0, 0]).word 1).toNat := ⟨servable (by decide), by decide⟩

theorem witness_TimeActions_frequency :
    Servable (served (req 5 17 [0xFFFFFFFF, 0xD8F00000])) (req 5 17 [0xFFFFFFFF, 0xD8F00000]) [] ∧
    (req 5 17 [0xFFFFFFFF, 0xD8F00000]).code = 5 ∧ (req 5 17 [0xFFFFFFFF, 0xD8F00000]).subject = 17 ∧
    (req 5 17 [0xFFFFFFFF, 0xD8F00000]).words.length = 3 ∧
    -655360000 = ((req 5 17 [0xFFFFFFFF, 0xD8F00000]).word 1 ++ (req 5 17 [0xFFFFFFFF, 0xD8F00000]).word 2 : BitVec 64).toInt ∧
    (served (req 5 17 [0xFFFFFFFF, 0xD8F00000])).timing.loop = .free ∧
    -655360001 = ((req 5 17 [0xFFFFFFFF, 0xD8EFFFFF]).word 1 ++ (req 5 17 [0xFFFFFFFF, 0xD8EFFFFF]).word 2 : BitVec 64).toInt ∧
    (served (req 5 17 [0xFFFFFFFF, 0xD8EFFFFF]) heldOver).timing.loop ≠ .free := ⟨servable (by decide), by decide⟩
theorem witness_TimeActions_frequency_beyond :
    Servable (served (req 5 17 [0xFFFFFFFF, 0xD8EFFFFF])) (req 5 17 [0xFFFFFFFF, 0xD8EFFFFF]) [] ∧
    Servable (served (req 5 17 [0xFFFFFFFF, 0xD8EFFFFF]) heldOver) (req 5 17 [0xFFFFFFFF, 0xD8EFFFFF]) [] ∧
    Servable (served (req 5 17 [0xFFFFFFFF, 0xD8F00000]) heldOver) (req 5 17 [0xFFFFFFFF, 0xD8F00000]) [] :=
  ⟨servable (by decide), servable (by decide), servable (by decide)⟩

theorem witness_RestartActions :
    Servable (served (req 5 18 [])) (req 5 18 []) [] ∧ Servable (served (req 5 24 [])) (req 5 24 []) [] ∧
    Servable (served (req 5 25 [])) (req 5 25 []) [] ∧ (req 5 18 []).code = 5 ∧ (req 5 18 []).words.length = 1 ∧
    (req 5 18 []).subject = 18 ∧ (req 5 24 []).subject = 24 ∧ (req 5 25 []).subject = 25 ∧
    (∀ i, ((served (req 5 24 [])).slot i).ctl.phase ≠ .draining) :=
  ⟨servable (by decide), servable (by decide), servable (by decide), by decide⟩

end Sys2Proof.Tests
end

section
/-! PROOFS. The service of a request that has no effect but its reply (R173), and READ-PARK (R72). -/

namespace Sys2Proof.Machine

/-! ## A reply wakes the management slot at most (R48, R134) -/

theorem applyWake_slot_ne (s : State) {i j : Slot} (h : j ≠ i) : (applyWake i s).slot j = s.slot j := by
  unfold applyWake
  split
  · split
    · exact slot_setSlot_ne s _ h
    · exact (slot_setSlot_ne _ _ h).trans (slot_setSlot_ne s _ h)
  · rfl

theorem wakeReport_slot_ne (s : State) {i j : Slot} (h : j ≠ i) : (wakeReport i s).slot j = s.slot j := by
  unfold wakeReport
  split
  · exact applyWake_slot_ne s h
  · rfl

theorem pushReply_mgmt (p : ReplyParcel) (s : State) :
    (pushReply p s).mgmt = { s.mgmt with replies := s.mgmt.replies ++ [p] } := by
  simp [pushReply]

theorem pushReply_slot_ne (p : ReplyParcel) (s : State) {j : Slot} (h : j ≠ s.mgmtSlot) :
    (pushReply p s).slot j = s.slot j := by
  simp [pushReply, wakeReport_slot_ne _ h]

/-! ## Taking the head of the request queue (R173) -/

/-- The claimed place counts as taken, so taking a request empties no egress. -/
theorem takeRequest_settled {s : State} (rest : List Request) (h : s.settled) : (takeRequest rest s).settled := by
  have hslot : (takeRequest rest s).mgmtSlot = s.mgmtSlot := by simp [State.mgmtSlot]
  have hempty (i : Slot) : (takeRequest rest s).egressEmpty i = true → s.egressEmpty i = true := by
    simp only [State.egressEmpty, hslot]
    simp +contextual [takeRequest]
  unfold State.settled State.drained at *
  rw [List.find?_eq_none] at *
  intro i hi hdrained
  apply h i hi
  simp only [Bool.and_eq_true] at hdrained ⊢
  obtain ⟨hphase, he⟩ := hdrained
  exact ⟨by simpa [takeRequest] using hphase, hempty i he⟩

/-- Giving up the claim of a request just taken leaves the request queue shorter and nothing else changed. -/
theorem takeRequest_unclaim {s : State} (rest : List Request) (h : s.mgmt.claim = false) :
    (takeRequest rest s).modMgmt (fun m => { m with claim := false }) =
      s.modMgmt (fun m => { m with queue := rest }) := by
  simp [takeRequest, State.modMgmt, h]

/-! ## A service with no effect but its reply (R173) -/

/-- The reply to the request just taken, with no effect before it. -/
theorem giveReply_takeRequest {s : State} {r : Request} {rest : List Request} (h : Servable s r rest)
    (p : ReplyParcel) :
    giveReply p (takeRequest rest s) = pushReply p (s.modMgmt (fun m => { m with queue := rest })) := by
  obtain ⟨-, -, hclaim, hout, -⟩ := h
  have hout' : (s.modMgmt (fun m => { m with queue := rest })).mgmtOut = false := by
    simpa [State.mgmtOut, State.mgmtSlot] using hout
  simp [giveReply, takeRequest_unclaim rest hclaim, hout']

theorem giveReply_onlyAnswered {s : State} {r : Request} {rest : List Request} (h : Servable s r rest) (st : Status)
    (data : List Word) :
    OnlyAnswered r rest st data s (giveReply (replyTo r st data) (takeRequest rest s)) := by
  rw [giveReply_takeRequest h]
  refine ⟨?_, ⟨?_, ?_⟩, ?_⟩
  · simp [Answered, AnsweredAfter, pushReply_mgmt]
  · intro p hp
    cases p <;> simp_all [Part.Same]
  · simp
  · intro j hj
    rw [pushReply_slot_ne _ _ (by simpa [State.mgmtSlot] using hj)]
    simp

/-- The service of a servable head by its own row. -/
theorem serve_of_servable {s : State} {r : Request} {rest : List Request} {row : ReqRow}
    (f : Request → State → Served) (h : Servable s r rest) (hrow : r.row = some row) :
    serve row f s = giveReply (replyTo r (f r (takeRequest rest s)).status (f r (takeRequest rest s)).data)
      (settleDrains (f r (takeRequest rest s)).state) := by
  obtain ⟨hqueue, hroom, hclaim, -, -⟩ := h
  have htaken : s.mgmt.taken < Config.replyPlaces := by
    simpa [Mgmt.taken, hclaim, boolNat, Config.replyPlaces] using hroom
  simp [serve, hqueue, htaken, hrow]

/-- A row that leaves the state as it finds it has no effect but its reply. -/
theorem serve_onlyAnswered {s : State} {r : Request} {rest : List Request} {row : ReqRow}
    {f : Request → State → Served} (h : Servable s r rest) (hrow : r.row = some row)
    (hf : (f r (takeRequest rest s)).state = takeRequest rest s) :
    OnlyAnswered r rest (f r (takeRequest rest s)).status (f r (takeRequest rest s)).data s (serve row f s) := by
  have ⟨_, _, _, _, hs⟩ := h
  have hsettled : (takeRequest rest s).settled := takeRequest_settled rest hs
  rw [serve_of_servable f h hrow, hf, settleDrains_of_settled hsettled]
  exact giveReply_onlyAnswered h _ _

/-! ## READ-PARK (R72) -/

theorem parkReadN_getD (m : Assoc Word) (a : Nat) {n k : Nat} (h : k < n) :
    (parkReadN m a n).getD k 0 = parkRead m (a + k) := by
  induction n generalizing a k with
  | zero => omega
  | succ n ih =>
    cases k with
    | zero => rfl
    | succ k =>
      calc (parkReadN m a (n + 1)).getD (k + 1) 0
        _ = (parkReadN m (a + 1) n).getD k 0 := by simp [parkReadN]
        _ = parkRead m (a + 1 + k) := ih (a + 1) (by omega)
        _ = parkRead m (a + (k + 1)) := by congr 1; omega

/-- A request of code 3 with a payload belongs to READ-PARK (R171). -/
theorem row_eq_readPark {r : Request} (hlen : r.words.length = 3) (hcode : r.code = 3) : r.row = some .readPark := by
  have hne : r.words ≠ [] := List.ne_nil_of_length_pos (by omega)
  simp [Request.row, hne, hcode]

theorem exec_readPark (s : State) : exec .readPark s = .next (serve .readPark readParkWords s) := rfl

/-- The count and the base word of a READ-PARK that R72 refuses. -/
def parkReadRefused (r : Request) : Prop :=
  254 < r.count ∨ (0 < r.count ∧ (32767 < r.first ∨ 32768 < r.first + r.count))

/-- The model tests the end of the range alone: a base word above 32,767 with a count above 0 ends above 32,768. -/
theorem parkReadRefused_iff (r : Request) :
    parkReadRefused r ↔ 254 < r.count ∨ (0 < r.count ∧ Config.parkWords < r.first + r.count) := by
  unfold parkReadRefused Config.parkWords
  omega

theorem readParkWords_of_refused {r : Request} (s : State) (hlen : r.words.length = 3) (h : parkReadRefused r) :
    readParkWords r s = refuse .badValue s := by
  rw [parkReadRefused_iff] at h
  simp only [readParkWords, hlen, h, ne_eq, not_true_eq_false, if_true, if_false]

theorem readParkWords_of_not_refused {r : Request} (s : State) (hlen : r.words.length = 3)
    (h : ¬ parkReadRefused r) :
    readParkWords r s = { status := .done, data := parkReadN s.park.mem r.first r.count, state := s } := by
  rw [parkReadRefused_iff] at h
  simp only [readParkWords, hlen, h, ne_eq, not_true_eq_false, if_false]

/-- Settles O51: READ-PARK leaves the state to its reply, and its two answers are those of R72. -/
theorem readParkAnswersR72 : Obligations.ReadParkAnswersR72 := by
  intro r rest s hs hlen hcode
  have hserved := serve_onlyAnswered (f := readParkWords) hs (row_eq_readPark hlen hcode)
  refine ⟨serve .readPark readParkWords s, exec_readPark s, ?_⟩
  split
  · next hrefused =>
    rw [readParkWords_of_refused _ hlen hrefused] at hserved
    exact hserved rfl
  · next hserves =>
    rw [readParkWords_of_not_refused _ hlen hserves] at hserved
    exact ⟨parkReadN s.park.mem r.first r.count, by simpa using hserved, parkReadN_length ..,
      fun _ => parkReadN_getD _ _⟩

end Sys2Proof.Machine
end

section
/-! PROOFS. The rounded division (R104), the lag of a pulse (R102) and the increment adjustment (R105). -/

namespace Sys2Proof.Machine

/-! ## Rounding (R104) -/

/-- The quotient's integer part is the rounded quotient in every mode whose own condition admits it. -/
theorem roundsTo_floor {m : Rounding} {num den : Int} (hden : 0 < den) (hup : m = .up → num % den = 0)
    (hzero : m = .towardZero → num % den = 0 ∨ 0 ≤ num)
    (heven : m = .nearestEven → 2 * (num % den) ≤ den ∧ (2 * (num % den) = den → num / den % 2 = 0)) :
    RoundsTo m num den (num / den) := by
  have hfloor : num / den * den = num - num % den := by linarith [Int.ediv_mul_add_emod num den]
  have hr := Int.emod_nonneg num hden.ne'
  have hlt := Int.emod_lt_of_pos num hden
  refine ⟨by omega, fun h => ?_, fun _ => by omega, fun h => ?_, fun h => ?_⟩
  · have := hup h
    omega
  · obtain hexact | hnum := hzero h
    · omega
    · have : 0 ≤ num / den * den := mul_nonneg (Int.ediv_nonneg hnum hden.le) hden.le
      omega
  · obtain ⟨hhalf, htie⟩ := heven h
    exact ⟨by omega, fun ht => htie (by omega)⟩

/-- The integer above an inexact quotient is the rounded quotient in every mode whose own condition admits it. -/
theorem roundsTo_floor_add_one {m : Rounding} {num den : Int} (hden : 0 < den) (hr : num % den ≠ 0)
    (hdown : m ≠ .down) (hzero : m = .towardZero → num < 0)
    (heven : m = .nearestEven → den ≤ 2 * (num % den) ∧ (2 * (num % den) = den → num / den % 2 ≠ 0)) :
    RoundsTo m num den (num / den + 1) := by
  have hceil : (num / den + 1) * den = num - num % den + den := by linarith [Int.ediv_mul_add_emod num den]
  have hpos := Int.emod_nonneg num hden.ne'
  have hlt := Int.emod_lt_of_pos num hden
  refine ⟨by omega, fun _ => by omega, fun h => absurd h hdown, fun h => ?_, fun h => ?_⟩
  · have hneg : num / den < 0 := Int.ediv_neg_of_neg_of_pos (hzero h) hden
    have : (num / den + 1) * den ≤ 0 := mul_nonpos_of_nonpos_of_nonneg (by omega) hden.le
    omega
  · obtain ⟨hhalf, htie⟩ := heven h
    refine ⟨by omega, fun ht => ?_⟩
    have := htie (by omega)
    omega

/-- Every rounded division of the model rounds as R104 says, in each of its four modes. -/
theorem roundDiv_roundsTo (m : Rounding) (num : Int) {den : Nat} (hden : 0 < den) :
    RoundsTo m num den (roundDiv m num den) := by
  have hden : (0 : Int) < den := by exact_mod_cast hden
  by_cases hr : num % (den : Int) = 0
  · simp only [roundDiv, if_pos hr]
    exact roundsTo_floor hden (fun _ => hr) (fun _ => .inl hr) (fun _ => ⟨by omega, by omega⟩)
  · simp only [roundDiv, if_neg hr]
    cases m with
    | down => exact roundsTo_floor hden nofun nofun nofun
    | up => exact roundsTo_floor_add_one hden hr nofun nofun nofun
    | towardZero =>
      dsimp only
      split
      · next hneg => exact roundsTo_floor_add_one hden hr nofun (fun _ => hneg) nofun
      · next hnonneg => exact roundsTo_floor hden nofun (fun _ => .inr (not_lt.mp hnonneg)) nofun
    | nearestEven =>
      dsimp only
      split_ifs with hbelow habove heven
      · exact roundsTo_floor hden nofun nofun (fun _ => ⟨hbelow.le, fun h => absurd h hbelow.ne⟩)
      · exact roundsTo_floor_add_one hden hr nofun nofun (fun _ => ⟨habove.le, fun h => absurd h habove.ne'⟩)
      · exact roundsTo_floor hden nofun nofun (fun _ => ⟨not_lt.mp habove, fun _ => heven⟩)
      · exact roundsTo_floor_add_one hden hr nofun nofun (fun _ => ⟨not_lt.mp hbelow, fun _ => heven⟩)

/-! ## The lag, its shift and the increment adjustment (R102, R104, R105) -/

/-- The lag is the balanced remainder by one second. -/
theorem lagOf_eq_bmod (offset : Int) (ns : Nat) : lagOf offset ns = (offset - ns).bmod 1000000000 := rfl

theorem lagOf_bounds (offset : Int) (ns : Nat) : -500000000 ≤ lagOf offset ns ∧ lagOf offset ns ≤ 499999999 := by
  have hlow : -(1000000000 / 2) ≤ (offset - ns).bmod 1000000000 := Int.le_bmod (by decide)
  have hhigh : (offset - ns).bmod 1000000000 < (1000000000 + 1) / 2 := Int.bmod_lt (by decide)
  rw [lagOf_eq_bmod]
  omega

/-- The lag differs from offset − captured nanoseconds by whole seconds. -/
theorem lagOf_eq_sub_seconds (offset : Int) (ns : Nat) :
    lagOf offset ns = offset - ns - (offset - ns).bdiv 1000000000 * 1000000000 :=
  Int.bmod_eq_self_sub_bdiv_mul (offset - ns) 1000000000

theorem shiftBy_of_le (m : Rounding) (lag : Int) {k : Nat} (h : k ≤ 16) :
    shiftBy m lag k = lag * 2 ^ (16 - k) :=
  if_pos h

theorem shiftBy_roundsTo (m : Rounding) (lag : Int) {k : Nat} (h : 16 < k) :
    RoundsTo m lag (2 ^ (k - 16)) (shiftBy m lag k) := by
  have hround := roundDiv_roundsTo m lag (den := 2 ^ (k - 16)) (by positivity)
  rw [shiftBy, if_neg (by omega)]
  exact_mod_cast hround

theorem adjOf_roundsTo (m : Rounding) (f : Int) : RoundsTo m (f * 524288) 1000000000 (adjOf m f) :=
  roundDiv_roundsTo m (f * 524288) (den := 1000000000) (by decide)

/-- A rounded adjustment is less than 1 from the quotient, and 13,107,200,000 × 524,288 / 10^9 is 6,871,947.67…. -/
theorem adjOf_natAbs_le (m : Rounding) {f : Int} (h : f.natAbs ≤ 13107200000) : (adjOf m f).natAbs ≤ 6871948 := by
  obtain ⟨hnear, -⟩ := adjOf_roundsTo m f
  omega

/-- Settles O38: the lag is a balanced remainder, and the shift and the adjustment are rounded divisions. -/
theorem lagAndAdjustment : Obligations.LagAndAdjustment := by
  refine ⟨fun offset ns => ?_, fun m lag k => ⟨shiftBy_of_le m lag, shiftBy_roundsTo m lag⟩,
    fun m f => ⟨adjOf_roundsTo m f, adjOf_natAbs_le m⟩⟩
  obtain ⟨hlow, hhigh⟩ := lagOf_bounds offset ns
  exact ⟨hlow, hhigh, _, lagOf_eq_sub_seconds offset ns⟩

end Sys2Proof.Machine
end

section
/-! PROOFS. What the reports do to the raised set, the entries and the relays (R157, R158, R164). -/

namespace Sys2Proof.Machine

/-! ## Entries leave the raised set, the cause settings and the relays alone (R160 to R163) -/

/-- Only the alarm queue, its index and count, and the repeat tracking of the alarm unit may have changed. -/
def EntriesOnly (s t : State) : Prop :=
  t.alarm = { s.alarm with
    track := t.alarm.track, queue := t.alarm.queue, idx := t.alarm.idx, count := t.alarm.count }

theorem EntriesOnly.trans {s t u : State} (h : EntriesOnly s t) (g : EntriesOnly t u) : EntriesOnly s u := by
  unfold EntriesOnly at *
  rw [g, h]

theorem writeEntry_entriesOnly (e : AlarmEntry) (s : State) : EntriesOnly s (writeEntry e s) := by
  simp [EntriesOnly, writeEntry]

theorem trackPosted_entriesOnly (c : Fin 64) (n : Nat) (s : State) : EntriesOnly s (trackPosted c n s) := by
  simp [EntriesOnly, trackPosted]

theorem judgeWrap_entriesOnly (s : State) : EntriesOnly s (judgeWrap s) := by
  unfold judgeWrap
  split
  · exact (writeEntry_entriesOnly _ s).trans (trackPosted_entriesOnly _ _ _)
  · rfl

theorem postEntry_entriesOnly (c : Fin 64) (n : Nat) (a : AlarmAction) (r : Nat) (p : Word) (s : State) :
    EntriesOnly s (postEntry c n a r p s) :=
  (writeEntry_entriesOnly _ s).trans (judgeWrap_entriesOnly _)

/-! ## The entry of a report does not depend on the raised set (R160) -/

/-- Replace the raised set. -/
def State.withRaised (s : State) (r : Assoc Word) : State := s.modAlarm (fun a => { a with raised := r })

theorem offerAlarmParcel_withRaised (e : AlarmEntry) (s : State) (r : Assoc Word) :
    offerAlarmParcel e (s.withRaised r) = (offerAlarmParcel e s).withRaised r := by
  have htest : ((s.withRaised r).glob.alarmReporting && (s.withRaised r).isAwake (s.withRaised r).mgmtSlot &&
      decide ((s.withRaised r).mgmt.taken < Config.replyPlaces)) =
      (s.glob.alarmReporting && s.isAwake s.mgmtSlot && decide (s.mgmt.taken < Config.replyPlaces)) := rfl
  unfold offerAlarmParcel
  rw [htest]
  split <;> rfl

theorem writeEntry_withRaised (e : AlarmEntry) (s : State) (r : Assoc Word) :
    writeEntry e (s.withRaised r) = (writeEntry e s).withRaised r :=
  offerAlarmParcel_withRaised e (s.modAlarm (fun a =>
    { a with queue := assocPut a.queue a.idx e, idx := (a.idx + 1) % Config.alarmPlaces, count := a.count + 1 })) r

theorem judgeWrap_withRaised (s : State) (r : Assoc Word) :
    judgeWrap (s.withRaised r) = (judgeWrap s).withRaised r := by
  have htest : ((s.withRaised r).alarm.idx = 0 ∧ ((s.withRaised r).cause causeQueueWrapped).enable = true) =
      (s.alarm.idx = 0 ∧ (s.cause causeQueueWrapped).enable = true) := rfl
  unfold judgeWrap
  simp only [htest]
  split
  · exact congrArg (trackPosted causeQueueWrapped 0) (writeEntry_withRaised _ s r)
  · rfl

theorem postEntry_withRaised (c : Fin 64) (n : Nat) (a : AlarmAction) (k : Nat) (p : Word) (s : State)
    (r : Assoc Word) : postEntry c n a k p (s.withRaised r) = (postEntry c n a k p s).withRaised r :=
  (congrArg judgeWrap (writeEntry_withRaised _ s r)).trans (judgeWrap_withRaised _ r)

/-! ## What a raise and a clear do (R157) -/

/-- A report's entry is made when its cause is enabled. -/
def reportEntry (c : Fin 64) (n : Nat) (a : AlarmAction) (p : Word) (s : State) : State :=
  if (s.cause c).enable = true then postEntry c n a 0 p s else s

theorem reportEntry_withRaised (c : Fin 64) (n : Nat) (a : AlarmAction) (p : Word) (s : State) (r : Assoc Word) :
    reportEntry c n a p (s.withRaised r) = (reportEntry c n a p s).withRaised r := by
  have hcause : (s.withRaised r).cause c = s.cause c := rfl
  unfold reportEntry
  rw [hcause]
  split
  · exact postEntry_withRaised ..
  · rfl

theorem raiseCond_of_raised {c : Fin 64} {n : Nat} {s : State} (h : s.isRaised c n = true) (p : Word) :
    raiseCond c n p s = s := if_pos h

theorem raiseCond_of_not_raised {c : Fin 64} {n : Nat} {s : State} (h : s.isRaised c n = false) (p : Word) :
    raiseCond c n p s =
      judgeRelays ((reportEntry c n .raise p s).withRaised (assocPut s.alarm.raised (pairKey c n) p)) := by
  rw [← reportEntry_withRaised]
  exact if_neg (by simp [h])

theorem clearCond_of_raised {c : Fin 64} {n : Nat} {s : State} (h : s.isRaised c n = true) (p : Word) :
    clearCond c n p s =
      judgeRelays ((reportEntry c n .clear p s).withRaised (assocDel s.alarm.raised (pairKey c n))) := by
  rw [← reportEntry_withRaised]
  exact if_pos h

theorem clearCond_of_not_raised {c : Fin 64} {n : Nat} {s : State} (h : s.isRaised c n = false) (p : Word) :
    clearCond c n p s = s := if_neg (by simp [h])

/-! ## The relays (R164) -/

theorem judgeRelays_relaysOk (s : State) : (judgeRelays s).relaysOk := ⟨rfl, rfl, rfl⟩

/-- What a report leaves of the state with its entry: the raised set is the given one, and the relays are judged. -/
theorem judgeRelays_withRaised (u : State) (r : Assoc Word) {t : State} (h : t = judgeRelays (u.withRaised r)) :
    t.relaysOk ∧ t.alarm.raised = r ∧ t.alarm.queue = u.alarm.queue ∧ t.alarm.idx = u.alarm.idx ∧
    t.alarm.count = u.alarm.count ∧ KeepsBut [.alarm] u t := by
  subst h
  refine ⟨judgeRelays_relaysOk _, rfl, rfl, rfl, rfl, fun p hp => ?_, rfl⟩
  cases p <;> simp_all [Part.Same, State.withRaised]

/-- The relays are driven by the raised pairs, their causes' settings and the watches' severities alone. -/
theorem drives_congr {s t : State} (hraised : t.alarm.raised = s.alarm.raised)
    (hcause : ∀ c, (t.cause c).enable = (s.cause c).enable ∧ (t.cause c).severity = (s.cause c).severity)
    (hwatch : ∀ n : Fin 32, t.watches[n].severity = s.watches[n].severity) (sev : Severity) :
    t.drives sev = s.drives sev := by
  simp only [State.drives, State.severityOf, hraised, hcause, hwatch]

/-! ## Both invariants of the raised conditions -/

/-- The relays follow the raised conditions, and the raised set is in order. -/
def State.alarmOk (s : State) : Prop := s.relaysOk ∧ s.raisedOk

/-- What neither the relays nor the raised set rest on may change. -/
theorem State.alarmOk.congr {s t : State} (h : s.alarmOk)
    (halarm : t.alarm = { s.alarm with
      track := t.alarm.track, queue := t.alarm.queue, idx := t.alarm.idx, count := t.alarm.count,
      inputs := t.alarm.inputs, causes := t.alarm.causes })
    (hcause : ∀ c, (t.cause c).enable = (s.cause c).enable ∧ (t.cause c).severity = (s.cause c).severity)
    (hwatch : ∀ n : Fin 32, t.watches[n].severity = s.watches[n].severity) : t.alarmOk := by
  obtain ⟨⟨hcrit, hmaj, hmin⟩, hraised⟩ := h
  have hsame : t.alarm.raised = s.alarm.raised := by rw [halarm]
  refine ⟨?_, by rwa [State.raisedOk, hsame]⟩
  unfold State.relaysOk
  simp only [drives_congr hsame hcause hwatch]
  rw [halarm]
  exact ⟨hcrit, hmaj, hmin⟩

/-- An operation that leaves the alarm unit and the watches alone. -/
theorem State.alarmOk.frame {s t : State} (h : s.alarmOk) (hsame : t.alarm = s.alarm ∧ t.watches = s.watches) :
    t.alarmOk := by
  obtain ⟨halarm, hwatch⟩ := hsame
  exact h.congr (by simp [halarm]) (fun c => by simp [State.cause, halarm]) (fun n => by simp [hwatch])

theorem State.alarmOk.entries {s t : State} (h : s.alarmOk) (he : EntriesOnly s t) (hwatch : t.watches = s.watches) :
    t.alarmOk :=
  h.congr (by rw [he]) (fun c => by rw [State.cause, he]; exact ⟨rfl, rfl⟩) (fun n => by simp [hwatch])

/-- A pair's key gives its cause back, for instances 0 to 63. -/
theorem keyCause_pairKey (c : Fin 64) {n : Nat} (h : n < 64) : keyCause (pairKey c n) = c := by
  ext
  simp only [keyCause, pairKey, Fin.ofNat]
  omega

theorem raiseCond_raisedOk {s : State} {c : Fin 64} {n : Nat} {p : Word} (hc : isStanding c = true) (hn : n < 64)
    (h : s.raisedOk) : (raiseCond c n p s).raisedOk := by
  obtain ⟨hwf, hstanding⟩ := h
  unfold State.raisedOk
  rw [raiseCond_raised]
  split
  · exact ⟨hwf, hstanding⟩
  · refine ⟨assocPut_wf _ _ _ hwf, fun q hq => ?_⟩
    obtain rfl | hq := assocPut_mem hq
    · simpa [keyCause_pairKey c hn] using hc
    · exact hstanding q hq

theorem clearCond_raisedOk {s : State} {c : Fin 64} {n : Nat} {p : Word} (h : s.raisedOk) :
    (clearCond c n p s).raisedOk := by
  obtain ⟨hwf, hstanding⟩ := h
  unfold State.raisedOk
  rw [clearCond_raised]
  split
  · exact ⟨assocDel_wf _ _ hwf, fun q hq => hstanding q (List.mem_filter.mp hq).1⟩
  · exact ⟨hwf, hstanding⟩

theorem raiseCond_relaysOk {s : State} {c : Fin 64} {n : Nat} {p : Word} (h : s.relaysOk) :
    (raiseCond c n p s).relaysOk := by
  cases hr : s.isRaised c n with
  | true => rwa [raiseCond_of_raised hr]
  | false => exact raiseCond_of_not_raised hr p ▸ judgeRelays_relaysOk _

theorem clearCond_relaysOk {s : State} {c : Fin 64} {n : Nat} {p : Word} (h : s.relaysOk) :
    (clearCond c n p s).relaysOk := by
  cases hr : s.isRaised c n with
  | true => exact clearCond_of_raised hr p ▸ judgeRelays_relaysOk _
  | false => rwa [clearCond_of_not_raised hr]

theorem raiseCond_alarmOk {s : State} {c : Fin 64} {n : Nat} {p : Word} (hc : isStanding c = true) (hn : n < 64)
    (h : s.alarmOk) : (raiseCond c n p s).alarmOk :=
  ⟨raiseCond_relaysOk h.1, raiseCond_raisedOk hc hn h.2⟩

theorem clearCond_alarmOk {s : State} {c : Fin 64} {n : Nat} {p : Word} (h : s.alarmOk) :
    (clearCond c n p s).alarmOk :=
  ⟨clearCond_relaysOk h.1, clearCond_raisedOk h.2⟩

/-- Of the cause settings a suppressed event changes the suppressed count alone (R159). -/
theorem suppressEvent_alarmOk {s : State} {c : Fin 64} {n : Nat} (h : s.alarmOk) : (suppressEvent c n s).alarmOk := by
  refine h.congr (by simp [suppressEvent]) (fun d => ?_) (fun _ => by simp)
  by_cases hd : c.val = d.val <;> simp [suppressEvent, State.cause, hd]

theorem postEvent_alarmOk {s : State} {c : Fin 64} {n : Nat} {p : Word} (h : s.alarmOk) :
    (postEvent c n p s).alarmOk := by
  unfold postEvent
  split
  · split
    · exact suppressEvent_alarmOk h
    · exact h.entries ((trackPosted_entriesOnly ..).trans (postEntry_entriesOnly ..)) (by simp)
  · exact h

theorem ite_alarmOk {p : Prop} [Decidable p] {t u : State} (ht : t.alarmOk) (hu : u.alarmOk) :
    (if p then t else u).alarmOk := by
  split
  · exact ht
  · exact hu

/-- An operation done where a condition holds. -/
theorem when_alarmOk {p : Prop} [Decidable p] {f : State → State} {u : State}
    (hf : ∀ {v : State}, v.alarmOk → (f v).alarmOk) (h : u.alarmOk) : (if p then f u else u).alarmOk :=
  ite_alarmOk (hf h) h

/-- A list of operations, each of which keeps the relays and the raised set in order. -/
theorem foldl_alarmOk {β : Type} {l : List β} {f : State → β → State} {s : State} (h : s.alarmOk)
    (hf : ∀ t b, t.alarmOk → (f t b).alarmOk) : (l.foldl f s).alarmOk := by
  induction l generalizing s with
  | nil => exact h
  | cons b r ih => exact ih (hf s b h)

theorem eachSlot_alarmOk {f : Slot → State → State} {s : State} (h : s.alarmOk)
    (hf : ∀ i t, t.alarmOk → (f i t).alarmOk) : (s.eachSlot f).alarmOk :=
  foldl_alarmOk h (fun t i => hf i t)

/-- A write of a cause judges the relays afresh, and replayed raises are entries alone (R156, R158). -/
theorem writeCause_alarmOk {s : State} {c : Fin 64} {e : Bool} {sev : Severity} {n : Nat} (h : s.alarmOk) :
    (writeCause c e sev n s).alarmOk := by
  have hfold (l : List (Nat × Word)) (u : State) :
      (l.foldl (fun t p => postEntry c p.1 .raise 0 p.2 t) u).alarm.raised = u.alarm.raised := by
    induction l generalizing u with
    | nil => rfl
    | cons p r ih => rw [List.foldl_cons, ih, postEntry_raised]
  refine ⟨judgeRelays_relaysOk _, ?_⟩
  have hraised : (writeCause c e sev n s).alarm.raised = s.alarm.raised := by
    unfold writeCause
    simp only [judgeRelays_raised]
    split
    · rw [hfold]; simp
    · simp
  rw [State.raisedOk, hraised]
  exact h.2

end Sys2Proof.Machine
end

section
/-! PROOFS. The shared operations keep the relays and the raised set in order: each reports standing causes alone. -/

namespace Sys2Proof.Machine

/-! ## Operations that report nothing -/

section Inert

variable {s : State} {i : Slot}

theorem modPort_alarmOk {f : Port → Port} (h : s.alarmOk) : (s.modPort i f).alarmOk := h.frame (by simp)
theorem modIng_alarmOk {f : Ingress → Ingress} (h : s.alarmOk) : (s.modIng i f).alarmOk := h.frame (by simp)
theorem modEgr_alarmOk {f : Egress → Egress} (h : s.alarmOk) : (s.modEgr i f).alarmOk := h.frame (by simp)
theorem modCtl_alarmOk {f : Ctl → Ctl} (h : s.alarmOk) : (s.modCtl i f).alarmOk := h.frame (by simp)
theorem setCursor_alarmOk {c : Cursor} (h : s.alarmOk) : (s.setCursor i c).alarmOk := h.frame (by simp)
theorem modTiming_alarmOk {f : Timing → Timing} (h : s.alarmOk) : (s.modTiming f).alarmOk := h.frame (by simp)
theorem modMgmt_alarmOk {f : Mgmt → Mgmt} (h : s.alarmOk) : (s.modMgmt f).alarmOk := h.frame (by simp)
theorem modChain_alarmOk {f : ChainEngine → ChainEngine} (h : s.alarmOk) : (s.modChain f).alarmOk := h.frame (by simp)
theorem handOver_alarmOk {hd : Option LogHandle} {x : HandOver} (h : s.alarmOk) : (handOver hd x s).alarmOk :=
  h.frame (by simp)
theorem wakeReport_alarmOk (h : s.alarmOk) : (wakeReport i s).alarmOk := h.frame (by simp)
theorem enqueueRef_alarmOk {c : Cls} {pid : Nat} (h : s.alarmOk) : (enqueueRef i c pid s).alarmOk := h.frame (by simp)
theorem emptySwitchQueues_alarmOk (h : s.alarmOk) : (emptySwitchQueues i s).alarmOk := h.frame (by simp)

end Inert

/-! ## The pool (R38 to R46) -/

theorem poolJudge_alarmOk {s : State} (h : s.alarmOk) : (poolJudge s).alarmOk :=
  ite_alarmOk (when_alarmOk clearCond_alarmOk h) (when_alarmOk (raiseCond_alarmOk (by decide) (by omega)) h)

theorem allocStored_alarmOk {s : State} {p : Stored} (h : s.alarmOk) : (allocStored p s).alarmOk :=
  poolJudge_alarmOk (h.frame (by simp))

theorem releaseHold_alarmOk {s : State} {pid : Nat} (h : s.alarmOk) : (releaseHold pid s).alarmOk := by
  unfold releaseHold
  split
  · exact h
  · exact ite_alarmOk (poolJudge_alarmOk (h.frame (by simp))) (h.frame (by simp))

theorem removeRef_alarmOk {s : State} {i : Slot} {c : Cls} {pid : Nat} (h : s.alarmOk) :
    (removeRef i c pid s).alarmOk :=
  releaseHold_alarmOk (h.frame (by simp))

theorem headDropOne_alarmOk {s : State} {i : Slot} {pid : Nat} (h : s.alarmOk) : (headDropOne i pid s).alarmOk := by
  unfold headDropOne
  split
  · exact removeRef_alarmOk h
  · next p _ =>
    have hdropped : (postEvent causeStreamDrop i.val (wordOf p.owner.val) (removeRef i .stream pid s)).alarmOk :=
      postEvent_alarmOk (removeRef_alarmOk h)
    exact ite_alarmOk (hdropped.frame (by simp)) hdropped

theorem headDrop_alarmOk {s : State} {i : Slot} {b : Nat} {l : List Nat} (h : s.alarmOk) :
    (headDrop i b l s).alarmOk := by
  induction l generalizing s with
  | nil => exact h
  | cons v r ih =>
    unfold headDrop
    exact ite_alarmOk h (ih (headDropOne_alarmOk h))

theorem offerStream_alarmOk {s : State} {i owner : Slot} {pid b : Nat} (h : s.alarmOk) :
    (offerStream i pid owner b s).2.alarmOk := by
  unfold offerStream
  dsimp only
  split
  · exact enqueueRef_alarmOk (headDrop_alarmOk h)
  · exact postEvent_alarmOk (headDrop_alarmOk h)

theorem releaseHolds_alarmOk {s : State} {l : List Nat} (h : s.alarmOk) :
    (l.foldl (fun t pid => releaseHold pid t) s).alarmOk :=
  foldl_alarmOk h (fun _ _ => releaseHold_alarmOk)

theorem flushSlot_alarmOk {s : State} {i : Slot} (h : s.alarmOk) : (flushSlot i s).alarmOk :=
  emptySwitchQueues_alarmOk (releaseHolds_alarmOk (h.frame (by simp)))

theorem dropWaiting_alarmOk {s : State} {i : Slot} (h : s.alarmOk) : (dropWaiting i s).alarmOk :=
  ite_alarmOk (modMgmt_alarmOk (releaseHolds_alarmOk (h.frame (by simp)))) (releaseHolds_alarmOk (h.frame (by simp)))

/-! ## The chain engine (R147 to R151) -/

theorem abortChain_alarmOk {s : State} {i : Slot} {r : AbortReason} (h : s.alarmOk) : (abortChain i r s).alarmOk :=
  ite_alarmOk h (postEvent_alarmOk (h.frame (by simp)))

theorem completeChain_alarmOk {s : State} {i : Slot} (h : s.alarmOk) : (completeChain i s).alarmOk :=
  postEvent_alarmOk (h.frame (by simp))

theorem chainMade_alarmOk {s : State} {i : Slot} (h : s.alarmOk) : (chainMade i s).alarmOk := by
  unfold chainMade
  dsimp only
  split
  · exact completeChain_alarmOk h
  · exact ite_alarmOk (h.frame (by simp)) (completeChain_alarmOk h)

theorem walk_alarmOk {s : State} {i : Slot} {n : Nat} (h : s.alarmOk) : (walk i n s).alarmOk := by
  induction n generalizing s with
  | zero => exact h
  | succ n ih =>
    exact ite_alarmOk h (ite_alarmOk (chainMade_alarmOk h)
      (ite_alarmOk (ih (h.frame (by simp))) (abortChain_alarmOk h)))

theorem startChain_alarmOk {s : State} {i : Slot} {d : Fin 64} (h : s.alarmOk) : (startChain i d s).alarmOk :=
  walk_alarmOk (h.frame (by simp))

theorem autoStart_alarmOk {s : State} {i : Slot} (h : s.alarmOk) : (autoStart i s).alarmOk := by
  unfold autoStart
  dsimp only
  split
  · exact when_alarmOk startChain_alarmOk h
  · exact h

theorem makeChainParcel_alarmOk {s : State} {i : Slot} (h : s.alarmOk) : (makeChainParcel i s).alarmOk :=
  walk_alarmOk (modChain_alarmOk (setCursor_alarmOk (wakeReport_alarmOk (allocStored_alarmOk (h.frame (by simp))))))

theorem chainSent_alarmOk {s : State} {i : Slot} {pid : Nat} (h : s.alarmOk) : (chainSent i pid s).alarmOk :=
  when_alarmOk completeChain_alarmOk h

/-! ## The transit log (R76, R77) -/

theorem logReserve_alarmOk {s : State} {i : Slot} {hdr : Header} {st : Stamp} {park : Bool} (h : s.alarmOk) :
    (logReserve i hdr st park s).2.alarmOk := by
  unfold logReserve
  split
  · have hreserved {f : TransitLog → TransitLog} : (s.modLog f).alarmOk := h.frame (by simp)
    exact ite_alarmOk (postEvent_alarmOk hreserved) (when_alarmOk postEvent_alarmOk hreserved)
  · exact h

/-! ## Watches (R164, R166 to R169) -/

/-- A watch replaced by one of the same severity. -/
theorem setWatch_alarmOk {s : State} {n : Fin 32} {w : Watch} (h : s.alarmOk)
    (hw : w.severity = s.watches[n].severity) : (s.setWatch n w).alarmOk := by
  refine h.congr (by simp) (fun c => by simp [State.cause]) (fun m => ?_)
  by_cases hm : n = m
  · subst hm; simpa using hw
  · have hm' : n.val ≠ m.val := fun e => hm (Fin.ext e)
    simp [hm']

theorem evalWatch_alarmOk {s : State} {n : Fin 32} (h : s.alarmOk) : (evalWatch n s).alarmOk := by
  have hset (r : Relation × Word) :
      (s.setWatch n { s.watches[n] with lastRel := r.1, lastVal := r.2 }).alarmOk := setWatch_alarmOk h rfl
  exact ite_alarmOk (ite_alarmOk (hset _) (when_alarmOk clearCond_alarmOk (hset _)))
    (when_alarmOk (raiseCond_alarmOk (by decide) (by omega)) (hset _))

theorem evalOn_alarmOk {s : State} {a : Fin 64} {n : Fin 32} (h : s.alarmOk) : (evalOn a n s).alarmOk :=
  when_alarmOk evalWatch_alarmOk h

theorem evalArea_alarmOk {s : State} {a : Fin 64} (h : s.alarmOk) : (evalArea a s).alarmOk :=
  foldl_alarmOk h (fun _ _ => evalOn_alarmOk)

/-- Whatever the relays are, an evaluation keeps the raised set in order. -/
theorem evalWatch_raisedOk {s : State} {n : Fin 32} (h : s.raisedOk) : (evalWatch n s).raisedOk := by
  have hset (w : Watch) : (s.setWatch n w).raisedOk := by simpa [State.raisedOk] using h
  unfold evalWatch
  dsimp only
  split
  · split
    · exact hset _
    · split
      · exact clearCond_raisedOk (hset _)
      · exact hset _
  · split
    · exact raiseCond_raisedOk (by decide) (by omega) (hset _)
    · exact hset _

/-- A changed severity leaves the relays behind until they are judged at the end of the write (R164). -/
theorem writeWatch_alarmOk {s : State} {n : Fin 32} {ws : List Word} (h : s.alarmOk) : (writeWatch n ws s).alarmOk := by
  unfold writeWatch
  dsimp only
  by_cases hsev : (s.watches[n].withWords ws).severity = s.watches[n].severity
  · rw [if_pos hsev]
    have hset : (s.setWatch n (s.watches[n].withWords ws)).alarmOk := setWatch_alarmOk h hsev
    split
    · exact evalWatch_alarmOk hset
    · exact clearCond_alarmOk (setWatch_alarmOk hset (by simp))
  · rw [if_neg hsev]
    have hset (u : State) (w : Watch) (hu : u.raisedOk) : (u.setWatch n w).raisedOk := by
      simpa [State.raisedOk] using hu
    refine ⟨judgeRelays_relaysOk _, ?_⟩
    rw [State.raisedOk, judgeRelays_raised]
    split
    · exact evalWatch_raisedOk (hset _ _ h.2)
    · exact clearCond_raisedOk (hset _ _ (hset _ _ h.2))

/-! ## Parking (R60 to R69) -/

theorem parkDiscard_alarmOk {s : State} {i : Slot} {a : Fin 64} {chan : BitVec 6} {r : Nat} (h : s.alarmOk) :
    (parkDiscard i a chan r s).alarmOk := postEvent_alarmOk h

theorem parkHeader_alarmOk {s : State} {i : Slot} {a : Fin 64} {hdr : Header} {hd : Option LogHandle}
    (h : s.alarmOk) : (parkHeader i a hdr hd s).alarmOk := by
  unfold parkHeader
  split
  · exact h.frame (by simp)
  · exact handOver_alarmOk (parkDiscard_alarmOk (h.frame (by simp)))

theorem landLatest_alarmOk {s : State} {good : Bool} {i : Slot} {n : Fin 64} {hdr : Header} {ws : List Word}
    (h : s.alarmOk) : (landLatest good i n hdr ws s).alarmOk :=
  ite_alarmOk (evalArea_alarmOk (h.frame (by simp))) (h.frame (by simp))

theorem postCrossings_alarmOk {s : State} {n : Fin 64} {size i f new : Nat} (h : s.alarmOk) :
    (postCrossings n size i f new s).alarmOk := by
  unfold postCrossings
  exact when_alarmOk postEvent_alarmOk (when_alarmOk postEvent_alarmOk (when_alarmOk postEvent_alarmOk h))

theorem landRing_alarmOk {s : State} {good : Bool} {i : Slot} {n : Fin 64} {hdr : Header} {ws : List Word}
    (h : s.alarmOk) : (landRing good i n hdr ws s).alarmOk :=
  ite_alarmOk (when_alarmOk postCrossings_alarmOk (h.frame (by simp))) (h.frame (by simp))

theorem land_alarmOk {s : State} {good : Bool} {i : Slot} {n : Fin 64} {hdr : Header} {ws : List Word}
    (h : s.alarmOk) : (land good i n hdr ws s).alarmOk := by
  unfold land
  split
  · exact h
  · exact landLatest_alarmOk h
  · exact landRing_alarmOk h

theorem parkEnd_alarmOk {s : State} {i : Slot} {e : PEnd} {hd : Option LogHandle} (h : s.alarmOk) :
    (parkEnd i e hd s).alarmOk := by
  unfold parkEnd
  dsimp only
  split
  · exact h.frame (by simp)
  · exact h.frame (by simp)
  · have hclear : (s.setLanding i .clear).alarmOk := h.frame (by simp)
    exact ite_alarmOk (handOver_alarmOk hclear)
      (ite_alarmOk (handOver_alarmOk (parkDiscard_alarmOk hclear)) (handOver_alarmOk (land_alarmOk hclear)))

theorem writeArea_alarmOk {s : State} {n : Fin 64} {ws : List Word} (h : s.alarmOk) : (writeArea n ws s).alarmOk :=
  evalArea_alarmOk (h.frame (by simp))

/-! ## EDGE and TIME parcels (R47, R116, R120) -/

theorem offerExpress_alarmOk {s : State} {i : Slot} {p : ExpressParcel} {lost : Word} (h : s.alarmOk) :
    (offerExpress i p lost s).alarmOk :=
  ite_alarmOk (h.frame (by simp)) (postEvent_alarmOk h)

theorem dispatchEdge_alarmOk {s : State} {i : Slot} {d : Sched} (h : s.alarmOk) : (dispatchEdge i d s).alarmOk :=
  when_alarmOk offerExpress_alarmOk (h.frame (by simp))

theorem offerTime_alarmOk {s : State} {p : ExpressParcel} {lost : Word} {i : Slot} (h : s.alarmOk) :
    (offerTime p lost i s).alarmOk :=
  when_alarmOk offerExpress_alarmOk h

theorem makeTimeParcels_alarmOk {s : State} (h : s.alarmOk) : (makeTimeParcels s).alarmOk :=
  eachSlot_alarmOk h (fun _ _ => offerTime_alarmOk)

end Sys2Proof.Machine
end

section
/-! PROOFS. The timing unit, the forwarding unit and the slot controller keep the relays and the raised set in order. -/

namespace Sys2Proof.Machine

/-! ## The timing unit (R92 to R109) -/

theorem setFreq_alarmOk {s : State} {intg freq : Int} (h : s.alarmOk) : (setFreq intg freq s).alarmOk :=
  h.frame (by simp)

theorem modRef_alarmOk {s : State} {r : RefId} {f : Reference → Reference} (h : s.alarmOk) :
    (modRef r f s).alarmOk := h.frame (by simp)

theorem changeLoop_alarmOk {s : State} {new : LoopState} (h : s.alarmOk) : (changeLoop new s).alarmOk :=
  ite_alarmOk h (postEvent_alarmOk (h.frame (by simp)))

theorem enterAcquiring_alarmOk {s : State} (h : s.alarmOk) : (enterAcquiring s).alarmOk := by
  unfold enterAcquiring
  dsimp only
  split
  · exact changeLoop_alarmOk (clearCond_alarmOk (clearCond_alarmOk (h.frame (by simp))))
  · exact changeLoop_alarmOk (clearCond_alarmOk (clearCond_alarmOk (h.frame (by simp))))
  · exact changeLoop_alarmOk (h.frame (by simp))

theorem enterHoldover_alarmOk {s : State} (h : s.alarmOk) : (enterHoldover s).alarmOk :=
  raiseCond_alarmOk (by decide) (by omega) (changeLoop_alarmOk (h.frame (by simp)))

theorem judgeSelection_alarmOk {s : State} (h : s.alarmOk) : (judgeSelection s).alarmOk := by
  have hswitch (new : Sel) (p : Word) :
      (postEvent causeReferenceSwitch 0 p (s.modTiming (fun t => { t with sel := new }))).alarmOk :=
    postEvent_alarmOk (h.frame (by simp))
  unfold judgeSelection
  dsimp only
  split
  · exact h
  · split
    · split
      · exact enterHoldover_alarmOk (hswitch _ _)
      · exact enterHoldover_alarmOk (hswitch _ _)
      · exact hswitch _ _
    · exact enterAcquiring_alarmOk (hswitch _ _)

theorem qualify_alarmOk {s : State} {r : RefId} (h : s.alarmOk) : (qualify r s).alarmOk :=
  judgeSelection_alarmOk (clearCond_alarmOk (h.frame (by simp)))

theorem refNum_lt (r : RefId) : refNum r < 64 := by cases r <;> decide

theorem loseReference_alarmOk {s : State} {r : RefId} (h : s.alarmOk) : (loseReference r s).alarmOk := by
  have hloss (f : Reference → Reference) (p : Word) : (raiseCond causeRefLoss (refNum r) p (modRef r f s)).alarmOk :=
    raiseCond_alarmOk (by decide) (refNum_lt r) (h.frame (by simp))
  exact when_alarmOk judgeSelection_alarmOk (hloss _ _)

theorem checkSeconds_alarmOk {s : State} {r : RefId} {b : Nat} (h : s.alarmOk) : (checkSeconds r b s).alarmOk := by
  unfold checkSeconds
  split
  · exact h
  · exact ite_alarmOk (h.frame (by simp)) (postEvent_alarmOk (h.frame (by simp)))

theorem stepTime_alarmOk {s : State} {lag : Int} (h : s.alarmOk) : (stepTime lag s).alarmOk :=
  modTiming_alarmOk (postEvent_alarmOk (h.frame (by simp)))

theorem slew_alarmOk {s : State} {lag : Int} (h : s.alarmOk) : (slew lag s).alarmOk :=
  ite_alarmOk (h.frame (by simp)) (postEvent_alarmOk (h.frame (by simp)))

theorem lockAfterStep_alarmOk {s : State} {lag : Int} (h : s.alarmOk) : (lockAfterStep lag s).alarmOk :=
  when_alarmOk changeLoop_alarmOk h

theorem lockAfterSlew_alarmOk {s : State} {lag : Int} (h : s.alarmOk) : (lockAfterSlew lag s).alarmOk :=
  ite_alarmOk (when_alarmOk changeLoop_alarmOk (modTiming_alarmOk h))
    (when_alarmOk changeLoop_alarmOk (modTiming_alarmOk h))

theorem processPulse_alarmOk {s : State} {r : RefId} {c : CabTime} (h : s.alarmOk) : (processPulse r c s).alarmOk :=
  ite_alarmOk (lockAfterStep_alarmOk (stepTime_alarmOk (checkSeconds_alarmOk h)))
    (lockAfterSlew_alarmOk (slew_alarmOk (checkSeconds_alarmOk h)))

theorem acceptPulse_alarmOk {s : State} {r : RefId} {c : CabTime} {run : Nat} (h : s.alarmOk) :
    (acceptPulse r c run s).alarmOk := by
  have hjudged {p : Prop} [Decidable p] {f : Reference → Reference} :
      (if p then qualify r (modRef r f s) else modRef r f s).alarmOk := when_alarmOk qualify_alarmOk (h.frame (by simp))
  exact ite_alarmOk (processPulse_alarmOk hjudged) (modRef_alarmOk hjudged)

theorem judgePulse_alarmOk {s : State} {r : RefId} (h : s.alarmOk) : (judgePulse r s).alarmOk := by
  unfold judgePulse
  dsimp only
  split
  · exact acceptPulse_alarmOk h
  · exact ite_alarmOk (h.frame (by simp)) (ite_alarmOk (acceptPulse_alarmOk h) (acceptPulse_alarmOk h))

/-- The three effects of a write of the loop settings, one after another (R89). -/
theorem writeLoop_alarmOk {s : State} {c : LoopSettings} (h : s.alarmOk) : (writeLoop c s).alarmOk := by
  have hclamped {p : Prop} [Decidable p] {u : State} {intg freq : Int} {w : Word} (hu : u.alarmOk) :
      (if p then postEvent causeFreqLimit 0 w (setFreq intg freq u) else u).alarmOk :=
    ite_alarmOk (postEvent_alarmOk (hu.frame (by simp))) hu
  exact when_alarmOk setFreq_alarmOk (hclamped (when_alarmOk judgeSelection_alarmOk (h.frame (by simp))))

theorem writeRef_alarmOk {s : State} {r : RefId} {c : RefSettings} (h : s.alarmOk) : (writeRef r c s).alarmOk :=
  ite_alarmOk (judgeSelection_alarmOk (h.frame (by simp))) (h.frame (by simp))

theorem reschedule_alarmOk {s : State} (h : s.alarmOk) : (reschedule s).alarmOk := h.frame (by simp)

theorem timingRestart_alarmOk {s : State} (h : s.alarmOk) : (timingRestart s).alarmOk :=
  reschedule_alarmOk (clearCond_alarmOk (clearCond_alarmOk (modTiming_alarmOk (changeLoop_alarmOk
    (ite_alarmOk h (postEvent_alarmOk (h.frame (by simp))))))))

/-! ## Resolution and the waiting place (R27 to R36) -/

theorem offerOne_alarmOk {s : State} {pid b : Nat} {c : Cls} {owner d : Slot} {o : Offered} (h : s.alarmOk) :
    (offerOne pid c owner b d o s).2.alarmOk := by
  unfold offerOne
  split
  · exact h
  · exact h
  · split
    · exact offerStream_alarmOk h
    · split
      · exact h.frame (by simp)
      · exact h

theorem offerEach_alarmOk {s : State} {pid b : Nat} {c : Cls} {owner : Slot} {l : List Slot} {o : Offered}
    (h : s.alarmOk) : (offerEach pid c owner b l o s).2.alarmOk := by
  induction l generalizing o s with
  | nil => exact h
  | cons d r ih => exact ih (offerOne_alarmOk h)

theorem offerAll_alarmOk {s : State} {pid : Nat} {c : Cls} {owner : Slot} {dest : SlotSet} (h : s.alarmOk) :
    (offerAll pid c owner dest s).2.alarmOk :=
  offerEach_alarmOk h

theorem settle_alarmOk {s : State} {pid : Nat} {hd : Option LogHandle} {enq disc : SlotSet} (h : s.alarmOk) :
    (settle pid hd enq disc s).alarmOk :=
  handOver_alarmOk (releaseHold_alarmOk h)

theorem waitEnd_alarmOk {s : State} {j : Slot} {w : Waiting} (h : s.alarmOk) : (waitEnd j w s).alarmOk :=
  settle_alarmOk (h.frame (by simp))

theorem putWaiting_alarmOk {s : State} {j : Slot} {w : Waiting} (h : s.alarmOk) : (putWaiting j w s).alarmOk :=
  ite_alarmOk (waitEnd_alarmOk h) (h.frame (by simp))

theorem postStalls_alarmOk {s : State} {j : Slot} {m : SlotSet} (h : s.alarmOk) : (postStalls j m s).alarmOk :=
  foldl_alarmOk h (fun _ _ => postEvent_alarmOk)

theorem enterWaiting_alarmOk {s : State} {i : Slot} {pid : Nat} {c : Cls} {hd : Option LogHandle} {o : Offered}
    (h : s.alarmOk) : (enterWaiting i pid c hd o s).alarmOk := by
  unfold enterWaiting
  split
  · exact settle_alarmOk (postStalls_alarmOk h)
  · cases hd with
    | none => exact h.frame (by simp)
    | some x => exact h.frame (by simp)

theorem reresolveIn_alarmOk {s : State} {d j : Slot} (h : s.alarmOk) : (reresolveIn d j s).alarmOk := by
  unfold reresolveIn
  split
  · exact h
  · split
    · split
      · exact h
      · exact putWaiting_alarmOk h
      · exact putWaiting_alarmOk h
    · exact h

theorem reresolve_alarmOk {s : State} {d : Slot} (h : s.alarmOk) : (reresolve d s).alarmOk :=
  eachSlot_alarmOk h (fun _ _ => reresolveIn_alarmOk)

theorem servePending_alarmOk {s : State} {d : Slot} {c : Cls} {n : Nat} (h : s.alarmOk) :
    (servePending d c n s).alarmOk := by
  induction n generalizing s with
  | zero => exact h
  | succ n ih =>
    unfold servePending
    split
    · exact h
    · split
      · exact h
      · exact ite_alarmOk (ih (putWaiting_alarmOk (h.frame (by simp)))) h

theorem stallExpire_alarmOk {s : State} {j : Slot} {w : Waiting} (h : s.alarmOk) : (stallExpire j w s).alarmOk :=
  waitEnd_alarmOk (postStalls_alarmOk h)

/-! ## The events of a parcel (R17 to R31) -/

theorem failAt_alarmOk {s : State} {pid : Nat} {d : Slot} (h : s.alarmOk) : (failAt pid d s).alarmOk :=
  ite_alarmOk (ite_alarmOk (h.frame (by simp)) (removeRef_alarmOk h)) h

theorem openParcel_alarmOk {s : State} {i : Slot} {r : Reception} {pid : Nat} (h : s.alarmOk) :
    (openParcel i r pid s).alarmOk :=
  modIng_alarmOk (offerAll_alarmOk (h.frame (by simp)))

theorem passedPayload_alarmOk {s : State} {i : Slot} {r : Reception} {pid : Nat} {w : Word} (h : s.alarmOk) :
    (passedPayload i r pid w s).alarmOk :=
  when_alarmOk openParcel_alarmOk (h.frame (by simp))

theorem passedGood_alarmOk {s : State} {i : Slot} {r : Reception} {pid : Nat} {isOpen : Bool} (h : s.alarmOk) :
    (passedGood i r pid isOpen s).alarmOk :=
  ite_alarmOk (settle_alarmOk (h.frame (by simp)))
    (ite_alarmOk (settle_alarmOk (offerAll_alarmOk h)) (enterWaiting_alarmOk (offerAll_alarmOk h)))

theorem postCheckFail_alarmOk {s : State} {i : Slot} {chan : BitVec 6} (h : s.alarmOk) :
    (postCheckFail i chan s).alarmOk := postEvent_alarmOk h

theorem passedFail_alarmOk {s : State} {i : Slot} {r : Reception} {pid : Nat} {isOpen bad : Bool} (h : s.alarmOk) :
    (passedFail i r pid isOpen bad s).alarmOk :=
  handOver_alarmOk (when_alarmOk postCheckFail_alarmOk (releaseHold_alarmOk
    (ite_alarmOk (eachSlot_alarmOk h (fun _ _ => failAt_alarmOk)) h)))

theorem passedEnd_alarmOk {s : State} {i : Slot} {r : Reception} {pid : Nat} {e : PEnd} (h : s.alarmOk) :
    (passedEnd i r pid e s).alarmOk := by
  cases e with
  | good => exact passedGood_alarmOk h
  | bad => exact passedFail_alarmOk h
  | aborted => exact passedFail_alarmOk h

/-- The end of a parcel, by what its header decided (R17, R26). -/
theorem parcelEnd_alarmOk {s : State} {i : Slot} {e : PEnd} (h : s.alarmOk) : (parcelEnd i e s).alarmOk := by
  unfold parcelEnd
  split
  · exact h
  · next r _ =>
    dsimp only
    cases r.fate with
    | mgmt =>
      cases e with
      | good => exact h.frame (by simp)
      | bad => exact postCheckFail_alarmOk (h.frame (by simp))
      | aborted => exact h.frame (by simp)
    | timeOfDay =>
      cases e with
      | good => exact h.frame (by simp)
      | bad => exact postCheckFail_alarmOk (h.frame (by simp))
      | aborted => exact h.frame (by simp)
    | refused => exact h.frame (by simp)
    | poolCut => exact h.frame (by simp)
    | parked => exact parkEnd_alarmOk (when_alarmOk postCheckFail_alarmOk (h.frame (by simp)))
    | passed pid => exact passedEnd_alarmOk (h.frame (by simp))

theorem parcelPayload_alarmOk {s : State} {i : Slot} {w : Word} (h : s.alarmOk) : (parcelPayload i w s).alarmOk := by
  unfold parcelPayload
  split
  · exact h
  · next r _ =>
    cases r.fate with
    | passed pid => exact passedPayload_alarmOk h
    | mgmt => exact h.frame (by simp)
    | timeOfDay => exact h.frame (by simp)
    | refused => exact h
    | poolCut => exact h
    | parked => exact h.frame (by simp)

theorem beginReception_alarmOk {s : State} {i : Slot} {hdr : Header} {e : FlowEntry} {st : Stamp}
    {hd : Option LogHandle} {f : Fate} (h : s.alarmOk) : (beginReception i hdr e st hd f s).alarmOk := h.frame (by simp)

theorem reportRefusal_alarmOk {s : State} {i : Slot} {hdr : Header} {e : FlowEntry} {reason : Nat} (h : s.alarmOk) :
    (reportRefusal i hdr e reason s).alarmOk :=
  when_alarmOk postEvent_alarmOk h

theorem passHeader_alarmOk {s : State} {i : Slot} {hdr : Header} {e : FlowEntry} {st : Stamp} {hd : Option LogHandle}
    (h : s.alarmOk) : (passHeader i hdr e st hd s).alarmOk :=
  ite_alarmOk (allocStored_alarmOk (h.frame (by simp))) (handOver_alarmOk (postEvent_alarmOk (h.frame (by simp))))

theorem lookupHeader_alarmOk {s : State} {i : Slot} {hdr : Header} (h : s.alarmOk) :
    (lookupHeader i hdr s).alarmOk := by
  have hreserved (b : Bool) (st : Stamp) (park : Bool) :
      (if b = true then logReserve i hdr st park s else (none, s)).2.alarmOk := by
    split
    · exact logReserve_alarmOk h
    · exact h
  unfold lookupHeader
  dsimp only
  split
  · exact handOver_alarmOk (reportRefusal_alarmOk (beginReception_alarmOk (hreserved _ _ _)))
  · exact ite_alarmOk (parkHeader_alarmOk (beginReception_alarmOk (hreserved _ _ _)))
      (passHeader_alarmOk (hreserved _ _ _))

theorem parcelHeader_alarmOk {s : State} {i : Slot} {hdr : Header} (h : s.alarmOk) : (parcelHeader i hdr s).alarmOk :=
  ite_alarmOk (h.frame (by simp)) (ite_alarmOk (h.frame (by simp)) (lookupHeader_alarmOk h))

/-! ## The slot controller (R123 to R142) -/

theorem abandonTx_alarmOk {s : State} {i : Slot} (h : s.alarmOk) : (abandonTx i s).alarmOk := by
  unfold abandonTx
  dsimp only
  split
  · exact h.frame (by simp)
  · split
    · exact when_alarmOk removeRef_alarmOk (h.frame (by simp))
    · exact h.frame (by simp)

theorem abortReception_alarmOk {s : State} {i : Slot} (h : s.alarmOk) : (abortReception i s).alarmOk :=
  modPort_alarmOk (parcelEnd_alarmOk h)

theorem setLink_alarmOk {s : State} {i : Slot} {dst : LinkState} (h : s.alarmOk) : (setLink i dst s).alarmOk :=
  ite_alarmOk (clearCond_alarmOk (modPort_alarmOk (abandonTx_alarmOk (abortReception_alarmOk (modPort_alarmOk h)))))
    (modPort_alarmOk h)

theorem powerOffLines_alarmOk {s : State} {i : Slot} (h : s.alarmOk) : (powerOffLines i s).alarmOk :=
  clearCond_alarmOk (h.frame (by simp))

theorem startTimer_alarmOk {s : State} {i : Slot} {k : TimerKind} (h : s.alarmOk) : (startTimer i k s).alarmOk :=
  h.frame (by simp)

theorem seatDebounce_alarmOk {s : State} {i : Slot} (h : s.alarmOk) : (seatDebounce i s).alarmOk := h.frame (by simp)

theorem askTrain_alarmOk {s : State} {i : Slot} {t : Training} (h : s.alarmOk) : (askTrain i t s).alarmOk :=
  h.frame (by simp)

theorem emptyMgmt_alarmOk {s : State} {i : Slot} (h : s.alarmOk) : (emptyMgmt i s).alarmOk := h.frame (by simp)

theorem goodSeen_alarmOk {s : State} {i : Slot} (h : s.alarmOk) : (goodSeen i s).alarmOk := h.frame (by simp)

theorem setPhase_alarmOk {s : State} {i : Slot} {ph : Phase} (h : s.alarmOk) : (setPhase i ph s).alarmOk :=
  reresolve_alarmOk (h.frame (by simp))

theorem enterOut_alarmOk {s : State} {i : Slot} {ph : Phase} (h : s.alarmOk) : (enterOut i ph s).alarmOk :=
  emptyMgmt_alarmOk (emptySwitchQueues_alarmOk (setPhase_alarmOk h))

theorem takeDown_alarmOk {s : State} {i : Slot} {ph : Phase} (h : s.alarmOk) : (takeDown i ph s).alarmOk :=
  enterOut_alarmOk (flushSlot_alarmOk (setLink_alarmOk (abortChain_alarmOk (powerOffLines_alarmOk h))))

theorem enterEmpty_alarmOk {s : State} {i : Slot} (h : s.alarmOk) : (enterEmpty i s).alarmOk :=
  seatDebounce_alarmOk (enterOut_alarmOk h)

theorem enterPowering_alarmOk {s : State} {i : Slot} (h : s.alarmOk) : (enterPowering i s).alarmOk :=
  when_alarmOk goodSeen_alarmOk (startTimer_alarmOk (modCtl_alarmOk (setPhase_alarmOk h)))

theorem enterSeated_alarmOk {s : State} {i : Slot} (h : s.alarmOk) : (enterSeated i s).alarmOk :=
  when_alarmOk enterPowering_alarmOk (enterOut_alarmOk h)

theorem enterTraining_alarmOk {s : State} {i : Slot} (h : s.alarmOk) : (enterTraining i s).alarmOk :=
  askTrain_alarmOk (setPhase_alarmOk (setLink_alarmOk (abortChain_alarmOk h)))

theorem fault_alarmOk {s : State} {i : Slot} {r : FaultReason} (h : s.alarmOk) : (fault i r s).alarmOk :=
  raiseCond_alarmOk (by decide) (by omega) (modCtl_alarmOk (takeDown_alarmOk h))

theorem remove_alarmOk {s : State} {i : Slot} {param : Nat} (h : s.alarmOk) : (remove i param s).alarmOk :=
  postEvent_alarmOk (seatDebounce_alarmOk (takeDown_alarmOk h))

theorem admitSlot_alarmOk {s : State} {i : Slot} {d : Nat} (h : s.alarmOk) : (admitSlot i d s).alarmOk := by
  unfold admitSlot
  exact autoStart_alarmOk (postEvent_alarmOk (setLink_alarmOk (setPhase_alarmOk (h.frame (by simp)))))

theorem attemptEnd_alarmOk {s : State} {i : Slot} (h : s.alarmOk) : (attemptEnd i s).alarmOk :=
  ite_alarmOk (ite_alarmOk (fault_alarmOk (h.frame (by simp))) (admitSlot_alarmOk (h.frame (by simp))))
    (ite_alarmOk (h.frame (by simp)) (fault_alarmOk (h.frame (by simp))))

theorem nextExchange_alarmOk {s : State} {i : Slot} (h : s.alarmOk) : (nextExchange i s).alarmOk :=
  ite_alarmOk (h.frame (by simp)) (attemptEnd_alarmOk h)

theorem powerOffAtOnce_alarmOk {s : State} {i : Slot} (h : s.alarmOk) : (powerOffAtOnce i s).alarmOk :=
  when_alarmOk powerOffLines_alarmOk h

theorem enterDraining_alarmOk {s : State} {i : Slot} (h : s.alarmOk) : (enterDraining i s).alarmOk := by
  have hdraining : (startTimer i .drain (abortChain i .slotLeft
      (powerOffAtOnce i (setPhase i .draining s)))).alarmOk :=
    startTimer_alarmOk (abortChain_alarmOk (powerOffAtOnce_alarmOk (setPhase_alarmOk h)))
  exact ite_alarmOk (hdraining.frame (by simp)) hdraining

theorem quiesce_alarmOk {s : State} {i : Slot} (h : s.alarmOk) : (quiesce i s).alarmOk :=
  enterOut_alarmOk (setLink_alarmOk (when_alarmOk powerOffLines_alarmOk h))

theorem settleRounds_alarmOk {s : State} {n : Nat} (h : s.alarmOk) : (settleRounds n s).alarmOk := by
  induction n generalizing s with
  | zero => exact h
  | succ n ih =>
    unfold settleRounds
    split
    · exact h
    · exact ih (quiesce_alarmOk h)

theorem settleDrains_alarmOk {s : State} (h : s.alarmOk) : (settleDrains s).alarmOk := settleRounds_alarmOk h

end Sys2Proof.Machine
end

section
/-! PROOFS. The ports, the management unit and the resets keep the relays and the raised set in order. -/

namespace Sys2Proof.Machine

/-! ## The transmit side (R14, R54, R118) -/

theorem leaveQueue_alarmOk {s : State} {i : Slot} {p : TxParcel} (h : s.alarmOk) : (leaveQueue i p s).alarmOk := by
  unfold leaveQueue
  split
  · exact ite_alarmOk (h.frame (by simp)) h
  · exact ite_alarmOk (h.frame (by simp)) h
  · have hdwell {q : Prop} [Decidable q] {f : Egress → Egress} : (if q then s.modEgr i f else s).alarmOk :=
      when_alarmOk modEgr_alarmOk h
    exact ite_alarmOk
      (ite_alarmOk (removeRef_alarmOk hdwell) (chainSent_alarmOk (removeRef_alarmOk hdwell))) hdwell

theorem dropLateReplies_alarmOk {s : State} {i : Slot} (h : s.alarmOk) : (dropLateReplies i s).alarmOk :=
  h.frame (by simp)

theorem endOf_alarmOk {s : State} {i : Slot} (h : s.alarmOk) : (endOf i s).alarmOk := by
  have hfinish (p : TxParcel) (next : Tx) : (if s.mayEnd i p = true then
      leaveQueue i p (sendWord i (.body p.lastWord) (s.modEgr i (fun e => { e with tx := next }))) else s).alarmOk :=
    ite_alarmOk (leaveQueue_alarmOk (h.frame (by simp))) h
  unfold endOf
  dsimp only
  split
  · exact h
  · exact dropLateReplies_alarmOk (hfinish _ _)
  · exact hfinish _ _
  · exact h
  · exact hfinish _ _
  · exact h

theorem departNext_alarmOk {s : State} {i : Slot} (h : s.alarmOk) : (departNext i s).alarmOk := by
  unfold departNext
  dsimp only
  split
  · exact h
  · split
    · exact h
    · exact ite_alarmOk (when_alarmOk postEvent_alarmOk (h.frame (by simp))) h

theorem fillSlot_alarmOk {s : State} {i : Slot} (h : s.alarmOk) : (fillSlot i s).alarmOk :=
  endOf_alarmOk (departNext_alarmOk (h.frame (by simp)))

theorem wordSlot_alarmOk {s : State} {i : Slot} (h : s.alarmOk) : (wordSlot i s).alarmOk :=
  modPort_alarmOk (fillSlot_alarmOk h)

/-! ## The receive side (R4 to R13) -/

theorem linkError_alarmOk {s : State} {i : Slot} (h : s.alarmOk) : (linkError i s).alarmOk :=
  ite_alarmOk (fault_alarmOk (h.frame (by simp))) (h.frame (by simp))

theorem setRx_alarmOk {s : State} {i : Slot} {r : RxState} (h : s.alarmOk) : (s.setRx i r).alarmOk := h.frame (by simp)

theorem beginParcel_alarmOk {s : State} {i : Slot} {w : Word} (h : s.alarmOk) : (beginParcel i w s).alarmOk :=
  parcelHeader_alarmOk (h.frame (by simp))

theorem damaged_alarmOk {s : State} {i : Slot} (h : s.alarmOk) :
    (linkError i ((parcelEnd i .bad s).setRx i .skip)).alarmOk :=
  linkError_alarmOk (setRx_alarmOk (parcelEnd_alarmOk h))

theorem rxHeader_alarmOk {s : State} {i : Slot} {w : Word} (h : s.alarmOk) : (rxHeader i w s).alarmOk := by
  unfold rxHeader
  split
  · exact ite_alarmOk (beginParcel_alarmOk (damaged_alarmOk h)) (damaged_alarmOk h)
  · exact beginParcel_alarmOk h

theorem rxBody_alarmOk {s : State} {i : Slot} {w : Word} (h : s.alarmOk) : (rxBody i w s).alarmOk := by
  unfold rxBody
  split
  · exact linkError_alarmOk (h.frame (by simp))
  · exact h
  · exact parcelPayload_alarmOk (h.frame (by simp))
  · exact parcelEnd_alarmOk (h.frame (by simp))

theorem rxUndecodable_alarmOk {s : State} {i : Slot} (h : s.alarmOk) : (rxUndecodable i s).alarmOk := by
  refine linkError_alarmOk (setRx_alarmOk ?_)
  unfold endDamaged
  split
  · exact parcelEnd_alarmOk h
  · exact h

theorem rxBadMark_alarmOk {s : State} {i : Slot} (h : s.alarmOk) : (rxBadMark i s).alarmOk := by
  unfold rxBadMark
  split
  · exact damaged_alarmOk h
  · exact linkError_alarmOk h

theorem cardHoldOff_alarmOk {s : State} {i : Slot} (h : s.alarmOk) : (cardHoldOff i s).alarmOk := h.frame (by simp)

theorem cardResume_alarmOk {s : State} {i : Slot} (h : s.alarmOk) : (cardResume i s).alarmOk :=
  ite_alarmOk (clearCond_alarmOk (h.frame (by simp))) h

theorem trainAnswer_alarmOk {s : State} {i : Slot} {k t : Nat} (h : s.alarmOk) : (trainAnswer i k t s).alarmOk := by
  unfold trainAnswer
  dsimp only
  split
  · exact ite_alarmOk (ite_alarmOk (h.frame (by simp)) (nextExchange_alarmOk (h.frame (by simp)))) h
  · exact h

theorem rxMark_alarmOk {s : State} {i : Slot} {w : Word} (h : s.alarmOk) : (rxMark i w s).alarmOk :=
  ite_alarmOk (h.frame (by simp)) <| ite_alarmOk (cardResume_alarmOk h) <| ite_alarmOk (trainAnswer_alarmOk h) <|
    ite_alarmOk (h.frame (by simp)) <| ite_alarmOk (rxBadMark_alarmOk h) h

/-! ## The service of a request (R171 to R178) -/

/-- A service keeps the relays and the raised set in order where its row's effect does. -/
theorem serve_alarmOk {row : ReqRow} {f : Request → State → Served} {s : State} (h : s.alarmOk)
    (hf : ∀ r u, u.alarmOk → (f r u).state.alarmOk) : (serve row f s).alarmOk := by
  have hreply {p : ReplyParcel} {u : State} (hu : u.alarmOk) : (giveReply p u).alarmOk :=
    ite_alarmOk (hu.frame (by simp)) (hu.frame (by simp))
  have heffect (r : Request) (rest : List Request) :
      (if r.row = none then refuse r.badStatus (takeRequest rest s) else f r (takeRequest rest s)).state.alarmOk := by
    split
    · exact (modMgmt_alarmOk h : (takeRequest rest s).alarmOk)
    · exact hf r _ (modMgmt_alarmOk h)
  unfold serve
  split
  · exact h
  · exact ite_alarmOk (hreply (settleDrains_alarmOk (heffect _ _))) h

theorem readTable_alarmOk {n : Nat} {image : Nat → List Word} {r : Request} {s : State} (h : s.alarmOk) :
    (readTable n image r s).state.alarmOk := by
  unfold readTable
  dsimp only
  split_ifs <;> exact h

theorem readParkWords_alarmOk {r : Request} {s : State} (h : s.alarmOk) : (readParkWords r s).state.alarmOk := by
  unfold readParkWords
  split_ifs <;> exact h

theorem readLatestCopy_alarmOk {r : Request} {s : State} (h : s.alarmOk) : (readLatestCopy r s).state.alarmOk := by
  unfold readLatestCopy
  dsimp only
  split_ifs <;> exact h

/-- A table whose every put keeps the relays and the raised set in order. -/
theorem writeTable_alarmOk {t : WriteTable} {r : Request} {s : State} (h : s.alarmOk)
    (hput : ∀ k ws u, u.alarmOk → (t.put k ws u).alarmOk) : (writeTable t r s).state.alarmOk := by
  unfold writeTable
  dsimp only
  split
  · exact h
  · split
    · exact h
    · split
      · exact h
      · split
        · exact h
        · exact foldl_alarmOk h (fun u p => hput p.1 p.2 u)

theorem makeSchedules_alarmOk {s : State} {i : Slot} (h : s.alarmOk) : (makeSchedules i s).alarmOk := h.frame (by simp)

theorem writeSlot_alarmOk {s : State} {i : Slot} {c : SlotSettings} (h : s.alarmOk) : (writeSlot i c s).alarmOk := by
  have hoffer {k : Cls} {old new : Nat} {u : State} (hu : u.alarmOk) : (offerRaised i k old new u).alarmOk :=
    when_alarmOk servePending_alarmOk hu
  exact when_alarmOk makeSchedules_alarmOk (hoffer (hoffer (when_alarmOk reresolve_alarmOk (h.frame (by simp)))))

theorem judgePolarity_alarmOk {s : State} {old : GlobalSettings} {n : Fin 8} (h : s.alarmOk) :
    (judgePolarity old n s).alarmOk :=
  ite_alarmOk h (h.congr (by simp) (fun c => ⟨rfl, rfl⟩) (fun _ => rfl))

theorem emptyLog_alarmOk {s : State} (h : s.alarmOk) : (emptyLog s).alarmOk := h.frame (by simp)

theorem writeGlobal_alarmOk {s : State} {g : GlobalSettings} (h : s.alarmOk) : (writeGlobal g s).alarmOk := by
  have hglob {u : State} {x : GlobalSettings} (hu : u.alarmOk) : ({ u with glob := x } : State).alarmOk :=
    hu.frame (by simp)
  exact foldl_alarmOk (hglob (when_alarmOk reschedule_alarmOk (when_alarmOk emptyLog_alarmOk (hglob
    (when_alarmOk poolJudge_alarmOk (hglob h)))))) (fun _ _ => judgePolarity_alarmOk)

/-! ### The put of each table -/

section Put

variable {k : Nat} {ws : List Word} {s : State}

theorem slotTable_put_alarmOk (h : s.alarmOk) : (slotTable.put k ws s).alarmOk := by
  dsimp only [slotTable]
  exact writeSlot_alarmOk h

theorem flowTable_put_alarmOk (h : s.alarmOk) : (flowTable.put k ws s).alarmOk := h.frame ⟨rfl, rfl⟩

theorem areaTable_put_alarmOk (h : s.alarmOk) : (areaTable.put k ws s).alarmOk := by
  dsimp only [areaTable]
  exact writeArea_alarmOk h

theorem watchTable_put_alarmOk (h : s.alarmOk) : (watchTable.put k ws s).alarmOk := by
  dsimp only [watchTable]
  exact writeWatch_alarmOk h

theorem chainTable_put_alarmOk (h : s.alarmOk) : (chainTable.put k ws s).alarmOk := h.frame ⟨rfl, rfl⟩

theorem causeTable_put_alarmOk (h : s.alarmOk) : (causeTable.put k ws s).alarmOk := by
  dsimp only [causeTable]
  exact writeCause_alarmOk h

theorem globalTable_put_alarmOk (h : s.alarmOk) : (globalTable.put k ws s).alarmOk := by
  dsimp only [globalTable]
  exact writeGlobal_alarmOk h

theorem timingTable_put_alarmOk (h : s.alarmOk) : (timingTable.put k ws s).alarmOk := by
  dsimp only [timingTable]
  match k with
  | 0 => exact writeLoop_alarmOk h
  | 1 => exact writeRef_alarmOk h
  | _ + 2 => exact writeRef_alarmOk h

end Put

/-! ### Actions (R134 to R142, R147, R178) -/

theorem slotAction_alarmOk {f : Slot → State → Served} {r : Request} {s : State} (h : s.alarmOk)
    (hf : ∀ i, (f i s).state.alarmOk) : (slotAction f r s).state.alarmOk := by
  unfold slotAction
  split
  · exact h
  · split
    · exact hf _
    · exact h

theorem plainAction_alarmOk {f : State → State} {r : Request} {s : State} (h : s.alarmOk)
    (hf : (f s).alarmOk) : (plainAction f r s).state.alarmOk := by
  unfold plainAction
  split
  · exact h
  · exact hf

theorem actPowerOn_alarmOk {i : Slot} {s : State} (h : s.alarmOk) : (actPowerOn i s).state.alarmOk := by
  unfold actPowerOn
  dsimp only
  split
  · exact enterPowering_alarmOk h
  · exact h

theorem actPowerOff_alarmOk {i : Slot} {s : State} (h : s.alarmOk) : (actPowerOff i s).state.alarmOk := by
  unfold actPowerOff
  split
  · exact h
  · exact h
  · exact h
  · exact ite_alarmOk (powerOffLines_alarmOk h) h
  all_goals exact takeDown_alarmOk h

theorem actDrain_alarmOk {i : Slot} {s : State} (h : s.alarmOk) : (actDrain i s).state.alarmOk := by
  unfold actDrain
  split
  · exact enterDraining_alarmOk h
  · exact h

theorem actRest_alarmOk {i : Slot} {s : State} (h : s.alarmOk) : (actRest i s).state.alarmOk := by
  unfold actRest
  split
  · exact modEgr_alarmOk (modCtl_alarmOk h)
  · exact h

theorem actWake_alarmOk {i : Slot} {s : State} (h : s.alarmOk) : (actWake i s).state.alarmOk := by
  unfold actWake
  split
  · exact (h.frame (by simp) : (applyWake i s).alarmOk)
  · exact h

theorem actClear_alarmOk {i : Slot} {s : State} (h : s.alarmOk) : (actClear i s).state.alarmOk := by
  have hcleared : (clearCond causeSlotFault i.val 0 s).alarmOk := clearCond_alarmOk h
  unfold actClear
  dsimp only
  split
  · exact ite_alarmOk (enterSeated_alarmOk hcleared) (enterEmpty_alarmOk hcleared)
  · exact h

theorem actRetrain_alarmOk {i : Slot} {s : State} (h : s.alarmOk) : (actRetrain i s).state.alarmOk := by
  unfold actRetrain
  split
  · exact enterTraining_alarmOk h
  · exact h

theorem actChainStart_alarmOk {i : Slot} {s : State} (h : s.alarmOk) : (actChainStart i s).state.alarmOk := by
  unfold actChainStart
  split
  · split
    · exact startChain_alarmOk h
    · exact h
  · exact h

theorem actChainStop_alarmOk {i : Slot} {s : State} (h : s.alarmOk) : (actChainStop i s).state.alarmOk := by
  unfold actChainStop
  exact abortChain_alarmOk h

theorem actSetTime_alarmOk {r : Request} {s : State} (h : s.alarmOk) : (actSetTime r s).state.alarmOk := by
  unfold actSetTime
  split
  · exact h
  · split
    · exact h
    · exact (h.frame (by simp) : (setTimeTo _ _ s).alarmOk)

theorem actSetFrequency_alarmOk {r : Request} {s : State} (h : s.alarmOk) : (actSetFrequency r s).state.alarmOk := by
  unfold actSetFrequency
  dsimp only
  split
  · exact h
  · split
    · exact h
    · split
      · exact h
      · exact setFreq_alarmOk h

theorem postRestarted_alarmOk {s : State} {inst param : Nat} (h : s.alarmOk) :
    (postRestarted inst param s).alarmOk := postEvent_alarmOk h

theorem timingRestartAll_alarmOk {s : State} (h : s.alarmOk) : (timingRestartAll s).alarmOk := by
  unfold timingRestartAll
  exact postRestarted_alarmOk (timingRestart_alarmOk h)

theorem fabricRestart_alarmOk {s : State} (h : s.alarmOk) : (fabricRestart s).alarmOk := by
  have hslots : (s.eachSlot fabricSlot).alarmOk :=
    eachSlot_alarmOk h (fun _ _ ht => ht.frame (by simp [fabricSlot]))
  have hpool {u : State} (hu : u.alarmOk) : (fabricPool u).alarmOk := clearCond_alarmOk (hu.frame (by simp))
  unfold fabricRestart
  exact postRestarted_alarmOk (emptyLog_alarmOk (modChain_alarmOk (eachSlot_alarmOk
    (settleDrains_alarmOk (hpool (modMgmt_alarmOk hslots))) (fun _ _ => abortChain_alarmOk))))

/-! ## Resets (R144, R170, R181) -/

/-- A reset clears the raised set and releases the relays (R170). -/
theorem resetBlocks_alarmOk {pin msel retain : Bool} {s : State} : (resetBlocks pin msel retain s).alarmOk := by
  have hraised : (resetBlocks pin msel retain s).alarm.raised = [] := rfl
  refine ⟨?_, by simp [State.raisedOk, hraised, assocWf]⟩
  simp only [State.relaysOk, State.drives, hraised]
  exact ⟨rfl, rfl, rfl⟩

theorem judgeRetained_alarmOk {s : State} {i : Slot} (h : s.alarmOk) : (judgeRetained i s).alarmOk := by
  have hlines {u : State} (hu : u.alarmOk) : (followLines i u).alarmOk := hu.frame (by simp)
  unfold judgeRetained
  exact ite_alarmOk
    (ite_alarmOk (ite_alarmOk (hlines (enterTraining_alarmOk (modCtl_alarmOk h))) (fault_alarmOk h))
      (powerOffLines_alarmOk h)) h

theorem startUp_alarmOk {s : State} {inst : Nat} {msel retain : Bool} (h : s.alarmOk) :
    (startUp inst msel retain s).alarmOk :=
  eachSlot_alarmOk (eachSlot_alarmOk (postRestarted_alarmOk h) (fun _ _ => judgeRetained_alarmOk))
    (fun _ _ => seatDebounce_alarmOk)

end Sys2Proof.Machine
end

section
/-! PROOFS. Every command keeps the relays and the raised set in order, and what a raise and a clear do (R157, R164). -/

namespace Sys2Proof.Machine

/-! ## Commands of the slot controller, the watches and the time -/

/-- A lost contact, by the row of R140's table. -/
theorem contactGone_alarmOk {s : State} {i : Slot} {k : Contact} (h : s.alarmOk) : (contactGone i k s).alarmOk := by
  unfold contactGone
  generalize (s.slot i).ctl.phase = ph
  cases ph with
  | empty => exact h.frame (by simp)
  | seated => exact enterEmpty_alarmOk h
  | powering => cases k <;> exact remove_alarmOk h
  | training => cases k <;> exact remove_alarmOk h
  | admitted =>
    cases k with
    | long => exact remove_alarmOk h
    | short => exact enterDraining_alarmOk h
  | draining =>
    cases k with
    | long => exact remove_alarmOk h
    | short => exact h
  | quiesced =>
    cases k with
    | long => exact remove_alarmOk h
    | short => exact h
  | faulted => exact clearCond_alarmOk (enterEmpty_alarmOk h)

theorem judgeCardAlarm_alarmOk {s : State} {i : Slot} {was : Bool} (h : s.alarmOk) :
    (judgeCardAlarm i was s).alarmOk :=
  ite_alarmOk (raiseCond_alarmOk (by decide) (by omega) h) (when_alarmOk clearCond_alarmOk h)

theorem setInput_alarmOk {s : State} {n : Fin 8} {x : CabInput} (h : s.alarmOk) : (s.setInput n x).alarmOk :=
  h.congr (by simp [State.setInput]) (fun _ => ⟨rfl, rfl⟩) (fun _ => rfl)

theorem takeUptime_alarmOk {s : State} (h : s.alarmOk) : (takeUptime s).alarmOk :=
  ite_alarmOk (eachSlot_alarmOk (h.frame (by simp)) (fun _ _ => modPort_alarmOk)) h

theorem corePeriod_alarmOk {s : State} (h : s.alarmOk) : (corePeriod s).alarmOk := by
  have hslots : (settleDrains ((takeUptime s).eachSlot wordSlot)).alarmOk :=
    settleDrains_alarmOk (eachSlot_alarmOk (takeUptime_alarmOk h) (fun _ _ => wordSlot_alarmOk))
  unfold corePeriod
  exact when_alarmOk makeTimeParcels_alarmOk (modTiming_alarmOk hslots)

/-! ## Every command -/

/-- The state after a command, where it has one, has the relays and the raised set in order. -/
def NextAlarmOk (o : Host.Outcome State Fault Refusal) : Prop := ∀ t, o = .next t → t.alarmOk

theorem nextAlarmOk_next {t : State} (h : t.alarmOk) : NextAlarmOk (.next t) := by
  rintro _ ⟨⟩
  exact h

theorem nextAlarmOk_refused (r : Refusal) : NextAlarmOk (.refused r) := by
  rintro _ ⟨⟩

/-- A service by a row whose action takes a slot. -/
theorem serveSlot_alarmOk {row : ReqRow} {f : Slot → State → Served} {s : State} (h : s.alarmOk)
    (hf : ∀ {i u}, u.alarmOk → (f i u).state.alarmOk) : (serve row (slotAction f) s).alarmOk :=
  serve_alarmOk h (fun _ _ hu => slotAction_alarmOk hu (fun _ => hf hu))

/-- A service by a row that writes a table. -/
theorem serveWrite_alarmOk {row : ReqRow} {t : WriteTable} {s : State} (h : s.alarmOk)
    (hput : ∀ {k ws u}, u.alarmOk → (t.put k ws u).alarmOk) : (serve row (writeTable t) s).alarmOk :=
  serve_alarmOk h (fun _ _ hu => writeTable_alarmOk hu (fun _ _ _ => hput))

/-- A service by a row that reads a table. -/
theorem serveRead_alarmOk {row : ReqRow} {n : Nat} {image : State → Nat → List Word} {s : State} (h : s.alarmOk) :
    (serve row (fun r u => readTable n (image u) r u) s).alarmOk :=
  serve_alarmOk h (fun _ _ => readTable_alarmOk)

theorem execMgmtRequest_alarmOk {tag : BitVec 8} {payload : List Word} {s : State} (h : s.alarmOk) :
    NextAlarmOk (execMgmtRequest tag payload s) := by
  unfold execMgmtRequest
  split
  · exact nextAlarmOk_refused _
  · exact nextAlarmOk_next (ite_alarmOk (h.frame (by simp)) h)

theorem execTimeOfDayParcel_alarmOk {i : Slot} {payload : List Word} {s : State} (h : s.alarmOk) :
    NextAlarmOk (execTimeOfDayParcel i payload s) := by
  unfold execTimeOfDayParcel
  split
  · exact nextAlarmOk_refused _
  · exact nextAlarmOk_next (ite_alarmOk (h.frame (by simp)) h)

theorem execStallTimerExpiry_alarmOk {i : Slot} {s : State} (h : s.alarmOk) :
    NextAlarmOk (execStallTimerExpiry i s) := by
  refine nextAlarmOk_next ?_
  split
  · exact h
  · exact when_alarmOk stallExpire_alarmOk h

theorem execEdgeDispatch_alarmOk {i : Slot} {s : State} (h : s.alarmOk) : NextAlarmOk (execEdgeDispatch i s) := by
  refine nextAlarmOk_next ?_
  split
  · exact h
  · exact when_alarmOk dispatchEdge_alarmOk h

theorem execStrobe_alarmOk {i : Slot} {s : State} (h : s.alarmOk) : NextAlarmOk (execStrobe i s) := by
  refine nextAlarmOk_next ?_
  split
  · exact h
  · exact ite_alarmOk (h.frame (by simp)) h

theorem execStrobePulseEnd_alarmOk {i : Slot} {l : Line} {s : State} (h : s.alarmOk) :
    NextAlarmOk (execStrobePulseEnd i l s) := by
  cases l with
  | sb0 => exact nextAlarmOk_next (when_alarmOk modCtl_alarmOk h)
  | sb1 => exact nextAlarmOk_next (when_alarmOk modCtl_alarmOk h)

theorem execCabinetInputDebounceExpiry_alarmOk {n : Fin 8} {s : State} (h : s.alarmOk) :
    NextAlarmOk (execCabinetInputDebounceExpiry n s) := by
  refine nextAlarmOk_next ?_
  split
  · exact h
  · have hset {x : CabInput} : (s.setInput n x).alarmOk := setInput_alarmOk h
    exact ite_alarmOk (ite_alarmOk (clearCond_alarmOk hset) (raiseCond_alarmOk (by decide) (by omega) hset)) h

theorem execChainParcelMake_alarmOk {s : State} (h : s.alarmOk) : NextAlarmOk (execChainParcelMake s) := by
  refine nextAlarmOk_next ?_
  split
  · exact makeChainParcel_alarmOk h
  · exact h

theorem execChainEngineFree_alarmOk {s : State} (h : s.alarmOk) : NextAlarmOk (execChainEngineFree s) := by
  refine nextAlarmOk_next ?_
  split
  · exact h
  · exact when_alarmOk modChain_alarmOk h

theorem exec_alarmOk (c : Instr) {s : State} (h : s.alarmOk) : NextAlarmOk (exec c s) := by
  cases c with
  | headerWord i w => exact nextAlarmOk_next (ite_alarmOk (settleDrains_alarmOk (rxHeader_alarmOk h)) h)
  | bodyWord i w => exact nextAlarmOk_next (ite_alarmOk (settleDrains_alarmOk (rxBody_alarmOk h)) h)
  | undecodableWord i => exact nextAlarmOk_next (ite_alarmOk (settleDrains_alarmOk (rxUndecodable_alarmOk h)) h)
  | markWord i w => exact nextAlarmOk_next (settleDrains_alarmOk (rxMark_alarmOk h))
  | holdOff i => exact nextAlarmOk_next (cardHoldOff_alarmOk h)
  | resume i => exact nextAlarmOk_next (cardResume_alarmOk h)
  | trainEcho i k t => exact nextAlarmOk_next (settleDrains_alarmOk (trainAnswer_alarmOk h))
  | awake i => exact nextAlarmOk_next (h.frame (by simp) : (cardAwake i s).alarmOk)
  | uptimeAdvance => exact nextAlarmOk_next (takeUptime_alarmOk h)
  | holdOffTimerExpiry i =>
    exact nextAlarmOk_next (ite_alarmOk (raiseCond_alarmOk (by decide) (by omega) (modPort_alarmOk h)) h)
  | mgmtRequest tag payload => exact execMgmtRequest_alarmOk h
  | timeOfDayParcel i payload => exact execTimeOfDayParcel_alarmOk h
  | pendingServed i c => exact nextAlarmOk_next (servePending_alarmOk h)
  | stallTimerExpiry i => exact execStallTimerExpiry_alarmOk h
  | schedulerChoice i => exact nextAlarmOk_next (h.frame (by simp) : (makeChoice i s).alarmOk)
  | transmissionEnd i => exact nextAlarmOk_next (settleDrains_alarmOk (endOf_alarmOk h))
  | edgeDeparture i => exact nextAlarmOk_next (departNext_alarmOk h)
  | holdMarkSent i => exact nextAlarmOk_next (h.frame (by simp) : (sendHoldMark i s).alarmOk)
  | restMarkSent i => exact nextAlarmOk_next (h.frame (by simp) : (sendRest i s).alarmOk)
  | trainReqSent i => exact nextAlarmOk_next (h.frame (by simp) : (sendTrainReq i s).alarmOk)
  | suspendSent i => exact nextAlarmOk_next (h.frame (by simp) : (sendSuspend i s).alarmOk)
  | continueSent i => exact nextAlarmOk_next (h.frame (by simp) : (sendContinue i s).alarmOk)
  | wakeMarkSent i => exact nextAlarmOk_next (h.frame (by simp) : (sendWake i s).alarmOk)
  | referencePulse r => exact nextAlarmOk_next (when_alarmOk judgePulse_alarmOk h)
  | lossDeadlineExpiry r => exact nextAlarmOk_next (when_alarmOk loseReference_alarmOk h)
  | holdoverTimerExpiry =>
    exact nextAlarmOk_next (ite_alarmOk
      (modTiming_alarmOk (changeLoop_alarmOk (raiseCond_alarmOk (by decide) (by omega) (clearCond_alarmOk h)))) h)
  | secondCarry => exact nextAlarmOk_next (when_alarmOk corePeriod_alarmOk h)
  | cabinetTimeAdvance => exact nextAlarmOk_next (corePeriod_alarmOk h)
  | edgeInstant => exact nextAlarmOk_next (ite_alarmOk (h.frame (by simp)) h)
  | edgeDispatch i => exact execEdgeDispatch_alarmOk h
  | strobe i => exact execStrobe_alarmOk h
  | strobePulseEnd i l => exact execStrobePulseEnd_alarmOk h
  | contactMade i k => exact nextAlarmOk_next (ite_alarmOk h (seatDebounce_alarmOk (h.frame (by simp))))
  | contactLost i k =>
    exact nextAlarmOk_next (ite_alarmOk (settleDrains_alarmOk (contactGone_alarmOk (modCtl_alarmOk h))) h)
  | seatTimerExpiry i => exact nextAlarmOk_next (when_alarmOk enterSeated_alarmOk h)
  | pwrGoodActive i => exact nextAlarmOk_next (ite_alarmOk h (when_alarmOk goodSeen_alarmOk (h.frame (by simp))))
  | pwrGoodLost i =>
    exact nextAlarmOk_next
      (ite_alarmOk (ite_alarmOk (settleDrains_alarmOk (fault_alarmOk (modCtl_alarmOk h))) (modCtl_alarmOk h)) h)
  | powerTimerExpiry i => exact nextAlarmOk_next (ite_alarmOk (settleDrains_alarmOk (fault_alarmOk h)) h)
  | releaseTimerExpiry i =>
    exact nextAlarmOk_next (ite_alarmOk (settleDrains_alarmOk (enterTraining_alarmOk (h.frame (by simp)))) h)
  | exchangeWaitExpiry i => exact nextAlarmOk_next (ite_alarmOk (settleDrains_alarmOk (nextExchange_alarmOk h)) h)
  | trainingGapExpiry i => exact nextAlarmOk_next (ite_alarmOk (askTrain_alarmOk (h.frame (by simp))) h)
  | wakeTimerExpiry i => exact nextAlarmOk_next (ite_alarmOk (settleDrains_alarmOk (enterTraining_alarmOk h)) h)
  | drainTimerExpiry i =>
    exact nextAlarmOk_next (ite_alarmOk (settleDrains_alarmOk (dropWaiting_alarmOk (modCtl_alarmOk h))) h)
  | sidebandInputChange i l level =>
    exact nextAlarmOk_next (ite_alarmOk h (ite_alarmOk (h.frame (by simp)) (h.frame (by simp))))
  | cardAlarmDebounceExpiry i => exact nextAlarmOk_next (ite_alarmOk (judgeCardAlarm_alarmOk (h.frame (by simp))) h)
  | cabinetInputChange n level => exact nextAlarmOk_next (setInput_alarmOk h)
  | cabinetInputDebounceExpiry n => exact execCabinetInputDebounceExpiry_alarmOk h
  | watchStale n => exact nextAlarmOk_next (when_alarmOk evalWatch_alarmOk h)
  | chainParcelMake => exact execChainParcelMake_alarmOk h
  | chainEngineFree => exact execChainEngineFree_alarmOk h
  | readSlotSettings => exact nextAlarmOk_next (serveRead_alarmOk h)
  | readFlowTable => exact nextAlarmOk_next (serveRead_alarmOk h)
  | readParkAreas => exact nextAlarmOk_next (serveRead_alarmOk h)
  | readWatches => exact nextAlarmOk_next (serveRead_alarmOk h)
  | readChainDescriptors => exact nextAlarmOk_next (serveRead_alarmOk h)
  | readCauseSettings => exact nextAlarmOk_next (serveRead_alarmOk h)
  | readGlobalSettings => exact nextAlarmOk_next (serveRead_alarmOk h)
  | readTimingSettings => exact nextAlarmOk_next (serveRead_alarmOk h)
  | readAlarmQueue => exact nextAlarmOk_next (serveRead_alarmOk h)
  | readTransitLog => exact nextAlarmOk_next (serve_alarmOk h (fun _ _ => readTable_alarmOk))
  | readSlotStatus => exact nextAlarmOk_next (serveRead_alarmOk h)
  | readTimingStatus => exact nextAlarmOk_next (serveRead_alarmOk h)
  | readFabricStatus => exact nextAlarmOk_next (serveRead_alarmOk h)
  | writeSlotSettings => exact nextAlarmOk_next (serveWrite_alarmOk h slotTable_put_alarmOk)
  | writeFlowTable => exact nextAlarmOk_next (serveWrite_alarmOk h flowTable_put_alarmOk)
  | writeParkAreas => exact nextAlarmOk_next (serveWrite_alarmOk h areaTable_put_alarmOk)
  | writeWatches => exact nextAlarmOk_next (serveWrite_alarmOk h watchTable_put_alarmOk)
  | writeChainDescriptors => exact nextAlarmOk_next (serveWrite_alarmOk h chainTable_put_alarmOk)
  | writeCauseSettings => exact nextAlarmOk_next (serveWrite_alarmOk h causeTable_put_alarmOk)
  | writeGlobalSettings => exact nextAlarmOk_next (serveWrite_alarmOk h globalTable_put_alarmOk)
  | writeTimingSettings => exact nextAlarmOk_next (serveWrite_alarmOk h timingTable_put_alarmOk)
  | readPark => exact nextAlarmOk_next (serve_alarmOk h (fun _ _ => readParkWords_alarmOk))
  | readLatest => exact nextAlarmOk_next (serve_alarmOk h (fun _ _ => readLatestCopy_alarmOk))
  | powerOn => exact nextAlarmOk_next (serveSlot_alarmOk h actPowerOn_alarmOk)
  | powerOff => exact nextAlarmOk_next (serveSlot_alarmOk h actPowerOff_alarmOk)
  | drain => exact nextAlarmOk_next (serveSlot_alarmOk h actDrain_alarmOk)
  | rest => exact nextAlarmOk_next (serveSlot_alarmOk h actRest_alarmOk)
  | wake => exact nextAlarmOk_next (serveSlot_alarmOk h actWake_alarmOk)
  | clear => exact nextAlarmOk_next (serveSlot_alarmOk h actClear_alarmOk)
  | retrain => exact nextAlarmOk_next (serveSlot_alarmOk h actRetrain_alarmOk)
  | chainStart => exact nextAlarmOk_next (serveSlot_alarmOk h actChainStart_alarmOk)
  | chainStop => exact nextAlarmOk_next (serveSlot_alarmOk h actChainStop_alarmOk)
  | setTime => exact nextAlarmOk_next (serve_alarmOk h (fun _ _ => actSetTime_alarmOk))
  | setFrequency => exact nextAlarmOk_next (serve_alarmOk h (fun _ _ => actSetFrequency_alarmOk))
  | timingRestart =>
    exact nextAlarmOk_next (serve_alarmOk h (fun _ _ hu => plainAction_alarmOk hu (timingRestartAll_alarmOk hu)))
  | fabricRestart =>
    exact nextAlarmOk_next (serve_alarmOk h (fun _ _ hu => plainAction_alarmOk hu (fabricRestart_alarmOk hu)))
  | logClear =>
    exact nextAlarmOk_next (serve_alarmOk h (fun _ _ hu => plainAction_alarmOk hu (emptyLog_alarmOk hu)))
  | powerOnReset msel retain => exact nextAlarmOk_next (startUp_alarmOk resetBlocks_alarmOk)
  | pinReset msel retain => exact nextAlarmOk_next (startUp_alarmOk resetBlocks_alarmOk)

/-- A step idles, or takes the command at the front of the queue. -/
theorem step_alarmOk {s t : State} (h : s.alarmOk) (hstep : step s = .next t) : t.alarmOk := by
  unfold step at hstep
  split at hstep
  · exact nextAlarmOk_next h t hstep
  · exact exec_alarmOk _ (h.frame (by simp)) t hstep

/-- Settles O6: every command keeps both invariants, and a report that has an effect judges the relays over the raised
set it leaves and the entry it makes. -/
theorem stepKeepsRelays : Obligations.StepKeepsRelays := by
  refine ⟨fun s t h hstep => step_alarmOk h hstep, fun c n w s => ⟨fun h => raiseCond_of_raised h w, fun h => ?_,
    fun h => clearCond_of_not_raised h w, fun h => ?_⟩⟩
  · obtain ⟨hrelays, hraised, hentry⟩ := judgeRelays_withRaised _ _ (raiseCond_of_not_raised h w)
    exact ⟨_, _, rfl, rfl, hrelays, fun k => by rw [hraised, assocGet_put], hentry⟩
  · obtain ⟨hrelays, hraised, hentry⟩ := judgeRelays_withRaised _ _ (clearCond_of_raised h w)
    exact ⟨_, _, rfl, rfl, hrelays, fun k => by rw [hraised, assocGet_del], hentry⟩

end Sys2Proof.Machine
end

section
/-! PROOFS. Proofs in this part are elaborated one after another. Elaborated side by side, those that wait for an earlier
one each hold a thread, and the stacks of so many threads exceed the memory a compilation may reserve. -/

set_option Elab.async false

section
/-! PROOFS. What a report to the alarm unit leaves alone: an index that follows its count, the raised pairs of other
causes, and a management unit whose reply queue grows within its places (R48, R157 to R163). -/

namespace Sys2Proof.Machine

/-! ## Reports -/

/-- The causes that the slot controller, the ports and the pool report, by which their invariants are stated. -/
def watchedCauses : List (Fin 64) := [causeSlotFault, causePoolLow, causeLinkHeld]

/-- The reply queue keeps within its places, the claimed one counted (R48, R173). -/
def State.repliesFit (s : State) : Prop := s.mgmt.taken ≤ Config.replyPlaces

/-- Only reports of other causes lie between two states, as far as the alarm and management units tell. -/
structure Reports (s t : State) : Prop where
  index : s.alarmIndexOk → t.alarmIndexOk
  raised : ∀ c ∈ watchedCauses, ∀ n, n < 64 → t.isRaised c n = s.isRaised c n
  grow : RepliesGrow s t
  fit : s.repliesFit → t.repliesFit

theorem Reports.refl (s : State) : Reports s s := ⟨id, fun _ _ _ _ => rfl, .refl s, id⟩

theorem Reports.trans {s t u : State} (h : Reports s t) (g : Reports t u) : Reports s u :=
  ⟨g.index ∘ h.index, fun c hc n hn => (g.raised c hc n hn).trans (h.raised c hc n hn), h.grow.trans g.grow,
    g.fit ∘ h.fit⟩

/-- An update that leaves the raised set, the write index, the count and the management unit alone. -/
theorem Reports.frame {s₀ s t : State} (h : Reports s₀ s) (hsame : t.alarm.raised = s.alarm.raised ∧
    t.alarm.idx = s.alarm.idx ∧ t.alarm.count = s.alarm.count ∧ t.mgmt = s.mgmt) : Reports s₀ t := by
  obtain ⟨hraised, hidx, hcount, hmgmt⟩ := hsame
  refine h.trans ⟨?_, ?_, .of_eq hmgmt, ?_⟩
  · simp only [State.alarmIndexOk, hidx, hcount]; exact id
  · intro c _ n _; simp only [State.isRaised, hraised]
  · simp only [State.repliesFit, hmgmt]; exact id

theorem ite_reports {p : Prop} [Decidable p] {s₀ t u : State} (ht : Reports s₀ t) (hu : Reports s₀ u) :
    Reports s₀ (if p then t else u) := by
  split
  · exact ht
  · exact hu

theorem when_reports {p : Prop} [Decidable p] {f : State → State} {s₀ u : State}
    (hf : ∀ {v : State}, Reports s₀ v → Reports s₀ (f v)) (h : Reports s₀ u) : Reports s₀ (if p then f u else u) :=
  ite_reports (hf h) h

theorem foldl_reports {β : Type} {l : List β} {f : State → β → State} {s₀ s : State} (h : Reports s₀ s)
    (hf : ∀ t b, Reports s₀ t → Reports s₀ (f t b)) : Reports s₀ (l.foldl f s) := by
  induction l generalizing s with
  | nil => exact h
  | cons b r ih => exact ih (hf s b h)

/-! ## Entries (R160 to R163) -/

/-- The count is 32 bits and 128 divides 2^32, so the index goes on following it over a wrap of the count. -/
theorem alarmCount_succ (n : Word) :
    (n + 1).toNat % Config.alarmPlaces = (n.toNat % Config.alarmPlaces + 1) % Config.alarmPlaces := by
  have hone : (1 : Word).toNat = 1 := rfl
  simp only [Config.alarmPlaces, BitVec.toNat_add, hone]
  omega

theorem offerAlarmParcel_fit {s : State} (e : AlarmEntry) (h : s.repliesFit) : (offerAlarmParcel e s).repliesFit := by
  unfold offerAlarmParcel
  split
  · next hroom =>
    simp only [Bool.and_eq_true, decide_eq_true_eq] at hroom
    obtain ⟨-, hroom⟩ := hroom
    simp only [State.repliesFit, Mgmt.taken, modMgmt_fields, List.length_append, List.length_singleton] at hroom ⊢
    omega
  · exact h

theorem writeEntry_reports {s₀ s : State} {e : AlarmEntry} (h : Reports s₀ s) : Reports s₀ (writeEntry e s) := by
  refine h.trans ⟨fun hidx => ?_, fun c _ n _ => by simp [State.isRaised], writeEntry_grow e s,
    fun hfit => offerAlarmParcel_fit e (by simpa [State.repliesFit] using hfit)⟩
  have hnext : (writeEntry e s).alarm.idx = (s.alarm.idx + 1) % Config.alarmPlaces ∧
      (writeEntry e s).alarm.count = s.alarm.count + 1 := by simp [writeEntry]
  rw [State.alarmIndexOk, hnext.1, hnext.2, alarmCount_succ, ← hidx]

theorem trackPosted_reports {s₀ s : State} {c : Fin 64} {n : Nat} (h : Reports s₀ s) : Reports s₀ (trackPosted c n s) :=
  h.frame (by simp [trackPosted])

theorem judgeWrap_reports {s₀ s : State} (h : Reports s₀ s) : Reports s₀ (judgeWrap s) :=
  ite_reports (trackPosted_reports (writeEntry_reports h)) h

theorem postEntry_reports {s₀ s : State} {c : Fin 64} {n : Nat} {act : AlarmAction} {k : Nat} {p : Word}
    (h : Reports s₀ s) : Reports s₀ (postEntry c n act k p s) :=
  judgeWrap_reports (writeEntry_reports h)

theorem postEvent_reports {s₀ s : State} {c : Fin 64} {n : Nat} {p : Word} (h : Reports s₀ s) :
    Reports s₀ (postEvent c n p s) :=
  ite_reports (ite_reports (h.frame (by simp [suppressEvent])) (postEntry_reports (trackPosted_reports h))) h

/-! ## Raises and clears (R157) -/

/-- The index and the reply queue fare the same whatever the cause of a raise is. -/
theorem raiseCond_index_fit {s : State} {c : Fin 64} {n : Nat} {p : Word} :
    (s.alarmIndexOk → (raiseCond c n p s).alarmIndexOk) ∧ (s.repliesFit → (raiseCond c n p s).repliesFit) := by
  cases hr : s.isRaised c n with
  | true => rw [raiseCond_of_raised hr]; exact ⟨id, id⟩
  | false =>
    have hentry : Reports s (reportEntry c n .raise p s) := ite_reports (postEntry_reports (.refl s)) (.refl s)
    rw [raiseCond_of_not_raised hr]
    exact ⟨hentry.index, hentry.fit⟩

theorem clearCond_index_fit {s : State} {c : Fin 64} {n : Nat} {p : Word} :
    (s.alarmIndexOk → (clearCond c n p s).alarmIndexOk) ∧ (s.repliesFit → (clearCond c n p s).repliesFit) := by
  cases hr : s.isRaised c n with
  | false => rw [clearCond_of_not_raised hr]; exact ⟨id, id⟩
  | true =>
    have hentry : Reports s (reportEntry c n .clear p s) := ite_reports (postEntry_reports (.refl s)) (.refl s)
    rw [clearCond_of_raised hr]
    exact ⟨hentry.index, hentry.fit⟩

/-- Pairs of instances 0 to 63 have keys of their own. -/
theorem pairKey_inj {c d : Fin 64} {n m : Nat} (hn : n < 64) (hm : m < 64) :
    pairKey c n = pairKey d m ↔ c = d ∧ n = m := by
  simp only [pairKey, Fin.ext_iff]
  omega

theorem raiseCond_reports {s₀ s : State} {c : Fin 64} {n : Nat} {p : Word} (h : Reports s₀ s)
    (hc : c ∉ watchedCauses := by decide) (hn : n < 64 := by omega) : Reports s₀ (raiseCond c n p s) := by
  refine h.trans ⟨raiseCond_index_fit.1, fun d hd m hm => ?_, raiseCond_grow .., raiseCond_index_fit.2⟩
  have hne : d ≠ c := fun e => hc (e ▸ hd)
  simp [isRaised_raiseCond, pairKey_inj hm hn, hne]

theorem clearCond_reports {s₀ s : State} {c : Fin 64} {n : Nat} {p : Word} (h : Reports s₀ s)
    (hc : c ∉ watchedCauses := by decide) (hn : n < 64 := by omega) : Reports s₀ (clearCond c n p s) := by
  refine h.trans ⟨clearCond_index_fit.1, fun d hd m hm => ?_, clearCond_grow .., clearCond_index_fit.2⟩
  have hne : d ≠ c := fun e => hc (e ▸ hd)
  simp [isRaised_clearCond, pairKey_inj hm hn, hne]

end Sys2Proof.Machine
end

section
/-! PROOFS. The timing unit, the watches, parking, the log and the chain engine report other causes than those of the
slot controller, the ports and the pool. -/

namespace Sys2Proof.Machine

theorem modTiming_reports {s₀ s : State} {f : Timing → Timing} (h : Reports s₀ s) : Reports s₀ (s.modTiming f) :=
  h.frame (by simp)

theorem handOver_reports {s₀ s : State} {hd : Option LogHandle} {x : HandOver} (h : Reports s₀ s) :
    Reports s₀ (handOver hd x s) := h.frame (by simp)

theorem setWatch_reports {s₀ s : State} {n : Fin 32} {w : Watch} (h : Reports s₀ s) : Reports s₀ (s.setWatch n w) :=
  h.frame (by simp)

theorem evalWatch_reports {s₀ s : State} {n : Fin 32} (h : Reports s₀ s) : Reports s₀ (evalWatch n s) := by
  have hset (r : Relation × Word) :
      Reports s₀ (s.setWatch n { s.watches[n] with lastRel := r.1, lastVal := r.2 }) := setWatch_reports h
  exact ite_reports (ite_reports (hset _) (when_reports (fun hv => clearCond_reports hv) (hset _)))
    (when_reports (fun hv => raiseCond_reports hv) (hset _))

theorem evalOn_reports {s₀ s : State} {a : Fin 64} {n : Fin 32} (h : Reports s₀ s) : Reports s₀ (evalOn a n s) :=
  when_reports evalWatch_reports h

theorem evalArea_reports {s₀ s : State} {a : Fin 64} (h : Reports s₀ s) : Reports s₀ (evalArea a s) :=
  foldl_reports h (fun _ _ => evalOn_reports)

theorem landLatest_reports {s₀ s : State} {good : Bool} {i : Slot} {n : Fin 64} {hdr : Header} {ws : List Word}
    (h : Reports s₀ s) : Reports s₀ (landLatest good i n hdr ws s) :=
  ite_reports (evalArea_reports (h.frame (by simp))) (h.frame (by simp))

theorem postCrossings_reports {s₀ s : State} {n : Fin 64} {size i f new : Nat} (h : Reports s₀ s) :
    Reports s₀ (postCrossings n size i f new s) := by
  unfold postCrossings
  exact when_reports postEvent_reports (when_reports postEvent_reports (when_reports postEvent_reports h))

theorem landRing_reports {s₀ s : State} {good : Bool} {i : Slot} {n : Fin 64} {hdr : Header} {ws : List Word}
    (h : Reports s₀ s) : Reports s₀ (landRing good i n hdr ws s) :=
  ite_reports (when_reports postCrossings_reports (h.frame (by simp))) (h.frame (by simp))

theorem land_reports {s₀ s : State} {good : Bool} {i : Slot} {n : Fin 64} {hdr : Header} {ws : List Word}
    (h : Reports s₀ s) : Reports s₀ (land good i n hdr ws s) := by
  unfold land
  split
  · exact h
  · exact landLatest_reports h
  · exact landRing_reports h

theorem setFreq_reports {s₀ s : State} {intg freq : Int} (h : Reports s₀ s) : Reports s₀ (setFreq intg freq s) :=
  h.frame (by simp)

theorem modRef_reports {s₀ s : State} {r : RefId} {f : Reference → Reference} (h : Reports s₀ s) :
    Reports s₀ (modRef r f s) := h.frame (by simp)

theorem changeLoop_reports {s₀ s : State} {new : LoopState} (h : Reports s₀ s) : Reports s₀ (changeLoop new s) :=
  ite_reports h (postEvent_reports (h.frame (by simp)))

theorem enterAcquiring_reports {s₀ s : State} (h : Reports s₀ s) : Reports s₀ (enterAcquiring s) := by
  unfold enterAcquiring
  dsimp only
  split
  · exact changeLoop_reports (clearCond_reports (clearCond_reports (h.frame (by simp))))
  · exact changeLoop_reports (clearCond_reports (clearCond_reports (h.frame (by simp))))
  · exact changeLoop_reports (h.frame (by simp))

theorem enterHoldover_reports {s₀ s : State} (h : Reports s₀ s) : Reports s₀ (enterHoldover s) :=
  raiseCond_reports (changeLoop_reports (h.frame (by simp)))

theorem judgeSelection_reports {s₀ s : State} (h : Reports s₀ s) : Reports s₀ (judgeSelection s) := by
  have hswitch (new : Sel) (p : Word) :
      Reports s₀ (postEvent causeReferenceSwitch 0 p (s.modTiming (fun t => { t with sel := new }))) :=
    postEvent_reports (h.frame (by simp))
  unfold judgeSelection
  dsimp only
  split
  · exact h
  · split
    · split
      · exact enterHoldover_reports (hswitch _ _)
      · exact enterHoldover_reports (hswitch _ _)
      · exact hswitch _ _
    · exact enterAcquiring_reports (hswitch _ _)

theorem qualify_reports {s₀ s : State} {r : RefId} (h : Reports s₀ s) : Reports s₀ (qualify r s) :=
  judgeSelection_reports (clearCond_reports (h.frame (by simp)) (hn := refNum_lt r))

theorem loseReference_reports {s₀ s : State} {r : RefId} (h : Reports s₀ s) : Reports s₀ (loseReference r s) := by
  have hloss (f : Reference → Reference) (p : Word) : Reports s₀ (raiseCond causeRefLoss (refNum r) p (modRef r f s)) :=
    raiseCond_reports (h.frame (by simp)) (hn := refNum_lt r)
  exact when_reports judgeSelection_reports (hloss _ _)

theorem checkSeconds_reports {s₀ s : State} {r : RefId} {b : Nat} (h : Reports s₀ s) :
    Reports s₀ (checkSeconds r b s) := by
  unfold checkSeconds
  split
  · exact h
  · exact ite_reports (h.frame (by simp)) (postEvent_reports (h.frame (by simp)))

theorem stepTime_reports {s₀ s : State} {lag : Int} (h : Reports s₀ s) : Reports s₀ (stepTime lag s) :=
  modTiming_reports (postEvent_reports (h.frame (by simp)))

theorem slew_reports {s₀ s : State} {lag : Int} (h : Reports s₀ s) : Reports s₀ (slew lag s) :=
  ite_reports (h.frame (by simp)) (postEvent_reports (h.frame (by simp)))

theorem lockAfterStep_reports {s₀ s : State} {lag : Int} (h : Reports s₀ s) : Reports s₀ (lockAfterStep lag s) :=
  when_reports changeLoop_reports h

theorem lockAfterSlew_reports {s₀ s : State} {lag : Int} (h : Reports s₀ s) : Reports s₀ (lockAfterSlew lag s) :=
  ite_reports (when_reports changeLoop_reports (modTiming_reports h))
    (when_reports changeLoop_reports (modTiming_reports h))

theorem processPulse_reports {s₀ s : State} {r : RefId} {c : CabTime} (h : Reports s₀ s) :
    Reports s₀ (processPulse r c s) :=
  ite_reports (lockAfterStep_reports (stepTime_reports (checkSeconds_reports h)))
    (lockAfterSlew_reports (slew_reports (checkSeconds_reports h)))

theorem acceptPulse_reports {s₀ s : State} {r : RefId} {c : CabTime} {run : Nat} (h : Reports s₀ s) :
    Reports s₀ (acceptPulse r c run s) := by
  have hjudged {p : Prop} [Decidable p] {f : Reference → Reference} :
      Reports s₀ (if p then qualify r (modRef r f s) else modRef r f s) :=
        when_reports qualify_reports (h.frame (by simp))
  exact ite_reports (processPulse_reports hjudged) (modRef_reports hjudged)

theorem judgePulse_reports {s₀ s : State} {r : RefId} (h : Reports s₀ s) : Reports s₀ (judgePulse r s) := by
  unfold judgePulse
  dsimp only
  split
  · exact acceptPulse_reports h
  · exact ite_reports (h.frame (by simp)) (ite_reports (acceptPulse_reports h) (acceptPulse_reports h))

/-- The three effects of a write of the loop settings, one after another (R89). -/
theorem writeLoop_reports {s₀ s : State} {c : LoopSettings} (h : Reports s₀ s) : Reports s₀ (writeLoop c s) := by
  have hclamped {p : Prop} [Decidable p] {u : State} {intg freq : Int} {w : Word} (hu : Reports s₀ u) :
      Reports s₀ (if p then postEvent causeFreqLimit 0 w (setFreq intg freq u) else u) :=
    ite_reports (postEvent_reports (hu.frame (by simp))) hu
  exact when_reports setFreq_reports (hclamped (when_reports judgeSelection_reports (h.frame (by simp))))

theorem writeRef_reports {s₀ s : State} {r : RefId} {c : RefSettings} (h : Reports s₀ s) :
    Reports s₀ (writeRef r c s) :=
  ite_reports (judgeSelection_reports (h.frame (by simp))) (h.frame (by simp))

theorem reschedule_reports {s₀ s : State} (h : Reports s₀ s) : Reports s₀ (reschedule s) := h.frame (by simp)

theorem timingRestart_reports {s₀ s : State} (h : Reports s₀ s) : Reports s₀ (timingRestart s) :=
  reschedule_reports (clearCond_reports (clearCond_reports (modTiming_reports (changeLoop_reports
    (ite_reports h (postEvent_reports (h.frame (by simp))))))))

end Sys2Proof.Machine
end

section
/-! PROOFS. What a command can do to the units that exist once: the timing unit, the pool, parking memory, the log's
index, the alarm queue and the raised set. -/

namespace Sys2Proof.Machine

/-! ## The steps of the units -/

/-- The fields of the units that their invariants speak of are the same. -/
def SameUnits (s t : State) : Prop :=
  t.timing = s.timing ∧ t.pool = s.pool ∧ t.park.mem = s.park.mem ∧ t.log.idx = s.log.idx ∧
  t.log.count = s.log.count ∧ t.alarm.raised = s.alarm.raised ∧ t.alarm.idx = s.alarm.idx ∧
  t.alarm.count = s.alarm.count ∧ t.glob.lowMark = s.glob.lowMark ∧ t.glob.clearMark = s.glob.clearMark ∧
  t.glob.logSize = s.glob.logSize

/-- The end of holdover once the holdover limit has passed (R98). -/
def endHoldover (s : State) : State :=
  (changeLoop .free (raiseCond causeFreeRun 0 (wordOfInt s.timing.ppb)
    (clearCond causeHoldover 0 (wordOf s.holdoverSeconds) s))).modTiming (fun t => { t with holdover := none })

/-- A time that the SET-TIME action may give (R107). -/
def settable (sec ns : Nat) : Prop := sec < Config.secModulus ∧ ns < Config.nsPerSec

/-- One step of the units: each operation by which a command changes them. -/
inductive UnitStep : State → State → Prop
  | same {s t : State} (h : SameUnits s t) : UnitStep s t
  | entry (c : Fin 64) (n : Nat) (a : AlarmAction) (r : Nat) (p : Word) (s : State) :
      UnitStep s (postEntry c n a r p s)
  | raise (c : Fin 64) (n : Nat) (p : Word) (s : State) (hc : c ≠ causePoolLow ∧ c ≠ causeHoldover) (hn : n < 64) :
      UnitStep s (raiseCond c n p s)
  | clear (c : Fin 64) (n : Nat) (p : Word) (s : State) (hc : c ≠ causePoolLow ∧ c ≠ causeHoldover) (hn : n < 64) :
      UnitStep s (clearCond c n p s)
  | alloc (p : Stored) (s : State) (h : p.nBlocks ≤ s.pool.freeCount) : UnitStep s (allocStored p s)
  | release (pid : Nat) (s : State) : UnitStep s (releaseHold pid s)
  | stored (pid : Nat) (f : Stored → Stored) (s : State)
      (h : ∀ p, (f p).blocks = p.blocks ∧ (f p).nBlocks = p.nBlocks) : UnitStep s (modStored pid f s)
  | memory (f : Assoc Word → Assoc Word) (s : State) (h : ∀ m, parkWf m = true → parkWf (f m) = true) :
      UnitStep s (s.modPark (fun p => { p with mem := f p.mem }))
  | reserve (r : Assoc LogRecord) (s : State) :
      UnitStep s (s.modLog (fun _ =>
        { recs := r, idx := (s.log.idx + 1) % s.glob.logSize, count := s.log.count + 1 }))
  | emptied (s : State) : UnitStep s (emptyLog s)
  | resize (n : Nat) (s : State) (h : n ∈ [256, 512, 1024, 2048]) :
      UnitStep s (emptyLog { s with glob := { s.glob with logSize := n } })
  | marks (lo hi : Nat) (s : State) (h : lo ≤ hi ∧ hi ≤ Config.poolBlocks) :
      UnitStep s (poolJudge { s with glob := { s.glob with lowMark := lo, clearMark := hi } })
  | fabric (s : State) : UnitStep s (fabricPool s)
  | pulse (r : RefId) (s : State) : UnitStep s (judgePulse r s)
  | loss (r : RefId) (s : State) : UnitStep s (loseReference r s)
  | holdoverEnd (s : State) (h : s.holdoverDue = true) : UnitStep s (endHoldover s)
  | loop (c : LoopSettings) (s : State) (h : c.fmax ≤ 200000) : UnitStep s (writeLoop c s)
  | record (r : RefId) (c : RefSettings) (s : State) : UnitStep s (writeRef r c s)
  | restart (s : State) : UnitStep s (timingRestart s)
  | setTime (sec ns : Nat) (s : State) (h : settable sec ns) : UnitStep s (setTimeTo sec ns s)
  | setFreq (v : Int) (s : State) (hfree : s.timing.loop = .free) (hv : v.natAbs ≤ s.timing.cfg.fmax * 65536) :
      UnitStep s (setFreq v v s)
  | stage (i : Slot) (ws : List Word) (s : State) : UnitStep s (stageTimeOfDay i ws s)

/-- Any number of steps of the units. -/
def UnitRun : State → State → Prop := Relation.ReflTransGen UnitStep

theorem UnitRun.refl (s : State) : UnitRun s s := Relation.ReflTransGen.refl

theorem UnitRun.then {s₀ s t : State} (h : UnitRun s₀ s) (g : UnitStep s t) : UnitRun s₀ t :=
  Relation.ReflTransGen.tail h g

theorem UnitRun.frame {s₀ s t : State} (h : UnitRun s₀ s) (g : SameUnits s t) : UnitRun s₀ t := h.then (.same g)

/-- A property that every step keeps is kept by a run. -/
theorem UnitRun.keeps {Q : State → Prop} (hstep : ∀ {s t}, UnitStep s t → Q s → Q t) {s t : State}
    (h : UnitRun s t) (hs : Q s) : Q t := by
  induction h with
  | refl => exact hs
  | tail _ g ih => exact hstep g ih

theorem ite_units {p : Prop} [Decidable p] {s₀ t u : State} (ht : UnitRun s₀ t) (hu : UnitRun s₀ u) :
    UnitRun s₀ (if p then t else u) := by
  split
  · exact ht
  · exact hu

theorem when_units {p : Prop} [Decidable p] {f : State → State} {s₀ u : State}
    (hf : ∀ {v : State}, UnitRun s₀ v → UnitRun s₀ (f v)) (h : UnitRun s₀ u) :
    UnitRun s₀ (if p then f u else u) :=
  ite_units (hf h) h

theorem foldl_units {β : Type} {l : List β} {f : State → β → State} {s₀ s : State} (h : UnitRun s₀ s)
    (hf : ∀ t b, UnitRun s₀ t → UnitRun s₀ (f t b)) : UnitRun s₀ (l.foldl f s) := by
  induction l generalizing s with
  | nil => exact h
  | cons b r ih => exact ih (hf s b h)

theorem eachSlot_units {f : Slot → State → State} {s₀ s : State} (h : UnitRun s₀ s)
    (hf : ∀ i t, UnitRun s₀ t → UnitRun s₀ (f i t)) : UnitRun s₀ (s.eachSlot f) :=
  foldl_units h (fun t i => hf i t)

/-! ## Reports -/

section Report

variable {s₀ s : State} {c : Fin 64} {n : Nat} {p : Word}

theorem raiseCond_units (h : UnitRun s₀ s) (hc : c ≠ causePoolLow ∧ c ≠ causeHoldover := by decide)
    (hn : n < 64 := by omega) : UnitRun s₀ (raiseCond c n p s) := h.then (.raise c n p s hc hn)

theorem clearCond_units (h : UnitRun s₀ s) (hc : c ≠ causePoolLow ∧ c ≠ causeHoldover := by decide)
    (hn : n < 64 := by omega) : UnitRun s₀ (clearCond c n p s) := h.then (.clear c n p s hc hn)

theorem postEntry_units {a : AlarmAction} {r : Nat} (h : UnitRun s₀ s) : UnitRun s₀ (postEntry c n a r p s) :=
  h.then (.entry c n a r p s)

theorem postEvent_units (h : UnitRun s₀ s) : UnitRun s₀ (postEvent c n p s) :=
  ite_units (ite_units (h.frame (by simp [SameUnits, suppressEvent]))
    (postEntry_units (h.frame (by simp [SameUnits, trackPosted])))) h

theorem judgeRelays_units (h : UnitRun s₀ s) : UnitRun s₀ (judgeRelays s) :=
  h.frame (by simp [SameUnits, judgeRelays])

end Report

end Sys2Proof.Machine
end

section
/-! PROOFS. The operations on the pool, chains, log, watches and parking are runs of the units' steps. -/

namespace Sys2Proof.Machine

/-! ## Operations that report nothing -/

section Inert

variable {s₀ s : State} {i : Slot}

theorem modPort_units {f : Port → Port} (h : UnitRun s₀ s) : UnitRun s₀ (s.modPort i f) := h.frame (by simp [SameUnits])
theorem modIng_units {f : Ingress → Ingress} (h : UnitRun s₀ s) :
    UnitRun s₀ (s.modIng i f) := h.frame (by simp [SameUnits])
theorem modEgr_units {f : Egress → Egress} (h : UnitRun s₀ s) :
    UnitRun s₀ (s.modEgr i f) := h.frame (by simp [SameUnits])
theorem modCtl_units {f : Ctl → Ctl} (h : UnitRun s₀ s) : UnitRun s₀ (s.modCtl i f) := h.frame (by simp [SameUnits])
theorem setCursor_units {c : Cursor} (h : UnitRun s₀ s) : UnitRun s₀ (s.setCursor i c) := h.frame (by simp [SameUnits])
theorem modMgmt_units {f : Mgmt → Mgmt} (h : UnitRun s₀ s) : UnitRun s₀ (s.modMgmt f) := h.frame (by simp [SameUnits])
theorem modChain_units {f : ChainEngine → ChainEngine} (h : UnitRun s₀ s) :
    UnitRun s₀ (s.modChain f) := h.frame (by simp [SameUnits])
theorem handOver_log (hd : Option LogHandle) (x : HandOver) :
    (handOver hd x s).log.idx = s.log.idx ∧ (handOver hd x s).log.count = s.log.count := by
  unfold handOver logHandOver
  split
  · exact ⟨rfl, rfl⟩
  · split <;> simp

theorem handOver_units {hd : Option LogHandle} {x : HandOver} (h : UnitRun s₀ s) : UnitRun s₀ (handOver hd x s) :=
  h.frame (by simp [SameUnits, handOver_log])

theorem wakeReport_units (h : UnitRun s₀ s) : UnitRun s₀ (wakeReport i s) := h.frame (by simp [SameUnits])

/-- The words, the reference count and the open mark of a stored parcel are no concern of the pool. -/
theorem modStored_units {pid : Nat} {f : Stored → Stored} (h : UnitRun s₀ s)
    (hf : ∀ p, (f p).blocks = p.blocks ∧ (f p).nBlocks = p.nBlocks := by exact fun _ => ⟨rfl, rfl⟩) :
    UnitRun s₀ (modStored pid f s) := h.then (.stored pid f s hf)

theorem enqueueRef_units {c : Cls} {pid : Nat} (h : UnitRun s₀ s) : UnitRun s₀ (enqueueRef i c pid s) :=
  wakeReport_units (modStored_units (modEgr_units h))

theorem releaseHold_units {pid : Nat} (h : UnitRun s₀ s) : UnitRun s₀ (releaseHold pid s) := h.then (.release pid s)

theorem allocStored_units {p : Stored} (h : UnitRun s₀ s) (hp : p.nBlocks ≤ s.pool.freeCount) :
    UnitRun s₀ (allocStored p s) := h.then (.alloc p s hp)

theorem emptySwitchQueues_units (h : UnitRun s₀ s) : UnitRun s₀ (emptySwitchQueues i s) := h.frame (by simp [SameUnits])

end Inert

/-! ## The pool (R38 to R46) -/

theorem removeRef_units {s₀ s : State} {i : Slot} {c : Cls} {pid : Nat} (h : UnitRun s₀ s) :
    UnitRun s₀ (removeRef i c pid s) :=
  releaseHold_units (h.frame (by simp [SameUnits]))

theorem headDropOne_units {s₀ s : State} {i : Slot} {pid : Nat} (h : UnitRun s₀ s) :
    UnitRun s₀ (headDropOne i pid s) := by
  unfold headDropOne
  split
  · exact removeRef_units h
  · next p _ =>
    have hdropped : UnitRun s₀ (postEvent causeStreamDrop i.val (wordOf p.owner.val) (removeRef i .stream pid s)) :=
      postEvent_units (removeRef_units h)
    exact ite_units (hdropped.frame (by simp [SameUnits])) hdropped

theorem headDrop_units {s₀ s : State} {i : Slot} {b : Nat} {l : List Nat} (h : UnitRun s₀ s) :
    UnitRun s₀ (headDrop i b l s) := by
  induction l generalizing s with
  | nil => exact h
  | cons v r ih =>
    unfold headDrop
    exact ite_units h (ih (headDropOne_units h))

theorem offerStream_units {s₀ s : State} {i owner : Slot} {pid b : Nat} (h : UnitRun s₀ s) :
    UnitRun s₀ (offerStream i pid owner b s).2 := by
  unfold offerStream
  dsimp only
  split
  · exact enqueueRef_units (headDrop_units h)
  · exact postEvent_units (headDrop_units h)

theorem releaseHolds_units {s₀ s : State} {l : List Nat} (h : UnitRun s₀ s) :
    UnitRun s₀ (l.foldl (fun t pid => releaseHold pid t) s) :=
  foldl_units h (fun _ _ => releaseHold_units)

theorem flushSlot_units {s₀ s : State} {i : Slot} (h : UnitRun s₀ s) : UnitRun s₀ (flushSlot i s) :=
  emptySwitchQueues_units (releaseHolds_units (h.frame (by simp [SameUnits])))

theorem dropWaiting_units {s₀ s : State} {i : Slot} (h : UnitRun s₀ s) : UnitRun s₀ (dropWaiting i s) :=
  ite_units (modMgmt_units (releaseHolds_units (h.frame (by simp [SameUnits])))) (releaseHolds_units (h.frame
    (by simp [SameUnits])))

/-! ## The chain engine (R147 to R151) -/

theorem abortChain_units {s₀ s : State} {i : Slot} {r : AbortReason} (h : UnitRun s₀ s) :
    UnitRun s₀ (abortChain i r s) :=
  ite_units h (postEvent_units (h.frame (by simp [SameUnits])))

theorem completeChain_units {s₀ s : State} {i : Slot} (h : UnitRun s₀ s) : UnitRun s₀ (completeChain i s) :=
  postEvent_units (h.frame (by simp [SameUnits]))

theorem chainMade_units {s₀ s : State} {i : Slot} (h : UnitRun s₀ s) : UnitRun s₀ (chainMade i s) := by
  unfold chainMade
  dsimp only
  split
  · exact completeChain_units h
  · exact ite_units (h.frame (by simp [SameUnits])) (completeChain_units h)

theorem walk_units {s₀ s : State} {i : Slot} {n : Nat} (h : UnitRun s₀ s) : UnitRun s₀ (walk i n s) := by
  induction n generalizing s with
  | zero => exact h
  | succ n ih =>
    exact ite_units h (ite_units (chainMade_units h)
      (ite_units (ih (h.frame (by simp [SameUnits]))) (abortChain_units h)))

theorem startChain_units {s₀ s : State} {i : Slot} {d : Fin 64} (h : UnitRun s₀ s) : UnitRun s₀ (startChain i d s) :=
  walk_units (h.frame (by simp [SameUnits]))

theorem autoStart_units {s₀ s : State} {i : Slot} (h : UnitRun s₀ s) : UnitRun s₀ (autoStart i s) := by
  unfold autoStart
  dsimp only
  split
  · exact when_units startChain_units h
  · exact h

/-- A parcel is made only where its blocks are free (R149). -/
theorem makeChainParcel_units {s₀ s : State} {i : Slot} (h : UnitRun s₀ s) (hready : s.chainReady i = true) :
    UnitRun s₀ (makeChainParcel i s) := by
  simp only [State.chainReady, State.chainRoom, Bool.and_eq_true, decide_eq_true_eq] at hready
  obtain ⟨-, -, hfree⟩ := hready
  refine walk_units (modChain_units (setCursor_units (wakeReport_units (allocStored_units (modEgr_units h) ?_))))
  simp only [State.chainParcel, modEgr_keeps]
  omega

theorem chainSent_units {s₀ s : State} {i : Slot} {pid : Nat} (h : UnitRun s₀ s) : UnitRun s₀ (chainSent i pid s) :=
  when_units completeChain_units h

/-! ## The transit log (R76, R77) -/

theorem logReserve_units {s₀ s : State} {i : Slot} {hdr : Header} {st : Stamp} {park : Bool} (h : UnitRun s₀ s) :
    UnitRun s₀ (logReserve i hdr st park s).2 := by
  unfold logReserve
  split
  · have hreserved (r : LogRecord) : UnitRun s₀ (s.modLog (fun l =>
        { recs := assocPut l.recs s.log.idx r, idx := (s.log.idx + 1) % s.glob.logSize,
          count := s.log.count + 1 })) := h.then (.reserve (assocPut s.log.recs s.log.idx r) s)
    exact ite_units (postEvent_units (hreserved _)) (when_units postEvent_units (hreserved _))
  · exact h

/-! ## Watches (R164, R166 to R169) -/

theorem setWatch_units {s₀ s : State} {n : Fin 32} {w : Watch} (h : UnitRun s₀ s) : UnitRun s₀ (s.setWatch n w) :=
  h.frame (by simp [SameUnits])

theorem evalWatch_units {s₀ s : State} {n : Fin 32} (h : UnitRun s₀ s) : UnitRun s₀ (evalWatch n s) := by
  have hset (r : Relation × Word) :
      UnitRun s₀ (s.setWatch n { s.watches[n] with lastRel := r.1, lastVal := r.2 }) := setWatch_units h
  exact ite_units (ite_units (hset _) (when_units (fun hv => clearCond_units hv) (hset _)))
    (when_units (fun hv => raiseCond_units hv) (hset _))

theorem evalOn_units {s₀ s : State} {a : Fin 64} {n : Fin 32} (h : UnitRun s₀ s) : UnitRun s₀ (evalOn a n s) :=
  when_units evalWatch_units h

theorem evalArea_units {s₀ s : State} {a : Fin 64} (h : UnitRun s₀ s) : UnitRun s₀ (evalArea a s) :=
  foldl_units h (fun _ _ => evalOn_units)

theorem writeWatch_units {s₀ s : State} {n : Fin 32} {ws : List Word} (h : UnitRun s₀ s) :
    UnitRun s₀ (writeWatch n ws s) := by
  have hset : UnitRun s₀ (s.setWatch n (s.watches[n].withWords ws)) := setWatch_units h
  unfold writeWatch
  exact ite_units (ite_units (evalWatch_units hset) (clearCond_units (setWatch_units hset)))
    (judgeRelays_units (ite_units (evalWatch_units hset) (clearCond_units (setWatch_units hset))))

/-! ## Parking (R60 to R69) -/

theorem parkDiscard_units {s₀ s : State} {i : Slot} {a : Fin 64} {chan : BitVec 6} {r : Nat} (h : UnitRun s₀ s) :
    UnitRun s₀ (parkDiscard i a chan r s) := postEvent_units h

theorem parkHeader_units {s₀ s : State} {i : Slot} {a : Fin 64} {hdr : Header} {hd : Option LogHandle}
    (h : UnitRun s₀ s) : UnitRun s₀ (parkHeader i a hdr hd s) := by
  unfold parkHeader
  split
  · exact h.frame (by simp [SameUnits])
  · exact handOver_units (parkDiscard_units (h.frame (by simp [SameUnits])))

theorem setArea_units {s₀ s : State} {n : Fin 64} {x : Area} (h : UnitRun s₀ s) : UnitRun s₀ (s.setArea n x) :=
  h.frame (by simp [SameUnits, State.setArea])

theorem landLatest_units {s₀ s : State} {good : Bool} {i : Slot} {n : Fin 64} {hdr : Header} {ws : List Word}
    (h : UnitRun s₀ s) : UnitRun s₀ (landLatest good i n hdr ws s) := by
  have hwritten (b : Nat) (vs : List Word) :
      UnitRun s₀ (s.modPark (fun p => { p with mem := parkWriteSeq p.mem b vs })) :=
    h.then (.memory (fun m => parkWriteSeq m b vs) s (fun m => parkWriteSeq_wf vs m b))
  exact ite_units (evalArea_units (setArea_units (hwritten _ _))) (hwritten _ _)

theorem postCrossings_units {s₀ s : State} {n : Fin 64} {size i f new : Nat} (h : UnitRun s₀ s) :
    UnitRun s₀ (postCrossings n size i f new s) := by
  unfold postCrossings
  exact when_units postEvent_units (when_units postEvent_units (when_units postEvent_units h))

theorem landRing_units {s₀ s : State} {good : Bool} {i : Slot} {n : Fin 64} {hdr : Header} {ws : List Word}
    (h : UnitRun s₀ s) : UnitRun s₀ (landRing good i n hdr ws s) := by
  have hwritten (base size k : Nat) (vs : List Word) :
      UnitRun s₀ (s.modPark (fun p => { p with mem := parkWriteRing p.mem base size k vs })) :=
    h.then (.memory (fun m => parkWriteRing m base size k vs) s (fun m => parkWriteRing_wf vs m base size k))
  exact ite_units (when_units postCrossings_units (setArea_units (hwritten _ _ _ _))) (hwritten _ _ _ _)

theorem land_units {s₀ s : State} {good : Bool} {i : Slot} {n : Fin 64} {hdr : Header} {ws : List Word}
    (h : UnitRun s₀ s) : UnitRun s₀ (land good i n hdr ws s) := by
  unfold land
  split
  · exact h
  · exact landLatest_units h
  · exact landRing_units h

theorem parkEnd_units {s₀ s : State} {i : Slot} {e : PEnd} {hd : Option LogHandle} (h : UnitRun s₀ s) :
    UnitRun s₀ (parkEnd i e hd s) := by
  unfold parkEnd
  dsimp only
  split
  · exact h.frame (by simp [SameUnits])
  · exact h.frame (by simp [SameUnits])
  · have hclear : UnitRun s₀ (s.setLanding i .clear) := h.frame (by simp [SameUnits])
    exact ite_units (handOver_units hclear)
      (ite_units (handOver_units (parkDiscard_units hclear)) (handOver_units (land_units hclear)))

theorem writeArea_units {s₀ s : State} {n : Fin 64} {ws : List Word} (h : UnitRun s₀ s) :
    UnitRun s₀ (writeArea n ws s) :=
  evalArea_units (eachSlot_units (setArea_units h) (fun _ _ => modIng_units))

/-! ## EDGE and TIME parcels (R47, R116, R120) -/

theorem offerExpress_units {s₀ s : State} {i : Slot} {p : ExpressParcel} {lost : Word} (h : UnitRun s₀ s) :
    UnitRun s₀ (offerExpress i p lost s) :=
  ite_units (h.frame (by simp [SameUnits])) (postEvent_units h)

theorem dispatchEdge_units {s₀ s : State} {i : Slot} {d : Sched} (h : UnitRun s₀ s) : UnitRun s₀ (dispatchEdge i d s) :=
  when_units offerExpress_units (h.frame (by simp [SameUnits]))

theorem offerTime_units {s₀ s : State} {p : ExpressParcel} {lost : Word} {i : Slot} (h : UnitRun s₀ s) :
    UnitRun s₀ (offerTime p lost i s) :=
  when_units offerExpress_units h

theorem makeTimeParcels_units {s₀ s : State} (h : UnitRun s₀ s) : UnitRun s₀ (makeTimeParcels s) :=
  eachSlot_units h (fun _ _ => offerTime_units)

end Sys2Proof.Machine
end

section
/-! PROOFS. The operations of the forwarding unit and the slot controller are runs of the units' steps. -/

namespace Sys2Proof.Machine

/-! ## The timing unit (R92 to R109) -/

theorem reschedule_units {s₀ s : State} (h : UnitRun s₀ s) : UnitRun s₀ (reschedule s) := h.frame (by simp [SameUnits])

/-! ## Resolution and the waiting place (R27 to R36) -/

theorem offerOne_units {s₀ s : State} {pid b : Nat} {c : Cls} {owner d : Slot} {o : Offered} (h : UnitRun s₀ s) :
    UnitRun s₀ (offerOne pid c owner b d o s).2 := by
  unfold offerOne
  split
  · exact h
  · exact h
  · split
    · exact offerStream_units h
    · split
      · exact enqueueRef_units h
      · exact h

theorem offerEach_units {s₀ s : State} {pid b : Nat} {c : Cls} {owner : Slot} {l : List Slot} {o : Offered}
    (h : UnitRun s₀ s) : UnitRun s₀ (offerEach pid c owner b l o s).2 := by
  induction l generalizing o s with
  | nil => exact h
  | cons d r ih => exact ih (offerOne_units h)

theorem offerAll_units {s₀ s : State} {pid : Nat} {c : Cls} {owner : Slot} {dest : SlotSet} (h : UnitRun s₀ s) :
    UnitRun s₀ (offerAll pid c owner dest s).2 :=
  offerEach_units h

theorem settle_units {s₀ s : State} {pid : Nat} {hd : Option LogHandle} {enq disc : SlotSet} (h : UnitRun s₀ s) :
    UnitRun s₀ (settle pid hd enq disc s) :=
  handOver_units (releaseHold_units h)

theorem waitEnd_units {s₀ s : State} {j : Slot} {w : Waiting} (h : UnitRun s₀ s) : UnitRun s₀ (waitEnd j w s) :=
  settle_units (h.frame (by simp [SameUnits]))

theorem putWaiting_units {s₀ s : State} {j : Slot} {w : Waiting} (h : UnitRun s₀ s) : UnitRun s₀ (putWaiting j w s) :=
  ite_units (waitEnd_units h) (h.frame (by simp [SameUnits]))

theorem postStalls_units {s₀ s : State} {j : Slot} {m : SlotSet} (h : UnitRun s₀ s) : UnitRun s₀ (postStalls j m s) :=
  foldl_units h (fun _ _ => postEvent_units)

theorem enterWaiting_units {s₀ s : State} {i : Slot} {pid : Nat} {c : Cls} {hd : Option LogHandle} {o : Offered}
    (h : UnitRun s₀ s) : UnitRun s₀ (enterWaiting i pid c hd o s) := by
  unfold enterWaiting
  split
  · exact settle_units (postStalls_units h)
  · cases hd with
    | none => exact modPort_units (modIng_units h)
    | some x => exact modPort_units (modIng_units (handOver_units (hd := some x) h))

theorem reresolveIn_units {s₀ s : State} {d j : Slot} (h : UnitRun s₀ s) : UnitRun s₀ (reresolveIn d j s) := by
  unfold reresolveIn
  split
  · exact h
  · split
    · split
      · exact h
      · exact putWaiting_units h
      · exact putWaiting_units h
    · exact h

theorem reresolve_units {s₀ s : State} {d : Slot} (h : UnitRun s₀ s) : UnitRun s₀ (reresolve d s) :=
  eachSlot_units h (fun _ _ => reresolveIn_units)

theorem servePending_units {s₀ s : State} {d : Slot} {c : Cls} {n : Nat} (h : UnitRun s₀ s) :
    UnitRun s₀ (servePending d c n s) := by
  induction n generalizing s with
  | zero => exact h
  | succ n ih =>
    unfold servePending
    split
    · exact h
    · split
      · exact h
      · exact ite_units (ih (putWaiting_units (enqueueRef_units h))) h

theorem stallExpire_units {s₀ s : State} {j : Slot} {w : Waiting} (h : UnitRun s₀ s) : UnitRun s₀ (stallExpire j w s) :=
  waitEnd_units (postStalls_units h)

/-! ## The events of a parcel (R17 to R31) -/

theorem failAt_units {s₀ s : State} {pid : Nat} {d : Slot} (h : UnitRun s₀ s) : UnitRun s₀ (failAt pid d s) :=
  ite_units (ite_units (h.frame (by simp [SameUnits])) (removeRef_units h)) h

theorem openParcel_units {s₀ s : State} {i : Slot} {r : Reception} {pid : Nat} (h : UnitRun s₀ s) :
    UnitRun s₀ (openParcel i r pid s) := by
  unfold openParcel
  exact modIng_units (offerAll_units (modStored_units h))

theorem passedPayload_units {s₀ s : State} {i : Slot} {r : Reception} {pid : Nat} {w : Word} (h : UnitRun s₀ s) :
    UnitRun s₀ (passedPayload i r pid w s) :=
  when_units openParcel_units (modStored_units h)

theorem passedGood_units {s₀ s : State} {i : Slot} {r : Reception} {pid : Nat} {isOpen : Bool} (h : UnitRun s₀ s) :
    UnitRun s₀ (passedGood i r pid isOpen s) :=
  ite_units (settle_units (modStored_units h))
    (ite_units (settle_units (offerAll_units h)) (enterWaiting_units (offerAll_units h)))

theorem postCheckFail_units {s₀ s : State} {i : Slot} {chan : BitVec 6} (h : UnitRun s₀ s) :
    UnitRun s₀ (postCheckFail i chan s) := postEvent_units h

theorem passedFail_units {s₀ s : State} {i : Slot} {r : Reception} {pid : Nat} {isOpen bad : Bool} (h : UnitRun s₀ s) :
    UnitRun s₀ (passedFail i r pid isOpen bad s) :=
  handOver_units (when_units postCheckFail_units (releaseHold_units
    (ite_units (eachSlot_units h (fun _ _ => failAt_units)) h)))

theorem passedEnd_units {s₀ s : State} {i : Slot} {r : Reception} {pid : Nat} {e : PEnd} (h : UnitRun s₀ s) :
    UnitRun s₀ (passedEnd i r pid e s) := by
  cases e with
  | good => exact passedGood_units h
  | bad => exact passedFail_units h
  | aborted => exact passedFail_units h

theorem offerRequest_units {s₀ s : State} {r : Request} (h : UnitRun s₀ s) : UnitRun s₀ (offerRequest r s) :=
  h.frame (by simp [SameUnits])

theorem stageTimeOfDay_units {s₀ s : State} {i : Slot} {ws : List Word} (h : UnitRun s₀ s) :
    UnitRun s₀ (stageTimeOfDay i ws s) := h.then (.stage i ws s)

/-- The end of a parcel, by what its header decided (R17, R26). -/
theorem parcelEnd_units {s₀ s : State} {i : Slot} {e : PEnd} (h : UnitRun s₀ s) : UnitRun s₀ (parcelEnd i e s) := by
  unfold parcelEnd
  split
  · exact h
  · next r _ =>
    have hended : UnitRun s₀ (s.modIng i (fun g => { g with reception := none })) := modIng_units h
    dsimp only
    cases r.fate with
    | mgmt =>
      cases e with
      | good => exact offerRequest_units (modMgmt_units hended)
      | bad => exact postCheckFail_units (modMgmt_units hended)
      | aborted => exact modMgmt_units hended
    | timeOfDay =>
      cases e with
      | good => exact stageTimeOfDay_units (modIng_units hended)
      | bad => exact postCheckFail_units (modIng_units hended)
      | aborted => exact modIng_units hended
    | refused => exact hended
    | poolCut => exact hended
    | parked => exact parkEnd_units (when_units postCheckFail_units hended)
    | passed pid => exact passedEnd_units hended

theorem parcelPayload_units {s₀ s : State} {i : Slot} {w : Word} (h : UnitRun s₀ s) :
    UnitRun s₀ (parcelPayload i w s) := by
  unfold parcelPayload
  split
  · exact h
  · next r _ =>
    cases r.fate with
    | passed pid => exact passedPayload_units h
    | mgmt => exact h.frame (by simp [SameUnits])
    | timeOfDay => exact h.frame (by simp [SameUnits])
    | refused => exact h
    | poolCut => exact h
    | parked => exact h.frame (by simp [SameUnits])

theorem beginReception_units {s₀ s : State} {i : Slot} {hdr : Header} {e : FlowEntry} {st : Stamp}
    {hd : Option LogHandle} {f : Fate} (h : UnitRun s₀ s) : UnitRun s₀ (beginReception i hdr e st hd f s) :=
      h.frame (by simp [SameUnits])

theorem reportRefusal_units {s₀ s : State} {i : Slot} {hdr : Header} {e : FlowEntry} {reason : Nat} (h : UnitRun s₀ s) :
    UnitRun s₀ (reportRefusal i hdr e reason s) :=
  when_units postEvent_units h

/-- A passed parcel takes its blocks only where enough are free (R25). -/
theorem passHeader_units {s₀ s : State} {i : Slot} {hdr : Header} {e : FlowEntry} {st : Stamp} {hd : Option LogHandle}
    (h : UnitRun s₀ s) : UnitRun s₀ (passHeader i hdr e st hd s) := by
  unfold passHeader
  dsimp only
  split
  · next hfree => exact allocStored_units (beginReception_units h) (by simpa using hfree)
  · exact handOver_units (postEvent_units (beginReception_units h))

theorem lookupHeader_units {s₀ s : State} {i : Slot} {hdr : Header} (h : UnitRun s₀ s) :
    UnitRun s₀ (lookupHeader i hdr s) := by
  have hreserved (b : Bool) (st : Stamp) (park : Bool) :
      UnitRun s₀ (if b = true then logReserve i hdr st park s else (none, s)).2 := by
    split
    · exact logReserve_units h
    · exact h
  unfold lookupHeader
  dsimp only
  split
  · exact handOver_units (reportRefusal_units (beginReception_units (hreserved _ _ _)))
  · exact ite_units (parkHeader_units (beginReception_units (hreserved _ _ _)))
      (passHeader_units (hreserved _ _ _))

theorem parcelHeader_units {s₀ s : State} {i : Slot} {hdr : Header} (h : UnitRun s₀ s) :
    UnitRun s₀ (parcelHeader i hdr s) :=
  ite_units (h.frame (by simp [SameUnits])) (ite_units (h.frame (by simp [SameUnits])) (lookupHeader_units h))

/-! ## The slot controller (R123 to R142) -/

theorem abandonTx_units {s₀ s : State} {i : Slot} (h : UnitRun s₀ s) : UnitRun s₀ (abandonTx i s) := by
  unfold abandonTx
  dsimp only
  split
  · exact h.frame (by simp [SameUnits])
  · split
    · exact when_units removeRef_units (h.frame (by simp [SameUnits]))
    · exact h.frame (by simp [SameUnits])

theorem abortReception_units {s₀ s : State} {i : Slot} (h : UnitRun s₀ s) : UnitRun s₀ (abortReception i s) :=
  modPort_units (parcelEnd_units h)

theorem setLink_units {s₀ s : State} {i : Slot} {dst : LinkState} (h : UnitRun s₀ s) : UnitRun s₀ (setLink i dst s) :=
  ite_units (clearCond_units (modPort_units (abandonTx_units (abortReception_units (modPort_units h)))))
    (modPort_units h)

theorem powerOffLines_units {s₀ s : State} {i : Slot} (h : UnitRun s₀ s) : UnitRun s₀ (powerOffLines i s) :=
  clearCond_units (h.frame (by simp [SameUnits]))

theorem startTimer_units {s₀ s : State} {i : Slot} {k : TimerKind} (h : UnitRun s₀ s) : UnitRun s₀ (startTimer i k s) :=
  h.frame (by simp [SameUnits])

theorem seatDebounce_units {s₀ s : State} {i : Slot} (h : UnitRun s₀ s) :
    UnitRun s₀ (seatDebounce i s) := h.frame (by simp [SameUnits])

theorem askTrain_units {s₀ s : State} {i : Slot} {t : Training} (h : UnitRun s₀ s) : UnitRun s₀ (askTrain i t s) :=
  h.frame (by simp [SameUnits])

theorem emptyMgmt_units {s₀ s : State} {i : Slot} (h : UnitRun s₀ s) :
    UnitRun s₀ (emptyMgmt i s) := h.frame (by simp [SameUnits])

theorem goodSeen_units {s₀ s : State} {i : Slot} (h : UnitRun s₀ s) :
    UnitRun s₀ (goodSeen i s) := h.frame (by simp [SameUnits])

theorem setPhase_units {s₀ s : State} {i : Slot} {ph : Phase} (h : UnitRun s₀ s) : UnitRun s₀ (setPhase i ph s) :=
  reresolve_units (h.frame (by simp [SameUnits]))

theorem enterOut_units {s₀ s : State} {i : Slot} {ph : Phase} (h : UnitRun s₀ s) : UnitRun s₀ (enterOut i ph s) :=
  emptyMgmt_units (emptySwitchQueues_units (setPhase_units h))

theorem takeDown_units {s₀ s : State} {i : Slot} {ph : Phase} (h : UnitRun s₀ s) : UnitRun s₀ (takeDown i ph s) :=
  enterOut_units (flushSlot_units (setLink_units (abortChain_units (powerOffLines_units h))))

theorem enterEmpty_units {s₀ s : State} {i : Slot} (h : UnitRun s₀ s) : UnitRun s₀ (enterEmpty i s) :=
  seatDebounce_units (enterOut_units h)

theorem enterPowering_units {s₀ s : State} {i : Slot} (h : UnitRun s₀ s) : UnitRun s₀ (enterPowering i s) :=
  when_units goodSeen_units (startTimer_units (modCtl_units (setPhase_units h)))

theorem enterSeated_units {s₀ s : State} {i : Slot} (h : UnitRun s₀ s) : UnitRun s₀ (enterSeated i s) :=
  when_units enterPowering_units (enterOut_units h)

theorem enterTraining_units {s₀ s : State} {i : Slot} (h : UnitRun s₀ s) : UnitRun s₀ (enterTraining i s) :=
  askTrain_units (setPhase_units (setLink_units (abortChain_units h)))

theorem fault_units {s₀ s : State} {i : Slot} {r : FaultReason} (h : UnitRun s₀ s) : UnitRun s₀ (fault i r s) :=
  raiseCond_units (modCtl_units (takeDown_units h))

theorem remove_units {s₀ s : State} {i : Slot} {param : Nat} (h : UnitRun s₀ s) : UnitRun s₀ (remove i param s) :=
  postEvent_units (seatDebounce_units (takeDown_units h))

theorem admitSlot_units {s₀ s : State} {i : Slot} {d : Nat} (h : UnitRun s₀ s) : UnitRun s₀ (admitSlot i d s) := by
  unfold admitSlot
  exact autoStart_units (postEvent_units (setLink_units (setPhase_units (h.frame (by simp [SameUnits])))))

theorem attemptEnd_units {s₀ s : State} {i : Slot} (h : UnitRun s₀ s) : UnitRun s₀ (attemptEnd i s) :=
  ite_units (ite_units (fault_units (h.frame (by simp [SameUnits]))) (admitSlot_units (h.frame (by simp [SameUnits]))))
    (ite_units (h.frame (by simp [SameUnits])) (fault_units (h.frame (by simp [SameUnits]))))

theorem nextExchange_units {s₀ s : State} {i : Slot} (h : UnitRun s₀ s) : UnitRun s₀ (nextExchange i s) :=
  ite_units (h.frame (by simp [SameUnits])) (attemptEnd_units h)

theorem powerOffAtOnce_units {s₀ s : State} {i : Slot} (h : UnitRun s₀ s) : UnitRun s₀ (powerOffAtOnce i s) :=
  when_units powerOffLines_units h

theorem enterDraining_units {s₀ s : State} {i : Slot} (h : UnitRun s₀ s) : UnitRun s₀ (enterDraining i s) := by
  have hdraining : UnitRun s₀ (startTimer i .drain (abortChain i .slotLeft
      (powerOffAtOnce i (setPhase i .draining s)))) :=
    startTimer_units (abortChain_units (powerOffAtOnce_units (setPhase_units h)))
  exact ite_units (hdraining.frame (by simp [SameUnits])) hdraining

theorem quiesce_units {s₀ s : State} {i : Slot} (h : UnitRun s₀ s) : UnitRun s₀ (quiesce i s) :=
  enterOut_units (setLink_units (when_units powerOffLines_units h))

theorem settleRounds_units {s₀ s : State} {n : Nat} (h : UnitRun s₀ s) : UnitRun s₀ (settleRounds n s) := by
  induction n generalizing s with
  | zero => exact h
  | succ n ih =>
    unfold settleRounds
    split
    · exact h
    · exact ih (quiesce_units h)

theorem settleDrains_units {s₀ s : State} (h : UnitRun s₀ s) : UnitRun s₀ (settleDrains s) := settleRounds_units h

end Sys2Proof.Machine
end

section
/-! PROOFS. The operations of the ports, the management unit and the resets are runs of the units' steps. -/

namespace Sys2Proof.Machine

/-! ## The transmit side (R14, R54, R118) -/

theorem leaveQueue_units {s₀ s : State} {i : Slot} {p : TxParcel} (h : UnitRun s₀ s) :
    UnitRun s₀ (leaveQueue i p s) := by
  unfold leaveQueue
  split
  · exact ite_units (h.frame (by simp [SameUnits])) h
  · exact ite_units (h.frame (by simp [SameUnits])) h
  · have hdwell {q : Prop} [Decidable q] {f : Egress → Egress} : UnitRun s₀ (if q then s.modEgr i f else s) :=
      when_units modEgr_units h
    exact ite_units
      (ite_units (removeRef_units hdwell) (chainSent_units (removeRef_units hdwell))) hdwell

theorem dropLateReplies_units {s₀ s : State} {i : Slot} (h : UnitRun s₀ s) : UnitRun s₀ (dropLateReplies i s) :=
  h.frame (by simp [SameUnits])

theorem endOf_units {s₀ s : State} {i : Slot} (h : UnitRun s₀ s) : UnitRun s₀ (endOf i s) := by
  have hfinish (p : TxParcel) (next : Tx) : UnitRun s₀ (if s.mayEnd i p = true then
      leaveQueue i p (sendWord i (.body p.lastWord) (s.modEgr i (fun e => { e with tx := next }))) else s) :=
    ite_units (leaveQueue_units (h.frame (by simp [SameUnits]))) h
  unfold endOf
  dsimp only
  split
  · exact h
  · exact dropLateReplies_units (hfinish _ _)
  · exact hfinish _ _
  · exact h
  · exact hfinish _ _
  · exact h

theorem departNext_units {s₀ s : State} {i : Slot} (h : UnitRun s₀ s) : UnitRun s₀ (departNext i s) := by
  unfold departNext
  dsimp only
  split
  · exact h
  · split
    · exact h
    · exact ite_units (when_units postEvent_units (h.frame (by simp [SameUnits]))) h

theorem fillSlot_units {s₀ s : State} {i : Slot} (h : UnitRun s₀ s) : UnitRun s₀ (fillSlot i s) :=
  endOf_units (departNext_units (h.frame (by simp [SameUnits])))

theorem wordSlot_units {s₀ s : State} {i : Slot} (h : UnitRun s₀ s) : UnitRun s₀ (wordSlot i s) :=
  modPort_units (fillSlot_units h)

/-! ## The receive side (R4 to R13) -/

theorem linkError_units {s₀ s : State} {i : Slot} (h : UnitRun s₀ s) : UnitRun s₀ (linkError i s) :=
  ite_units (fault_units (h.frame (by simp [SameUnits]))) (h.frame (by simp [SameUnits]))

theorem setRx_units {s₀ s : State} {i : Slot} {r : RxState} (h : UnitRun s₀ s) :
    UnitRun s₀ (s.setRx i r) := h.frame (by simp [SameUnits])

theorem beginParcel_units {s₀ s : State} {i : Slot} {w : Word} (h : UnitRun s₀ s) : UnitRun s₀ (beginParcel i w s) :=
  parcelHeader_units (h.frame (by simp [SameUnits]))

theorem damaged_units {s₀ s : State} {i : Slot} (h : UnitRun s₀ s) :
    UnitRun s₀ (linkError i ((parcelEnd i .bad s).setRx i .skip)) :=
  linkError_units (setRx_units (parcelEnd_units h))

theorem rxHeader_units {s₀ s : State} {i : Slot} {w : Word} (h : UnitRun s₀ s) : UnitRun s₀ (rxHeader i w s) := by
  unfold rxHeader
  split
  · exact ite_units (beginParcel_units (damaged_units h)) (damaged_units h)
  · exact beginParcel_units h

theorem rxBody_units {s₀ s : State} {i : Slot} {w : Word} (h : UnitRun s₀ s) : UnitRun s₀ (rxBody i w s) := by
  unfold rxBody
  split
  · exact linkError_units (h.frame (by simp [SameUnits]))
  · exact h
  · exact parcelPayload_units (h.frame (by simp [SameUnits]))
  · exact parcelEnd_units (h.frame (by simp [SameUnits]))

theorem rxUndecodable_units {s₀ s : State} {i : Slot} (h : UnitRun s₀ s) : UnitRun s₀ (rxUndecodable i s) := by
  refine linkError_units (setRx_units ?_)
  unfold endDamaged
  split
  · exact parcelEnd_units h
  · exact h

theorem rxBadMark_units {s₀ s : State} {i : Slot} (h : UnitRun s₀ s) : UnitRun s₀ (rxBadMark i s) := by
  unfold rxBadMark
  split
  · exact damaged_units h
  · exact linkError_units h

theorem cardHoldOff_units {s₀ s : State} {i : Slot} (h : UnitRun s₀ s) :
    UnitRun s₀ (cardHoldOff i s) := h.frame (by simp [SameUnits])

theorem cardResume_units {s₀ s : State} {i : Slot} (h : UnitRun s₀ s) : UnitRun s₀ (cardResume i s) :=
  ite_units (clearCond_units (h.frame (by simp [SameUnits]))) h

theorem trainAnswer_units {s₀ s : State} {i : Slot} {k t : Nat} (h : UnitRun s₀ s) :
    UnitRun s₀ (trainAnswer i k t s) := by
  unfold trainAnswer
  dsimp only
  split
  · exact ite_units (ite_units (h.frame (by simp [SameUnits])) (nextExchange_units (h.frame (by simp [SameUnits])))) h
  · exact h

theorem rxMark_units {s₀ s : State} {i : Slot} {w : Word} (h : UnitRun s₀ s) : UnitRun s₀ (rxMark i w s) :=
  ite_units (h.frame (by simp [SameUnits])) <| ite_units (cardResume_units h) <| ite_units (trainAnswer_units h) <|
    ite_units (h.frame (by simp [SameUnits])) <| ite_units (rxBadMark_units h) h

/-! ## The service of a request (R171 to R178) -/

/-- A service keeps the relays and the raised set in order where its row's effect does. -/
theorem serve_units {row : ReqRow} {f : Request → State → Served} {s₀ s : State} (h : UnitRun s₀ s)
    (hf : ∀ r u, UnitRun s₀ u → UnitRun s₀ (f r u).state) : UnitRun s₀ (serve row f s) := by
  have hreply {p : ReplyParcel} {u : State} (hu : UnitRun s₀ u) : UnitRun s₀ (giveReply p u) :=
    ite_units (hu.frame (by simp [SameUnits])) (hu.frame (by simp [SameUnits]))
  have heffect (r : Request) (rest : List Request) :
      UnitRun s₀ (if r.row = none then refuse r.badStatus (takeRequest rest s) else f r (takeRequest rest s)).state :=
        by
    split
    · exact (modMgmt_units h : UnitRun s₀ (takeRequest rest s))
    · exact hf r _ (modMgmt_units h)
  unfold serve
  split
  · exact h
  · exact ite_units (hreply (settleDrains_units (heffect _ _))) h

theorem readTable_units {n : Nat} {image : Nat → List Word} {r : Request} {s₀ s : State} (h : UnitRun s₀ s) :
    UnitRun s₀ (readTable n image r s).state := by
  unfold readTable
  dsimp only
  split_ifs <;> exact h

theorem readParkWords_units {r : Request} {s₀ s : State} (h : UnitRun s₀ s) : UnitRun s₀ (readParkWords r s).state := by
  unfold readParkWords
  split_ifs <;> exact h

theorem readLatestCopy_units {r : Request} {s₀ s : State} (h : UnitRun s₀ s) :
    UnitRun s₀ (readLatestCopy r s).state := by
  unfold readLatestCopy
  dsimp only
  split_ifs <;> exact h

theorem firstRefused_none {ok : Nat → List Word → Bool} {im : List (Nat × List Word)}
    (h : firstRefused ok im = none) : ∀ p ∈ im, ok p.1 p.2 = true := by
  unfold firstRefused at h
  rw [Option.map_eq_none_iff, List.find?_eq_none] at h
  intro p hp
  simpa using h p hp

theorem foldl_units_mem {β : Type} {l : List β} {f : State → β → State} {s₀ s : State} (h : UnitRun s₀ s)
    (hf : ∀ t, ∀ b ∈ l, UnitRun s₀ t → UnitRun s₀ (f t b)) : UnitRun s₀ (l.foldl f s) := by
  induction l generalizing s with
  | nil => exact h
  | cons b r ih =>
    exact ih (hf s b List.mem_cons_self h) (fun t c hc => hf t c (List.mem_cons_of_mem b hc))

/-- A table whose put of every image that its check passes is a run of the units' steps. -/
theorem writeTable_units {t : WriteTable} {r : Request} {s₀ s : State} (h : UnitRun s₀ s)
    (hput : ∀ k ws u, t.ok k ws = true → UnitRun s₀ u → UnitRun s₀ (t.put k ws u)) :
    UnitRun s₀ (writeTable t r s).state := by
  unfold writeTable
  dsimp only
  split
  · exact h
  · split
    · exact h
    · split
      · exact h
      · next hok =>
        split
        · exact h
        · exact foldl_units_mem h (fun u p hp => hput p.1 p.2 u (firstRefused_none hok p hp))

theorem makeSchedules_units {s₀ s : State} {i : Slot} (h : UnitRun s₀ s) :
    UnitRun s₀ (makeSchedules i s) := h.frame (by simp [SameUnits])

theorem writeSlot_units {s₀ s : State} {i : Slot} {c : SlotSettings} (h : UnitRun s₀ s) :
    UnitRun s₀ (writeSlot i c s) := by
  have hoffer {k : Cls} {old new : Nat} {u : State} (hu : UnitRun s₀ u) : UnitRun s₀ (offerRaised i k old new u) :=
    when_units servePending_units hu
  exact when_units makeSchedules_units (hoffer (hoffer (when_units reresolve_units (h.frame (by simp [SameUnits])))))

theorem judgePolarity_units {s₀ s : State} {old : GlobalSettings} {n : Fin 8} (h : UnitRun s₀ s) :
    UnitRun s₀ (judgePolarity old n s) :=
  ite_units h (h.frame (by simp [SameUnits]))

theorem emptyLog_units {s₀ s : State} (h : UnitRun s₀ s) : UnitRun s₀ (emptyLog s) := h.then (.emptied s)

/-- What the fields of the global settings must meet for a write to be taken, as far as the units tell (R176). -/
def GlobalSettings.inOrder (g : GlobalSettings) : Prop :=
  g.lowMark ≤ g.clearMark ∧ g.clearMark ≤ Config.poolBlocks ∧ g.logSize ∈ [256, 512, 1024, 2048]

/-- The first part of a write of the global settings: the marks, judged when they change (R43, R176). -/
theorem writeMarks_units {s₀ s : State} {lo hi : Nat} {b : Bool} (h : UnitRun s₀ s)
    (hmarks : lo ≤ hi ∧ hi ≤ Config.poolBlocks) {g : GlobalSettings}
    (hg : g = { s.glob with alarmUnknown := b, lowMark := lo, clearMark := hi }) :
    UnitRun s₀ (if lo ≠ s.glob.lowMark ∨ hi ≠ s.glob.clearMark then poolJudge { s with glob := g }
      else { s with glob := g }) := by
  subst hg
  split
  · have hunknown : UnitRun s₀ { s with glob := { s.glob with alarmUnknown := b } } := h.frame (by simp [SameUnits])
    exact hunknown.then (.marks lo hi _ hmarks)
  · next hsame =>
    obtain ⟨rfl, rfl⟩ : lo = s.glob.lowMark ∧ hi = s.glob.clearMark := by omega
    exact h.frame (by simp [SameUnits])

/-- The second part: the log is emptied where its size changes (R81, R176). -/
theorem writeLogSize_units {s₀ s : State} {g : GlobalSettings} (h : UnitRun s₀ s)
    (hmarks : g.lowMark = s.glob.lowMark ∧ g.clearMark = s.glob.clearMark)
    (hsize : g.logSize ∈ [256, 512, 1024, 2048]) :
    UnitRun s₀ (if g.logSize ≠ s.glob.logSize then emptyLog { s with glob := g } else { s with glob := g }) := by
  obtain ⟨hlow, hclear⟩ := hmarks
  split
  · exact (h.then (.resize g.logSize s hsize)).frame (by simp [SameUnits, emptyLog, hlow, hclear])
  · next hsame => exact h.frame (by simp [SameUnits, hlow, hclear, not_not.mp hsame])

theorem writeGlobal_units {s₀ s : State} {g : GlobalSettings} (h : UnitRun s₀ s) (hg : g.inOrder) :
    UnitRun s₀ (writeGlobal g s) := by
  obtain ⟨hmarks, hpool, hsize⟩ := hg
  unfold writeGlobal
  extract_lets old s1 s2 s3 s4 s5
  have hglob2 : s2.glob = s1.glob := by simp only [s2]; split <;> simp
  have hglob4 : s4.glob = s3.glob := by simp only [s4]; split <;> simp
  have hglob5 : s5.glob = s4.glob := by simp only [s5]; split <;> simp
  have h2 : UnitRun s₀ s2 := writeMarks_units h ⟨hmarks, hpool⟩ rfl
  have h4 : UnitRun s₀ s4 := by
    have hold : old.logSize = s2.glob.logSize := by rw [hglob2]
    simp only [s4, hold]
    exact writeLogSize_units (g := s3.glob) h2 (by rw [hglob2]; exact ⟨rfl, rfl⟩) hsize
  have h5 : UnitRun s₀ s5 := ite_units (reschedule_units h4) h4
  exact foldl_units (h5.frame (by simp [SameUnits, hglob5, hglob4, s3])) (fun _ _ => judgePolarity_units)

theorem writeCause_units {s₀ s : State} {c : Fin 64} {e : Bool} {sev : Severity} {n : Nat} (h : UnitRun s₀ s) :
    UnitRun s₀ (writeCause c e sev n s) := by
  have hset {f : Alarm → Vector CauseCfg 64} : UnitRun s₀ (s.modAlarm (fun a => { a with causes := f a })) :=
    h.frame (by simp [SameUnits])
  exact judgeRelays_units (ite_units (foldl_units hset (fun _ _ => postEntry_units)) hset)

/-! ### Images in range -/

/-- A field of an image in its ranges is at most the bound of its range. -/
theorem fieldNat_le_of_inRanges {ws : List Word} {rs : List (Nat × Nat)} (h : inRanges ws rs = true) (k : Nat)
    (hk : k < rs.length) : fieldNat ws (k + 1) ≤ (rs[k]).2 := by
  simp only [inRanges, Bool.and_eq_true, decide_eq_true_eq, List.all_eq_true] at h
  obtain ⟨hlen, hall⟩ := h
  have hk' : k < ws.length := hlen ▸ hk
  obtain ⟨-, hle⟩ := hall (ws[k], rs[k]) (by
    rw [List.mem_iff_getElem]
    exact ⟨k, by simp [hk, hk'], by simp⟩)
  simpa [fieldNat, hk'] using hle

theorem globalImage_inOrder {ws : List Word} (h : globalImageOk ws = true) : (GlobalSettings.ofWords ws).inOrder := by
  simp only [globalImageOk, Bool.and_eq_true, decide_eq_true_eq] at h
  obtain ⟨⟨⟨hranges, hsize⟩, hmarks⟩, -⟩ := h
  have hclear := fieldNat_le_of_inRanges hranges 2 (by decide)
  exact ⟨hmarks, by simpa [globalRanges, GlobalSettings.ofWords, Config.poolBlocks] using hclear,
    by simpa [GlobalSettings.ofWords] using hsize⟩

theorem loopImage_fmax {ws : List Word} (h : inRanges ws loopRanges = true) :
    (LoopSettings.ofWords ws).fmax ≤ 200000 := by
  simpa [loopRanges, LoopSettings.ofWords] using fieldNat_le_of_inRanges h 9 (by decide)

/-! ### The put of each table -/

section Put

variable {k : Nat} {ws : List Word} {s₀ s : State}

theorem slotTable_put_units (h : UnitRun s₀ s) : UnitRun s₀ (slotTable.put k ws s) := by
  dsimp only [slotTable]
  exact writeSlot_units h

theorem flowTable_put_units (h : UnitRun s₀ s) : UnitRun s₀ (flowTable.put k ws s) :=
  h.frame (by simp [SameUnits, flowTable])

theorem areaTable_put_units (h : UnitRun s₀ s) : UnitRun s₀ (areaTable.put k ws s) := by
  dsimp only [areaTable]
  exact writeArea_units h

theorem watchTable_put_units (h : UnitRun s₀ s) : UnitRun s₀ (watchTable.put k ws s) := by
  dsimp only [watchTable]
  exact writeWatch_units h

theorem chainTable_put_units (h : UnitRun s₀ s) : UnitRun s₀ (chainTable.put k ws s) :=
  h.frame (by simp [SameUnits, chainTable])

theorem causeTable_put_units (h : UnitRun s₀ s) : UnitRun s₀ (causeTable.put k ws s) := by
  dsimp only [causeTable]
  exact writeCause_units h

theorem globalTable_put_units (hok : globalTable.ok k ws = true) (h : UnitRun s₀ s) :
    UnitRun s₀ (globalTable.put k ws s) := by
  dsimp only [globalTable]
  exact writeGlobal_units h (globalImage_inOrder hok)

theorem timingTable_put_units (hok : timingTable.ok k ws = true) (h : UnitRun s₀ s) :
    UnitRun s₀ (timingTable.put k ws s) := by
  dsimp only [timingTable] at hok ⊢
  match k with
  | 0 => exact h.then (.loop _ s (loopImage_fmax hok))
  | 1 => exact h.then (.record .a _ s)
  | _ + 2 => exact h.then (.record .b _ s)

end Put

/-! ### Actions (R134 to R142, R147, R178) -/

theorem slotAction_units {f : Slot → State → Served} {r : Request} {s₀ s : State} (h : UnitRun s₀ s)
    (hf : ∀ i, UnitRun s₀ (f i s).state) : UnitRun s₀ (slotAction f r s).state := by
  unfold slotAction
  split
  · exact h
  · split
    · exact hf _
    · exact h

theorem plainAction_units {f : State → State} {r : Request} {s₀ s : State} (h : UnitRun s₀ s)
    (hf : UnitRun s₀ (f s)) : UnitRun s₀ (plainAction f r s).state := by
  unfold plainAction
  split
  · exact h
  · exact hf

theorem actPowerOn_units {i : Slot} {s₀ s : State} (h : UnitRun s₀ s) : UnitRun s₀ (actPowerOn i s).state := by
  unfold actPowerOn
  dsimp only
  split
  · exact enterPowering_units h
  · exact h

theorem actPowerOff_units {i : Slot} {s₀ s : State} (h : UnitRun s₀ s) : UnitRun s₀ (actPowerOff i s).state := by
  unfold actPowerOff
  split
  · exact h
  · exact h
  · exact h
  · exact ite_units (powerOffLines_units h) h
  all_goals exact takeDown_units h

theorem actDrain_units {i : Slot} {s₀ s : State} (h : UnitRun s₀ s) : UnitRun s₀ (actDrain i s).state := by
  unfold actDrain
  split
  · exact enterDraining_units h
  · exact h

theorem actRest_units {i : Slot} {s₀ s : State} (h : UnitRun s₀ s) : UnitRun s₀ (actRest i s).state := by
  unfold actRest
  split
  · exact modEgr_units (modCtl_units h)
  · exact h

theorem actWake_units {i : Slot} {s₀ s : State} (h : UnitRun s₀ s) : UnitRun s₀ (actWake i s).state := by
  unfold actWake
  split
  · exact (h.frame (by simp [SameUnits]) : UnitRun s₀ (applyWake i s))
  · exact h

theorem actClear_units {i : Slot} {s₀ s : State} (h : UnitRun s₀ s) : UnitRun s₀ (actClear i s).state := by
  have hcleared : UnitRun s₀ (clearCond causeSlotFault i.val 0 s) := clearCond_units h
  unfold actClear
  dsimp only
  split
  · exact ite_units (enterSeated_units hcleared) (enterEmpty_units hcleared)
  · exact h

theorem actRetrain_units {i : Slot} {s₀ s : State} (h : UnitRun s₀ s) : UnitRun s₀ (actRetrain i s).state := by
  unfold actRetrain
  split
  · exact enterTraining_units h
  · exact h

theorem actChainStart_units {i : Slot} {s₀ s : State} (h : UnitRun s₀ s) : UnitRun s₀ (actChainStart i s).state := by
  unfold actChainStart
  split
  · split
    · exact startChain_units h
    · exact h
  · exact h

theorem actChainStop_units {i : Slot} {s₀ s : State} (h : UnitRun s₀ s) : UnitRun s₀ (actChainStop i s).state := by
  unfold actChainStop
  exact abortChain_units h

theorem actSetTime_units {r : Request} {s₀ s : State} (h : UnitRun s₀ s) : UnitRun s₀ (actSetTime r s).state := by
  unfold actSetTime
  split
  · exact h
  · split
    · exact h
    · next hbound =>
      have hlow := (r.word 2).isLt
      refine h.then (.setTime _ _ s ?_)
      simp only [settable, Config.secModulus, Config.nsPerSec]
      omega

theorem actSetFrequency_units {r : Request} {s₀ s : State} (h : UnitRun s₀ s) :
    UnitRun s₀ (actSetFrequency r s).state := by
  unfold actSetFrequency
  dsimp only
  split
  · exact h
  · split
    · exact h
    · next hfree =>
      split
      · exact h
      · next hv =>
        refine h.then (.setFreq _ s (not_not.mp hfree) ?_)
        simp only [LoopSettings.bound] at hv
        omega

theorem postRestarted_units {s₀ s : State} {inst param : Nat} (h : UnitRun s₀ s) :
    UnitRun s₀ (postRestarted inst param s) := postEvent_units h

theorem timingRestartAll_units {s₀ s : State} (h : UnitRun s₀ s) : UnitRun s₀ (timingRestartAll s) := by
  unfold timingRestartAll
  exact postRestarted_units (h.then (.restart s))

theorem fabricRestart_units {s₀ s : State} (h : UnitRun s₀ s) : UnitRun s₀ (fabricRestart s) := by
  have hslots : UnitRun s₀ (s.eachSlot fabricSlot) :=
    eachSlot_units h (fun i t ht => ht.frame (by simp [SameUnits, fabricSlot]))
  unfold fabricRestart
  exact postRestarted_units (emptyLog_units (modChain_units (eachSlot_units
    (settleDrains_units ((modMgmt_units hslots).then (.fabric _))) (fun _ _ => abortChain_units))))

/-! ## Resets (R144, R170, R181) -/

theorem judgeRetained_units {s₀ s : State} {i : Slot} (h : UnitRun s₀ s) : UnitRun s₀ (judgeRetained i s) := by
  have hlines {u : State} (hu : UnitRun s₀ u) : UnitRun s₀ (followLines i u) := hu.frame (by simp [SameUnits])
  unfold judgeRetained
  exact ite_units
    (ite_units (ite_units (hlines (enterTraining_units (modCtl_units h))) (fault_units h))
      (powerOffLines_units h)) h

theorem startUp_units {s₀ s : State} {inst : Nat} {msel retain : Bool} (h : UnitRun s₀ s) :
    UnitRun s₀ (startUp inst msel retain s) :=
  eachSlot_units (eachSlot_units (postRestarted_units h) (fun _ _ => judgeRetained_units))
    (fun _ _ => seatDebounce_units)

end Sys2Proof.Machine
end

section
/-! PROOFS. Every command keeps the relays and the raised set in order, and what a raise and a clear do (R157, R164). -/

namespace Sys2Proof.Machine

/-! ## Commands of the slot controller, the watches and the time -/

/-- A lost contact, by the row of R140's table. -/
theorem contactGone_units {s₀ s : State} {i : Slot} {k : Contact} (h : UnitRun s₀ s) :
    UnitRun s₀ (contactGone i k s) := by
  unfold contactGone
  generalize (s.slot i).ctl.phase = ph
  cases ph with
  | empty => exact modCtl_units h
  | seated => exact enterEmpty_units h
  | powering => cases k <;> exact remove_units h
  | training => cases k <;> exact remove_units h
  | admitted =>
    cases k with
    | long => exact remove_units h
    | short => exact enterDraining_units h
  | draining =>
    cases k with
    | long => exact remove_units h
    | short => exact h
  | quiesced =>
    cases k with
    | long => exact remove_units h
    | short => exact h
  | faulted => exact clearCond_units (enterEmpty_units h)

theorem judgeCardAlarm_units {s₀ s : State} {i : Slot} {was : Bool} (h : UnitRun s₀ s) :
    UnitRun s₀ (judgeCardAlarm i was s) :=
  ite_units (raiseCond_units h) (when_units (fun hv => clearCond_units hv) h)

theorem setInput_units {s₀ s : State} {n : Fin 8} {x : CabInput} (h : UnitRun s₀ s) : UnitRun s₀ (s.setInput n x) :=
  h.frame (by simp [SameUnits, State.setInput])

/-! ## Every command -/

/-- A service by a row whose action takes a slot. -/
theorem serveSlot_units {row : ReqRow} {f : Slot → State → Served} {s₀ s : State} (h : UnitRun s₀ s)
    (hf : ∀ {i u}, UnitRun s₀ u → UnitRun s₀ (f i u).state) : UnitRun s₀ (serve row (slotAction f) s) :=
  serve_units h (fun _ _ hu => slotAction_units hu (fun _ => hf hu))

/-- A service by a row that writes a table. -/
theorem serveWrite_units {row : ReqRow} {t : WriteTable} {s₀ s : State} (h : UnitRun s₀ s)
    (hput : ∀ {k ws u}, t.ok k ws = true → UnitRun s₀ u → UnitRun s₀ (t.put k ws u)) :
    UnitRun s₀ (serve row (writeTable t) s) :=
  serve_units h (fun _ _ hu => writeTable_units hu (fun _ _ _ => hput))

/-- A service by a row that reads a table. -/
theorem serveRead_units {row : ReqRow} {n : Nat} {image : State → Nat → List Word} {s₀ s : State} (h : UnitRun s₀ s) :
    UnitRun s₀ (serve row (fun r u => readTable n (image u) r u) s) :=
  serve_units h (fun _ _ => readTable_units)

/-- What a command does to the units: a run of their steps, a run from the reset blocks, an advance of the uptime that
is due, or a core period, whose advance of cabinet time comes between two runs. -/
inductive UnitEffect (s t : State) : Prop
  | run (h : UnitRun s t)
  | reset (pin msel retain : Bool) (h : UnitRun (resetBlocks pin msel retain s) t)
  | uptime (h : t = takeUptime s)
  | core (u : State) (hu : UnitRun (takeUptime s) u)
      (h : UnitRun (u.modTiming (fun x => { x with core := x.core + 1, time := x.time.advance x.adj })) t)

/-- A command's effect on the units, where it has one. -/
def NextUnits (s : State) (o : Host.Outcome State Fault Refusal) : Prop := ∀ t, o = .next t → UnitEffect s t

theorem nextUnits_next {s t : State} (h : UnitEffect s t) : NextUnits s (.next t) := by
  rintro _ ⟨⟩
  exact h

theorem nextUnits_run {s t : State} (h : UnitRun s t) : NextUnits s (.next t) := nextUnits_next (.run h)

theorem corePeriod_units (s : State) : UnitEffect s (corePeriod s) := by
  have hslots : UnitRun (takeUptime s) (settleDrains ((takeUptime s).eachSlot wordSlot)) :=
    settleDrains_units (eachSlot_units (.refl _) (fun _ _ => wordSlot_units))
  refine .core _ hslots ?_
  unfold corePeriod
  exact when_units makeTimeParcels_units (.refl _)

theorem execSecondCarry_units (s : State) : NextUnits s (execSecondCarry s) := by
  refine nextUnits_next ?_
  split
  · exact corePeriod_units s
  · exact .run (.refl s)

theorem execMgmtRequest_units (tag : BitVec 8) (payload : List Word) (s : State) :
    NextUnits s (execMgmtRequest tag payload s) := by
  unfold execMgmtRequest
  split
  · rintro _ ⟨⟩
  · exact nextUnits_run (when_units offerRequest_units (.refl s))

theorem execTimeOfDayParcel_units (i : Slot) (payload : List Word) (s : State) :
    NextUnits s (execTimeOfDayParcel i payload s) := by
  unfold execTimeOfDayParcel
  split
  · rintro _ ⟨⟩
  · exact nextUnits_run (when_units stageTimeOfDay_units (.refl s))

theorem execStallTimerExpiry_units (i : Slot) (s : State) : NextUnits s (execStallTimerExpiry i s) := by
  refine nextUnits_run ?_
  split
  · exact .refl s
  · exact when_units stallExpire_units (.refl s)

theorem execEdgeDispatch_units (i : Slot) (s : State) : NextUnits s (execEdgeDispatch i s) := by
  refine nextUnits_run ?_
  split
  · exact .refl s
  · exact when_units dispatchEdge_units (.refl s)

theorem giveStrobe_units {s₀ s : State} {i : Slot} {d : Sched} (h : UnitRun s₀ s) : UnitRun s₀ (giveStrobe i d s) :=
  h.frame (by simp [SameUnits])

theorem execStrobe_units (i : Slot) (s : State) : NextUnits s (execStrobe i s) := by
  refine nextUnits_run ?_
  split
  · exact .refl s
  · exact when_units giveStrobe_units (.refl s)

theorem execStrobePulseEnd_units (i : Slot) (l : Line) (s : State) : NextUnits s (execStrobePulseEnd i l s) := by
  cases l with
  | sb0 => exact nextUnits_run (when_units modCtl_units (.refl s))
  | sb1 => exact nextUnits_run (when_units modCtl_units (.refl s))

theorem execCabinetInputDebounceExpiry_units (n : Fin 8) (s : State) :
    NextUnits s (execCabinetInputDebounceExpiry n s) := by
  refine nextUnits_run ?_
  split
  · exact .refl s
  · have hset {x : CabInput} : UnitRun s (s.setInput n x) := setInput_units (.refl s)
    exact ite_units (ite_units (clearCond_units hset) (raiseCond_units hset)) (.refl s)

/-- The cursor served is a ready one (R149). -/
theorem execChainParcelMake_units (s : State) : NextUnits s (execChainParcelMake s) := by
  refine nextUnits_run ?_
  split
  · next i _ hturn => exact makeChainParcel_units (.refl s) (List.find?_some hturn)
  · exact .refl s

theorem execChainEngineFree_units (s : State) : NextUnits s (execChainEngineFree s) := by
  refine nextUnits_run ?_
  split
  · exact .refl s
  · exact when_units modChain_units (.refl s)

theorem execHoldoverTimerExpiry_units (s : State) : NextUnits s (execHoldoverTimerExpiry s) := by
  refine nextUnits_run ?_
  split
  · next hdue => exact (UnitRun.refl s).then (.holdoverEnd s hdue)
  · exact .refl s

end Sys2Proof.Machine
end

section
/-! PROOFS. What every command does to the units that exist once, and how an invariant of theirs follows. -/

namespace Sys2Proof.Machine

theorem exec_units (c : Instr) (s : State) : NextUnits s (exec c s) := by
  have h : UnitRun s s := .refl s
  cases c with
  | headerWord i w => exact nextUnits_run (ite_units (settleDrains_units (rxHeader_units h)) h)
  | bodyWord i w => exact nextUnits_run (ite_units (settleDrains_units (rxBody_units h)) h)
  | undecodableWord i => exact nextUnits_run (ite_units (settleDrains_units (rxUndecodable_units h)) h)
  | markWord i w => exact nextUnits_run (settleDrains_units (rxMark_units h))
  | holdOff i => exact nextUnits_run (cardHoldOff_units h)
  | resume i => exact nextUnits_run (cardResume_units h)
  | trainEcho i k t => exact nextUnits_run (settleDrains_units (trainAnswer_units h))
  | awake i => exact nextUnits_run (h.frame (by simp [SameUnits]) : UnitRun s (cardAwake i s))
  | uptimeAdvance => exact nextUnits_next (.uptime rfl)
  | holdOffTimerExpiry i =>
    exact nextUnits_run (ite_units (raiseCond_units (modPort_units h)) h)
  | mgmtRequest tag payload => exact execMgmtRequest_units tag payload s
  | timeOfDayParcel i payload => exact execTimeOfDayParcel_units i payload s
  | pendingServed i c => exact nextUnits_run (servePending_units h)
  | stallTimerExpiry i => exact execStallTimerExpiry_units i s
  | schedulerChoice i => exact nextUnits_run (h.frame (by simp [SameUnits]) : UnitRun s (makeChoice i s))
  | transmissionEnd i => exact nextUnits_run (settleDrains_units (endOf_units h))
  | edgeDeparture i => exact nextUnits_run (departNext_units h)
  | holdMarkSent i => exact nextUnits_run (h.frame (by simp [SameUnits]) : UnitRun s (sendHoldMark i s))
  | restMarkSent i => exact nextUnits_run (h.frame (by simp [SameUnits]) : UnitRun s (sendRest i s))
  | trainReqSent i => exact nextUnits_run (h.frame (by simp [SameUnits]) : UnitRun s (sendTrainReq i s))
  | suspendSent i => exact nextUnits_run (h.frame (by simp [SameUnits]) : UnitRun s (sendSuspend i s))
  | continueSent i => exact nextUnits_run (h.frame (by simp [SameUnits]) : UnitRun s (sendContinue i s))
  | wakeMarkSent i => exact nextUnits_run (h.frame (by simp [SameUnits]) : UnitRun s (sendWake i s))
  | referencePulse r => exact nextUnits_run (ite_units (h.then (.pulse r s)) h)
  | lossDeadlineExpiry r => exact nextUnits_run (ite_units (h.then (.loss r s)) h)
  | holdoverTimerExpiry => exact execHoldoverTimerExpiry_units s
  | secondCarry => exact execSecondCarry_units s
  | cabinetTimeAdvance => exact nextUnits_next (corePeriod_units s)
  | edgeInstant => exact nextUnits_run (ite_units (h.frame (by simp [SameUnits])) h)
  | edgeDispatch i => exact execEdgeDispatch_units i s
  | strobe i => exact execStrobe_units i s
  | strobePulseEnd i l => exact execStrobePulseEnd_units i l s
  | contactMade i k => exact nextUnits_run (ite_units h (seatDebounce_units (h.frame (by simp [SameUnits]))))
  | contactLost i k =>
    exact nextUnits_run (ite_units (settleDrains_units (contactGone_units (modCtl_units h))) h)
  | seatTimerExpiry i => exact nextUnits_run (when_units enterSeated_units h)
  | pwrGoodActive i => exact nextUnits_run (ite_units h (when_units goodSeen_units (h.frame (by simp [SameUnits]))))
  | pwrGoodLost i =>
    exact nextUnits_run
      (ite_units (ite_units (settleDrains_units (fault_units (modCtl_units h))) (modCtl_units h)) h)
  | powerTimerExpiry i => exact nextUnits_run (ite_units (settleDrains_units (fault_units h)) h)
  | releaseTimerExpiry i =>
    exact nextUnits_run (ite_units (settleDrains_units (enterTraining_units (h.frame (by simp [SameUnits])))) h)
  | exchangeWaitExpiry i => exact nextUnits_run (ite_units (settleDrains_units (nextExchange_units h)) h)
  | trainingGapExpiry i => exact nextUnits_run (ite_units (askTrain_units (h.frame (by simp [SameUnits]))) h)
  | wakeTimerExpiry i => exact nextUnits_run (ite_units (settleDrains_units (enterTraining_units h)) h)
  | drainTimerExpiry i =>
    exact nextUnits_run (ite_units (settleDrains_units (dropWaiting_units (modCtl_units h))) h)
  | sidebandInputChange i l level =>
    exact nextUnits_run (ite_units h (ite_units (h.frame (by simp [SameUnits])) (h.frame (by simp [SameUnits]))))
  | cardAlarmDebounceExpiry i => exact nextUnits_run (ite_units (judgeCardAlarm_units (h.frame
    (by simp [SameUnits]))) h)
  | cabinetInputChange n level => exact nextUnits_run (setInput_units h)
  | cabinetInputDebounceExpiry n => exact execCabinetInputDebounceExpiry_units n s
  | watchStale n => exact nextUnits_run (when_units evalWatch_units h)
  | chainParcelMake => exact execChainParcelMake_units s
  | chainEngineFree => exact execChainEngineFree_units s
  | readSlotSettings => exact nextUnits_run (serveRead_units h)
  | readFlowTable => exact nextUnits_run (serveRead_units h)
  | readParkAreas => exact nextUnits_run (serveRead_units h)
  | readWatches => exact nextUnits_run (serveRead_units h)
  | readChainDescriptors => exact nextUnits_run (serveRead_units h)
  | readCauseSettings => exact nextUnits_run (serveRead_units h)
  | readGlobalSettings => exact nextUnits_run (serveRead_units h)
  | readTimingSettings => exact nextUnits_run (serveRead_units h)
  | readAlarmQueue => exact nextUnits_run (serveRead_units h)
  | readTransitLog => exact nextUnits_run (serve_units h (fun _ _ => readTable_units))
  | readSlotStatus => exact nextUnits_run (serveRead_units h)
  | readTimingStatus => exact nextUnits_run (serveRead_units h)
  | readFabricStatus => exact nextUnits_run (serveRead_units h)
  | writeSlotSettings => exact nextUnits_run (serveWrite_units h (fun _ => slotTable_put_units))
  | writeFlowTable => exact nextUnits_run (serveWrite_units h (fun _ => flowTable_put_units))
  | writeParkAreas => exact nextUnits_run (serveWrite_units h (fun _ => areaTable_put_units))
  | writeWatches => exact nextUnits_run (serveWrite_units h (fun _ => watchTable_put_units))
  | writeChainDescriptors => exact nextUnits_run (serveWrite_units h (fun _ => chainTable_put_units))
  | writeCauseSettings => exact nextUnits_run (serveWrite_units h (fun _ => causeTable_put_units))
  | writeGlobalSettings => exact nextUnits_run (serveWrite_units h globalTable_put_units)
  | writeTimingSettings => exact nextUnits_run (serveWrite_units h timingTable_put_units)
  | readPark => exact nextUnits_run (serve_units h (fun _ _ => readParkWords_units))
  | readLatest => exact nextUnits_run (serve_units h (fun _ _ => readLatestCopy_units))
  | powerOn => exact nextUnits_run (serveSlot_units h actPowerOn_units)
  | powerOff => exact nextUnits_run (serveSlot_units h actPowerOff_units)
  | drain => exact nextUnits_run (serveSlot_units h actDrain_units)
  | rest => exact nextUnits_run (serveSlot_units h actRest_units)
  | wake => exact nextUnits_run (serveSlot_units h actWake_units)
  | clear => exact nextUnits_run (serveSlot_units h actClear_units)
  | retrain => exact nextUnits_run (serveSlot_units h actRetrain_units)
  | chainStart => exact nextUnits_run (serveSlot_units h actChainStart_units)
  | chainStop => exact nextUnits_run (serveSlot_units h actChainStop_units)
  | setTime => exact nextUnits_run (serve_units h (fun _ _ => actSetTime_units))
  | setFrequency => exact nextUnits_run (serve_units h (fun _ _ => actSetFrequency_units))
  | timingRestart =>
    exact nextUnits_run (serve_units h (fun _ _ hu => plainAction_units hu (timingRestartAll_units hu)))
  | fabricRestart =>
    exact nextUnits_run (serve_units h (fun _ _ hu => plainAction_units hu (fabricRestart_units hu)))
  | logClear =>
    exact nextUnits_run (serve_units h (fun _ _ hu => plainAction_units hu (emptyLog_units hu)))
  | powerOnReset msel retain => exact nextUnits_next (.reset false msel retain (startUp_units (.refl _)))
  | pinReset msel retain => exact nextUnits_next (.reset true msel retain (startUp_units (.refl _)))


/-- A core period's count and its advance of cabinet time (R85). -/
def coreTick (s : State) : State :=
  s.modTiming (fun x => { x with core := x.core + 1, time := x.time.advance x.adj })

/-- An invariant of the units that each of their steps keeps, the reset blocks, an advance of the uptime and a core
period among them, is kept by every step of the switch. -/
theorem stepKeeps_of_units {Q : State → Prop} (hstep : ∀ {s t}, UnitStep s t → Q s → Q t)
    (hreset : ∀ pin msel retain s, Q s → Q (resetBlocks pin msel retain s))
    (huptime : ∀ s, Q s → Q (takeUptime s))
    (htick : ∀ s u, Q s → UnitRun (takeUptime s) u → Q u → Q (coreTick u)) : StepKeeps Q := by
  intro s t hs hnext
  unfold step at hnext
  split at hnext
  · cases hnext
    exact hs
  · next c rest _ =>
    have hq : Q (s.withPending rest) := hstep (.same (by simp [SameUnits])) hs
    cases exec_units c _ t hnext with
    | run h => exact h.keeps hstep hq
    | reset pin msel retain h => exact h.keeps hstep (hreset _ _ _ _ hq)
    | uptime h => exact h ▸ huptime _ hq
    | core u hu h => exact h.keeps hstep (htick _ u hq hu (hu.keeps hstep (huptime _ hq)))

end Sys2Proof.Machine
end

section
/-! PROOFS. The block pool: every block is free or held by exactly one stored parcel (R38, R39). -/

namespace Sys2Proof.Machine

/-! ## Sparse tables whose keys rise -/

section Assoc

variable {α β : Type} {t : Assoc α} {k : Nat} {v : α}

theorem mem_of_assocGet (h : assocGet t k = some v) : (k, v) ∈ t := by
  induction t with
  | nil => simp [assocGet] at h
  | cons q r ih =>
    obtain ⟨j, w⟩ := q
    simp only [assocGet] at h
    split at h
    · next hj => simp_all
    · exact List.mem_cons_of_mem _ (ih h)

/-- A value listed under a key above all others goes to the end. -/
theorem assocPut_append (h : ∀ p ∈ t, p.1 < k) : assocPut t k v = t ++ [(k, v)] := by
  induction t with
  | nil => rfl
  | cons q r ih =>
    have hq : q.1 < k := h q List.mem_cons_self
    simp only [assocPut, if_neg (Nat.not_lt_of_gt hq), if_neg (Nat.ne_of_gt hq), List.cons_append,
      ih (fun p hp => h p (List.mem_cons_of_mem _ hp))]

/-- A value replaced by one that looks the same leaves the table looking the same. -/
theorem assocPut_map {g : Nat × α → β} {w : α} (hwf : assocWf t = true) (h : assocGet t k = some v)
    (hg : g (k, w) = g (k, v)) : (assocPut t k w).map g = t.map g := by
  induction t with
  | nil => simp [assocGet] at h
  | cons q r ih =>
    obtain ⟨j, u⟩ := q
    obtain ⟨habove, hr⟩ := (assocWf_cons _ _).mp hwf
    simp only [assocGet] at h
    simp only [assocPut]
    split at h
    · next hj => simp_all
    · next hj =>
      have hlt : j < k := habove _ (mem_of_assocGet h)
      simp [Nat.not_lt_of_gt hlt, Ne.symm hj, ih hr h]

theorem assocDel_perm (hwf : assocWf t = true) (h : assocGet t k = some v) : t.Perm ((k, v) :: assocDel t k) := by
  induction t with
  | nil => simp [assocGet] at h
  | cons q r ih =>
    obtain ⟨j, u⟩ := q
    obtain ⟨habove, hr⟩ := (assocWf_cons _ _).mp hwf
    simp only [assocGet] at h
    split at h
    · next hj =>
      subst hj
      cases h
      have hrest : assocDel r j = r :=
        List.filter_eq_self.mpr (fun p hp => by simpa using (Nat.ne_of_gt (habove p hp)))
      have hdel : assocDel ((j, v) :: r) j = assocDel r j := by simp [assocDel]
      rw [hdel, hrest]
    · next hj =>
      have hkept : assocDel ((j, u) :: r) k = (j, u) :: assocDel r k := by simp [assocDel, hj]
      rw [hkept]
      exact ((ih hr h).cons _).trans (List.Perm.swap ..)

end Assoc

/-! ## Taking and returning blocks (R38, R39) -/

/-- The blocks an allocation takes and those it leaves are the free blocks, and it takes as many as are asked for. -/
theorem pickBlocks_perm (seed : Nat) {k : Nat} {free : List Nat} (h : k ≤ free.length) :
    ((pickBlocks seed k free).2 ++ (pickBlocks seed k free).1).Perm free ∧
    (pickBlocks seed k free).1.length = k := by
  induction k generalizing free with
  | zero => simp [pickBlocks]
  | succ k ih =>
    have hlt : Config.blockChoice seed k % free.length < free.length := Nat.mod_lt _ (by omega)
    have herase := List.length_eraseIdx_of_lt hlt
    obtain ⟨hperm, hlen⟩ := ih (free := free.eraseIdx (Config.blockChoice seed k % free.length)) (by omega)
    simp only [pickBlocks]
    refine ⟨?_, by simp [hlen]⟩
    rw [List.getD_eq_getElem _ _ hlt]
    exact List.perm_middle.trans ((hperm.cons _).trans (List.getElem_cons_eraseIdx_perm hlt))

theorem insertNum_perm (b : Nat) (l : List Nat) : (insertNum b l).Perm (b :: l) := by
  induction l with
  | nil => simp [insertNum]
  | cons x r ih =>
    simp only [insertNum]
    split
    · rfl
    · exact (ih.cons x).trans (List.Perm.swap ..)

theorem insertAll_perm (bs l : List Nat) : (bs.foldl (fun f b => insertNum b f) l).Perm (l ++ bs) := by
  induction bs generalizing l with
  | nil => simp
  | cons b r ih =>
    exact (ih (insertNum b l)).trans (((insertNum_perm b l).append_right r).trans List.perm_middle.symm)

/-! ## The invariant (R38) -/

/-- Every block is free or held by exactly one stored parcel. -/
def Pool.inOrder (q : Pool) : Prop :=
  assocWf q.parcels = true ∧ (∀ p ∈ q.parcels, p.1 < q.nextId) ∧
  (∀ p ∈ q.parcels, p.2.blocks.length = p.2.nBlocks) ∧ q.freeCount = q.free.length ∧
  (q.free ++ q.parcels.flatMap (fun p => p.2.blocks)).Perm (List.range Config.poolBlocks)

theorem poolOk_iff (s : State) : s.poolOk ↔ s.pool.inOrder := Iff.rfl

theorem poolOk_of_pool {s t : State} (h : t.pool = s.pool) (hs : s.poolOk) : t.poolOk := by
  rwa [poolOk_iff, h]

/-- The pool after a new parcel is stored. -/
theorem allocStored_pool (p : Stored) (s : State) :
    (allocStored p s).pool =
      { freeCount := s.pool.freeCount - p.nBlocks, free := (pickBlocks s.pool.allocs p.nBlocks s.pool.free).2,
        parcels := assocPut s.pool.parcels s.pool.nextId
          { p with blocks := (pickBlocks s.pool.allocs p.nBlocks s.pool.free).1 },
        nextId := s.pool.nextId + 1, allocs := s.pool.allocs + 1 } := by
  simp [allocStored]

theorem allocStored_poolOk {p : Stored} {s : State} (h : s.poolOk) (hfree : p.nBlocks ≤ s.pool.freeCount) :
    (allocStored p s).poolOk := by
  obtain ⟨hwf, hbelow, hlen, hcount, hperm⟩ := h
  obtain ⟨hpicked, htaken⟩ := pickBlocks_perm s.pool.allocs (hcount ▸ hfree)
  have hleft : (pickBlocks s.pool.allocs p.nBlocks s.pool.free).2.length = s.pool.free.length - p.nBlocks := by
    have := hpicked.length_eq
    simp only [List.length_append] at this
    omega
  rw [poolOk_iff, allocStored_pool]
  refine ⟨assocPut_wf _ _ _ hwf, ?_, ?_, by simp only [hleft, hcount], ?_⟩
  · intro q hq
    rw [assocPut_append hbelow, List.mem_append, List.mem_singleton] at hq
    rcases hq with hq | rfl
    · exact Nat.lt_succ_of_lt (hbelow q hq)
    · exact Nat.lt_succ_self _
  · intro q hq
    rw [assocPut_append hbelow, List.mem_append, List.mem_singleton] at hq
    rcases hq with hq | rfl
    · exact hlen q hq
    · exact htaken
  · simp only [assocPut_append hbelow, List.flatMap_append, List.flatMap_cons, List.flatMap_nil, List.append_nil]
    calc (pickBlocks s.pool.allocs p.nBlocks s.pool.free).2 ++
          (s.pool.parcels.flatMap (fun q => q.2.blocks) ++ (pickBlocks s.pool.allocs p.nBlocks s.pool.free).1)
      _ |>.Perm ((pickBlocks s.pool.allocs p.nBlocks s.pool.free).2 ++
          ((pickBlocks s.pool.allocs p.nBlocks s.pool.free).1 ++ s.pool.parcels.flatMap (fun q => q.2.blocks))) :=
        List.perm_append_comm.append_left _
      _ |>.Perm (s.pool.free ++ s.pool.parcels.flatMap (fun q => q.2.blocks)) := by
        rw [← List.append_assoc]; exact hpicked.append_right _
      _ |>.Perm (List.range Config.poolBlocks) := hperm

theorem modStored_poolOk {pid : Nat} {f : Stored → Stored} {s : State} (h : s.poolOk)
    (hf : ∀ p, (f p).blocks = p.blocks ∧ (f p).nBlocks = p.nBlocks) : (modStored pid f s).poolOk := by
  unfold modStored
  split
  · exact h
  · next p hp =>
    obtain ⟨hwf, hbelow, hlen, hcount, hperm⟩ := h
    obtain ⟨hblocks, hn⟩ := hf p
    have hmem : (pid, p) ∈ s.pool.parcels := mem_of_assocGet hp
    have hkept : (assocPut s.pool.parcels pid (f p)).map (fun q => q.2.blocks) =
        s.pool.parcels.map (fun q => q.2.blocks) := assocPut_map hwf hp hblocks
    rw [poolOk_iff, (modPool_fields _ _).1]
    refine ⟨assocPut_wf _ _ _ hwf, ?_, ?_, hcount, ?_⟩
    · intro q hq
      rcases assocPut_mem hq with rfl | hq
      · exact hbelow (pid, p) hmem
      · exact hbelow q hq
    · intro q hq
      rcases assocPut_mem hq with rfl | hq
      · simpa [hblocks, hn] using hlen _ hmem
      · exact hlen q hq
    · rwa [List.flatMap_def, hkept, ← List.flatMap_def]

/-- The pool after the last hold on a parcel is released. -/
theorem releaseHold_pool_last {pid : Nat} {p : Stored} {s : State} (hp : s.parcel pid = some p) (hrefs : p.refs ≤ 1) :
    (releaseHold pid s).pool =
      { s.pool with
        freeCount := s.pool.freeCount + p.nBlocks, free := p.blocks.foldl (fun f b => insertNum b f) s.pool.free,
        parcels := assocDel s.pool.parcels pid } := by
  simp [releaseHold, hp, hrefs]

theorem releaseHold_of_held {pid : Nat} {p : Stored} {s : State} (hp : s.parcel pid = some p) (hrefs : 1 < p.refs) :
    releaseHold pid s = modStored pid (fun x => { x with refs := x.refs - 1 }) s := by
  simp [releaseHold, hp, Nat.not_le_of_gt hrefs]

theorem releaseHold_of_none {pid : Nat} {s : State} (hp : s.parcel pid = none) : releaseHold pid s = s := by
  simp [releaseHold, hp]

theorem releaseHold_poolOk {pid : Nat} {s : State} (h : s.poolOk) : (releaseHold pid s).poolOk := by
  cases hp : s.parcel pid with
  | none => rwa [releaseHold_of_none hp]
  | some p =>
    rcases Nat.lt_or_ge 1 p.refs with hrefs | hrefs
    · rw [releaseHold_of_held hp hrefs]
      exact modStored_poolOk h (fun _ => ⟨rfl, rfl⟩)
    · obtain ⟨hwf, hbelow, hlen, hcount, hperm⟩ := h
      have hmem : (pid, p) ∈ s.pool.parcels := mem_of_assocGet hp
      have hsub : ∀ q ∈ assocDel s.pool.parcels pid, q ∈ s.pool.parcels := fun q hq => (List.mem_filter.mp hq).1
      have hfree := insertAll_perm p.blocks s.pool.free
      rw [poolOk_iff, releaseHold_pool_last hp hrefs]
      refine ⟨assocDel_wf _ _ hwf, fun q hq => hbelow q (hsub q hq), fun q hq => hlen q (hsub q hq), ?_, ?_⟩
      · simp [hfree.length_eq, hcount, hlen _ hmem]
      · have hparcels := (assocDel_perm hwf hp).flatMap_right (fun q => q.2.blocks)
        rw [List.flatMap_cons] at hparcels
        refine ((hfree.append_right _).trans ?_).trans hperm
        rw [List.append_assoc]
        exact hparcels.symm.append_left _

/-- A pool whose blocks are all free. -/
theorem inOrder_of_free {q : Pool} (hparcels : q.parcels = []) (hcount : q.freeCount = Config.poolBlocks)
    (hfree : q.free = List.range Config.poolBlocks) : q.inOrder := by
  unfold Pool.inOrder
  rw [hparcels, hcount, hfree]
  simp [assocWf]

theorem unitStep_poolOk {s t : State} (h : UnitStep s t) (hs : s.poolOk) : t.poolOk := by
  cases h with
  | same h => exact poolOk_of_pool h.2.1 hs
  | entry | raise | clear | memory | reserve | emptied | resize | pulse | loss | loop | record | restart | setTime
  | setFreq | stage => exact poolOk_of_pool (by simp) hs
  | holdoverEnd => exact poolOk_of_pool (by simp [endHoldover]) hs
  | alloc p s hfree => exact allocStored_poolOk hs hfree
  | release pid s => exact releaseHold_poolOk hs
  | stored pid f s hf => exact modStored_poolOk hs hf
  | marks lo hi s => exact poolOk_of_pool (by simp) hs
  | fabric s => exact inOrder_of_free (by simp [fabricPool]) (by simp [fabricPool]) (by simp [fabricPool])

/-- Settles O8: each step of the units takes blocks from the free set, returns a parcel's blocks to it, or leaves the
pool alone. -/
theorem stepKeepsPool : Obligations.StepKeepsPool :=
  stepKeeps_of_units unitStep_poolOk
    (fun _ _ _ _ _ => inOrder_of_free (by simp [resetBlocks, Pool.reset]) (by simp [resetBlocks, Pool.reset])
      (by simp [resetBlocks, Pool.reset]))
    (fun _ => poolOk_of_pool (by simp))
    (fun _ _ _ _ => poolOk_of_pool (by simp [coreTick]))

end Sys2Proof.Machine
end

section
/-! PROOFS. POOL-LOW stands where its two marks leave it (R43). -/

namespace Sys2Proof.Machine

/-- What POOL-LOW is judged by is the same in two states. -/
def SamePoolLow (s t : State) : Prop :=
  t.isRaised causePoolLow 0 = s.isRaised causePoolLow 0 ∧ t.pool.freeCount = s.pool.freeCount ∧
  t.glob.lowMark = s.glob.lowMark ∧ t.glob.clearMark = s.glob.clearMark

/-- The marks are in order and in range (R43). -/
def State.marksOk (s : State) : Prop := s.glob.lowMark ≤ s.glob.clearMark ∧ s.glob.clearMark ≤ Config.poolBlocks

theorem poolLowOk_iff (s : State) : s.poolLowOk ↔ s.marksOk ∧
    if s.isRaised causePoolLow 0 = true then s.pool.freeCount < s.glob.clearMark
    else s.glob.lowMark ≤ s.pool.freeCount := by
  unfold State.poolLowOk State.marksOk
  rw [and_assoc]

theorem poolLowOk_marks {s : State} (h : s.poolLowOk) : s.marksOk := ((poolLowOk_iff s).mp h).1

theorem poolLowOk_of_same {s t : State} (h : SamePoolLow s t) (hs : s.poolLowOk) : t.poolLowOk := by
  obtain ⟨hraised, hfree, hlow, hclear⟩ := h
  unfold State.poolLowOk at hs ⊢
  rwa [hraised, hfree, hlow, hclear]

/-- Reports of other causes leave POOL-LOW as it stands. -/
theorem samePoolLow_of_reports {s t : State} (h : Reports s t) (hpool : t.pool = s.pool) (hglob : t.glob = s.glob) :
    SamePoolLow s t :=
  ⟨h.raised causePoolLow (by decide) 0 (by omega), by rw [hpool], by rw [hglob], by rw [hglob]⟩

/-- A judgement puts POOL-LOW where the marks say, whatever stood before. -/
theorem poolJudge_poolLowOk {s : State} (h : s.marksOk) : (poolJudge s).poolLowOk := by
  have hmarks := h
  obtain ⟨hle, -⟩ := hmarks
  rw [poolLowOk_iff]
  unfold poolJudge
  split
  · next hraised =>
    split
    · next hfree => exact ⟨by simpa [State.marksOk] using h, by simpa [isRaised_clearCond] using hle.trans hfree⟩
    · next hfree => exact ⟨h, by simpa [hraised] using hfree⟩
  · next hraised =>
    split
    · next hfree =>
      exact ⟨by simpa [State.marksOk] using h, by simpa [isRaised_raiseCond] using Nat.lt_of_lt_of_le hfree hle⟩
    · next hfree => exact ⟨h, by simpa [hraised] using hfree⟩

theorem samePoolLow_modStored (pid : Nat) (f : Stored → Stored) (s : State) : SamePoolLow s (modStored pid f s) := by
  unfold modStored
  split
  · exact ⟨rfl, rfl, rfl, rfl⟩
  · exact ⟨rfl, rfl, rfl, rfl⟩

theorem releaseHold_poolLowOk {pid : Nat} {s : State} (h : s.poolLowOk) : (releaseHold pid s).poolLowOk := by
  unfold releaseHold
  split
  · exact h
  · split
    · exact poolJudge_poolLowOk (s := s.modPool _) (poolLowOk_marks h :)
    · exact poolLowOk_of_same (samePoolLow_modStored ..) h

theorem fabricPool_poolLowOk {s : State} (h : s.poolLowOk) : (fabricPool s).poolLowOk := by
  obtain ⟨hle, htop⟩ := poolLowOk_marks h
  rw [poolLowOk_iff]
  refine ⟨by simpa [fabricPool, State.marksOk] using ⟨hle, htop⟩, ?_⟩
  simpa [fabricPool, isRaised_clearCond] using hle.trans htop

/-- An entry leaves POOL-LOW as it stands, and so does a report of another cause. -/
theorem samePoolLow_postEntry {c : Fin 64} {n : Nat} {a : AlarmAction} {k : Nat} {p : Word} {s : State} :
    SamePoolLow s (postEntry c n a k p s) :=
  samePoolLow_of_reports (postEntry_reports (.refl s)) (by simp) (by simp)

theorem samePoolLow_raiseCond {c : Fin 64} {n : Nat} {p : Word} {s : State} (hc : c ≠ causePoolLow) (hn : n < 64) :
    SamePoolLow s (raiseCond c n p s) := by
  refine ⟨?_, by simp, by simp, by simp⟩
  simp [isRaised_raiseCond, pairKey_inj (show 0 < 64 by omega) hn, Ne.symm hc]

theorem samePoolLow_clearCond {c : Fin 64} {n : Nat} {p : Word} {s : State} (hc : c ≠ causePoolLow) (hn : n < 64) :
    SamePoolLow s (clearCond c n p s) := by
  refine ⟨?_, by simp, by simp, by simp⟩
  simp [isRaised_clearCond, pairKey_inj (show 0 < 64 by omega) hn, Ne.symm hc]

theorem endHoldover_reports {s₀ s : State} (h : Reports s₀ s) : Reports s₀ (endHoldover s) :=
  have hclear := clearCond_reports (c := causeHoldover) (n := 0) (p := wordOf s.holdoverSeconds) h
  have hraise := raiseCond_reports (c := causeFreeRun) (n := 0) (p := wordOfInt s.timing.ppb) hclear
  (changeLoop_reports (new := .free) hraise).frame (by simp [endHoldover])

theorem unitStep_poolLowOk {s t : State} (h : UnitStep s t) (hs : s.poolLowOk) : t.poolLowOk := by
  cases h with
  | same h =>
    obtain ⟨-, hpool, -, -, -, hraised, -, -, hlow, hclear, -⟩ := h
    exact poolLowOk_of_same ⟨by rw [State.isRaised, hraised, State.isRaised], by rw [hpool], hlow, hclear⟩ hs
  | entry => exact poolLowOk_of_same samePoolLow_postEntry hs
  | raise c n p s hc hn => exact poolLowOk_of_same (samePoolLow_raiseCond hc.1 hn) hs
  | clear c n p s hc hn => exact poolLowOk_of_same (samePoolLow_clearCond hc.1 hn) hs
  | alloc p s hfree => exact poolJudge_poolLowOk (s := s.modPool _) (poolLowOk_marks hs :)
  | release => exact releaseHold_poolLowOk hs
  | stored pid f s hf => exact poolLowOk_of_same (samePoolLow_modStored pid f s) hs
  | marks lo hi s h => exact poolJudge_poolLowOk h
  | fabric => exact fabricPool_poolLowOk hs
  | memory | reserve | emptied | resize | stage =>
    exact poolLowOk_of_same (by simp [SamePoolLow, State.isRaised]) hs
  | pulse r s => exact poolLowOk_of_same (samePoolLow_of_reports (judgePulse_reports (.refl s)) (by simp) (by simp)) hs
  | loss r s =>
    exact poolLowOk_of_same (samePoolLow_of_reports (loseReference_reports (.refl s)) (by simp) (by simp)) hs
  | holdoverEnd s _ =>
    exact poolLowOk_of_same
      (samePoolLow_of_reports (endHoldover_reports (.refl s)) (by simp [endHoldover]) (by simp [endHoldover])) hs
  | loop c s _ =>
    exact poolLowOk_of_same (samePoolLow_of_reports (writeLoop_reports (.refl s)) (by simp) (by simp)) hs
  | record r c s =>
    exact poolLowOk_of_same (samePoolLow_of_reports (writeRef_reports (.refl s)) (by simp) (by simp)) hs
  | restart s =>
    exact poolLowOk_of_same (samePoolLow_of_reports (timingRestart_reports (.refl s)) (by simp) (by simp)) hs
  | setTime | setFreq => exact poolLowOk_of_same (by simp [SamePoolLow, State.isRaised]) hs

theorem resetBlocks_poolLowOk (pin msel retain : Bool) (s : State) : (resetBlocks pin msel retain s).poolLowOk := by
  have hraised : (resetBlocks pin msel retain s).isRaised causePoolLow 0 = false := rfl
  rw [poolLowOk_iff, hraised]
  exact ⟨by simp [resetBlocks, State.marksOk, GlobalSettings.default, Config.poolBlocks],
    by simp [resetBlocks, Pool.reset, GlobalSettings.default, Config.poolBlocks]⟩

/-- Settles O7: what changes the free blocks or the marks judges POOL-LOW, and nothing else reports it. -/
theorem stepKeepsPoolLow : Obligations.StepKeepsPoolLow :=
  stepKeeps_of_units unitStep_poolLowOk
    (fun pin msel retain s _ => resetBlocks_poolLowOk pin msel retain s)
    (fun _ => poolLowOk_of_same (by simp [SamePoolLow, State.isRaised]))
    (fun _ _ _ _ => poolLowOk_of_same (by simp [SamePoolLow, State.isRaised, coreTick]))

end Sys2Proof.Machine
end

section
/-! PROOFS. Cabinet time, I, F, D and the uptime stay in range (R85 to R87, R104, R105). -/

namespace Sys2Proof.Machine

/-! ## Ranges -/

theorem ofTotal_inRange (n : Nat) : (CabTime.ofTotal n).inRange := by
  have hpos : 0 < Config.nsPerSec * Config.fracPerNs := by decide
  have hmod : n % timeModulus < timeModulus := Nat.mod_lt _ (by decide)
  refine ⟨?_, Nat.mod_lt _ (by decide), Nat.mod_lt _ (by decide)⟩
  rw [timeModulus, Nat.mul_assoc, Nat.mul_comm] at hmod
  exact Nat.div_lt_of_lt_mul hmod

theorem move_inRange (t : CabTime) (amount : Int) : (t.move amount).inRange := ofTotal_inRange _

/-- D is within 2^32 in magnitude, since the bound B on F is 200,000 ppm at most (R88, R105). -/
theorem adjOf_bound {m : Rounding} {freq : Int} (h : freq.natAbs ≤ 200000 * 65536) :
    (adjOf m freq).natAbs < 4294967296 := by
  unfold adjOf roundDiv
  dsimp only
  split
  · omega
  · split <;> (try split) <;> (try split) <;> (try split) <;> omega

theorem advance_inRange {t : CabTime} {adj : Int} (h : t.inRange) (hadj : adj.natAbs < 4294967296) :
    (t.advance adj).inRange := by
  obtain ⟨hsec, hns, hfrac⟩ := h
  simp only [Config.nsPerSec, Config.fracPerNs] at hns hfrac
  have hnext : (((t.frac : Int) + adj) % (4294967296 : Nat)).toNat < 4294967296 := by omega
  unfold CabTime.advance
  by_cases hcarry : Config.nsPerSec ≤ ((t.ns : Int) + 8 + ((t.frac : Int) + adj) / (Config.fracPerNs : Int)).toNat
  · rw [if_pos hcarry]
    refine ⟨Nat.mod_lt _ (by decide), ?_, hnext⟩
    simp only [Config.nsPerSec, Config.fracPerNs]
    omega
  · rw [if_neg hcarry]
    exact ⟨hsec, Nat.lt_of_not_le hcarry, hnext⟩

theorem clampTo_bound (b : Nat) (x : Int) : (clampTo b x).natAbs ≤ b := by
  unfold clampTo
  split
  · omega
  · split
    · omega
    · omega

theorem bound_eq (c : LoopSettings) : c.bound = ((c.fmax * 65536 : Nat) : Int) := by
  simp [LoopSettings.bound]

/-! ## What an operation of the timing unit keeps -/

/-- I and F lie within a bound. -/
def State.within (b : Nat) (s : State) : Prop := s.timing.intg.natAbs ≤ b ∧ s.timing.freq.natAbs ≤ b

/-- D is the adjustment of F. -/
def State.adjusted (s : State) : Prop := s.timing.adj = adjOf s.timing.cfg.rounding s.timing.freq

/-- The bound of the loop settings in force. -/
def State.fBound (s : State) : Nat := s.timing.cfg.fmax * 65536

theorem timeOk_iff (s : State) : s.timeOk ↔
    s.timing.time.inRange ∧ s.within s.fBound ∧ s.timing.cfg.fmax ≤ 200000 ∧ s.adjusted := by
  unfold State.timeOk State.within State.adjusted State.fBound
  tauto

/-- The counts of the timing unit and its settings are the same, and its values keep their ranges, against a bound b. -/
structure TimeKept (b : Nat) (s t : State) : Prop where
  uptime : t.timing.uptime = s.timing.uptime
  core : t.timing.core = s.timing.core
  cfg : t.timing.cfg = s.timing.cfg
  range : s.timing.time.inRange → t.timing.time.inRange
  bounds : s.within b → t.within b
  adj : s.adjusted → t.adjusted

section Tower

variable {b : Nat} {s₀ s t u : State}

theorem TimeKept.refl (b : Nat) (s : State) : TimeKept b s s := ⟨rfl, rfl, rfl, id, id, id⟩

theorem TimeKept.trans (h : TimeKept b s t) (g : TimeKept b t u) : TimeKept b s u :=
  ⟨g.uptime.trans h.uptime, g.core.trans h.core, g.cfg.trans h.cfg, g.range ∘ h.range, g.bounds ∘ h.bounds,
    g.adj ∘ h.adj⟩

/-- An update that leaves cabinet time, I, F, D, the settings and the counts alone. -/
theorem TimeKept.frame (h : TimeKept b s₀ s) (hsame : t.timing.uptime = s.timing.uptime ∧
    t.timing.core = s.timing.core ∧ t.timing.cfg = s.timing.cfg ∧ t.timing.time = s.timing.time ∧
    t.timing.intg = s.timing.intg ∧ t.timing.freq = s.timing.freq ∧ t.timing.adj = s.timing.adj) :
    TimeKept b s₀ t := by
  obtain ⟨huptime, hcore, hcfg, htime, hintg, hfreq, hadj⟩ := hsame
  refine h.trans ⟨huptime, hcore, hcfg, ?_, ?_, ?_⟩
  · rw [htime]; exact id
  · unfold State.within; rw [hintg, hfreq]; exact id
  · unfold State.adjusted; rw [hadj, hcfg, hfreq]; exact id

/-- A report leaves the timing unit alone. -/
theorem TimeKept.report (h : TimeKept b s₀ s) (hsame : t.timing = s.timing) : TimeKept b s₀ t :=
  h.frame (by rw [hsame]; exact ⟨rfl, rfl, rfl, rfl, rfl, rfl, rfl⟩)

theorem postEvent_timeKept {c : Fin 64} {n : Nat} {p : Word} (h : TimeKept b s₀ s) :
    TimeKept b s₀ (postEvent c n p s) := h.report (by simp)

theorem raiseCond_timeKept {c : Fin 64} {n : Nat} {p : Word} (h : TimeKept b s₀ s) :
    TimeKept b s₀ (raiseCond c n p s) := h.report (by simp)

theorem clearCond_timeKept {c : Fin 64} {n : Nat} {p : Word} (h : TimeKept b s₀ s) :
    TimeKept b s₀ (clearCond c n p s) := h.report (by simp)

theorem ite_timeKept {p : Prop} [Decidable p] (ht : TimeKept b s₀ t) (hu : TimeKept b s₀ u) :
    TimeKept b s₀ (if p then t else u) := by
  split
  · exact ht
  · exact hu

theorem setFreq_timeKept {intg freq : Int} (h : TimeKept b s₀ s) (hintg : s.within b → intg.natAbs ≤ b)
    (hfreq : s.within b → freq.natAbs ≤ b) : TimeKept b s₀ (setFreq intg freq s) :=
  h.trans ⟨rfl, rfl, rfl, id, fun hb => ⟨hintg hb, hfreq hb⟩, fun _ => rfl⟩

/-- F becomes I, as in a step and at the start of holdover (R98, R103). -/
theorem setFreq_same_timeKept (h : TimeKept b s₀ s) :
    TimeKept b s₀ (setFreq s.timing.intg s.timing.intg s) :=
  setFreq_timeKept h (fun hb => hb.1) (fun hb => hb.1)

theorem modRef_timeKept {r : RefId} {f : Reference → Reference} (h : TimeKept b s₀ s) :
    TimeKept b s₀ (modRef r f s) :=
  h.frame (by cases r <;> exact ⟨rfl, rfl, rfl, rfl, rfl, rfl, rfl⟩)

theorem moveTimeTo_timeKept {v : CabTime} {amount : Int} (h : TimeKept b s₀ s) (hv : v.inRange) :
    TimeKept b s₀ (moveTimeTo v amount s) := by
  refine h.trans ?_
  have htiming : (moveTimeTo v amount s).timing =
      { s.timing with
        time := v, refA := { s.timing.refA with last := s.timing.refA.last.map (fun c => c.move amount) },
        refB := { s.timing.refB with last := s.timing.refB.last.map (fun c => c.move amount) } } := by
    simp [moveTimeTo]
  constructor <;> simp [htiming, State.within, State.adjusted, hv]

theorem moveTime_timeKept {amount : Int} (h : TimeKept b s₀ s) : TimeKept b s₀ (moveTime amount s) :=
  moveTimeTo_timeKept h (move_inRange _ _)

theorem changeLoop_timeKept {new : LoopState} (h : TimeKept b s₀ s) : TimeKept b s₀ (changeLoop new s) :=
  ite_timeKept h (h.frame (by simp))

theorem enterAcquiring_timeKept (h : TimeKept b s₀ s) : TimeKept b s₀ (enterAcquiring s) := by
  unfold enterAcquiring
  dsimp only
  split
  · exact changeLoop_timeKept (h.frame (by simp))
  · exact changeLoop_timeKept (h.frame (by simp))
  · exact changeLoop_timeKept (h.frame (by simp))

theorem enterHoldover_timeKept (h : TimeKept b s₀ s) : TimeKept b s₀ (enterHoldover s) :=
  raiseCond_timeKept (changeLoop_timeKept ((setFreq_same_timeKept h).frame (by simp)))

theorem judgeSelection_timeKept (h : TimeKept b s₀ s) : TimeKept b s₀ (judgeSelection s) := by
  have hswitch (new : Sel) (p : Word) :
      TimeKept b s₀ (postEvent causeReferenceSwitch 0 p (s.modTiming (fun t => { t with sel := new }))) :=
    h.frame (by simp)
  unfold judgeSelection
  dsimp only
  split
  · exact h
  · split
    · split
      · exact enterHoldover_timeKept (hswitch _ _)
      · exact enterHoldover_timeKept (hswitch _ _)
      · exact hswitch _ _
    · exact enterAcquiring_timeKept (hswitch _ _)

theorem qualify_timeKept {r : RefId} (h : TimeKept b s₀ s) : TimeKept b s₀ (qualify r s) :=
  judgeSelection_timeKept (clearCond_timeKept (modRef_timeKept h))

theorem loseReference_timeKept {r : RefId} (h : TimeKept b s₀ s) : TimeKept b s₀ (loseReference r s) := by
  have hloss (f : Reference → Reference) (p : Word) :
      TimeKept b s₀ (raiseCond causeRefLoss (refNum r) p (modRef r f s)) := raiseCond_timeKept (modRef_timeKept h)
  exact ite_timeKept (judgeSelection_timeKept (hloss _ _)) (hloss _ _)

theorem checkSeconds_timeKept {r : RefId} {n : Nat} (h : TimeKept b s₀ s) : TimeKept b s₀ (checkSeconds r n s) := by
  unfold checkSeconds
  split
  · exact h
  · exact ite_timeKept (modRef_timeKept h) (postEvent_timeKept (moveTime_timeKept (modRef_timeKept h)))

theorem stepTime_timeKept {lag : Int} (h : TimeKept b s₀ s) : TimeKept b s₀ (stepTime lag s) := by
  have hmove := moveTime_timeKept (amount := nsUnits lag) h
  have hintg : (moveTime (nsUnits lag) s).timing.intg = s.timing.intg := by simp [moveTime, moveTimeTo]
  have hset := setFreq_same_timeKept hmove
  rw [hintg] at hset
  exact hset.frame (by simp [stepTime])

/-- A slew clamps I and F to the bound of the settings in force (R104). -/
theorem slew_timeKept {lag : Int} (h : TimeKept b s₀ s) (hb : s.fBound = b) : TimeKept b s₀ (slew lag s) := by
  have hclamp (x : Int) : (clampTo s.timing.cfg.bound x).natAbs ≤ b := by
    rw [bound_eq, ← hb]
    exact clampTo_bound _ _
  have hset := setFreq_timeKept h (fun _ => hclamp (s.timing.intg + shiftBy s.timing.cfg.rounding lag s.timing.cfg.ki))
    (fun _ => hclamp (shiftBy s.timing.cfg.rounding lag s.timing.cfg.kp +
      clampTo s.timing.cfg.bound (s.timing.intg + shiftBy s.timing.cfg.rounding lag s.timing.cfg.ki)))
  exact ite_timeKept hset (hset.report (by simp))

theorem lockAfterStep_timeKept {lag : Int} (h : TimeKept b s₀ s) : TimeKept b s₀ (lockAfterStep lag s) :=
  ite_timeKept (changeLoop_timeKept h) h

theorem lockAfterSlew_timeKept {lag : Int} (h : TimeKept b s₀ s) : TimeKept b s₀ (lockAfterSlew lag s) := by
  have hlock (n : Nat) : TimeKept b s₀ (s.modTiming (fun t => { t with lock := n })) := h.frame (by simp)
  exact ite_timeKept (ite_timeKept (changeLoop_timeKept (hlock _)) (hlock _))
    (ite_timeKept (changeLoop_timeKept (hlock _)) (hlock _))

theorem fBound_of_cfg (h : t.timing.cfg = s.timing.cfg) : t.fBound = s.fBound := by
  unfold State.fBound
  rw [h]

theorem processPulse_timeKept {r : RefId} {c : CabTime} (h : TimeKept b s₀ s) (hb : s.fBound = b) :
    TimeKept b s₀ (processPulse r c s) := by
  have hcheck (n : Nat) : TimeKept b s (checkSeconds r n s) := checkSeconds_timeKept (.refl b s)
  exact h.trans (ite_timeKept (lockAfterStep_timeKept (stepTime_timeKept (hcheck _)))
    (lockAfterSlew_timeKept (slew_timeKept (hcheck _) ((fBound_of_cfg (hcheck _).cfg).trans hb))))

theorem acceptPulse_timeKept {r : RefId} {c : CabTime} {run : Nat} (h : TimeKept b s₀ s) (hb : s.fBound = b) :
    TimeKept b s₀ (acceptPulse r c run s) := by
  have hjudged {p : Prop} [Decidable p] {f : Reference → Reference} :
      TimeKept b s (if p then qualify r (modRef r f s) else modRef r f s) :=
    ite_timeKept (qualify_timeKept (modRef_timeKept (.refl b s))) (modRef_timeKept (.refl b s))
  exact h.trans (ite_timeKept (processPulse_timeKept hjudged ((fBound_of_cfg hjudged.cfg).trans hb))
    (modRef_timeKept hjudged))

theorem judgePulse_timeKept {r : RefId} (h : TimeKept b s₀ s) (hb : s.fBound = b) :
    TimeKept b s₀ (judgePulse r s) := by
  unfold judgePulse
  dsimp only
  split
  · exact acceptPulse_timeKept h hb
  · exact ite_timeKept (modRef_timeKept h) (ite_timeKept (acceptPulse_timeKept h hb) (acceptPulse_timeKept h hb))

theorem writeRef_timeKept {r : RefId} {c : RefSettings} (h : TimeKept b s₀ s) : TimeKept b s₀ (writeRef r c s) :=
  ite_timeKept (judgeSelection_timeKept (modRef_timeKept h)) (modRef_timeKept h)

theorem timingRestart_timeKept (h : TimeKept b s₀ s) : TimeKept b s₀ (timingRestart s) := by
  have hsel : TimeKept b s₀ (if s.timing.sel = .none then s
      else postEvent causeReferenceSwitch 0 (wordOf (s.timing.sel.code * 256 + Sel.none.code))
        (s.modTiming (fun t => { t with sel := .none }))) := ite_timeKept h (h.frame (by simp))
  have hfree := changeLoop_timeKept (new := .free) hsel
  have hzero (m : Rounding) : adjOf m 0 = 0 := by cases m <;> rfl
  refine hfree.trans ?_
  constructor <;> simp [timingRestart, State.within, State.adjusted, hzero]

theorem stageTimeOfDay_timeKept {i : Slot} {ws : List Word} (h : TimeKept b s₀ s) :
    TimeKept b s₀ (stageTimeOfDay i ws s) := by
  unfold stageTimeOfDay
  split
  · exact h.frame (by simp)
  · exact h

theorem endHoldover_timeKept (h : TimeKept b s₀ s) : TimeKept b s₀ (endHoldover s) := by
  have hreport : TimeKept b s₀ (raiseCond causeFreeRun 0 (wordOfInt s.timing.ppb)
      (clearCond causeHoldover 0 (wordOf s.holdoverSeconds) s)) := raiseCond_timeKept (clearCond_timeKept h)
  exact (changeLoop_timeKept (new := .free) hreport).frame (by simp [endHoldover])

end Tower

/-! ## Writes of the loop settings (R89) -/

/-- The first effect of a write of the loop settings: the selection is judged by them. -/
def loopJudged (c : LoopSettings) (s : State) : State :=
  if c.preferred ≠ s.timing.cfg.preferred ∨ c.revertive ≠ s.timing.cfg.revertive then
    judgeSelection (s.modTiming (fun t => { t with cfg := c }))
  else s.modTiming (fun t => { t with cfg := c })

/-- The second: I and F are clamped to a changed bound, with FREQ-LIMIT. -/
def loopClamped (c : LoopSettings) (old : Nat) (s : State) : State :=
  if c.fmax ≠ old ∧ (clampTo c.bound s.timing.intg ≠ s.timing.intg ∨ clampTo c.bound s.timing.freq ≠ s.timing.freq)
  then
    let t := setFreq (clampTo c.bound s.timing.intg) (clampTo c.bound s.timing.freq) s
    postEvent causeFreqLimit 0 (wordOfInt t.timing.ppb) t
  else s

/-- The third: D is recomputed in a changed rounding mode. -/
theorem writeLoop_eq (c : LoopSettings) (s : State) : writeLoop c s =
    (let u := loopClamped c s.timing.cfg.fmax (loopJudged c s)
     if c.rounding ≠ s.timing.cfg.rounding then setFreq u.timing.intg u.timing.freq u else u) := rfl

theorem loopJudged_timeKept (b : Nat) (c : LoopSettings) (s : State) :
    TimeKept b (s.modTiming (fun t => { t with cfg := c })) (loopJudged c s) :=
  ite_timeKept (judgeSelection_timeKept (.refl _ _)) (.refl _ _)

/-- I and F end within the new bound: where it is the old one they lay within it before, and else they are clamped. -/
theorem loopClamped_within {c : LoopSettings} {old : Nat} {s : State} (hold : s.within (old * 65536)) :
    (loopClamped c old s).within (c.fmax * 65536) := by
  unfold loopClamped
  split
  · simpa [State.within, setFreq, bound_eq] using ⟨clampTo_bound _ _, clampTo_bound _ _⟩
  · next hkept =>
    by_cases hfmax : c.fmax = old
    · rwa [hfmax]
    · simp only [hfmax, ne_eq, not_false_eq_true, true_and, not_or, Decidable.not_not] at hkept
      obtain ⟨hintg, hfreq⟩ := hkept
      exact ⟨by rw [← hintg, bound_eq]; exact clampTo_bound _ _, by rw [← hfreq, bound_eq]; exact clampTo_bound _ _⟩

/-- The clamp leaves the timing unit as it was but for I, F and D. -/
theorem loopClamped_timing (c : LoopSettings) (old : Nat) (s : State) :
    ∃ intg freq, (loopClamped c old s).timing = s.timing ∨
      (loopClamped c old s).timing = (setFreq intg freq s).timing := by
  refine ⟨clampTo c.bound s.timing.intg, clampTo c.bound s.timing.freq, ?_⟩
  unfold loopClamped
  split
  · exact .inr (by simp)
  · exact .inl rfl

/-- What a write of the loop settings leaves of the timing unit, and the ranges its values end in. -/
theorem writeLoop_timing (c : LoopSettings) (s : State) :
    (writeLoop c s).timing.uptime = s.timing.uptime ∧ (writeLoop c s).timing.core = s.timing.core ∧
    (s.timeOk → c.fmax ≤ 200000 → (writeLoop c s).timeOk) := by
  have hjudged := loopJudged_timeKept s.fBound c s
  obtain ⟨intg, freq, hclamped⟩ := loopClamped_timing c s.timing.cfg.fmax (loopJudged c s)
  have hwithin (h : s.within s.fBound) := loopClamped_within (c := c) (hjudged.bounds h)
  rw [writeLoop_eq]
  generalize loopClamped c s.timing.cfg.fmax (loopJudged c s) = u at hclamped hwithin
  have hu : u.timing.uptime = s.timing.uptime ∧ u.timing.core = s.timing.core ∧ u.timing.cfg = c ∧
      u.timing.time = (loopJudged c s).timing.time ∧ ((loopJudged c s).adjusted → u.adjusted) := by
    have hcfg : (loopJudged c s).timing.cfg = c := hjudged.cfg
    rcases hclamped with h | h
    · exact ⟨by rw [h, hjudged.uptime]; rfl, by rw [h, hjudged.core]; rfl, by rw [h, hcfg], by rw [h],
        by unfold State.adjusted; rw [h]; exact id⟩
    · exact ⟨by rw [h]; exact hjudged.uptime, by rw [h]; exact hjudged.core, by rw [h]; exact hcfg, by rw [h]; rfl,
        fun _ => by unfold State.adjusted; rw [h]; rfl⟩
  obtain ⟨huptime, hcore, hcfg, htime, hadj⟩ := hu
  refine ⟨by dsimp only; split <;> exact huptime, by dsimp only; split <;> exact hcore, fun h hc => ?_⟩
  obtain ⟨hrange, hin, -, hold⟩ := (timeOk_iff s).mp h
  have hranged : u.timing.time.inRange := htime ▸ hjudged.range hrange
  have hbound : u.within u.fBound := by rw [State.fBound, hcfg]; exact hwithin hin
  have hmax : u.timing.cfg.fmax ≤ 200000 := hcfg ▸ hc
  rw [timeOk_iff]
  dsimp only
  split
  · exact ⟨hranged, hbound, hmax, rfl⟩
  · next hsame =>
    refine ⟨hranged, hbound, hmax, hadj (hjudged.adj ?_)⟩
    rw [ne_eq, Decidable.not_not] at hsame
    exact hold.trans (by rw [← hsame]; rfl)

/-! ## Every step of the units -/

/-- The counts of the timing unit are the same, and its ranges are kept. -/
def ClockKept (s t : State) : Prop :=
  t.timing.uptime = s.timing.uptime ∧ t.timing.core = s.timing.core ∧ (s.timeOk → t.timeOk)

theorem clockKept_of_timing {s t : State} (h : t.timing = s.timing) : ClockKept s t := by
  refine ⟨by rw [h], by rw [h], ?_⟩
  unfold State.timeOk
  rw [h]
  exact id

theorem clockKept_of_timeKept {s t : State} (h : TimeKept s.fBound s t) : ClockKept s t := by
  refine ⟨h.uptime, h.core, fun hs => ?_⟩
  obtain ⟨hrange, hwithin, hfmax, hadj⟩ := (timeOk_iff s).mp hs
  rw [timeOk_iff, fBound_of_cfg h.cfg, h.cfg]
  exact ⟨h.range hrange, h.bounds hwithin, hfmax, h.adj hadj⟩

theorem unitStep_clockKept {s t : State} (h : UnitStep s t) : ClockKept s t := by
  cases h with
  | same h => exact clockKept_of_timing h.1
  | entry | raise | clear | alloc | release | stored | memory | reserve | emptied | resize | marks | fabric =>
    exact clockKept_of_timing (by simp)
  | pulse r s => exact clockKept_of_timeKept (judgePulse_timeKept (.refl _ _) rfl)
  | loss r s => exact clockKept_of_timeKept (loseReference_timeKept (.refl _ _))
  | holdoverEnd s _ => exact clockKept_of_timeKept (endHoldover_timeKept (.refl _ _))
  | loop c s hc =>
    obtain ⟨huptime, hcore, hok⟩ := writeLoop_timing c s
    exact ⟨huptime, hcore, fun hs => hok hs hc⟩
  | record r c s => exact clockKept_of_timeKept (writeRef_timeKept (.refl _ _))
  | restart s => exact clockKept_of_timeKept (timingRestart_timeKept (.refl _ _))
  | setTime sec ns s hv =>
    exact clockKept_of_timeKept (moveTimeTo_timeKept (.refl _ _) ⟨hv.1, hv.2, (by decide : 0 < Config.fracPerNs)⟩)
  | setFreq v s _ hv => exact clockKept_of_timeKept (setFreq_timeKept (.refl _ _) (fun _ => hv) (fun _ => hv))
  | stage i ws s => exact clockKept_of_timeKept (stageTimeOfDay_timeKept (.refl _ _))

theorem unitRun_clock {s t : State} (h : UnitRun s t) :
    t.timing.uptime = s.timing.uptime ∧ t.timing.core = s.timing.core := by
  refine h.keeps (Q := fun x => x.timing.uptime = s.timing.uptime ∧ x.timing.core = s.timing.core) ?_ ⟨rfl, rfl⟩
  intro x y hxy hx
  obtain ⟨huptime, hcore, -⟩ := unitStep_clockKept hxy
  exact ⟨huptime.trans hx.1, hcore.trans hx.2⟩

/-! ## The uptime (R87) -/

theorem takeUptime_timing (s : State) : (takeUptime s).timing =
    if s.timing.uptimeDue then { s.timing with uptime := s.timing.uptime + 1 } else s.timing := by
  unfold takeUptime
  split
  · simp
  · rfl

/-- After an advance that was due is taken, the uptime is the number of whole 125,000 core periods. -/
theorem takeUptime_exact {s : State} (h : s.uptimeOk) :
    (takeUptime s).timing.uptime = wordOf ((takeUptime s).timing.core / Config.uptimePeriods) := by
  rw [takeUptime_timing]
  split
  · next hdue =>
    have hne : s.timing.uptime ≠ wordOf (s.timing.core / Config.uptimePeriods) := by
      simpa [Timing.uptimeDue] using hdue
    exact h.resolve_left hne
  · next hdue => simpa [Timing.uptimeDue] using hdue

/-- A core period completes at most one more millisecond. -/
theorem coreTick_uptimeOk {s : State} (h : s.timing.uptime = wordOf (s.timing.core / Config.uptimePeriods)) :
    (coreTick s).uptimeOk := by
  have hnext : (s.timing.core + 1) / Config.uptimePeriods = s.timing.core / Config.uptimePeriods ∨
      (s.timing.core + 1) / Config.uptimePeriods = s.timing.core / Config.uptimePeriods + 1 := by
    simp only [Config.uptimePeriods]
    omega
  unfold State.uptimeOk
  simp only [coreTick, modTiming_fields]
  rcases hnext with hnext | hnext
  · exact .inl (by rw [hnext, h])
  · exact .inr (by rw [hnext, h, wordOf, wordOf, BitVec.ofNat_add]; rfl)

theorem takeUptime_timeOk {s : State} (h : s.timeOk) : (takeUptime s).timeOk := by
  unfold State.timeOk
  rw [takeUptime_timing]
  split
  · exact h
  · exact h

theorem coreTick_timeOk {s : State} (h : s.timeOk) : (coreTick s).timeOk := by
  obtain ⟨hrange, hintg, hfreq, hfmax, hadj⟩ := h
  have hbound : s.timing.adj.natAbs < 4294967296 := by
    rw [hadj]
    exact adjOf_bound (hfreq.trans (Nat.mul_le_mul_right _ hfmax))
  exact ⟨by simpa [coreTick] using advance_inRange hrange hbound, by simpa [coreTick] using hintg,
    by simpa [coreTick] using hfreq, by simpa [coreTick] using hfmax, by simpa [coreTick] using hadj⟩

theorem resetBlocks_timing (pin msel retain : Bool) (s : State) :
    (resetBlocks pin msel retain s).timing = Timing.reset := rfl

theorem timing_reset_ok {s : State} (h : s.timing = Timing.reset) : s.timeOk ∧ s.uptimeOk := by
  unfold State.timeOk State.uptimeOk CabTime.inRange
  rw [h]
  decide

/-- Settles O4: a run of the units keeps the counts and the ranges, and a core period adds to both what R85 and R87
say. -/
theorem stepKeepsTimeInRange : Obligations.StepKeepsTimeInRange := by
  refine stepKeeps_of_units ?_ (fun _ _ _ _ _ => timing_reset_ok rfl) ?_ ?_
  · intro s t h hs
    obtain ⟨htime, huptime⟩ := hs
    obtain ⟨hu, hcore, hok⟩ := unitStep_clockKept h
    exact ⟨hok htime, by unfold State.uptimeOk; rwa [hu, hcore]⟩
  · intro s hs
    obtain ⟨htime, huptime⟩ := hs
    exact ⟨takeUptime_timeOk htime, .inl (takeUptime_exact huptime)⟩
  · intro s u hs hrun hu
    obtain ⟨-, huptime⟩ := hs
    obtain ⟨hsame, hcore⟩ := unitRun_clock hrun
    exact ⟨coreTick_timeOk hu.1, coreTick_uptimeOk (by rw [hsame, hcore]; exact takeUptime_exact huptime)⟩

end Sys2Proof.Machine
end

section
/-! PROOFS. The loop state, the selection, the holdover timer and HOLDOVER agree, and captures follow the run counts
(R91, R95 to R98). -/

namespace Sys2Proof.Machine

/-! ## What the loop's operations leave of the timing unit -/

theorem changeLoop_timing (new : LoopState) (s : State) :
    (changeLoop new s).timing = { s.timing with loop := new } := by
  unfold changeLoop
  split
  · next h => rw [← h]
  · simp

@[simp] theorem changeLoop_isRaised (new : LoopState) (s : State) (c : Fin 64) (n : Nat) :
    (changeLoop new s).isRaised c n = s.isRaised c n := by
  unfold changeLoop
  split
  · rfl
  · simp [State.isRaised]

@[simp] theorem modTiming_isRaised (f : Timing → Timing) (s : State) (c : Fin 64) (n : Nat) :
    (s.modTiming f).isRaised c n = s.isRaised c n := by simp [State.isRaised]

@[simp] theorem setFreq_isRaised (intg freq : Int) (s : State) (c : Fin 64) (n : Nat) :
    (setFreq intg freq s).isRaised c n = s.isRaised c n := by simp [State.isRaised]

@[simp] theorem modRef_isRaised (r : RefId) (f : Reference → Reference) (s : State) (c : Fin 64) (n : Nat) :
    (modRef r f s).isRaised c n = s.isRaised c n := by simp [State.isRaised]

@[simp] theorem moveTime_isRaised (amount : Int) (s : State) (c : Fin 64) (n : Nat) :
    (moveTime amount s).isRaised c n = s.isRaised c n := by simp [State.isRaised]

theorem setFreq_timing (intg freq : Int) (s : State) :
    (setFreq intg freq s).timing =
      { s.timing with intg := intg, freq := freq, adj := adjOf s.timing.cfg.rounding freq } := by simp [setFreq]

theorem enterHoldover_timing (s : State) :
    (enterHoldover s).timing =
      { s.timing with
        freq := s.timing.intg, adj := adjOf s.timing.cfg.rounding s.timing.intg, lock := 0,
        holdover := some s.timing.uptime, loop := .holdover } := by
  simp [enterHoldover, changeLoop_timing, setFreq_timing]

theorem enterHoldover_raises (s : State) : (enterHoldover s).isRaised causeHoldover 0 = true := by
  simp [enterHoldover, isRaised_raiseCond]

/-- Outside FREE and HOLDOVER the holdover timer and HOLDOVER are left to stand as they do. -/
def State.holdingOver (s : State) : Bool := s.timing.loop == .free || s.timing.loop == .holdover

theorem enterAcquiring_timing (s : State) :
    (enterAcquiring s).timing =
      { s.timing with
        lock := 0, loop := .acquiring, holdover := if s.holdingOver then none else s.timing.holdover } := by
  unfold enterAcquiring State.holdingOver
  cases h : s.timing.loop <;> simp [changeLoop_timing, h]

theorem enterAcquiring_isRaised (s : State) : (enterAcquiring s).isRaised causeHoldover 0 =
    (!s.holdingOver && s.isRaised causeHoldover 0) := by
  have hfree : pairKey causeHoldover 0 ≠ pairKey causeFreeRun 0 := by decide
  unfold enterAcquiring State.holdingOver
  cases h : s.timing.loop <;> simp [isRaised_clearCond, hfree]

/-! ## The invariant (R91, R96 to R98) -/

/-- A selection names a qualified reference. -/
def State.selOk (s : State) : Prop := s.timing.sel ≠ .none → s.timing.selQualified s.timing.sel = true

/-- The loop state fits the selection, F, the holdover timer and HOLDOVER. -/
def State.loopFits (s : State) : Prop :=
  (s.timing.sel = .none ↔ s.timing.loop = .free ∨ s.timing.loop = .holdover) ∧
  (s.timing.sel = .none → s.timing.freq = s.timing.intg) ∧
  (s.timing.holdover.isSome ↔ s.timing.loop = .holdover) ∧
  (s.isRaised causeHoldover 0 = true ↔ s.timing.loop = .holdover)

theorem loopOk_iff (s : State) : s.loopOk ↔ s.loopFits ∧ s.selOk := by
  unfold State.loopOk State.loopFits State.selOk
  tauto

/-- With a reference selected: the loop is ACQUIRING or LOCKED, and nothing of holdover stands. -/
theorem loopFits_selected {s : State} (h : s.timing.sel ≠ .none) : s.loopFits ↔
    (s.timing.loop = .acquiring ∨ s.timing.loop = .locked) ∧ s.timing.holdover = none ∧
    s.isRaised causeHoldover 0 = false := by
  unfold State.loopFits
  cases hl : s.timing.loop <;> simp [h]

/-- What the loop's agreement speaks of is the same in two states. -/
def SameLoop (s t : State) : Prop :=
  t.timing.sel = s.timing.sel ∧ t.timing.loop = s.timing.loop ∧ t.timing.freq = s.timing.freq ∧
  t.timing.intg = s.timing.intg ∧ t.timing.holdover = s.timing.holdover ∧
  t.isRaised causeHoldover 0 = s.isRaised causeHoldover 0

theorem loopFits_of_same {s t : State} (h : SameLoop s t) (hs : s.loopFits) : t.loopFits := by
  obtain ⟨hsel, hloop, hfreq, hintg, hholdover, hraised⟩ := h
  unfold State.loopFits
  rwa [hsel, hloop, hfreq, hintg, hholdover, hraised]

theorem sameLoop_modRef (r : RefId) (f : Reference → Reference) (s : State) : SameLoop s (modRef r f s) := by
  refine ⟨?_, ?_, ?_, ?_, ?_, modRef_isRaised ..⟩ <;> cases r <;> rfl

/-! ## Selection (R95) -/

/-- The judgement of R95 names a qualified reference or none. -/
theorem judged_qualified (t : Timing) (h : t.judged ≠ .none) : t.selQualified t.judged = true := by
  unfold Timing.judged at h ⊢
  split
  · next hpref => simp [hpref] at h
  · split
    · next hkeep => exact (Bool.and_eq_true _ _ ▸ hkeep).2
    · split
      · next hpref => exact hpref
      · split
        · next hother => exact hother
        · next h1 h2 h3 h4 => simp [h1, h2, h3, h4] at h

theorem selQualified_of_refs {t u : Timing} (ha : u.refA = t.refA) (hb : u.refB = t.refB) (x : Sel) :
    u.selQualified x = t.selQualified x := by
  cases x <;> simp [Timing.selQualified, Timing.selected, ha, hb]

/-- What a judgement of the selection leaves of the timing unit. -/
theorem judgeSelection_timing (s : State) :
    (judgeSelection s).timing.sel = s.timing.judged ∧ (judgeSelection s).timing.refA = s.timing.refA ∧
    (judgeSelection s).timing.refB = s.timing.refB := by
  unfold judgeSelection
  dsimp only
  split
  · next h => exact ⟨h.symm, rfl, rfl⟩
  · split
    · split <;> simp_all [enterHoldover_timing]
    · simp [enterAcquiring_timing]

theorem judgeSelection_selOk (s : State) : (judgeSelection s).selOk := by
  obtain ⟨hsel, ha, hb⟩ := judgeSelection_timing s
  intro hne
  rw [selQualified_of_refs ha hb, hsel]
  exact judged_qualified _ (hsel ▸ hne)

/-- A change of the selection is followed by the change of the loop state that belongs to it. -/
theorem judgeSelection_loopFits {s : State} (h : s.loopFits) : (judgeSelection s).loopFits := by
  obtain ⟨hnone, hfreq, htimer, hraised⟩ := h
  unfold judgeSelection
  dsimp only
  split
  · exact ⟨hnone, hfreq, htimer, hraised⟩
  · next hchanged =>
    split
    · next hnew =>
      have hsel : s.timing.sel ≠ .none := fun e => hchanged (hnew.trans e.symm)
      obtain ⟨hloop, -, -⟩ := (loopFits_selected hsel).mp ⟨hnone, hfreq, htimer, hraised⟩
      split
      · simp [State.loopFits, enterHoldover_timing, enterHoldover_raises, hnew]
      · simp [State.loopFits, enterHoldover_timing, enterHoldover_raises, hnew]
      · next hacq hlocked => simp_all
    · next hnew =>
      have hfit : s.holdingOver = false → s.timing.holdover = none ∧ s.isRaised causeHoldover 0 = false := by
        intro hover
        cases hl : s.timing.loop <;> simp_all [State.holdingOver]
      rw [loopFits_selected (by simpa [enterAcquiring_timing] using hnew)]
      have hsame (p : Word) : (postEvent causeReferenceSwitch 0 p
          (s.modTiming (fun t => { t with sel := s.timing.judged }))).holdingOver = s.holdingOver := by
        simp [State.holdingOver]
      cases hover : s.holdingOver with
      | true => simp [enterAcquiring_timing, enterAcquiring_isRaised, hsame, hover]
      | false =>
        obtain ⟨htimer, hraised⟩ := hfit hover
        simp [enterAcquiring_timing, enterAcquiring_isRaised, hsame, hover, htimer, hraised]

theorem judgeSelection_loopOk {s : State} (h : s.loopFits) : (judgeSelection s).loopOk :=
  (loopOk_iff _).mpr ⟨judgeSelection_loopFits h, judgeSelection_selOk s⟩

/-! ## Loss and qualification of a reference (R92, R93) -/

theorem timing_ref_setRef (t : Timing) (r q : RefId) (x : Reference) :
    (t.setRef r x).ref q = if q = r then x else t.ref q := by
  cases r <;> cases q <;> rfl

theorem selQualified_refSel (t : Timing) (r : RefId) : t.selQualified (refSel r) = (t.ref r).qualified := by
  cases r <;> rfl

theorem sel_cases (x : Sel) : x = .none ∨ ∃ r, x = refSel r := by
  cases x
  · exact .inr ⟨.a, rfl⟩
  · exact .inr ⟨.b, rfl⟩
  · exact .inl rfl

/-- Changes of a reference that leave its qualification alone leave the selection qualified. -/
theorem modRef_selOk {r : RefId} {f : Reference → Reference} {s : State}
    (hf : (f (s.timing.ref r)).qualified = (s.timing.ref r).qualified) (h : s.selOk) : (modRef r f s).selOk := by
  have hqual (x : Sel) : (modRef r f s).timing.selQualified x = s.timing.selQualified x := by
    rcases sel_cases x with rfl | ⟨q, rfl⟩
    · rfl
    · simp only [selQualified_refSel, modRef, modTiming_fields, timing_ref_setRef]
      split
      · next e => rw [e, hf]
      · rfl
  intro hne
  rw [hqual]
  rw [(sameLoop_modRef r f s).1] at hne ⊢
  exact h hne

theorem modRef_loopOk {r : RefId} {f : Reference → Reference} {s : State}
    (hf : (f (s.timing.ref r)).qualified = (s.timing.ref r).qualified) (h : s.loopOk) : (modRef r f s).loopOk := by
  obtain ⟨hfits, hsel⟩ := (loopOk_iff s).mp h
  exact (loopOk_iff _).mpr ⟨loopFits_of_same (sameLoop_modRef r f s) hfits, modRef_selOk hf hsel⟩

/-- What the loop's agreement speaks of, the references among it, is the same in two states. -/
def SameLoopRefs (s t : State) : Prop :=
  t.timing = s.timing ∧ t.isRaised causeHoldover 0 = s.isRaised causeHoldover 0

theorem loopOk_of_same {s t : State} (h : SameLoopRefs s t) (hs : s.loopOk) : t.loopOk := by
  obtain ⟨htiming, hraised⟩ := h
  unfold State.loopOk
  rwa [htiming, hraised]

theorem loopFits_report {s t : State} (htiming : t.timing = s.timing)
    (hraised : t.isRaised causeHoldover 0 = s.isRaised causeHoldover 0) (hs : s.loopFits) : t.loopFits := by
  unfold State.loopFits
  rwa [htiming, hraised]

/-- A report of another cause leaves HOLDOVER as it stands. -/
theorem isRaised_raiseCond_other {c d : Fin 64} {n m : Nat} {p : Word} {s : State} (hne : d ≠ c) (hn : n < 64)
    (hm : m < 64) : (raiseCond c n p s).isRaised d m = s.isRaised d m := by
  simp [isRaised_raiseCond, pairKey_inj hm hn, hne]

theorem isRaised_clearCond_other {c d : Fin 64} {n m : Nat} {p : Word} {s : State} (hne : d ≠ c) (hn : n < 64)
    (hm : m < 64) : (clearCond c n p s).isRaised d m = s.isRaised d m := by
  simp [isRaised_clearCond, pairKey_inj hm hn, hne]

theorem raiseCond_loopOk {c : Fin 64} {n : Nat} {p : Word} {s : State} (hc : c ≠ causeHoldover) (hn : n < 64)
    (h : s.loopOk) : (raiseCond c n p s).loopOk :=
  loopOk_of_same ⟨by simp, isRaised_raiseCond_other (Ne.symm hc) hn (by omega)⟩ h

theorem clearCond_loopOk {c : Fin 64} {n : Nat} {p : Word} {s : State} (hc : c ≠ causeHoldover) (hn : n < 64)
    (h : s.loopOk) : (clearCond c n p s).loopOk :=
  loopOk_of_same ⟨by simp, isRaised_clearCond_other (Ne.symm hc) hn (by omega)⟩ h

theorem qualify_loopOk {r : RefId} {s : State} (h : s.loopOk) : (qualify r s).loopOk := by
  have hfits := loopFits_of_same (sameLoop_modRef r (fun x => { x with qualified := true }) s) ((loopOk_iff s).mp h).1
  exact judgeSelection_loopOk (loopFits_report (by simp)
    (isRaised_clearCond_other (by decide) (refNum_lt r) (by omega)) hfits)

/-- A reference that was not qualified is not the selected one, so that its loss leaves the selection qualified. -/
theorem loseReference_loopOk {r : RefId} {s : State} (h : s.loopOk) : (loseReference r s).loopOk := by
  unfold loseReference
  dsimp only
  split
  · have hfits := loopFits_of_same
      (sameLoop_modRef r (fun x => { x with qualified := false, run := 0, last := none, staged := none }) s)
      ((loopOk_iff s).mp h).1
    exact judgeSelection_loopOk (loopFits_report (by simp)
      (isRaised_raiseCond_other (by decide) (refNum_lt r) (by omega)) hfits)
  · next hq => exact raiseCond_loopOk (by decide) (refNum_lt r) (modRef_loopOk (by simpa using hq) h)

/-! ## Processing a pulse (R99 to R106) -/

/-- A reference is selected and the loop agrees with it. -/
def State.disciplined (s : State) : Prop := s.timing.sel ≠ .none ∧ s.loopOk

theorem disciplined_iff (s : State) : s.disciplined ↔
    (s.timing.sel ≠ .none ∧ s.timing.selQualified s.timing.sel = true) ∧
    (s.timing.loop = .acquiring ∨ s.timing.loop = .locked) ∧ s.timing.holdover = none ∧
    s.isRaised causeHoldover 0 = false := by
  unfold State.disciplined
  rw [loopOk_iff]
  constructor
  · rintro ⟨hsel, hfits, hqual⟩
    exact ⟨⟨hsel, hqual hsel⟩, (loopFits_selected hsel).mp hfits⟩
  · rintro ⟨⟨hsel, hqual⟩, hrest⟩
    exact ⟨hsel, (loopFits_selected hsel).mpr hrest, fun _ => hqual⟩

/-- What a state with a reference selected is judged by, but for F and I, is the same. -/
def SameSelected (s t : State) : Prop :=
  t.timing.sel = s.timing.sel ∧ (∀ x, t.timing.selQualified x = s.timing.selQualified x) ∧
  t.timing.loop = s.timing.loop ∧ t.timing.holdover = s.timing.holdover ∧
  t.isRaised causeHoldover 0 = s.isRaised causeHoldover 0

theorem disciplined_of_same {s t : State} (h : SameSelected s t) (hs : s.disciplined) : t.disciplined := by
  obtain ⟨hsel, hqual, hloop, htimer, hraised⟩ := h
  rw [disciplined_iff] at hs ⊢
  rwa [hsel, hqual, hloop, htimer, hraised]

theorem changeLoop_disciplined {new : LoopState} {s : State} (hnew : new = .acquiring ∨ new = .locked)
    (h : s.disciplined) : (changeLoop new s).disciplined := by
  rw [disciplined_iff] at h ⊢
  obtain ⟨hsel, -, hrest⟩ := h
  rw [changeLoop_timing, changeLoop_isRaised]
  exact ⟨hsel, hnew, hrest⟩

theorem setFreq_disciplined {intg freq : Int} {s : State} (h : s.disciplined) : (setFreq intg freq s).disciplined :=
  disciplined_of_same (s := s) ⟨rfl, fun _ => rfl, rfl, rfl, setFreq_isRaised ..⟩ h

theorem postEvent_disciplined {c : Fin 64} {n : Nat} {p : Word} {s : State} (h : s.disciplined) :
    (postEvent c n p s).disciplined :=
  disciplined_of_same ⟨by simp, fun _ => by simp, by simp, by simp, by simp⟩ h

theorem setLock_disciplined {n : Nat} {s : State} (h : s.disciplined) :
    (s.modTiming (fun t => { t with lock := n })).disciplined :=
  disciplined_of_same (s := s) ⟨rfl, fun _ => rfl, rfl, rfl, modTiming_isRaised ..⟩ h

theorem modRef_disciplined {r : RefId} {f : Reference → Reference} {s : State}
    (hf : (f (s.timing.ref r)).qualified = (s.timing.ref r).qualified) (h : s.disciplined) :
    (modRef r f s).disciplined := by
  obtain ⟨hsel, hok⟩ := h
  exact ⟨by rwa [(sameLoop_modRef r f s).1], modRef_loopOk hf hok⟩

/-- What a move of cabinet time leaves of the timing unit. -/
theorem moveTimeTo_timing (v : CabTime) (amount : Int) (s : State) :
    (moveTimeTo v amount s).timing =
      { s.timing with
        time := v, refA := { s.timing.refA with last := s.timing.refA.last.map (fun c => c.move amount) },
        refB := { s.timing.refB with last := s.timing.refB.last.map (fun c => c.move amount) } } := by
  simp [moveTimeTo]

theorem moveTimeTo_loopOk {v : CabTime} {amount : Int} {s : State} (h : s.loopOk) : (moveTimeTo v amount s).loopOk := by
  have hqual (x : Sel) : (moveTimeTo v amount s).timing.selQualified x = s.timing.selQualified x := by
    rw [moveTimeTo_timing]; cases x <;> rfl
  unfold State.loopOk at h ⊢
  rw [hqual, show (moveTimeTo v amount s).isRaised causeHoldover 0 = s.isRaised causeHoldover 0 by
    simp [State.isRaised], moveTimeTo_timing]
  exact h

theorem moveTime_disciplined {amount : Int} {s : State} (h : s.disciplined) : (moveTime amount s).disciplined := by
  obtain ⟨hsel, hok⟩ := h
  exact ⟨by rwa [moveTime, moveTimeTo_timing], moveTimeTo_loopOk hok⟩

theorem checkSeconds_disciplined {r : RefId} {n : Nat} {s : State} (h : s.disciplined) :
    (checkSeconds r n s).disciplined := by
  unfold checkSeconds
  split
  · exact h
  · dsimp only
    split
    · exact modRef_disciplined rfl h
    · exact postEvent_disciplined (moveTime_disciplined (modRef_disciplined rfl h))

theorem stepTime_disciplined {lag : Int} {s : State} (h : s.disciplined) : (stepTime lag s).disciplined :=
  setLock_disciplined (postEvent_disciplined (setFreq_disciplined (moveTime_disciplined h)))

theorem slew_disciplined {lag : Int} {s : State} (h : s.disciplined) : (slew lag s).disciplined := by
  unfold slew
  dsimp only
  split
  · exact setFreq_disciplined h
  · exact postEvent_disciplined (setFreq_disciplined h)

theorem lockAfterStep_disciplined {lag : Int} {s : State} (h : s.disciplined) : (lockAfterStep lag s).disciplined := by
  unfold lockAfterStep
  split
  · exact changeLoop_disciplined (.inl rfl) h
  · exact h

theorem lockAfterSlew_disciplined {lag : Int} {s : State} (h : s.disciplined) : (lockAfterSlew lag s).disciplined := by
  unfold lockAfterSlew
  split
  · dsimp only
    split
    · exact changeLoop_disciplined (.inr rfl) (setLock_disciplined h)
    · exact setLock_disciplined h
  · dsimp only
    split
    · exact changeLoop_disciplined (.inl rfl) (setLock_disciplined h)
    · exact setLock_disciplined h

theorem processPulse_disciplined {r : RefId} {c : CabTime} {s : State} (h : s.disciplined) :
    (processPulse r c s).disciplined := by
  unfold processPulse
  dsimp only
  split
  · exact lockAfterStep_disciplined (stepTime_disciplined (checkSeconds_disciplined h))
  · exact lockAfterSlew_disciplined (slew_disciplined (checkSeconds_disciplined h))

/-- The selected reference is qualified, so that its pulse is processed under the selection it found. -/
theorem acceptPulse_loopOk {r : RefId} {c : CabTime} {run : Nat} {s : State} (h : s.loopOk) :
    (acceptPulse r c run s).loopOk := by
  have hmod : (modRef r (fun x => { x with run := run, last := some c }) s).loopOk := modRef_loopOk rfl h
  unfold acceptPulse
  dsimp only
  split
  · next hsel =>
    have hne : s.timing.sel ≠ .none := by rw [hsel]; cases r <;> decide
    have hqual : (s.timing.ref r).qualified = true := by
      rw [← selQualified_refSel, ← hsel]
      exact ((loopOk_iff s).mp h).2 hne
    have hcapture : (modRef r (fun x => { x with run := run, last := some c }) s).disciplined :=
      modRef_disciplined rfl ⟨hne, h⟩
    rw [hqual]
    exact (processPulse_disciplined hcapture).2
  · refine modRef_loopOk rfl ?_
    split
    · exact qualify_loopOk hmod
    · exact hmod

theorem judgePulse_loopOk {r : RefId} {s : State} (h : s.loopOk) : (judgePulse r s).loopOk := by
  unfold judgePulse
  dsimp only
  split
  · exact acceptPulse_loopOk h
  · split
    · exact modRef_loopOk rfl h
    · split
      · exact acceptPulse_loopOk h
      · exact acceptPulse_loopOk h

end Sys2Proof.Machine
end

section
/-! PROOFS. The loop's agreement and the captures over writes, restarts and every step of the units
(R89, R91, R94, R98, R107 to R109). -/

namespace Sys2Proof.Machine

/-! ## Writes, restarts and the end of holdover -/

theorem setFreq_loopOk {intg freq : Int} {s : State} (h : s.loopOk) (hsame : s.timing.sel = .none → freq = intg) :
    (setFreq intg freq s).loopOk := by
  obtain ⟨hnone, -, hrest⟩ := (loopOk_iff s).mp h |>.1
  refine (loopOk_iff _).mpr ⟨⟨hnone, hsame, ?_⟩, ((loopOk_iff s).mp h).2⟩
  rw [setFreq_isRaised]
  exact hrest

theorem loopOk_freq {s : State} (h : s.loopOk) (hsel : s.timing.sel = .none) : s.timing.freq = s.timing.intg :=
  ((loopOk_iff s).mp h).1.2.1 hsel

theorem loopJudged_loopOk {c : LoopSettings} {s : State} (h : s.loopOk) : (loopJudged c s).loopOk := by
  have hcfg : (s.modTiming (fun t => { t with cfg := c })).loopOk := h
  unfold loopJudged
  split
  · exact judgeSelection_loopOk ((loopOk_iff _).mp hcfg).1
  · exact hcfg

/-- Equal values are clamped to equal values. -/
theorem loopClamped_loopOk {c : LoopSettings} {old : Nat} {s : State} (h : s.loopOk) : (loopClamped c old s).loopOk := by
  unfold loopClamped
  split
  · have hset : (setFreq (clampTo c.bound s.timing.intg) (clampTo c.bound s.timing.freq) s).loopOk :=
      setFreq_loopOk h (fun hsel => by rw [loopOk_freq h hsel])
    exact loopOk_of_same ⟨by simp, by simp⟩ hset
  · exact h

theorem writeLoop_loopOk {c : LoopSettings} {s : State} (h : s.loopOk) : (writeLoop c s).loopOk := by
  have hclamped : (loopClamped c s.timing.cfg.fmax (loopJudged c s)).loopOk := loopClamped_loopOk (loopJudged_loopOk h)
  rw [writeLoop_eq]
  dsimp only
  split
  · exact setFreq_loopOk hclamped (loopOk_freq hclamped)
  · exact hclamped

theorem writeRef_loopOk {r : RefId} {c : RefSettings} {s : State} (h : s.loopOk) : (writeRef r c s).loopOk := by
  unfold writeRef
  dsimp only
  split
  · exact judgeSelection_loopOk (loopFits_of_same (sameLoop_modRef r _ s) ((loopOk_iff s).mp h).1)
  · exact modRef_loopOk rfl h

theorem endHoldover_loopOk {s : State} (h : s.loopOk) (hdue : s.holdoverDue = true) : (endHoldover s).loopOk := by
  have hloop : s.timing.loop = .holdover := by
    unfold State.holdoverDue at hdue
    split at hdue
    · assumption
    · cases hdue
  obtain ⟨⟨hnone, hfreq, -⟩, -⟩ := (loopOk_iff s).mp h
  have hsel : s.timing.sel = .none := hnone.mpr (.inr hloop)
  have hother : pairKey causeHoldover 0 ≠ pairKey causeFreeRun 0 := by decide
  simp [endHoldover, State.loopOk, changeLoop_timing, isRaised_raiseCond, isRaised_clearCond, hother, hsel, hfreq hsel]

/-- What a TIMING-RESTART leaves of the timing unit (R109). -/
theorem timingRestart_timing (s : State) :
    (timingRestart s).timing =
      { s.timing with
        refA := Reference.fresh s.timing.refA.cfg, refB := Reference.fresh s.timing.refB.cfg, intg := 0, freq := 0,
        adj := 0, lock := 0, holdover := none, sel := .none, loop := .free } := by
  unfold timingRestart
  dsimp only
  split
  · next h => simp [changeLoop_timing, h]
  · simp [changeLoop_timing]

theorem reschedule_isRaised (s : State) (c : Fin 64) (n : Nat) : (reschedule s).isRaised c n = s.isRaised c n := by
  simp [State.isRaised]

theorem timingRestart_isRaised (s : State) : (timingRestart s).isRaised causeHoldover 0 = false := by
  have hother : pairKey causeHoldover 0 ≠ pairKey causeFreeRun 0 := by decide
  simp [timingRestart, reschedule_isRaised, isRaised_clearCond, hother]

theorem timingRestart_loopOk (s : State) : (timingRestart s).loopOk := by
  unfold State.loopOk
  rw [timingRestart_isRaised, timingRestart_timing]
  simp

theorem stageTimeOfDay_loopOk {i : Slot} {ws : List Word} {s : State} (h : s.loopOk) :
    (stageTimeOfDay i ws s).loopOk := by
  unfold stageTimeOfDay
  split
  · next w0 w1 _ =>
    obtain ⟨hfits, hsel⟩ := (loopOk_iff s).mp h
    refine (loopOk_iff _).mpr ⟨hfits, fun hne => ?_⟩
    rw [← hsel hne]
    simp only [modTiming_fields]
    cases s.timing.sel <;> simp [Timing.selQualified, Timing.selected] <;> split <;> rfl
  · exact h

/-! ## Captures (R91) -/

/-- Each reference keeps its run count, and a capture where it had one. -/
def SameRuns (s t : State) : Prop :=
  ∀ r, (t.timing.ref r).run = (s.timing.ref r).run ∧
    ((t.timing.ref r).last = none ↔ (s.timing.ref r).last = none)

section Runs

variable {s₀ s t : State}

theorem SameRuns.refl (s : State) : SameRuns s s := fun _ => ⟨rfl, .rfl⟩

theorem SameRuns.trans {u : State} (h : SameRuns s t) (g : SameRuns t u) : SameRuns s u :=
  fun r => ⟨(g r).1.trans (h r).1, (g r).2.trans (h r).2⟩

theorem SameRuns.frame (h : SameRuns s₀ s) (hsame : t.timing.refA = s.timing.refA ∧ t.timing.refB = s.timing.refB) :
    SameRuns s₀ t := by
  obtain ⟨ha, hb⟩ := hsame
  refine h.trans fun r => ?_
  cases r
  · exact ⟨by rw [Timing.ref, ha]; rfl, by rw [Timing.ref, ha]; rfl⟩
  · exact ⟨by rw [Timing.ref, hb]; rfl, by rw [Timing.ref, hb]; rfl⟩

theorem capturesOk_of_sameRuns (h : SameRuns s t) (hs : s.capturesOk) : t.capturesOk := by
  intro r
  obtain ⟨hrun, hlast⟩ := h r
  rw [hlast, hrun]
  exact hs r

theorem modRef_sameRuns {r : RefId} {f : Reference → Reference} (h : SameRuns s₀ s)
    (hf : (f (s.timing.ref r)).run = (s.timing.ref r).run ∧ (f (s.timing.ref r)).last = (s.timing.ref r).last) :
    SameRuns s₀ (modRef r f s) := by
  obtain ⟨hrun, hlast⟩ := hf
  refine h.trans fun q => ?_
  simp only [modRef, modTiming_fields, timing_ref_setRef]
  split
  · next e => exact ⟨by rw [hrun, e], by rw [hlast, e]⟩
  · exact ⟨rfl, .rfl⟩

theorem judgeSelection_sameRuns (h : SameRuns s₀ s) : SameRuns s₀ (judgeSelection s) :=
  h.frame (judgeSelection_timing s).2

theorem changeLoop_sameRuns {new : LoopState} (h : SameRuns s₀ s) : SameRuns s₀ (changeLoop new s) :=
  h.frame (by simp [changeLoop_timing])

theorem postEvent_sameRuns {c : Fin 64} {n : Nat} {p : Word} (h : SameRuns s₀ s) : SameRuns s₀ (postEvent c n p s) :=
  h.frame (by simp)

theorem setFreq_sameRuns {intg freq : Int} (h : SameRuns s₀ s) : SameRuns s₀ (setFreq intg freq s) :=
  h.frame (by simp [setFreq_timing])

theorem moveTimeTo_sameRuns {v : CabTime} {amount : Int} (h : SameRuns s₀ s) : SameRuns s₀ (moveTimeTo v amount s) := by
  refine h.trans fun r => ?_
  rw [moveTimeTo_timing]
  cases r <;> simp [Timing.ref]

theorem qualify_sameRuns {r : RefId} (h : SameRuns s₀ s) : SameRuns s₀ (qualify r s) :=
  have hmod : SameRuns s₀ (modRef r (fun x => { x with qualified := true }) s) := modRef_sameRuns h ⟨rfl, rfl⟩
  judgeSelection_sameRuns (hmod.frame (by simp))

theorem checkSeconds_sameRuns {r : RefId} {n : Nat} (h : SameRuns s₀ s) : SameRuns s₀ (checkSeconds r n s) := by
  unfold checkSeconds
  split
  · exact h
  · dsimp only
    split
    · exact modRef_sameRuns h ⟨rfl, rfl⟩
    · exact postEvent_sameRuns (moveTimeTo_sameRuns (modRef_sameRuns h ⟨rfl, rfl⟩))

theorem stepTime_sameRuns {lag : Int} (h : SameRuns s₀ s) : SameRuns s₀ (stepTime lag s) := by
  have hmove : SameRuns s₀ (postEvent causeTimeStep 0 (wordOfInt lag)
      (setFreq s.timing.intg s.timing.intg (moveTime (nsUnits lag) s))) :=
    postEvent_sameRuns (setFreq_sameRuns (moveTimeTo_sameRuns h))
  exact hmove.frame (by simp [stepTime])

theorem slew_sameRuns {lag : Int} (h : SameRuns s₀ s) : SameRuns s₀ (slew lag s) := by
  unfold slew
  dsimp only
  split
  · exact setFreq_sameRuns h
  · exact postEvent_sameRuns (setFreq_sameRuns h)

theorem lockAfterStep_sameRuns {lag : Int} (h : SameRuns s₀ s) : SameRuns s₀ (lockAfterStep lag s) := by
  unfold lockAfterStep
  split
  · exact changeLoop_sameRuns h
  · exact h

theorem lockAfterSlew_sameRuns {lag : Int} (h : SameRuns s₀ s) : SameRuns s₀ (lockAfterSlew lag s) := by
  have hlock (n : Nat) : SameRuns s₀ (s.modTiming (fun t => { t with lock := n })) := h.frame (by simp)
  unfold lockAfterSlew
  dsimp only
  split
  · split
    · exact changeLoop_sameRuns (hlock _)
    · exact hlock _
  · split
    · exact changeLoop_sameRuns (hlock _)
    · exact hlock _

theorem processPulse_sameRuns {r : RefId} {c : CabTime} (h : SameRuns s₀ s) : SameRuns s₀ (processPulse r c s) := by
  unfold processPulse
  dsimp only
  split
  · exact lockAfterStep_sameRuns (stepTime_sameRuns (checkSeconds_sameRuns h))
  · exact lockAfterSlew_sameRuns (slew_sameRuns (checkSeconds_sameRuns h))

end Runs

/-- A reference whose run count and capture are written together. -/
theorem modRef_capturesOk {r : RefId} {f : Reference → Reference} {s : State} (h : s.capturesOk)
    (hf : (f (s.timing.ref r)).last = none ↔ (f (s.timing.ref r)).run = 0) : (modRef r f s).capturesOk := by
  intro q
  simp only [modRef, modTiming_fields, timing_ref_setRef]
  split
  · exact hf
  · exact h q

theorem acceptPulse_capturesOk {r : RefId} {c : CabTime} {run : Nat} {s : State} (h : s.capturesOk) (hrun : run ≠ 0) :
    (acceptPulse r c run s).capturesOk := by
  have hcapture : (modRef r (fun x => { x with run := run, last := some c }) s).capturesOk :=
    modRef_capturesOk h (by simp [hrun])
  have hjudged {p : Prop} [Decidable p] :
      SameRuns (modRef r (fun x => { x with run := run, last := some c }) s)
        (if p then qualify r (modRef r (fun x => { x with run := run, last := some c }) s)
          else modRef r (fun x => { x with run := run, last := some c }) s) := by
    split
    · exact qualify_sameRuns (.refl _)
    · exact .refl _
  unfold acceptPulse
  dsimp only
  split
  · exact capturesOk_of_sameRuns (processPulse_sameRuns hjudged) hcapture
  · exact capturesOk_of_sameRuns (modRef_sameRuns hjudged ⟨rfl, rfl⟩) hcapture

theorem judgePulse_capturesOk {r : RefId} {s : State} (h : s.capturesOk) : (judgePulse r s).capturesOk := by
  unfold judgePulse
  dsimp only
  split
  · exact acceptPulse_capturesOk h (by omega)
  · split
    · exact capturesOk_of_sameRuns (modRef_sameRuns (.refl s) ⟨rfl, rfl⟩) h
    · split
      · exact acceptPulse_capturesOk h (by simp [Nat.min_def]; split <;> omega)
      · exact acceptPulse_capturesOk h (by omega)

theorem loseReference_capturesOk {r : RefId} {s : State} (h : s.capturesOk) : (loseReference r s).capturesOk := by
  have hmod : (modRef r (fun x => { x with qualified := false, run := 0, last := none, staged := none }) s).capturesOk :=
    modRef_capturesOk h (by simp)
  have hloss (p : Word) : (raiseCond causeRefLoss (refNum r) p
      (modRef r (fun x => { x with qualified := false, run := 0, last := none, staged := none }) s)).capturesOk :=
    capturesOk_of_sameRuns ((SameRuns.refl _).frame (by simp)) hmod
  unfold loseReference
  dsimp only
  split
  · exact capturesOk_of_sameRuns (judgeSelection_sameRuns (.refl _)) (hloss _)
  · exact hloss _

theorem writeRef_capturesOk {r : RefId} {c : RefSettings} {s : State} (h : s.capturesOk) :
    (writeRef r c s).capturesOk := by
  unfold writeRef
  dsimp only
  split
  · exact capturesOk_of_sameRuns (judgeSelection_sameRuns (.refl _))
      (modRef_capturesOk h (by simp [Reference.fresh]))
  · exact capturesOk_of_sameRuns (modRef_sameRuns (.refl s) ⟨rfl, rfl⟩) h

theorem writeLoop_sameRuns {c : LoopSettings} {s : State} : SameRuns s (writeLoop c s) := by
  have hjudged : SameRuns s (loopJudged c s) := by
    unfold loopJudged
    split
    · exact judgeSelection_sameRuns ((SameRuns.refl s).frame (by simp))
    · exact (SameRuns.refl s).frame (by simp)
  have hclamped : SameRuns s (loopClamped c s.timing.cfg.fmax (loopJudged c s)) := by
    unfold loopClamped
    split
    · exact postEvent_sameRuns (setFreq_sameRuns hjudged)
    · exact hjudged
  rw [writeLoop_eq]
  dsimp only
  split
  · exact setFreq_sameRuns hclamped
  · exact hclamped

theorem timingRestart_capturesOk (s : State) : (timingRestart s).capturesOk := by
  intro r
  rw [timingRestart_timing]
  cases r <;> simp [Timing.ref, Reference.fresh]

theorem stageTimeOfDay_sameRuns {i : Slot} {ws : List Word} {s : State} : SameRuns s (stageTimeOfDay i ws s) := by
  unfold stageTimeOfDay
  split
  · intro r
    cases r <;> simp only [modTiming_fields, Timing.ref] <;> split <;> exact ⟨rfl, .rfl⟩
  · exact .refl s

theorem endHoldover_sameRuns {s : State} : SameRuns s (endHoldover s) :=
  (SameRuns.refl s).frame (by simp [endHoldover, changeLoop_timing])

/-! ## Every step of the units -/

theorem unitStep_capturesOk {s t : State} (h : UnitStep s t) (hs : s.capturesOk) : t.capturesOk := by
  cases h with
  | same h => exact capturesOk_of_sameRuns ((SameRuns.refl s).frame (by rw [h.1]; exact ⟨rfl, rfl⟩)) hs
  | entry | raise | clear | alloc | release | stored | memory | reserve | emptied | resize | marks | fabric =>
    exact capturesOk_of_sameRuns ((SameRuns.refl s).frame (by simp)) hs
  | pulse => exact judgePulse_capturesOk hs
  | loss => exact loseReference_capturesOk hs
  | holdoverEnd => exact capturesOk_of_sameRuns endHoldover_sameRuns hs
  | loop => exact capturesOk_of_sameRuns writeLoop_sameRuns hs
  | record => exact writeRef_capturesOk hs
  | restart => exact timingRestart_capturesOk s
  | setTime => exact capturesOk_of_sameRuns (moveTimeTo_sameRuns (.refl s)) hs
  | setFreq => exact capturesOk_of_sameRuns (setFreq_sameRuns (.refl s)) hs
  | stage => exact capturesOk_of_sameRuns stageTimeOfDay_sameRuns hs

/-- POOL-LOW is another cause than HOLDOVER. -/
theorem poolJudge_isRaised (s : State) : (poolJudge s).isRaised causeHoldover 0 = s.isRaised causeHoldover 0 := by
  unfold poolJudge
  split
  · split
    · exact isRaised_clearCond_other (by decide) (by omega) (by omega)
    · rfl
  · split
    · exact isRaised_raiseCond_other (by decide) (by omega) (by omega)
    · rfl

theorem releaseHold_isRaised (pid : Nat) (s : State) :
    (releaseHold pid s).isRaised causeHoldover 0 = s.isRaised causeHoldover 0 := by
  unfold releaseHold
  split
  · rfl
  · split
    · rw [poolJudge_isRaised]; simp [State.isRaised]
    · simp [State.isRaised]

theorem unitStep_loopOk {s t : State} (h : UnitStep s t) (hs : s.loopOk) : t.loopOk := by
  cases h with
  | same h =>
    obtain ⟨htiming, -, -, -, -, hraised, -⟩ := h
    exact loopOk_of_same ⟨htiming, by rw [State.isRaised, hraised]; rfl⟩ hs
  | entry | stored | memory | reserve | emptied | resize => exact loopOk_of_same ⟨by simp, by simp [State.isRaised]⟩ hs
  | raise c n p s hc hn => exact raiseCond_loopOk hc.2 hn hs
  | clear c n p s hc hn => exact clearCond_loopOk hc.2 hn hs
  | alloc => exact loopOk_of_same ⟨by simp, poolJudge_isRaised _⟩ hs
  | release pid => exact loopOk_of_same ⟨by simp, releaseHold_isRaised pid s⟩ hs
  | marks => exact loopOk_of_same ⟨by simp, poolJudge_isRaised _⟩ hs
  | fabric => exact loopOk_of_same ⟨by simp, isRaised_clearCond_other (by decide) (by omega) (by omega)⟩ hs
  | pulse => exact judgePulse_loopOk hs
  | loss => exact loseReference_loopOk hs
  | holdoverEnd _ hdue => exact endHoldover_loopOk hs hdue
  | loop => exact writeLoop_loopOk hs
  | record => exact writeRef_loopOk hs
  | restart => exact timingRestart_loopOk s
  | setTime => exact moveTimeTo_loopOk hs
  | setFreq => exact setFreq_loopOk hs (fun _ => rfl)
  | stage => exact stageTimeOfDay_loopOk hs

theorem resetBlocks_loopOk (pin msel retain : Bool) (s : State) :
    (resetBlocks pin msel retain s).loopOk ∧ (resetBlocks pin msel retain s).capturesOk := by
  have hraised : (resetBlocks pin msel retain s).isRaised causeHoldover 0 = false := rfl
  refine ⟨?_, fun r => ?_⟩
  · unfold State.loopOk
    rw [hraised, resetBlocks_timing]
    decide
  · rw [resetBlocks_timing]
    cases r <;> decide

theorem takeUptime_sameLoopRefs (s : State) : (s.loopOk → (takeUptime s).loopOk) ∧ SameRuns s (takeUptime s) := by
  have hraised : (takeUptime s).isRaised causeHoldover 0 = s.isRaised causeHoldover 0 := by simp [State.isRaised]
  refine ⟨?_, (SameRuns.refl s).frame ?_⟩
  · unfold State.loopOk
    rw [hraised, takeUptime_timing]
    split
    · exact id
    · exact id
  · rw [takeUptime_timing]
    split <;> exact ⟨rfl, rfl⟩

/-- Settles O5: the loop state moves with the selection, which R95 judges after each change of what it is judged by. -/
theorem stepKeepsLoop : Obligations.StepKeepsLoop := by
  refine stepKeeps_of_units (fun h hs => ⟨unitStep_loopOk h hs.1, unitStep_capturesOk h hs.2⟩)
    (fun pin msel retain s _ => resetBlocks_loopOk pin msel retain s) ?_ (fun _ _ _ _ h => h)
  intro s hs
  obtain ⟨hloop, hruns⟩ := takeUptime_sameLoopRefs s
  exact ⟨hloop hs.1, capturesOk_of_sameRuns hruns hs.2⟩

end Sys2Proof.Machine
end

section
/-! PROOFS. A step is the effect of its command, and the state after POWER-ON meets every invariant. -/

namespace Sys2Proof.Machine

/-- Settles O1: a step with a command waiting is the dispatch on it. -/
theorem stepRunsFront : Obligations.StepRunsFront := by
  intro c rest s h
  unfold step
  rw [h]
  rfl

/-- Every slot after POWER-ON is a slot in its reset state; slot 0 has auto-power. -/
theorem reset_slot (i : Slot) :
    State.reset.slot i = SlotState.reset (decide (i = 0)) (Ctl.reset false false false false false) := by
  revert i
  decide

theorem reset_isRaised (c : Fin 64) (n : Nat) : State.reset.isRaised c n = false := rfl

theorem reset_parcel (pid : Nat) : State.reset.parcel pid = none := rfl

theorem reset_holdCount (pid : Nat) : State.reset.holdCount pid = 0 := by
  have hnone (i : Slot) : (State.reset.slot i).egr.stream.count pid + (State.reset.slot i).egr.control.count pid +
      (State.reset.slot i).egr.bulk.count pid + (State.reset.slot i).ing.holds pid = 0 := by
    simp [reset_slot, SlotState.reset, Egress.reset, Ingress.reset, Ingress.holds]
  simp only [State.holdCount, hnone]
  decide

/-- The units that exist once, after POWER-ON. -/
theorem reset_units_ok : State.reset.parkOk ∧ State.reset.alarmIndexOk ∧ State.reset.logIndexOk ∧
    State.reset.timeOk ∧ State.reset.uptimeOk ∧ State.reset.loopOk ∧ State.reset.capturesOk ∧ State.reset.relaysOk ∧
    State.reset.raisedOk ∧ State.reset.poolLowOk := by
  have htime := timing_reset_ok (s := State.reset) rfl
  refine ⟨rfl, rfl, ⟨by decide, rfl⟩, htime.1, htime.2, ?_, ?_, ⟨rfl, rfl, rfl⟩, ⟨rfl, by decide⟩, ?_⟩
  · unfold State.loopOk
    rw [reset_isRaised]
    decide
  · intro r
    cases r <;> decide
  · unfold State.poolLowOk
    rw [reset_isRaised]
    decide

theorem reset_pool_ok : State.reset.poolOk :=
  inOrder_of_free (q := State.reset.pool) (by simp [State.reset, Pool.reset]) (by simp [State.reset, Pool.reset])
    (by simp [State.reset, Pool.reset])

/-- The slots after POWER-ON: EMPTY, with nothing queued, received or raised. -/
theorem reset_slots_ok : State.reset.queuesOk ∧ State.reset.linksOk ∧ State.reset.holdsOk ∧ State.reset.chainsOk ∧
    State.reset.timersOk ∧ State.reset.restsOk ∧ State.reset.powerOk ∧ State.reset.trafficOk ∧ State.reset.faultsOk ∧
    State.reset.heldOk := by
  unfold State.queuesOk State.linksOk State.holdsOk State.chainsOk State.timersOk State.restsOk State.powerOk
    State.trafficOk State.faultsOk State.heldOk State.isAwake
  simp only [reset_slot, reset_isRaised, SlotState.reset, Ctl.reset, Port.reset, Egress.reset, Ingress.reset, Cursor.idle]
  simp [State.reset, Phase.linkFits, Phase.isOut]

theorem reset_sends_ok : State.reset.sendsOk := by
  intro i
  simp [reset_slot, SlotState.reset, Egress.reset, Tx.parcels, Tx.main]

theorem reset_counts_ok : State.reset.countsOk := by
  refine ⟨fun i => ?_, fun pid p h => ?_, fun pid _ => reset_holdCount pid, fun pid _ => reset_parcel pid⟩
  · simp [reset_slot, SlotState.reset, Ingress.reset, Port.reset]
  · simp [reset_parcel] at h

theorem reset_settled : State.reset.settled := by
  unfold State.settled State.drained
  rw [List.find?_eq_none]
  intro i _
  simp [reset_slot, SlotState.reset, Ctl.reset]

/-- Settles O2, unit by unit and slot by slot. -/
theorem resetIsSound : Obligations.ResetIsSound := by
  obtain ⟨hpark, halarm, hlog, htime, huptime, hloop, hcaptures, hrelays, hraised, hlow⟩ := reset_units_ok
  obtain ⟨hqueues, hlinks, hholds, hchains, htimers, hrests, hpower, htraffic, hfaults, hheld⟩ := reset_slots_ok
  exact ⟨hpark, halarm, hlog, hqueues, htime, huptime, hloop, hcaptures, hrelays, hraised, hlow, reset_pool_ok, hlinks,
    hholds, hchains, htimers, hrests, hpower, htraffic, reset_sends_ok, reset_counts_ok, hfaults, hheld, reset_settled⟩

end Sys2Proof.Machine
end

section
/-! PROOFS. Parking memory's form, and the write indexes of the alarm queue and the log against their counts
(R75, R76, R81, R161). -/

namespace Sys2Proof.Machine

/-! ## The alarm queue's index (R161) -/

theorem poolJudge_index {s : State} (h : s.alarmIndexOk) : (poolJudge s).alarmIndexOk := by
  unfold poolJudge
  split
  · split
    · exact clearCond_index_fit.1 h
    · exact h
  · split
    · exact raiseCond_index_fit.1 h
    · exact h

theorem releaseHold_index {pid : Nat} {s : State} (h : s.alarmIndexOk) : (releaseHold pid s).alarmIndexOk := by
  unfold releaseHold
  split
  · exact h
  · split
    · exact poolJudge_index h
    · simpa [State.alarmIndexOk] using h

theorem alarmIndexOk_of_alarm {s t : State} (h : t.alarm.idx = s.alarm.idx ∧ t.alarm.count = s.alarm.count)
    (hs : s.alarmIndexOk) : t.alarmIndexOk := by
  unfold State.alarmIndexOk
  rw [h.1, h.2]
  exact hs

theorem unitStep_alarmIndexOk {s t : State} (h : UnitStep s t) (hs : s.alarmIndexOk) : t.alarmIndexOk := by
  cases h with
  | same h =>
    obtain ⟨-, -, -, -, -, -, hidx, hcount, -⟩ := h
    exact alarmIndexOk_of_alarm ⟨hidx, hcount⟩ hs
  | entry => exact (postEntry_reports (.refl s)).index hs
  | raise => exact raiseCond_index_fit.1 hs
  | clear => exact clearCond_index_fit.1 hs
  | alloc => exact poolJudge_index hs
  | release => exact releaseHold_index hs
  | marks => exact poolJudge_index hs
  | fabric => exact clearCond_index_fit.1 hs
  | stored | memory | reserve | emptied | resize | setTime | setFreq | stage =>
    exact alarmIndexOk_of_alarm (by simp) hs
  | pulse => exact (judgePulse_reports (.refl s)).index hs
  | loss => exact (loseReference_reports (.refl s)).index hs
  | holdoverEnd => exact (endHoldover_reports (.refl s)).index hs
  | loop => exact (writeLoop_reports (.refl s)).index hs
  | record => exact (writeRef_reports (.refl s)).index hs
  | restart => exact (timingRestart_reports (.refl s)).index hs

/-! ## The log's index (R75, R76, R81) -/

/-- Each log size divides 2^32, so the index goes on following the count over a wrap of the count. -/
theorem logCount_succ {size : Nat} (h : size ∈ [256, 512, 1024, 2048]) (n : Word) :
    (n + 1).toNat % size = (n.toNat % size + 1) % size := by
  have hone : (1 : Word).toNat = 1 := rfl
  simp only [List.mem_cons, List.not_mem_nil, or_false] at h
  rw [BitVec.toNat_add, hone]
  rcases h with rfl | rfl | rfl | rfl <;> omega

/-- The count an emptying leaves is a multiple of each log size. -/
theorem emptyLog_count {size : Nat} (h : size ∈ [256, 512, 1024, 2048]) (n : Nat) :
    (wordOf ((n + 2048 + 2047) / 2048 * 2048)).toNat % size = 0 := by
  simp only [List.mem_cons, List.not_mem_nil, or_false] at h
  simp only [wordOf, BitVec.toNat_ofNat]
  rcases h with rfl | rfl | rfl | rfl <;> omega

theorem emptyLog_logIndexOk {s : State} (h : s.glob.logSize ∈ [256, 512, 1024, 2048]) : (emptyLog s).logIndexOk :=
  ⟨h, (emptyLog_count h _).symm⟩

theorem reserve_logIndexOk {s : State} (r : Assoc LogRecord) (h : s.logIndexOk) :
    (s.modLog (fun _ =>
      { recs := r, idx := (s.log.idx + 1) % s.glob.logSize, count := s.log.count + 1 })).logIndexOk := by
  obtain ⟨hsize, hidx⟩ := h
  refine ⟨hsize, ?_⟩
  simp only [modLog_fields]
  rw [logCount_succ hsize, hidx]

theorem logIndexOk_of_same {s t : State}
    (h : t.log.idx = s.log.idx ∧ t.log.count = s.log.count ∧ t.glob.logSize = s.glob.logSize) (hs : s.logIndexOk) :
    t.logIndexOk := by
  obtain ⟨hidx, hcount, hsize⟩ := h
  unfold State.logIndexOk
  rw [hidx, hcount, hsize]
  exact hs

theorem unitStep_logIndexOk {s t : State} (h : UnitStep s t) (hs : s.logIndexOk) : t.logIndexOk := by
  cases h with
  | same h =>
    obtain ⟨-, -, -, hidx, hcount, -, -, -, -, -, hsize⟩ := h
    exact logIndexOk_of_same ⟨hidx, hcount, hsize⟩ hs
  | reserve r => exact reserve_logIndexOk r hs
  | emptied => exact emptyLog_logIndexOk hs.1
  | resize n _ hn => exact emptyLog_logIndexOk hn
  | holdoverEnd => exact logIndexOk_of_same (by simp [endHoldover]) hs
  | entry | raise | clear | alloc | release | stored | memory | marks | fabric | pulse | loss | loop | record | restart
  | setTime | setFreq | stage => exact logIndexOk_of_same (by simp) hs

/-! ## Parking memory -/

theorem unitStep_parkOk {s t : State} (h : UnitStep s t) (hs : s.parkOk) : t.parkOk := by
  have hsame {u : State} (hu : u.park.mem = s.park.mem) : u.parkOk := by
    unfold State.parkOk
    rwa [hu]
  cases h with
  | same h => exact hsame h.2.2.1
  | memory f _ hf => exact hf _ hs
  | holdoverEnd => exact hsame (by simp [endHoldover])
  | entry | raise | clear | alloc | release | stored | reserve | emptied | resize | marks | fabric | pulse | loss | loop
  | record | restart | setTime | setFreq | stage => exact hsame (by simp)

/-! ## The three together over every step -/

/-- The parts of the indexes' invariant that belong to units. -/
def State.indexesOk (s : State) : Prop := s.parkOk ∧ s.alarmIndexOk ∧ s.logIndexOk

theorem resetBlocks_alarmIndexOk (pin msel retain : Bool) (s : State) (h : s.alarmIndexOk) :
    (resetBlocks pin msel retain s).alarmIndexOk := by
  unfold State.alarmIndexOk at h ⊢
  cases pin with
  | false => simp [resetBlocks, Alarm.reset]
  | true => simpa [resetBlocks, Alarm.reset] using h

theorem resetBlocks_parkOk (pin msel retain : Bool) (s : State) (h : s.parkOk) :
    (resetBlocks pin msel retain s).parkOk := by
  cases pin with
  | false => exact reset_parkWf
  | true => simpa only [State.parkOk, resetBlocks, if_true] using h

theorem resetBlocks_indexesOk (pin msel retain : Bool) (s : State) (h : s.indexesOk) :
    (resetBlocks pin msel retain s).indexesOk := by
  obtain ⟨hpark, halarm, -⟩ := h
  exact ⟨resetBlocks_parkOk pin msel retain s hpark, resetBlocks_alarmIndexOk pin msel retain s halarm,
    by simp [resetBlocks, GlobalSettings.default], rfl⟩

theorem stepKeeps_indexesOk : StepKeeps State.indexesOk := by
  refine stepKeeps_of_units (Q := State.indexesOk) ?_ resetBlocks_indexesOk ?_ ?_
  · intro s t h hs
    obtain ⟨hpark, halarm, hlog⟩ := hs
    exact ⟨unitStep_parkOk h hpark, unitStep_alarmIndexOk h halarm, unitStep_logIndexOk h hlog⟩
  · intro s hs
    unfold State.indexesOk State.parkOk State.alarmIndexOk State.logIndexOk at hs ⊢
    simpa using hs
  · intro s u _ _ hu
    unfold State.indexesOk State.parkOk State.alarmIndexOk State.logIndexOk at hu ⊢
    simpa [coreTick] using hu

end Sys2Proof.Machine
end

section
/-! PROOFS. Frames: what each operation leaves of the state, as the parts a claim names. -/

namespace Sys2Proof.Machine

/-! ## Parts -/

section Frame

variable {ps qs rs : List Part} {i : Slot} {s t u : State}

theorem KeepsBut.refl (ps : List Part) (s : State) : KeepsBut ps s s :=
  ⟨fun p _ => by cases p <;> simp [Part.Same], rfl⟩

theorem Part.Same.trans {p : Part} (h : p.Same s t) (g : p.Same t u) : p.Same s u := by
  cases p
  case cfg | port | ing | egr | ctl | edges | cursor => exact fun j => (g j).trans (h j)
  all_goals exact Eq.trans g h

/-- Two effects one after the other keep what both keep. -/
theorem KeepsBut.then (h : KeepsBut ps s t) (g : KeepsBut qs t u) (hp : ps ⊆ rs := by decide)
    (hq : qs ⊆ rs := by decide) : KeepsBut rs s u :=
  ⟨fun p hne => (h.1 p (fun hin => hne (hp hin))).trans (g.1 p (fun hin => hne (hq hin))), g.2.trans h.2⟩

theorem KeepsBut.mono (h : KeepsBut ps s t) (hp : ps ⊆ rs := by decide) : KeepsBut rs s t :=
  ⟨fun p hne => h.1 p (fun hin => hne (hp hin)), h.2⟩

theorem keepsBut_ite {c : Prop} [Decidable c] (ht : KeepsBut ps s t) (hu : KeepsBut ps s u) :
    KeepsBut ps s (if c then t else u) := by
  split
  · exact ht
  · exact hu

theorem OtherSlots.refl (i : Slot) (s : State) : OtherSlots i s s := fun _ _ => rfl

theorem OtherSlots.then (h : OtherSlots i s t) (g : OtherSlots i t u) : OtherSlots i s u :=
  fun j hj => (g j hj).trans (h j hj)

/-- An effect that leaves every slot alone. -/
theorem otherSlots_of_slots (h : ∀ j, t.slot j = s.slot j) : OtherSlots i s t := fun j _ => h j

theorem OnlyReplies.refl (s : State) : OnlyReplies s s := rfl

theorem OnlyReplies.then (h : OnlyReplies s t) (g : OnlyReplies t u) : OnlyReplies s u := by
  unfold OnlyReplies at *
  rw [g, h]

theorem onlyReplies_of_same (h : t.mgmt = s.mgmt) : OnlyReplies s t := by
  unfold OnlyReplies
  rw [h]

theorem onlyReplies_of_grow (h : RepliesGrow s t) : OnlyReplies s t := by
  obtain ⟨l, h⟩ := h
  unfold OnlyReplies
  rw [h]

end Frame

/-! ## Changes of one part -/

section Parts

variable (s : State) (i : Slot)

theorem modPort_keepsBut (f : Port → Port) : KeepsBut [.port] s (s.modPort i f) :=
  ⟨fun p hp => by cases p <;> simp_all [Part.Same], by simp⟩

theorem modIng_keepsBut (f : Ingress → Ingress) : KeepsBut [.ing] s (s.modIng i f) :=
  ⟨fun p hp => by cases p <;> simp_all [Part.Same], by simp⟩

theorem modEgr_keepsBut (f : Egress → Egress) : KeepsBut [.egr] s (s.modEgr i f) :=
  ⟨fun p hp => by cases p <;> simp_all [Part.Same], by simp⟩

theorem modCtl_keepsBut (f : Ctl → Ctl) : KeepsBut [.ctl] s (s.modCtl i f) :=
  ⟨fun p hp => by cases p <;> simp_all [Part.Same], by simp⟩

theorem modEdges_keepsBut (f : SlotEdges → SlotEdges) : KeepsBut [.edges] s (s.modEdges i f) :=
  ⟨fun p hp => by cases p <;> simp_all [Part.Same], by simp⟩

theorem setCursor_keepsBut (c : Cursor) : KeepsBut [.cursor] s (s.setCursor i c) :=
  ⟨fun p hp => by cases p <;> simp_all [Part.Same], by simp⟩

theorem setCfg_keepsBut (c : SlotSettings) : KeepsBut [.cfg] s (s.setCfg i c) :=
  ⟨fun p hp => by cases p <;> simp_all [Part.Same], by simp⟩

theorem modTiming_keepsBut (f : Timing → Timing) : KeepsBut [.timing] s (s.modTiming f) :=
  ⟨fun p hp => by cases p <;> simp_all [Part.Same], by simp⟩

theorem modAlarm_keepsBut (f : Alarm → Alarm) : KeepsBut [.alarm] s (s.modAlarm f) :=
  ⟨fun p hp => by cases p <;> simp_all [Part.Same], by simp⟩

theorem modMgmt_keepsBut (f : Mgmt → Mgmt) : KeepsBut [.mgmt] s (s.modMgmt f) :=
  ⟨fun p hp => by cases p <;> simp_all [Part.Same], by simp⟩

theorem modPark_keepsBut (f : Park → Park) : KeepsBut [.park] s (s.modPark f) :=
  ⟨fun p hp => by cases p <;> simp_all [Part.Same], by simp⟩

theorem modLog_keepsBut (f : TransitLog → TransitLog) : KeepsBut [.log] s (s.modLog f) :=
  ⟨fun p hp => by cases p <;> simp_all [Part.Same], by simp⟩

theorem modPool_keepsBut (f : Pool → Pool) : KeepsBut [.pool] s (s.modPool f) :=
  ⟨fun p hp => by cases p <;> simp_all [Part.Same], by simp⟩

theorem modChain_keepsBut (f : ChainEngine → ChainEngine) : KeepsBut [.chain] s (s.modChain f) :=
  ⟨fun p hp => by cases p <;> simp_all [Part.Same], by simp⟩

theorem setSlot_otherSlots (x : SlotState) : OtherSlots i s (s.setSlot i x) :=
  fun _ hj => slot_setSlot_ne s x hj

theorem modPort_otherSlots (f : Port → Port) : OtherSlots i s (s.modPort i f) := setSlot_otherSlots s i _

theorem modIng_otherSlots (f : Ingress → Ingress) : OtherSlots i s (s.modIng i f) := setSlot_otherSlots s i _

theorem modEgr_otherSlots (f : Egress → Egress) : OtherSlots i s (s.modEgr i f) := setSlot_otherSlots s i _

theorem modCtl_otherSlots (f : Ctl → Ctl) : OtherSlots i s (s.modCtl i f) := setSlot_otherSlots s i _

theorem modEdges_otherSlots (f : SlotEdges → SlotEdges) : OtherSlots i s (s.modEdges i f) := setSlot_otherSlots s i _

theorem setCursor_otherSlots (c : Cursor) : OtherSlots i s (s.setCursor i c) := setSlot_otherSlots s i _

theorem setCfg_otherSlots (c : SlotSettings) : OtherSlots i s (s.setCfg i c) := setSlot_otherSlots s i _

end Parts

/-! ## Reports -/

section Reports

variable (s : State) (c : Fin 64) (n : Nat) (p : Word)

theorem slot_of_parts {s t : State} {j : Slot} (hcfg : (t.slot j).cfg = (s.slot j).cfg)
    (hport : (t.slot j).port = (s.slot j).port) (hing : (t.slot j).ing = (s.slot j).ing)
    (hegr : (t.slot j).egr = (s.slot j).egr) (hctl : (t.slot j).ctl = (s.slot j).ctl)
    (hedges : (t.slot j).edges = (s.slot j).edges) (hcursor : (t.slot j).cursor = (s.slot j).cursor) :
    t.slot j = s.slot j := by
  cases ht : t.slot j
  cases hs : s.slot j
  simp_all

theorem postEvent_keepsBut : KeepsBut [.alarm, .mgmt] s (postEvent c n p s) :=
  ⟨fun q hq => by cases q <;> simp_all [Part.Same], by simp⟩

theorem raiseCond_keepsBut : KeepsBut [.alarm, .mgmt] s (raiseCond c n p s) :=
  ⟨fun q hq => by cases q <;> simp_all [Part.Same], by simp⟩

theorem clearCond_keepsBut : KeepsBut [.alarm, .mgmt] s (clearCond c n p s) :=
  ⟨fun q hq => by cases q <;> simp_all [Part.Same], by simp⟩

theorem postEvent_slot (j : Slot) : (postEvent c n p s).slot j = s.slot j :=
  slot_of_parts (by simp) (by simp) (by simp) (by simp) (by simp) (by simp) (by simp)

theorem raiseCond_slot (j : Slot) : (raiseCond c n p s).slot j = s.slot j :=
  slot_of_parts (by simp) (by simp) (by simp) (by simp) (by simp) (by simp) (by simp)

theorem clearCond_slot (j : Slot) : (clearCond c n p s).slot j = s.slot j :=
  slot_of_parts (by simp) (by simp) (by simp) (by simp) (by simp) (by simp) (by simp)

theorem postEvent_onlyReplies : OnlyReplies s (postEvent c n p s) := onlyReplies_of_grow (postEvent_grow ..)
theorem raiseCond_onlyReplies : OnlyReplies s (raiseCond c n p s) := onlyReplies_of_grow (raiseCond_grow ..)

end Reports

end Sys2Proof.Machine
end

section
/-! PROOFS. What a report does to the alarm unit depends on that unit, the watches and the time alone. -/

namespace Sys2Proof.Machine

/-- What the alarm unit takes from the rest of the state is the same in two states. -/
def SameReporting (s t : State) : Prop := t.alarm = s.alarm ∧ t.watches = s.watches ∧ t.timing = s.timing

section Congr

variable {s t : State}

theorem SameReporting.refl (s : State) : SameReporting s s := ⟨rfl, rfl, rfl⟩

theorem writeEntry_alarm (e : AlarmEntry) (s : State) : (writeEntry e s).alarm =
    { s.alarm with
      queue := assocPut s.alarm.queue s.alarm.idx e, idx := (s.alarm.idx + 1) % Config.alarmPlaces,
      count := s.alarm.count + 1 } := by
  simp [writeEntry]

theorem writeEntry_sameReporting (e : AlarmEntry) (h : SameReporting s t) :
    SameReporting (writeEntry e s) (writeEntry e t) := by
  obtain ⟨halarm, hwatches, htiming⟩ := h
  exact ⟨by rw [writeEntry_alarm, writeEntry_alarm, halarm], by simpa using hwatches, by simpa using htiming⟩

theorem makeEntry_congr (h : SameReporting s t) (c : Fin 64) (n : Nat) (a : AlarmAction) (k : Nat) (p : Word) :
    makeEntry c n a k p t = makeEntry c n a k p s := by
  obtain ⟨halarm, hwatches, htiming⟩ := h
  simp [makeEntry, State.severityOf, State.cause, State.now, halarm, hwatches, htiming]

theorem trackPosted_sameReporting (h : SameReporting s t) (c : Fin 64) (n : Nat) :
    SameReporting (trackPosted c n s) (trackPosted c n t) := by
  obtain ⟨halarm, hwatches, htiming⟩ := h
  exact ⟨by simp [trackPosted, State.uptime, halarm, htiming], by simpa [trackPosted] using hwatches,
    by simpa [trackPosted] using htiming⟩

theorem pendingRepeats_congr (h : SameReporting s t) (c : Fin 64) (n : Nat) :
    t.pendingRepeats c n = s.pendingRepeats c n := by simp [State.pendingRepeats, h.1]

theorem cause_congr (h : SameReporting s t) (c : Fin 64) : t.cause c = s.cause c := by simp [State.cause, h.1]

theorem judgeWrap_sameReporting (h : SameReporting s t) : SameReporting (judgeWrap s) (judgeWrap t) := by
  unfold judgeWrap
  rw [h.1, cause_congr h, makeEntry_congr h, pendingRepeats_congr h]
  split
  · exact trackPosted_sameReporting (writeEntry_sameReporting _ h) ..
  · exact h

theorem postEntry_sameReporting (h : SameReporting s t) (c : Fin 64) (n : Nat) (a : AlarmAction) (k : Nat) (p : Word) :
    SameReporting (postEntry c n a k p s) (postEntry c n a k p t) := by
  unfold postEntry
  rw [makeEntry_congr h]
  exact judgeWrap_sameReporting (writeEntry_sameReporting _ h)

theorem heldOff_congr (h : SameReporting s t) (c : Fin 64) (n : Nat) : t.heldOff c n = s.heldOff c n := by
  unfold State.heldOff State.uptime
  rw [h.1, h.2.2, cause_congr h]

theorem suppressEvent_sameReporting (h : SameReporting s t) (c : Fin 64) (n : Nat) :
    SameReporting (suppressEvent c n s) (suppressEvent c n t) := by
  obtain ⟨halarm, hwatches, htiming⟩ := h
  exact ⟨by simp [suppressEvent, halarm], by simpa [suppressEvent] using hwatches,
    by simpa [suppressEvent] using htiming⟩

theorem postEvent_sameReporting (h : SameReporting s t) (c : Fin 64) (n : Nat) (p : Word) :
    SameReporting (postEvent c n p s) (postEvent c n p t) := by
  unfold postEvent
  rw [cause_congr h, heldOff_congr h, pendingRepeats_congr h]
  split
  · split
    · exact suppressEvent_sameReporting h c n
    · exact postEntry_sameReporting (trackPosted_sameReporting h c n) ..
  · exact h

theorem judgeRelays_sameReporting (h : SameReporting s t) : SameReporting (judgeRelays s) (judgeRelays t) := by
  obtain ⟨halarm, hwatches, htiming⟩ := h
  have hdrives (sev : Severity) : t.drives sev = s.drives sev := by
    simp [State.drives, State.severityOf, State.cause, halarm, hwatches]
  exact ⟨by simp [judgeRelays, hdrives, halarm], by simpa [judgeRelays] using hwatches,
    by simpa [judgeRelays] using htiming⟩

theorem isRaised_congr (h : SameReporting s t) (c : Fin 64) (n : Nat) : t.isRaised c n = s.isRaised c n := by
  simp [State.isRaised, h.1]

theorem modRaised_sameReporting (h : SameReporting s t) (f : Assoc Word → Assoc Word) :
    SameReporting (s.modAlarm (fun a => { a with raised := f a.raised }))
      (t.modAlarm (fun a => { a with raised := f a.raised })) := by
  obtain ⟨halarm, hwatches, htiming⟩ := h
  exact ⟨by simp [halarm], by simpa using hwatches, by simpa using htiming⟩

theorem raiseCond_sameReporting (h : SameReporting s t) (c : Fin 64) (n : Nat) (p : Word) :
    SameReporting (raiseCond c n p s) (raiseCond c n p t) := by
  have hraised := modRaised_sameReporting h (fun r => assocPut r (pairKey c n) p)
  unfold raiseCond
  rw [isRaised_congr h, cause_congr h]
  split
  · exact h
  · refine judgeRelays_sameReporting ?_
    split
    · exact postEntry_sameReporting hraised ..
    · exact hraised

theorem clearCond_sameReporting (h : SameReporting s t) (c : Fin 64) (n : Nat) (p : Word) :
    SameReporting (clearCond c n p s) (clearCond c n p t) := by
  have hraised := modRaised_sameReporting h (fun r => assocDel r (pairKey c n))
  unfold clearCond
  rw [isRaised_congr h, cause_congr h]
  split
  · refine judgeRelays_sameReporting ?_
    split
    · exact postEntry_sameReporting hraised ..
    · exact hraised
  · exact h

theorem postEvent_alarm_congr (h : SameReporting s t) (c : Fin 64) (n : Nat) (p : Word) :
    (postEvent c n p t).alarm = (postEvent c n p s).alarm := (postEvent_sameReporting h c n p).1

theorem raiseCond_alarm_congr (h : SameReporting s t) (c : Fin 64) (n : Nat) (p : Word) :
    (raiseCond c n p t).alarm = (raiseCond c n p s).alarm := (raiseCond_sameReporting h c n p).1

theorem clearCond_alarm_congr (h : SameReporting s t) (c : Fin 64) (n : Nat) (p : Word) :
    (clearCond c n p t).alarm = (clearCond c n p s).alarm := (clearCond_sameReporting h c n p).1

end Congr

end Sys2Proof.Machine
end

section
/-! PROOFS. What one slot's part of an effect touches, and the events with nothing to report at their end. -/

namespace Sys2Proof.Machine

/-- An effect touches only the given parts, of the slots only one, and of the management unit adds replies alone. -/
structure Touches (ps : List Part) (i : Slot) (s t : State) : Prop where
  keeps : KeepsBut ps s t
  grow : RepliesGrow s t
  others : OtherSlots i s t

section Touches

variable {ps qs rs : List Part} {i : Slot} {s t u : State}

theorem Touches.refl (ps : List Part) (i : Slot) (s : State) : Touches ps i s s := ⟨.refl .., .refl s, .refl i s⟩

theorem Touches.then (h : Touches ps i s t) (g : Touches qs i t u) (hp : ps ⊆ rs := by decide)
    (hq : qs ⊆ rs := by decide) : Touches rs i s u :=
  ⟨h.keeps.then g.keeps hp hq, h.grow.trans g.grow, h.others.then g.others⟩

theorem Touches.mono (h : Touches ps i s t) (hp : ps ⊆ rs := by decide) : Touches rs i s t :=
  ⟨h.keeps.mono hp, h.grow, h.others⟩

theorem Touches.replies (h : Touches ps i s t) : OnlyReplies s t := onlyReplies_of_grow h.grow

theorem touches_ite {c : Prop} [Decidable c] (ht : Touches ps i s t) (hu : Touches ps i s u) :
    Touches ps i s (if c then t else u) := by
  split
  · exact ht
  · exact hu

variable (s) (i)

theorem modPort_touches (f : Port → Port) : Touches [.port] i s (s.modPort i f) :=
  ⟨modPort_keepsBut .., .of_eq (by simp), modPort_otherSlots s i f⟩

theorem modIng_touches (f : Ingress → Ingress) : Touches [.ing] i s (s.modIng i f) :=
  ⟨modIng_keepsBut .., .of_eq (by simp), modIng_otherSlots s i f⟩

theorem modEgr_touches (f : Egress → Egress) : Touches [.egr] i s (s.modEgr i f) :=
  ⟨modEgr_keepsBut .., .of_eq (by simp), modEgr_otherSlots s i f⟩

theorem modCtl_touches (f : Ctl → Ctl) : Touches [.ctl] i s (s.modCtl i f) :=
  ⟨modCtl_keepsBut .., .of_eq (by simp), modCtl_otherSlots s i f⟩

theorem setCursor_touches (c : Cursor) : Touches [.cursor] i s (s.setCursor i c) :=
  ⟨setCursor_keepsBut .., .of_eq (by simp), setCursor_otherSlots s i c⟩

theorem postEvent_touches (c : Fin 64) (n : Nat) (p : Word) : Touches [.alarm, .mgmt] i s (postEvent c n p s) :=
  ⟨postEvent_keepsBut .., postEvent_grow .., otherSlots_of_slots (postEvent_slot s c n p)⟩

theorem raiseCond_touches (c : Fin 64) (n : Nat) (p : Word) : Touches [.alarm, .mgmt] i s (raiseCond c n p s) :=
  ⟨raiseCond_keepsBut .., raiseCond_grow .., otherSlots_of_slots (raiseCond_slot s c n p)⟩

theorem clearCond_touches (c : Fin 64) (n : Nat) (p : Word) : Touches [.alarm, .mgmt] i s (clearCond c n p s) :=
  ⟨clearCond_keepsBut .., clearCond_grow .., otherSlots_of_slots (clearCond_slot s c n p)⟩

theorem modPool_touches (f : Pool → Pool) : Touches [.pool] i s (s.modPool f) :=
  ⟨modPool_keepsBut .., .of_eq (by simp), otherSlots_of_slots (by simp)⟩

theorem modPark_touches (f : Park → Park) : Touches [.park] i s (s.modPark f) :=
  ⟨modPark_keepsBut .., .of_eq (by simp), otherSlots_of_slots (by simp)⟩

theorem modLog_touches (f : TransitLog → TransitLog) : Touches [.log] i s (s.modLog f) :=
  ⟨modLog_keepsBut .., .of_eq (by simp), otherSlots_of_slots (by simp)⟩

theorem modTiming_touches (f : Timing → Timing) : Touches [.timing] i s (s.modTiming f) :=
  ⟨modTiming_keepsBut .., .of_eq (by simp), otherSlots_of_slots (by simp)⟩

theorem modAlarm_touches (f : Alarm → Alarm) : Touches [.alarm] i s (s.modAlarm f) :=
  ⟨modAlarm_keepsBut .., .of_eq (by simp), otherSlots_of_slots (by simp)⟩

theorem poolJudge_touches : Touches [.alarm, .mgmt] i s (poolJudge s) :=
  touches_ite (touches_ite (clearCond_touches ..) (.refl ..)) (touches_ite (raiseCond_touches ..) (.refl ..))

theorem allocStored_touches (p : Stored) : Touches [.pool, .alarm, .mgmt] i s (allocStored p s) :=
  (modPool_touches i s _).then (poolJudge_touches i _)

theorem modStored_touches (pid : Nat) (f : Stored → Stored) : Touches [.pool] i s (modStored pid f s) := by
  unfold modStored
  split
  · exact .refl ..
  · exact modPool_touches ..

theorem releaseHold_touches (pid : Nat) : Touches [.pool, .alarm, .mgmt] i s (releaseHold pid s) := by
  unfold releaseHold
  split
  · exact .refl ..
  · split
    · exact (modPool_touches i s _).then (poolJudge_touches i _)
    · exact (modStored_touches ..).mono

theorem beginReception_touches (h : Header) (e : FlowEntry) (st : Stamp) (hd : Option LogHandle) (f : Fate) :
    Touches [.ing] i s (beginReception i h e st hd f s) := modIng_touches ..

theorem setRx_touches (r : RxState) : Touches [.port] i s (s.setRx i r) := modPort_touches ..

theorem setLanding_touches (l : Landing) : Touches [.ing] i s (s.setLanding i l) := modIng_touches ..

variable {s} {i}

/-- A part that an effect does not touch is the same in every slot. -/
theorem Touches.port (h : Touches ps i s t) (hp : Part.port ∉ ps := by decide) (j : Slot) :
    (t.slot j).port = (s.slot j).port := h.keeps.1 .port hp j

theorem Touches.ing (h : Touches ps i s t) (hp : Part.ing ∉ ps := by decide) (j : Slot) :
    (t.slot j).ing = (s.slot j).ing := h.keeps.1 .ing hp j

theorem Touches.egr (h : Touches ps i s t) (hp : Part.egr ∉ ps := by decide) (j : Slot) :
    (t.slot j).egr = (s.slot j).egr := h.keeps.1 .egr hp j

theorem Touches.ctl (h : Touches ps i s t) (hp : Part.ctl ∉ ps := by decide) (j : Slot) :
    (t.slot j).ctl = (s.slot j).ctl := h.keeps.1 .ctl hp j

theorem Touches.cfg (h : Touches ps i s t) (hp : Part.cfg ∉ ps := by decide) (j : Slot) :
    (t.slot j).cfg = (s.slot j).cfg := h.keeps.1 .cfg hp j

/-- What is reported goes to the alarm unit as it would from the state before. -/
theorem Touches.reporting (h : Touches ps i s t) (ha : Part.alarm ∉ ps := by decide)
    (hw : Part.watches ∉ ps := by decide) (ht : Part.timing ∉ ps := by decide) : SameReporting s t :=
  ⟨h.keeps.1 .alarm ha, h.keeps.1 .watches hw, h.keeps.1 .timing ht⟩

/-- An event that leaves slot states and egresses alone has no egress-empty report at its end (R46). -/
theorem Touches.settleDrains (h : Touches ps i s t) (hs : s.settled) (hc : Part.ctl ∉ ps := by decide)
    (he : Part.egr ∉ ps := by decide) : settleDrains t = t :=
  settleDrains_of_settled (drained_none_of_grow hs (fun j => by rw [h.ctl hc j]) (h.egr he) h.grow)

end Touches

end Sys2Proof.Machine
end

section
/-! PROOFS. Header arrival (R4, R17, R21 to R25): a parcel that is looked up is refused, parked or passed. -/

namespace Sys2Proof.Machine

section Lookup

variable {i : Slot} {h : Header} {s : State}

/-- The flow entry that a parcel is looked up by. -/
def State.entryAt (s : State) (i : Slot) (h : Header) : FlowEntry := s.flowAt (i.val * 64 + h.chan.toNat)

/-- The copy of it that a reception keeps: the ingress slot is out of its destinations (R21). -/
def State.entryCopy (s : State) (i : Slot) (h : Header) : FlowEntry :=
  { s.entryAt i h with dest := delSlot (s.entryAt i h).dest i }

/-- Neither the management unit nor the timing unit takes a parcel: it is looked up (R17). -/
def State.looksUp (s : State) (i : Slot) (h : Header) : Prop :=
  s.isMgmtParcel i h = false ∧ s.isTodParcel i h = false

/-- No log record is asked for. -/
def State.unlogged (s : State) (i : Slot) (h : Header) : Prop :=
  ((s.entryAt i h).valid && (s.entryAt i h).log) = false

theorem parcelHeader_looksUp (hlook : s.looksUp i h) : parcelHeader i h s = lookupHeader i h s := by
  obtain ⟨hmgmt, htod⟩ := hlook
  simp [parcelHeader, hmgmt, htod]

theorem lookupHeader_refused {reason : Nat} (hlog : s.unlogged i h)
    (hno : (s.entryCopy i h).refusal h.kind = some reason) :
    lookupHeader i h s = reportRefusal i h (s.entryCopy i h) reason
      (beginReception i h (s.entryCopy i h) s.now.stamp none .refused s) := by
  unfold State.unlogged State.entryAt at hlog
  unfold State.entryCopy State.entryAt at hno ⊢
  simp only [lookupHeader, hlog, hno]
  rfl

theorem lookupHeader_parked (hlog : s.unlogged i h) (hyes : (s.entryCopy i h).refusal h.kind = none)
    (hpark : (s.entryAt i h).park = true) :
    lookupHeader i h s = parkHeader i (Fin.ofNat 64 (s.entryAt i h).area.toNat) h none
      (beginReception i h (s.entryCopy i h) s.now.stamp none .parked s) := by
  unfold State.unlogged State.entryAt at hlog
  unfold State.entryAt at hpark
  unfold State.entryCopy State.entryAt at hyes ⊢
  simp only [lookupHeader, hlog, hyes]
  rw [if_pos hpark]
  rfl

theorem lookupHeader_passed (hlog : s.unlogged i h) (hyes : (s.entryCopy i h).refusal h.kind = none)
    (hpark : (s.entryAt i h).park = false) :
    lookupHeader i h s = passHeader i h (s.entryCopy i h) s.now.stamp none s := by
  unfold State.unlogged State.entryAt at hlog
  unfold State.entryAt at hpark
  unfold State.entryCopy State.entryAt at hyes ⊢
  simp only [lookupHeader, hlog, hyes]
  rw [if_neg (by simp [hpark])]
  rfl

/-- A valid entry that permits the kind refuses nothing (R17, R22). -/
theorem refusal_none (hvalid : (s.entryAt i h).valid = true) (hkind : h.kind.toNat < 6)
    (hperm : (s.entryAt i h).permits h.kind = true) : (s.entryCopy i h).refusal h.kind = none := by
  have hperm' : (s.entryCopy i h).permits h.kind = true := hperm
  have hvalid' : (s.entryCopy i h).valid = true := hvalid
  simp [FlowEntry.refusal, hvalid', hperm', Nat.not_le_of_gt hkind]

end Lookup

/-! ## The word of a header (R4) -/

/-- The receive state that a header word leaves: the check register preset and fed the word (R3, R4). -/
def headerRx (w : Word) : RxState :=
  .inParcel (Header.ofWord w) (Header.ofWord w).len.toNat (crcWord crcPreset w)

theorem rxHeader_begins {i : Slot} {w : Word} {s : State} (hrx : ∀ h n c, (s.slot i).port.rx ≠ .inParcel h n c) :
    rxHeader i w s = parcelHeader i (Header.ofWord w) (s.setRx i (headerRx w)) := by
  unfold rxHeader
  split
  · next h n c heq => exact absurd heq (hrx h n c)
  · rfl

/-- HEADER_WORD with no parcel in reception, of a parcel that is looked up. -/
theorem exec_headerWord {i : Slot} {w : Word} {s t : State} (hframes : s.framing i = true)
    (hrx : ∀ h n c, (s.slot i).port.rx ≠ .inParcel h n c) (hlook : s.looksUp i (Header.ofWord w))
    (ht : lookupHeader i (Header.ofWord w) (s.setRx i (headerRx w)) = t) (hsettle : settleDrains t = t) :
    exec (.headerWord i w) s = .next t := by
  have hlook' : (s.setRx i (headerRx w)).looksUp i (Header.ofWord w) := by
    unfold State.looksUp State.isMgmtParcel State.isTodParcel State.mgmtSlot at hlook ⊢
    simpa using hlook
  show Host.Outcome.next (if s.framing i then settleDrains (rxHeader i w s) else s) = .next t
  rw [if_pos hframes, rxHeader_begins hrx, parcelHeader_looksUp hlook', ht, hsettle]

theorem entryAt_setRx (s : State) (i : Slot) (r : RxState) (h : Header) : (s.setRx i r).entryAt i h = s.entryAt i h := by
  simp [State.entryAt, State.flowAt]

theorem entryCopy_setRx (s : State) (i : Slot) (r : RxState) (h : Header) :
    (s.setRx i r).entryCopy i h = s.entryCopy i h := by
  simp [State.entryCopy, entryAt_setRx]

theorem now_setRx (s : State) (i : Slot) (r : RxState) : (s.setRx i r).now = s.now := by simp [State.now]

theorem setRx_port (s : State) (i : Slot) (r : RxState) :
    ((s.setRx i r).slot i).port = { (s.slot i).port with rx := r } := by simp [State.setRx]

theorem beginReception_ing (i : Slot) (h : Header) (e : FlowEntry) (st : Stamp) (hd : Option LogHandle) (f : Fate)
    (s : State) : ((beginReception i h e st hd f s).slot i).ing =
      { (s.slot i).ing with
        reception := some { hdr := h, stamp := st, entry := e, log := hd, fate := f, enq := 0, disc := 0 } } := by
  simp [beginReception]

/-- The reception of a header that arrives, in its fate. -/
def received (i : Slot) (w : Word) (f : Fate) (s : State) : State :=
  beginReception i (Header.ofWord w) (s.entryCopy i (Header.ofWord w)) s.now.stamp none f (s.setRx i (headerRx w))

theorem received_touches (i : Slot) (w : Word) (f : Fate) (s : State) : Touches [.port, .ing] i s (received i w f s) :=
  (setRx_touches i s _).then (beginReception_touches ..)

theorem received_port (i : Slot) (w : Word) (f : Fate) (s : State) :
    ((received i w f s).slot i).port = { (s.slot i).port with rx := headerRx w } := by
  rw [received, (beginReception_touches ..).port (by decide), setRx_port]

/-- The record of that reception. -/
def arrival (i : Slot) (w : Word) (f : Fate) (s : State) : Reception :=
  { hdr := Header.ofWord w, stamp := s.now.stamp, entry := s.entryCopy i (Header.ofWord w), log := none, fate := f,
    enq := 0, disc := 0 }

theorem received_ing (i : Slot) (w : Word) (f : Fate) (s : State) :
    ((received i w f s).slot i).ing = { (s.slot i).ing with reception := some (arrival i w f s) } := by
  unfold arrival
  rw [received, beginReception_ing, (setRx_touches ..).ing (by decide)]

/-! ## Refusal at an invalid entry (R22) -/

theorem refusal_invalid {e : FlowEntry} {k : BitVec 3} (h : e.valid = false) : e.refusal k = some 1 := by
  simp [FlowEntry.refusal, h]

/-- Settles O16: the lookup refuses with reason 1, and the report is the whole effect beside the reception. -/
theorem headerAtInvalidEntryIsRefused : Obligations.HeaderAtInvalidEntryIsRefused := by
  intro i w s hframes hrx hs hmgmt htod hinvalid
  have hunlogged : (s.setRx i (headerRx w)).unlogged i (Header.ofWord w) := by
    unfold State.unlogged
    rw [entryAt_setRx, State.entryAt, hinvalid]
    rfl
  have hrefuse : ((s.setRx i (headerRx w)).entryCopy i (Header.ofWord w)).refusal (Header.ofWord w).kind = some 1 := by
    rw [entryCopy_setRx]
    exact refusal_invalid hinvalid
  have hu := received_touches i w .refused s
  have hlookup := lookupHeader_refused hunlogged hrefuse
  rw [entryCopy_setRx, now_setRx, ← received] at hlookup
  unfold reportRefusal at hlookup
  rw [if_pos rfl, show (received i w .refused s).glob = s.glob from hu.keeps.1 .glob (by decide)] at hlookup
  have hpost (p : Word) := hu.then (postEvent_touches i (received i w .refused s) causeParcelRefused i.val p)
    (rs := [.port, .ing, .alarm, .mgmt])
  cases hask : s.glob.alarmUnknown with
  | false =>
    rw [hask] at hlookup
    refine ⟨_, exec_headerWord hframes hrx ⟨hmgmt, htod⟩ hlookup (hu.settleDrains hs), received_port .., received_ing ..,
      fun _ => hu.keeps, fun h => (by cases h), hu.others⟩
  | true =>
    rw [hask] at hlookup
    refine ⟨_, exec_headerWord hframes hrx ⟨hmgmt, htod⟩ hlookup ((hpost _).settleDrains hs), ?_, ?_,
      fun h => (by cases h), fun _ => ⟨?_, (hpost _).keeps, (hpost _).replies⟩, (hpost _).others⟩
    · rw [if_pos rfl, (postEvent_touches i ..).port, received_port]
      rfl
    · rw [if_pos rfl, (postEvent_touches i ..).ing, received_ing]
      rfl
    · rw [if_pos rfl, postEvent_alarm_congr hu.reporting]

end Sys2Proof.Machine
end

section
/-! PROOFS. Passed parcels: their blocks at header arrival, and their payload words (R4, R25, R38, R39). -/

namespace Sys2Proof.Machine

/-! ## Blocks at header arrival (R25) -/

section Pass

variable {i : Slot} {h : Header} {e : FlowEntry} {st : Stamp} {hd : Option LogHandle} {s : State}

/-- The stored parcel of a header that has just arrived. -/
def newParcel (i : Slot) (h : Header) (e : FlowEntry) : Stored :=
  { hdr := h, cls := e.govern, egress := e.egress, owner := i, nBlocks := blocksFor h.len.toNat, blocks := [],
    words := [], isOpen := false, refs := 1 }

theorem passHeader_stored (hfits : blocksFor h.len.toNat ≤ s.pool.freeCount) :
    passHeader i h e st hd s =
      allocStored (newParcel i h e) (beginReception i h e st hd (.passed s.pool.nextId) s) := by
  unfold passHeader
  rw [if_pos hfits]
  rfl

theorem passHeader_cut (hlow : s.pool.freeCount < blocksFor h.len.toNat) :
    passHeader i h e st none s =
      postEvent causePoolCut i.val (wordOf (blocksFor h.len.toNat)) (beginReception i h e st none .poolCut s) := by
  unfold passHeader
  rw [if_neg (Nat.not_le_of_gt hlow)]
  rfl

theorem allocStored_parcel (p : Stored) (s : State) (k : Nat) : (allocStored p s).parcel k =
    if k = s.pool.nextId then some { p with blocks := (pickBlocks s.pool.allocs p.nBlocks s.pool.free).1 }
    else s.parcel k := by
  rw [State.parcel, allocStored_pool]
  exact assocGet_put ..

end Pass

/-- HEADER_WORD of a parcel that its valid entry passes, with no log record asked for. -/
theorem lookupHeader_received_passed {i : Slot} {w : Word} {s : State}
    (hvalid : (s.entryAt i (Header.ofWord w)).valid = true) (hlog : (s.entryAt i (Header.ofWord w)).log = false)
    (hpark : (s.entryAt i (Header.ofWord w)).park = false) (hkind : (Header.ofWord w).kind.toNat < 6)
    (hperm : (s.entryAt i (Header.ofWord w)).permits (Header.ofWord w).kind = true) :
    lookupHeader i (Header.ofWord w) (s.setRx i (headerRx w)) =
      passHeader i (Header.ofWord w) (s.entryCopy i (Header.ofWord w)) s.now.stamp none (s.setRx i (headerRx w)) := by
  have hunlogged : (s.setRx i (headerRx w)).unlogged i (Header.ofWord w) := by
    unfold State.unlogged
    rw [entryAt_setRx, hlog, Bool.and_false]
  have hyes : ((s.setRx i (headerRx w)).entryCopy i (Header.ofWord w)).refusal (Header.ofWord w).kind = none := by
    rw [entryCopy_setRx]
    exact refusal_none hvalid hkind hperm
  rw [lookupHeader_passed hunlogged hyes (by rw [entryAt_setRx, hpark]), entryCopy_setRx, now_setRx]

theorem pool_setRx (s : State) (i : Slot) (r : RxState) : (s.setRx i r).pool = s.pool := by simp

/-! ## Payload words (R4, R25) -/

/-- BODY_WORD of a payload word of the parcel in reception. -/
theorem exec_payload {i : Slot} {w crc : Word} {h : Header} {n : Nat} {s t : State} (hframes : s.framing i = true)
    (hrx : (s.slot i).port.rx = .inParcel h (n + 1) crc)
    (ht : parcelPayload i w (s.setRx i (.inParcel h n (crcWord crc w))) = t) (hsettle : settleDrains t = t) :
    exec (.bodyWord i w) s = .next t := by
  show Host.Outcome.next (if s.framing i then settleDrains (rxBody i w s) else s) = .next t
  rw [if_pos hframes]
  unfold rxBody
  rw [hrx]
  dsimp only
  rw [ht, hsettle]

theorem parcelPayload_passed {i : Slot} {w : Word} {s : State} {r : Reception} {pid : Nat}
    (hr : (s.slot i).ing.reception = some r) (hfate : r.fate = .passed pid) :
    parcelPayload i w s = passedPayload i r pid w s := by
  unfold parcelPayload
  rw [hr]
  dsimp only
  rw [hfate]

theorem parcelPayload_poolCut {i : Slot} {w : Word} {s : State} {r : Reception}
    (hr : (s.slot i).ing.reception = some r) (hfate : r.fate = .poolCut) : parcelPayload i w s = s := by
  unfold parcelPayload
  rw [hr]
  dsimp only
  rw [hfate]

theorem passedPayload_stored {i : Slot} {w : Word} {s : State} {r : Reception} {pid : Nat}
    (hcls : r.entry.govern ≠ .stream) :
    passedPayload i r pid w s = modStored pid (fun p => { p with words := p.words ++ [w] }) s := by
  simp [passedPayload, hcls]

theorem modStored_some {pid : Nat} {p : Stored} {f : Stored → Stored} {s : State} (hp : s.parcel pid = some p) :
    modStored pid f s = s.modPool (fun q => { q with parcels := assocPut q.parcels pid (f p) }) := by
  unfold modStored
  rw [hp]

theorem modStored_parcel {pid : Nat} {p : Stored} {f : Stored → Stored} {s : State} (hp : s.parcel pid = some p)
    (k : Nat) : (modStored pid f s).parcel k = if k = pid then some (f p) else s.parcel k := by
  rw [modStored_some hp, State.parcel, (modPool_fields _ _).1]
  exact assocGet_put ..

theorem ing_setRx (s : State) (i : Slot) (r : RxState) (j : Slot) : ((s.setRx i r).slot j).ing = (s.slot j).ing :=
  (setRx_touches i s r).ing (by decide) j

/-! ## The obligation -/

theorem passedHeader_stored {i : Slot} {w : Word} {s : State} {h : Header} {e : FlowEntry} (hh : h = Header.ofWord w)
    (he : e = s.flowAt (i.val * 64 + h.chan.toNat)) (hframes : s.framing i = true)
    (hrx : ∀ h n c, (s.slot i).port.rx ≠ .inParcel h n c) (hs : s.settled) (hlook : s.looksUp i h)
    (hvalid : e.valid = true) (hlog : e.log = false) (hpark : e.park = false) (hkind : h.kind.toNat < 6)
    (hperm : e.permits h.kind = true) (hfits : (h.len.toNat + 16) / 16 ≤ s.pool.freeCount) :
    ∃ t, exec (.headerWord i w) s = .next t ∧
      (t.slot i).port.rx = .inParcel h h.len.toNat (crcWord 0xFFFFFFFF#32 w) ∧
      (∃ r, (t.slot i).ing.reception = some r ∧ r.hdr = h ∧ r.fate = .passed s.pool.nextId ∧
        r.entry = { e with dest := delSlot e.dest i }) ∧
      t.pool.freeCount = s.pool.freeCount - (h.len.toNat + 16) / 16 ∧
      (∃ p, t.parcel s.pool.nextId = some p ∧ p.hdr = h ∧ p.cls = e.govern ∧ p.egress = e.egress ∧ p.owner = i ∧
        p.nBlocks = (h.len.toNat + 16) / 16 ∧ p.words = [] ∧ p.isOpen = false ∧ p.refs = 1) ∧
      (∀ k, k ≠ s.pool.nextId → t.parcel k = s.parcel k) ∧
      KeepsBut [.port, .ing, .pool, .alarm, .mgmt] s t ∧ OnlyReplies s t ∧ OtherSlots i s t := by
  subst hh he
  have hlookup := lookupHeader_received_passed hvalid hlog hpark hkind hperm
  rw [passHeader_stored (by rw [pool_setRx]; exact hfits), pool_setRx, ← received] at hlookup
  have hbegin := received_touches i w (.passed s.pool.nextId) s
  have hpool : (received i w (.passed s.pool.nextId) s).pool = s.pool := hbegin.keeps.1 .pool (by decide)
  have hall := hbegin.then (allocStored_touches i _ (newParcel i (Header.ofWord w) (s.entryCopy i (Header.ofWord w))))
    (rs := [.port, .ing, .pool, .alarm, .mgmt])
  refine ⟨_, exec_headerWord hframes hrx hlook hlookup (hall.settleDrains hs), ?_,
    ⟨arrival i w (.passed s.pool.nextId) s, ?_, rfl, rfl, rfl⟩, ?_, ?_, ?_,
    hall.keeps, hall.replies, hall.others⟩
  · rw [(allocStored_touches i ..).port, received_port]
    rfl
  · rw [(allocStored_touches i ..).ing, received_ing]
  · rw [allocStored_pool, hpool]
    rfl
  · exact ⟨_, by rw [allocStored_parcel, hpool, if_pos rfl], rfl, rfl, rfl, rfl, rfl, rfl, rfl, rfl⟩
  · intro k hk
    rw [allocStored_parcel, hpool, if_neg hk, State.parcel, hpool, State.parcel]

theorem passedHeader_cut {i : Slot} {w : Word} {s : State} {h : Header} {e : FlowEntry} (hh : h = Header.ofWord w)
    (he : e = s.flowAt (i.val * 64 + h.chan.toNat)) (hframes : s.framing i = true)
    (hrx : ∀ h n c, (s.slot i).port.rx ≠ .inParcel h n c) (hs : s.settled) (hlook : s.looksUp i h)
    (hvalid : e.valid = true) (hlog : e.log = false) (hpark : e.park = false) (hkind : h.kind.toNat < 6)
    (hperm : e.permits h.kind = true) (hlow : s.pool.freeCount < (h.len.toNat + 16) / 16) :
    ∃ t, exec (.headerWord i w) s = .next t ∧
      (t.slot i).port = { (s.slot i).port with rx := .inParcel h h.len.toNat (crcWord 0xFFFFFFFF#32 w) } ∧
      (t.slot i).ing = { (s.slot i).ing with
        reception := some
          { hdr := h, stamp := { sec := s.timing.time.sec % 65536, ns := s.timing.time.ns },
            entry := { e with dest := delSlot e.dest i }, log := none, fate := .poolCut, enq := 0, disc := 0 } } ∧
      t.alarm = (postEvent causePoolCut i.val (wordOf ((h.len.toNat + 16) / 16)) s).alarm ∧
      KeepsBut [.port, .ing, .alarm, .mgmt] s t ∧ OnlyReplies s t ∧ OtherSlots i s t := by
  subst hh he
  have hlookup := lookupHeader_received_passed hvalid hlog hpark hkind hperm
  rw [passHeader_cut (by rw [pool_setRx]; exact hlow), ← received] at hlookup
  have hbegin := received_touches i w .poolCut s
  have hall := hbegin.then (postEvent_touches i _ causePoolCut i.val (wordOf (blocksFor (Header.ofWord w).len.toNat)))
    (rs := [.port, .ing, .alarm, .mgmt])
  refine ⟨_, exec_headerWord hframes hrx hlook hlookup (hall.settleDrains hs), ?_, ?_, ?_, hall.keeps, hall.replies,
    hall.others⟩
  · rw [(postEvent_touches i ..).port, received_port]
    rfl
  · rw [(postEvent_touches i ..).ing, received_ing]
    rfl
  · exact postEvent_alarm_congr hbegin.reporting ..

/-- Settles O17: the pool test of a passed header, and the payload word of a stored parcel or of one that was cut. -/
theorem passedParcelsAreStored : Obligations.PassedParcelsAreStored := by
  refine ⟨?_, ?_⟩
  · intro i w s h e hh he hframes hrx hs hmgmt htod hvalid hlog hpark hkind hperm
    exact ⟨passedHeader_stored hh he hframes hrx hs ⟨hmgmt, htod⟩ hvalid hlog hpark hkind hperm,
      passedHeader_cut hh he hframes hrx hs ⟨hmgmt, htod⟩ hvalid hlog hpark hkind hperm⟩
  · intro i w crc hw n s r hframes hs hrx hr
    have hset := setRx_touches i s (.inParcel hw n (crcWord crc w))
    have hr' : ((s.setRx i (.inParcel hw n (crcWord crc w))).slot i).ing.reception = some r := by rw [ing_setRx, hr]
    refine ⟨fun pid p hfate hcls hp => ?_, fun hfate => ?_⟩
    · have hp' : (s.setRx i (.inParcel hw n (crcWord crc w))).parcel pid = some p := by
        rw [State.parcel, pool_setRx]; exact hp
      have hall := hset.then (modStored_touches i _ pid (fun p => { p with words := p.words ++ [w] }))
        (rs := [.port, .pool])
      refine ⟨_, exec_payload hframes hrx ((parcelPayload_passed hr' hfate).trans (passedPayload_stored hcls))
        (hall.settleDrains hs), ?_, ?_, ?_, ?_, ?_, hall.keeps, hall.others⟩
      · rw [(modStored_touches i ..).port, setRx_port]
      · rw [modStored_parcel hp', if_pos rfl]
      · intro k hk
        rw [modStored_parcel hp', if_neg hk, State.parcel, pool_setRx, State.parcel]
      · rw [modStored_some hp', (modPool_fields _ _).1, pool_setRx]
      · rw [modStored_some hp', (modPool_fields _ _).1, pool_setRx]
    · exact ⟨_, exec_payload hframes hrx (parcelPayload_poolCut hr' hfate) (hset.settleDrains hs), setRx_port ..,
        hset.keeps, hset.others⟩

end Sys2Proof.Machine
end

section
/-! PROOFS. Parcels for parking memory: the judgement of their area at header arrival, and the words of one that is
discarded (R61 to R63). -/

namespace Sys2Proof.Machine

/-! ## The judgement (R62) -/

/-- The reason of a discard, 0 where the area accepts the footprint. -/
theorem judge_eq (a : Area) (len : Nat) : a.judge (len + 1) =
    (if a.mode = .off then some 1
      else if (a.mode = .latest ∧ a.size < len + 1) ∨ (a.mode = .ring ∧ a.size < len + 2) then some 2 else none) := by
  unfold Area.judge
  cases a.mode with
  | off => simp
  | latest => simp
  | ring =>
    have hring : a.size - 1 < len + 1 ↔ a.size < len + 2 := by omega
    simp [hring]

section Park

variable {i : Slot} {n : Fin 64} {h : Header} {s : State}

theorem parkHeader_accepts (hj : s.park.areas[n].judge (h.len.toNat + 1) = none) :
    parkHeader i n h none s = s.setLanding i (.landing n h [] false) := by
  unfold parkHeader
  rw [hj]

theorem parkHeader_discards {reason : Nat} (hj : s.park.areas[n].judge (h.len.toNat + 1) = some reason) :
    parkHeader i n h none s = parkDiscard i n h.chan reason (s.setLanding i .discarding) := by
  unfold parkHeader
  rw [hj]
  rfl

theorem setLanding_ing (l : Landing) : ((s.setLanding i l).slot i).ing = { (s.slot i).ing with landing := l } := by
  simp [State.setLanding]

end Park

/-- HEADER_WORD of a parcel that its valid entry parks, with no log record asked for. -/
theorem lookupHeader_received_parked {i : Slot} {w : Word} {s : State}
    (hvalid : (s.entryAt i (Header.ofWord w)).valid = true) (hlog : (s.entryAt i (Header.ofWord w)).log = false)
    (hpark : (s.entryAt i (Header.ofWord w)).park = true) (hkind : (Header.ofWord w).kind.toNat < 6)
    (hperm : (s.entryAt i (Header.ofWord w)).permits (Header.ofWord w).kind = true) :
    lookupHeader i (Header.ofWord w) (s.setRx i (headerRx w)) =
      parkHeader i (Fin.ofNat 64 (s.entryAt i (Header.ofWord w)).area.toNat) (Header.ofWord w) none
        (received i w .parked s) := by
  have hunlogged : (s.setRx i (headerRx w)).unlogged i (Header.ofWord w) := by
    unfold State.unlogged
    rw [entryAt_setRx, hlog, Bool.and_false]
  have hyes : ((s.setRx i (headerRx w)).entryCopy i (Header.ofWord w)).refusal (Header.ofWord w).kind = none := by
    rw [entryCopy_setRx]
    exact refusal_none hvalid hkind hperm
  rw [lookupHeader_parked hunlogged hyes (by rw [entryAt_setRx, hpark]), entryCopy_setRx, now_setRx, entryAt_setRx,
    received]

theorem fin64_ofNat {k : Nat} {n : Fin 64} (h : k = n.val) : Fin.ofNat 64 k = n := by
  subst h
  exact Fin.ext (Nat.mod_eq_of_lt n.isLt)

theorem parkedHeader_judged {i : Slot} {w : Word} {s : State} {h : Header} {e : FlowEntry} {n : Fin 64} {a : Area}
    {reason : Nat} (hh : h = Header.ofWord w) (he : e = s.flowAt (i.val * 64 + h.chan.toNat))
    (hframes : s.framing i = true) (hrx : ∀ h n c, (s.slot i).port.rx ≠ .inParcel h n c) (hs : s.settled)
    (hlook : s.looksUp i h) (hvalid : e.valid = true) (hlog : e.log = false) (hpark : e.park = true)
    (hkind : h.kind.toNat < 6) (hperm : e.permits h.kind = true) (hn : e.area.toNat = n.val)
    (ha : a = s.park.areas[n])
    (hreason : reason = (if a.mode = .off then 1
      else if (a.mode = .latest ∧ a.size < h.len.toNat + 1) ∨ (a.mode = .ring ∧ a.size < h.len.toNat + 2) then 2
      else 0)) :
    ∃ t, exec (.headerWord i w) s = .next t ∧
      (t.slot i).port = { (s.slot i).port with rx := .inParcel h h.len.toNat (crcWord 0xFFFFFFFF#32 w) } ∧
      (∃ r, (t.slot i).ing = { (s.slot i).ing with
          reception := some r, landing := if reason = 0 then .landing n h [] false else .discarding } ∧
        r.hdr = h ∧ r.fate = .parked ∧ r.log = none ∧ r.entry = { e with dest := delSlot e.dest i }) ∧
      t.alarm = (if reason = 0 then s.alarm
        else (postEvent causeParkDiscard n.val (wordOf (reason * 65536 + i.val * 256 + h.chan.toNat)) s).alarm) ∧
      (reason = 0 → KeepsBut [.port, .ing] s t) ∧
      KeepsBut [.port, .ing, .alarm, .mgmt] s t ∧ OnlyReplies s t ∧ OtherSlots i s t := by
  subst hh he
  have hlookup := lookupHeader_received_parked hvalid hlog hpark hkind hperm
  have hbegin := received_touches i w .parked s
  have hareas : (received i w .parked s).park.areas[n] = a := by rw [hbegin.keeps.1 .park (by decide), ha]
  have hland (l : Landing) := hbegin.then (setLanding_touches i _ l) (rs := [.port, .ing])
  have hport (l : Landing) := (setLanding_touches i (received i w .parked s) l).port (by decide) i
  have hjudge : a.judge ((Header.ofWord w).len.toNat + 1) = if reason = 0 then none else some reason := by
    rw [judge_eq, hreason]
    split
    · rfl
    · split <;> rfl
  have harea : Fin.ofNat 64 (s.entryAt i (Header.ofWord w)).area.toNat = n := fin64_ofNat hn
  rw [harea] at hlookup
  by_cases hzero : reason = 0
  · rw [if_pos hzero] at hjudge
    rw [parkHeader_accepts (by rw [hareas]; exact hjudge)] at hlookup
    refine ⟨_, exec_headerWord hframes hrx hlook hlookup ((hland _).settleDrains hs), ?_,
      ⟨arrival i w .parked s, ?_, rfl, rfl, rfl, rfl⟩, ?_, fun _ => (hland _).keeps, (hland _).keeps.mono,
      (hland _).replies, (hland _).others⟩
    · rw [hport, received_port]
      rfl
    · rw [setLanding_ing, received_ing, if_pos hzero]
    · rw [if_pos hzero]
      exact (hland _).keeps.1 .alarm (by decide)
  · rw [if_neg hzero] at hjudge
    rw [parkHeader_discards (by rw [hareas]; exact hjudge)] at hlookup
    have hall := (hland .discarding).then (postEvent_touches i _ causeParkDiscard n.val
      (wordOf (reason * 65536 + i.val * 256 + (Header.ofWord w).chan.toNat))) (rs := [.port, .ing, .alarm, .mgmt])
    refine ⟨_, exec_headerWord hframes hrx hlook hlookup (hall.settleDrains hs), ?_,
      ⟨arrival i w .parked s, ?_, rfl, rfl, rfl, rfl⟩, ?_, fun h => absurd h hzero, hall.keeps, hall.replies,
      hall.others⟩
    · rw [parkDiscard, (postEvent_touches i ..).port, hport, received_port]
      rfl
    · rw [parkDiscard, (postEvent_touches i ..).ing, setLanding_ing, received_ing, if_neg hzero]
    · rw [if_neg hzero]
      exact postEvent_alarm_congr (hland _).reporting ..

/-! ## The words of a discarded parcel (R61, R63) -/

/-- A slot replaced by itself. -/
theorem setSlot_self (s : State) (i : Slot) : s.setSlot i (s.slot i) = s := by
  cases s
  simp [State.setSlot, State.slot]

theorem modIng_self {f : Ingress → Ingress} {i : Slot} {s : State} (h : f (s.slot i).ing = (s.slot i).ing) :
    s.modIng i f = s := by
  rw [State.modIng, h]
  exact setSlot_self s i

theorem parcelPayload_discarding {i : Slot} {w : Word} {s : State} {r : Reception}
    (hr : (s.slot i).ing.reception = some r) (hfate : r.fate = .parked)
    (hland : (s.slot i).ing.landing = .discarding) : parcelPayload i w s = s := by
  unfold parcelPayload
  rw [hr]
  dsimp only
  rw [hfate]
  refine modIng_self ?_
  rw [hland]
  cases h : (s.slot i).ing
  simp_all

/-- BODY_WORD of the check word of the parcel in reception. -/
theorem exec_checkWord {i : Slot} {w crc : Word} {h : Header} {s t : State} (hframes : s.framing i = true)
    (hrx : (s.slot i).port.rx = .inParcel h 0 crc)
    (ht : parcelEnd i (if w = ~~~crc then .good else .bad) (s.setRx i .awaitHeader) = t)
    (hsettle : settleDrains t = t) : exec (.bodyWord i w) s = .next t := by
  show Host.Outcome.next (if s.framing i then settleDrains (rxBody i w s) else s) = .next t
  rw [if_pos hframes]
  unfold rxBody
  rw [hrx]
  dsimp only
  rw [show checkWord crc = ~~~crc from rfl, ht, hsettle]

/-- The reception of a slot is over. -/
def closeReception (i : Slot) (s : State) : State := s.modIng i (fun g => { g with reception := none })

theorem closeReception_touches (i : Slot) (s : State) : Touches [.ing] i s (closeReception i s) := modIng_touches ..

theorem closeReception_ing (i : Slot) (s : State) :
    ((closeReception i s).slot i).ing = { (s.slot i).ing with reception := none } := by
  simp [closeReception]

theorem parcelEnd_parked {i : Slot} {e : PEnd} {s : State} {r : Reception}
    (hr : (s.slot i).ing.reception = some r) (hfate : r.fate = .parked) :
    parcelEnd i e s = parkEnd i e r.log
      (if e = .bad then postCheckFail i r.hdr.chan (closeReception i s) else closeReception i s) := by
  unfold parcelEnd
  rw [hr]
  dsimp only
  rw [hfate]
  rfl

theorem parkEnd_discarding {i : Slot} {e : PEnd} {hd : Option LogHandle} {s : State}
    (hland : (s.slot i).ing.landing = .discarding) : parkEnd i e hd s = s.setLanding i .clear := by
  unfold parkEnd
  rw [hland]

theorem discardedEnd {i : Slot} {w crc : Word} {hw : Header} {r : Reception} {s : State}
    (hframes : s.framing i = true) (hs : s.settled) (hr : (s.slot i).ing.reception = some r)
    (hfate : r.fate = .parked) (hland : (s.slot i).ing.landing = .discarding)
    (hrx : (s.slot i).port.rx = .inParcel hw 0 crc) :
    ∃ t, exec (.bodyWord i w) s = .next t ∧ (t.slot i).port = { (s.slot i).port with rx := .awaitHeader } ∧
      (t.slot i).ing = { (s.slot i).ing with reception := none, landing := .clear } ∧
      t.alarm = (if w = ~~~crc then s.alarm
        else (postEvent causeCheckFail i.val (wordOf r.hdr.chan.toNat) s).alarm) ∧
      KeepsBut [.port, .ing, .alarm, .mgmt] s t ∧ OnlyReplies s t ∧ OtherSlots i s t := by
  have hset := setRx_touches i s .awaitHeader
  have hr' : ((s.setRx i .awaitHeader).slot i).ing.reception = some r := by rw [ing_setRx, hr]
  have hclose := hset.then (closeReception_touches i _) (rs := [.port, .ing])
  have hcloseIng : ((closeReception i (s.setRx i .awaitHeader)).slot i).ing =
      { (s.slot i).ing with reception := none } := by rw [closeReception_ing, ing_setRx]
  have hclosePort : ((closeReception i (s.setRx i .awaitHeader)).slot i).port =
      { (s.slot i).port with rx := .awaitHeader } := by rw [(closeReception_touches i _).port, setRx_port]
  have hend := parcelEnd_parked (e := if w = ~~~crc then .good else .bad) hr' hfate
  by_cases hgood : w = ~~~crc
  · rw [if_pos hgood, if_neg (by decide), parkEnd_discarding (by rw [hcloseIng]; exact hland)] at hend
    have hall := hclose.then (setLanding_touches i _ .clear) (rs := [.port, .ing])
    refine ⟨_, exec_checkWord hframes hrx (by rw [if_pos hgood]; exact hend) (hall.settleDrains hs), ?_, ?_, ?_,
      hall.keeps.mono, hall.replies, hall.others⟩
    · rw [(setLanding_touches i ..).port, hclosePort]
    · rw [setLanding_ing, hcloseIng]
    · rw [if_pos hgood]
      exact hall.keeps.1 .alarm (by decide)
  · have hfail := hclose.then (postEvent_touches i _ causeCheckFail i.val (wordOf r.hdr.chan.toNat))
      (rs := [.port, .ing, .alarm, .mgmt])
    have hfailIng := (postEvent_touches i (closeReception i (s.setRx i .awaitHeader)) causeCheckFail i.val
      (wordOf r.hdr.chan.toNat)).ing (by decide) i
    rw [if_neg hgood, if_pos rfl, postCheckFail, parkEnd_discarding (by rw [hfailIng, hcloseIng]; exact hland)] at hend
    have hall := hfail.then (setLanding_touches i _ .clear) (rs := [.port, .ing, .alarm, .mgmt])
    refine ⟨_, exec_checkWord hframes hrx (by rw [if_neg hgood]; exact hend) (hall.settleDrains hs), ?_, ?_, ?_,
      hall.keeps, hall.replies, hall.others⟩
    · rw [(setLanding_touches i ..).port, (postEvent_touches i ..).port, hclosePort]
    · rw [setLanding_ing, hfailIng, hcloseIng]
    · rw [if_neg hgood, (setLanding_touches i ..).keeps.1 .alarm (by decide)]
      exact postEvent_alarm_congr hclose.reporting ..

/-- Settles O18: the judgement of the area as the header arrives, and the words and the end of a discarded parcel. -/
theorem parkHeaderIsJudged : Obligations.ParkHeaderIsJudged := by
  refine ⟨?_, ?_⟩
  · intro i w s h e n a reason hh he hframes hrx hs hmgmt htod hvalid hlog hpark hkind hperm hn ha hreason
    exact parkedHeader_judged hh he hframes hrx hs ⟨hmgmt, htod⟩ hvalid hlog hpark hkind hperm hn ha hreason
  · intro i w crc hw r s hframes hs hr hfate _ hland
    refine ⟨fun m hrx => ?_, fun hrx => discardedEnd hframes hs hr hfate hland hrx⟩
    have hset := setRx_touches i s (.inParcel hw m (crcWord crc w))
    have hpayload := parcelPayload_discarding (w := w) (s := s.setRx i (.inParcel hw m (crcWord crc w)))
      (by rw [ing_setRx, hr]) hfate (by rw [ing_setRx, hland])
    exact ⟨_, exec_payload hframes hrx hpayload (hset.settleDrains hs), setRx_port .., hset.keeps, hset.others⟩

end Sys2Proof.Machine
end

section
/-! PROOFS. Landings: where the words of a footprint go, and what the end of a parked parcel leaves (R61 to R69). -/

namespace Sys2Proof.Machine

/-! ## Parts that an effect leaves alone -/

section Same

variable {ps : List Part} {i : Slot} {s t : State}

theorem Touches.flow (h : Touches ps i s t) (hp : Part.flow ∉ ps := by decide) : t.flow = s.flow := h.keeps.1 .flow hp

theorem Touches.pool (h : Touches ps i s t) (hp : Part.pool ∉ ps := by decide) : t.pool = s.pool := h.keeps.1 .pool hp

theorem Touches.park (h : Touches ps i s t) (hp : Part.park ∉ ps := by decide) : t.park = s.park := h.keeps.1 .park hp

theorem Touches.log (h : Touches ps i s t) (hp : Part.log ∉ ps := by decide) : t.log = s.log := h.keeps.1 .log hp

theorem Touches.timing (h : Touches ps i s t) (hp : Part.timing ∉ ps := by decide) : t.timing = s.timing :=
  h.keeps.1 .timing hp

theorem Touches.nextEdge (h : Touches ps i s t) (hp : Part.nextEdge ∉ ps := by decide) : t.nextEdge = s.nextEdge :=
  h.keeps.1 .nextEdge hp

theorem Touches.chain (h : Touches ps i s t) (hp : Part.chain ∉ ps := by decide) : t.chain = s.chain :=
  h.keeps.1 .chain hp

theorem Touches.watches (h : Touches ps i s t) (hp : Part.watches ∉ ps := by decide) : t.watches = s.watches :=
  h.keeps.1 .watches hp

theorem Touches.alarm (h : Touches ps i s t) (hp : Part.alarm ∉ ps := by decide) : t.alarm = s.alarm :=
  h.keeps.1 .alarm hp

theorem Touches.mgmt (h : Touches ps i s t) (hp : Part.mgmt ∉ ps := by decide) : t.mgmt = s.mgmt := h.keeps.1 .mgmt hp

theorem Touches.glob (h : Touches ps i s t) (hp : Part.glob ∉ ps := by decide) : t.glob = s.glob := h.keeps.1 .glob hp

theorem Touches.edges (h : Touches ps i s t) (hp : Part.edges ∉ ps := by decide) (j : Slot) :
    (t.slot j).edges = (s.slot j).edges := h.keeps.1 .edges hp j

theorem Touches.cursor (h : Touches ps i s t) (hp : Part.cursor ∉ ps := by decide) (j : Slot) :
    (t.slot j).cursor = (s.slot j).cursor := h.keeps.1 .cursor hp j

end Same

/-! ## The words of a footprint in parking memory (R64, R65, R67) -/

/-- Addresses in parking memory are told apart. -/
theorem parkRead_write_lt {m : Assoc Word} {a b : Nat} {v : Word} (ha : a < 32768) (hb : b < 32768) :
    parkRead (parkWrite m a v) b = if b = a then v else parkRead m b := by
  have hindex {x : Nat} (hx : x < 32768) : parkIndex x = x := Nat.mod_eq_of_lt hx
  rw [parkRead_write, hindex ha, hindex hb]

theorem parkRead_writeSeq {ws : List Word} {m : Assoc Word} {a b : Nat} (ha : a + ws.length ≤ 32768)
    (hb : b < 32768) :
    parkRead (parkWriteSeq m a ws) b =
      if a ≤ b ∧ b < a + ws.length then ws.getD (b - a) 0 else parkRead m b := by
  induction ws generalizing m a with
  | nil =>
    rw [parkWriteSeq, if_neg (by simp)]
  | cons w r ih =>
    rw [List.length_cons] at ha
    rw [parkWriteSeq, ih (by omega), List.length_cons]
    by_cases hin : a + 1 ≤ b ∧ b < a + 1 + r.length
    · have hsucc : b - a = b - (a + 1) + 1 := by omega
      rw [if_pos hin, if_pos (by omega), hsucc]
      rfl
    · rw [if_neg hin, parkRead_write_lt (by omega) hb]
      by_cases hba : b = a
      · subst hba
        simp
      · rw [if_neg hba, if_neg (by omega)]

/-- Places round a ring are told apart within its size. -/
theorem ring_inj {size k x y : Nat} (hx : x < size) (hy : y < size) (h : (k + x) % size = (k + y) % size) : x = y := by
  have hmod : x % size = y % size := Nat.ModEq.add_left_cancel' k h
  rwa [Nat.mod_eq_of_lt hx, Nat.mod_eq_of_lt hy] at hmod

theorem parkRead_writeRing_off {ws : List Word} {m : Assoc Word} {base size k b : Nat} (hsize : 0 < size)
    (hfit : base + size ≤ 32768) (hb : b < 32768) (hoff : ∀ j, j < ws.length → b ≠ base + (k + j) % size) :
    parkRead (parkWriteRing m base size k ws) b = parkRead m b := by
  induction ws generalizing m k with
  | nil => rfl
  | cons w r ih =>
    have hplace := Nat.mod_lt k hsize
    have hrest : ∀ j, j < r.length → b ≠ base + (k + 1 + j) % size := fun j hj => by
      have := hoff (j + 1) (by simpa using hj)
      rwa [show k + (j + 1) = k + 1 + j by omega] at this
    rw [parkWriteRing, ih hrest, parkRead_write_lt (by omega) hb, if_neg (by simpa using hoff 0 (by simp))]

theorem parkRead_writeRing_on {ws : List Word} {m : Assoc Word} {base size k j : Nat} (hfit : base + size ≤ 32768)
    (hlen : ws.length ≤ size) (hj : j < ws.length) :
    parkRead (parkWriteRing m base size k ws) (base + (k + j) % size) = ws.getD j 0 := by
  induction ws generalizing m k j with
  | nil => simp at hj
  | cons w r ih =>
    rw [List.length_cons] at hlen hj
    have hsize : 0 < size := by omega
    have hplace (x : Nat) := Nat.mod_lt x hsize
    cases j with
    | zero =>
      have hk := hplace (k + 0)
      rw [parkWriteRing, parkRead_writeRing_off hsize hfit (by omega), parkRead_write_lt (by have := hplace k; omega)
        (by omega), if_pos (by simp), List.getD_cons_zero]
      intro x hx heq
      have := ring_inj (size := size) (k := k) (x := 0) (y := x + 1) hsize (by omega)
        (by rw [show k + (x + 1) = k + 1 + x by omega]; omega)
      omega
    | succ j =>
      rw [parkWriteRing, show k + (j + 1) = k + 1 + j by omega, ih (by omega) (by omega), List.getD_cons_succ]

section Footprint

variable {good : Bool} {i : Slot} {h : Header} {ws : List Word}

theorem footprintWords_length : (footprintWords good i h ws).length = h.len.toNat + 1 := by simp [footprintWords]

theorem footprintWords_head : (footprintWords good i h ws).getD 0 0 = landingWord good i h := rfl

theorem footprintWords_payload {j : Nat} (hj : j < h.len.toNat) :
    (footprintWords good i h ws).getD (j + 1) 0 = ws.getD j 0 := by
  simp [footprintWords, hj]

end Footprint

/-! ## What the end of a parked parcel touches -/

section Ends

variable (s : State) (i : Slot)

theorem setWatch_touches (n : Fin 32) (w : Watch) : Touches [.watches] i s (s.setWatch n w) :=
  ⟨⟨fun p hp => by cases p <;> simp_all [Part.Same], by simp⟩, .of_eq (by simp), otherSlots_of_slots (by simp)⟩

theorem evalWatch_touches (n : Fin 32) : Touches [.watches, .alarm, .mgmt] i s (evalWatch n s) := by
  have hset (w : Watch) := (setWatch_touches s i n w).mono (rs := [.watches, .alarm, .mgmt])
  unfold evalWatch
  dsimp only
  split
  · split
    · exact hset _
    · exact touches_ite ((hset _).then (clearCond_touches ..)) (hset _)
  · exact touches_ite ((hset _).then (raiseCond_touches ..)) (hset _)

theorem evalArea_touches (a : Fin 64) : Touches [.watches, .alarm, .mgmt] i s (evalArea a s) := by
  unfold evalArea
  generalize allWatches = l
  induction l generalizing s with
  | nil => exact .refl ..
  | cons n l ih => exact (touches_ite (evalWatch_touches s i n) (.refl ..)).then (ih _)

/-- The reception of a parked parcel is over with its landing record, and CHECK-FAIL is posted at a bad end. -/
def endLanding (good : Bool) (chan : BitVec 6) : State :=
  (if good then closeReception i s else postCheckFail i chan (closeReception i s)).setLanding i .clear

variable {s} {i}

theorem endLanding_touches (good : Bool) (chan : BitVec 6) :
    Touches [.ing, .alarm, .mgmt] i s (endLanding s i good chan) := by
  have hclose := (closeReception_touches i s).mono (rs := [.ing, .alarm, .mgmt])
  unfold endLanding
  split
  · exact hclose.then (setLanding_touches ..)
  · exact (hclose.then (postEvent_touches ..) (rs := [.ing, .alarm, .mgmt])).then (setLanding_touches ..)

theorem endLanding_ing (good : Bool) (chan : BitVec 6) : ((endLanding s i good chan).slot i).ing =
    { (s.slot i).ing with reception := none, landing := .clear } := by
  unfold endLanding
  rw [setLanding_ing]
  split
  · rw [closeReception_ing]
  · rw [postCheckFail, (postEvent_touches i ..).ing, closeReception_ing]

/-- What the alarm unit of a state was told reads as told to the state before the reception ended. -/
theorem endLanding_reporting {u : State} (hu : SameReporting u s) (good : Bool) (chan : BitVec 6) :
    SameReporting (if good then u else postEvent causeCheckFail i.val (wordOf chan.toNat) u)
      (endLanding s i good chan) := by
  obtain ⟨ha, hw, ht⟩ := hu
  have hclose : SameReporting u (closeReception i s) :=
    ⟨(closeReception_touches i s).alarm.trans ha, (closeReception_touches i s).watches.trans hw,
      (closeReception_touches i s).timing.trans ht⟩
  obtain ⟨ha, hw, ht⟩ := (setLanding_touches i (if good then closeReception i s
    else postCheckFail i chan (closeReception i s)) .clear).reporting
  unfold endLanding
  cases good with
  | true => exact ⟨ha.trans hclose.1, hw.trans hclose.2.1, ht.trans hclose.2.2⟩
  | false =>
    obtain ⟨ha', hw', ht'⟩ := postEvent_sameReporting hclose causeCheckFail i.val (wordOf chan.toNat)
    exact ⟨ha.trans ha', hw.trans hw', ht.trans ht'⟩

theorem parkEnd_lands {e : PEnd} {n : Fin 64} {h : Header} {ws : List Word}
    (hland : (s.slot i).ing.landing = .landing n h ws false) (he : e ≠ .aborted) :
    parkEnd i e none s = land (decide (e = .good)) i n h ws (s.setLanding i .clear) := by
  unfold parkEnd
  rw [hland]
  dsimp only
  rw [if_neg he]
  rfl

end Ends

/-- BODY_WORD of the check word of a parcel that lands, with no log record. -/
theorem exec_landing {i : Slot} {w crc : Word} {hw : Header} {s t : State} {r : Reception} {n : Fin 64} {h : Header}
    {ws : List Word} (hframes : s.framing i = true) (hrx : (s.slot i).port.rx = .inParcel hw 0 crc)
    (hr : (s.slot i).ing.reception = some r) (hfate : r.fate = .parked) (hlog : r.log = none)
    (hland : (s.slot i).ing.landing = .landing n h ws false)
    (ht : land (decide (w = ~~~crc)) i n h ws
      (endLanding (s.setRx i .awaitHeader) i (decide (w = ~~~crc)) r.hdr.chan) = t)
    (hsettle : settleDrains t = t) : exec (.bodyWord i w) s = .next t := by
  have hr' : ((s.setRx i .awaitHeader).slot i).ing.reception = some r := by rw [ing_setRx, hr]
  have hcloseIng : ((closeReception i (s.setRx i .awaitHeader)).slot i).ing =
      { (s.slot i).ing with reception := none } := by rw [closeReception_ing, ing_setRx]
  refine exec_checkWord hframes hrx ?_ hsettle
  rw [parcelEnd_parked hr' hfate, hlog, ← ht]
  by_cases hgood : w = ~~~crc
  · rw [if_pos hgood, if_neg (by decide), parkEnd_lands (by rw [hcloseIng]; exact hland) (by decide)]
    simp [hgood, endLanding]
  · rw [if_neg hgood, if_pos rfl, parkEnd_lands (by
      rw [postCheckFail, (postEvent_touches i ..).ing, hcloseIng]; exact hland) (by decide)]
    simp [hgood, endLanding]

/-! ## LATEST areas (R65, R66) -/

section Latest

variable {good : Bool} {i : Slot} {n : Fin 64} {h : Header} {ws : List Word} {s : State}

theorem landLatest_mem : (landLatest good i n h ws s).park.mem =
    parkWriteSeq s.park.mem (s.park.areas[n].halfStart s.park.areas[n].writeHalf) (footprintWords good i h ws) := by
  unfold landLatest
  dsimp only
  split <;> simp [State.setArea]

theorem landLatest_good : (landLatest true i n h ws s).park.areas = s.park.areas.set n
    ({ s.park.areas[n] with readable := some s.park.areas[n].writeHalf }.complete s.now s.uptime) := by
  simp [landLatest, State.setArea]

/-- The words of a footprint written to the half that is not readable. -/
def putLatest (good : Bool) (i : Slot) (n : Fin 64) (h : Header) (ws : List Word) (s : State) : State :=
  let a := s.park.areas[n]
  s.modPark (fun p => { p with mem := parkWriteSeq p.mem (a.halfStart a.writeHalf) (footprintWords good i h ws) })

theorem landLatest_good_eq : landLatest true i n h ws s = evalArea n ((putLatest true i n h ws s).setArea n
    ({ s.park.areas[n] with readable := some s.park.areas[n].writeHalf }.complete s.now s.uptime)) := rfl

theorem landLatest_bad : landLatest false i n h ws s = putLatest false i n h ws s := rfl

theorem putLatest_touches (s : State) : Touches [.park] i s (putLatest good i n h ws s) := by
  unfold putLatest
  exact modPark_touches ..

theorem setArea_touches (n : Fin 64) (a : Area) : Touches [.park] i s (s.setArea n a) := by
  unfold State.setArea
  exact modPark_touches ..

theorem landLatest_touches : Touches [.park, .watches, .alarm, .mgmt] i s (landLatest good i n h ws s) := by
  cases good with
  | false =>
    rw [landLatest_bad]
    exact (putLatest_touches s).mono
  | true =>
    rw [landLatest_good_eq]
    exact ((putLatest_touches s).then (setArea_touches n _) (rs := [.park])).then (evalArea_touches _ i n)

theorem writeHalf_eq (a : Area) : a.writeHalf = decide (a.readable = some false) := by
  unfold Area.writeHalf
  rcases a.readable with _ | _ | _ <;> rfl

end Latest

/-- Settles O19: the footprint's words in memory, then what each end leaves of the area and reports. -/
theorem goodLatestLanding : Obligations.GoodLatestLanding := by
  intro i w crc hw s r n h ws a start hframes hs hrx hr hfate hlog hland hlen ha hmode hsize hfit hstart
  obtain ⟨u, hu⟩ : ∃ u, u = endLanding (s.setRx i .awaitHeader) i (decide (w = ~~~crc)) r.hdr.chan := ⟨_, rfl⟩
  have hbegin : Touches [.port, .ing, .alarm, .mgmt] i s u := by
    rw [hu]
    exact (setRx_touches i s .awaitHeader).then (endLanding_touches _ _)
  have hport : (u.slot i).port.rx = .awaitHeader := by rw [hu, (endLanding_touches _ _).port, setRx_port]
  have hing : (u.slot i).ing = { (s.slot i).ing with reception := none, landing := .clear } := by
    rw [hu, endLanding_ing, ing_setRx]
  have hareas : u.park = s.park := hbegin.park
  have hua : u.park.areas[n] = a := by rw [hareas, ha]
  have hland' := landLatest_touches (good := decide (w = ~~~crc)) (i := i) (n := n) (h := h) (ws := ws) (s := u)
  have hall := hbegin.then hland' (rs := [.port, .ing, .park, .watches, .alarm, .mgmt])
  have hlands : land (decide (w = ~~~crc)) i n h ws u = landLatest (decide (w = ~~~crc)) i n h ws u := by
    unfold land
    rw [hua, hmode]
  have hhalf : a.halfStart a.writeHalf = start := by
    rw [hstart, Area.halfStart, writeHalf_eq]
    simp
  have hstart_fits : start + (h.len.toNat + 1) ≤ 32768 := by
    rw [hstart]
    split <;> omega
  have hmem := landLatest_mem (good := decide (w = ~~~crc)) (i := i) (n := n) (h := h) (ws := ws) (s := u)
  rw [hua, hhalf, hareas] at hmem
  have hread {b : Nat} (hb : b < 32768) :
      parkRead (landLatest (decide (w = ~~~crc)) i n h ws u).park.mem b =
        if start ≤ b ∧ b < start + (h.len.toNat + 1) then
          (footprintWords (decide (w = ~~~crc)) i h ws).getD (b - start) 0
        else parkRead s.park.mem b := by
    rw [hmem, parkRead_writeSeq (by rw [footprintWords_length]; exact hstart_fits) hb, footprintWords_length]
  refine ⟨_, exec_landing hframes hrx hr hfate hlog hland (by rw [← hu]; exact hlands) (hall.settleDrains hs),
    fun hgood => ?_, fun hbad => ?_, ?_, fun j hj => ?_, fun b hb hout => ?_, ?_, ?_, ?_, hall.keeps, hall.replies,
    hall.others⟩
  · have htiming : u.timing = s.timing := hbegin.timing
    rw [decide_eq_true hgood, landLatest_good, hua, hareas, writeHalf_eq]
    simp [Area.complete, State.now, State.uptime, htiming]
  · rw [decide_eq_false hbad, landLatest_bad]
    have halarm := (endLanding_reporting (i := i) (setRx_touches i s .awaitHeader).reporting (decide (w = ~~~crc))
      r.hdr.chan).1
    have hput := putLatest_touches (good := false) (i := i) (n := n) (h := h) (ws := ws) u
    refine ⟨?_, ?_, ?_⟩
    · unfold putLatest
      simp [hareas]
    · exact hput.watches.trans hbegin.watches
    · rw [← hu, if_neg (by simpa using hbad)] at halarm
      exact hput.alarm.trans halarm
  · rw [hread (by omega), if_pos (by omega), Nat.sub_self]
    exact footprintWords_head
  · have hplace : start + 1 + j - start = j + 1 := by omega
    rw [hread (by omega), if_pos (by omega), hplace, footprintWords_payload (by omega)]
  · rw [hread hb, if_neg (by omega)]
  · rw [hland'.port, hport]
  · rw [hland'.ing, hing]
  · rw [hland'.ing, hing]

end Sys2Proof.Machine
end

section
/-! PROOFS. Landings in RING areas: the words round the ring, the advance and its crossings (R67 to R69). -/

namespace Sys2Proof.Machine

/-! ## Events about one area, in order -/

section Events

variable (n : Nat) (p : Word)

theorem postEvents_sameReporting {s t : State} (h : SameReporting s t) (l : List (Fin 64)) :
    SameReporting (l.foldl (fun u c => postEvent c n p u) s) (l.foldl (fun u c => postEvent c n p u) t) := by
  induction l generalizing s t with
  | nil => exact h
  | cons c l ih => exact ih (postEvent_sameReporting h c n p)

theorem postEvents_touches (i : Slot) (s : State) (l : List (Fin 64)) :
    Touches [.alarm, .mgmt] i s (l.foldl (fun u c => postEvent c n p u) s) := by
  induction l generalizing s with
  | nil => exact .refl ..
  | cons c l ih => exact (postEvent_touches ..).then (ih _)

end Events

theorem inAdvance_iff {i f x : Nat} : inAdvance i f x = true ↔ i < x ∧ x ≤ i + f := by simp [inAdvance]

theorem postCrossings_eq (n : Fin 64) (size i f new : Nat) (s : State) : postCrossings n size i f new s =
    (crossings size i f).foldl (fun u c => postEvent c n.val (wordOf new) u) s := by
  unfold postCrossings crossings
  simp only [inAdvance_iff]
  rw [List.foldl_append, List.foldl_append]
  split <;> split <;> split <;> rfl

/-! ## The landing -/

section Ring

variable {good : Bool} {i : Slot} {n : Fin 64} {h : Header} {ws : List Word} {s : State}

/-- The words of a footprint written round the ring from the write index on. -/
def putRing (good : Bool) (i : Slot) (n : Fin 64) (h : Header) (ws : List Word) (s : State) : State :=
  let a := s.park.areas[n]
  s.modPark (fun p => { p with mem := parkWriteRing p.mem a.base a.size a.writeIdx (footprintWords good i h ws) })

/-- The area after an advance by the footprint, a new copy complete. -/
def ringAdvanced (n : Fin 64) (h : Header) (s : State) : Area :=
  let a := s.park.areas[n]
  { a with writeIdx := (a.writeIdx + (h.len.toNat + 1)) % a.size }.complete s.now s.uptime

/-- The crossings an advance reports: none when the area asks for none. -/
def Area.reported (a : Area) (f : Nat) : List (Fin 64) := if a.crossing then crossings a.size a.writeIdx f else []

theorem landRing_stays (hadv : (good || s.park.areas[n].advance) = false) :
    landRing good i n h ws s = putRing good i n h ws s := by
  unfold landRing
  dsimp only
  rw [hadv]
  rfl

theorem landRing_advances (hadv : (good || s.park.areas[n].advance) = true) :
    landRing good i n h ws s = (s.park.areas[n].reported (h.len.toNat + 1)).foldl
      (fun u c => postEvent c n.val (wordOf ((s.park.areas[n].writeIdx + (h.len.toNat + 1)) % s.park.areas[n].size)) u)
      ((putRing good i n h ws s).setArea n (ringAdvanced n h s)) := by
  unfold landRing Area.reported
  dsimp only
  rw [if_pos hadv, postCrossings_eq]
  split <;> rfl

theorem putRing_touches : Touches [.park] i s (putRing good i n h ws s) := by
  unfold putRing
  exact modPark_touches ..

theorem putRing_mem : (putRing good i n h ws s).park.mem = parkWriteRing s.park.mem s.park.areas[n].base
    s.park.areas[n].size s.park.areas[n].writeIdx (footprintWords good i h ws) := by
  simp [putRing]

theorem putRing_areas : (putRing good i n h ws s).park.areas = s.park.areas := by simp [putRing]

theorem landRing_touches : Touches [.park, .alarm, .mgmt] i s (landRing good i n h ws s) := by
  by_cases hadv : (good || s.park.areas[n].advance) = true
  · rw [landRing_advances hadv]
    exact (putRing_touches.then (setArea_touches n _) (rs := [.park])).then (postEvents_touches ..)
  · rw [landRing_stays (by simpa using hadv)]
    exact putRing_touches.mono

theorem landRing_park : (landRing good i n h ws s).park.mem = (putRing good i n h ws s).park.mem ∧
    (landRing good i n h ws s).park.areas = (if good || s.park.areas[n].advance
      then s.park.areas.set n (ringAdvanced n h s) else s.park.areas) := by
  by_cases hadv : (good || s.park.areas[n].advance) = true
  · rw [landRing_advances hadv, (postEvents_touches n.val _ i _ _).park, if_pos hadv]
    simp [State.setArea, putRing_areas]
  · rw [landRing_stays (by simpa using hadv), if_neg hadv]
    exact ⟨rfl, putRing_areas⟩

/-- The crossings reported at a landing, as told to a state whose alarm unit is the same. -/
theorem landRing_alarm {u : State} (hu : SameReporting u s) : (landRing good i n h ws s).alarm =
    ((if good || s.park.areas[n].advance then s.park.areas[n].reported (h.len.toNat + 1) else []).foldl
      (fun v c => postEvent c n.val (wordOf ((s.park.areas[n].writeIdx + (h.len.toNat + 1)) % s.park.areas[n].size)) v)
      u).alarm := by
  have hput := (putRing_touches (good := good) (n := n) (h := h) (ws := ws) (i := i) (s := s)).then
    (setArea_touches n (ringAdvanced n h s)) (rs := [.park])
  obtain ⟨ha, hw, ht⟩ := hput.reporting
  by_cases hadv : (good || s.park.areas[n].advance) = true
  · rw [landRing_advances hadv, if_pos hadv]
    exact (postEvents_sameReporting _ _ ⟨ha.trans hu.1, hw.trans hu.2.1, ht.trans hu.2.2⟩ _).1
  · rw [landRing_stays (by simpa using hadv), if_neg hadv, putRing_touches.alarm]
    exact hu.1

end Ring

/-- Settles O24: the footprint's words round the ring, then the area and the reports of each end. -/
theorem ringLandingAdvances : Obligations.RingLandingAdvances := by
  intro i w crc hw s r n h ws a hframes hs hrx hr hfate hlog hland hlen ha hmode hsize hidx hfit
  obtain ⟨u, hu⟩ : ∃ u, u = endLanding (s.setRx i .awaitHeader) i (decide (w = ~~~crc)) r.hdr.chan := ⟨_, rfl⟩
  have hbegin : Touches [.port, .ing, .alarm, .mgmt] i s u := by
    rw [hu]
    exact (setRx_touches i s .awaitHeader).then (endLanding_touches _ _)
  have hport : (u.slot i).port.rx = .awaitHeader := by rw [hu, (endLanding_touches _ _).port, setRx_port]
  have hing : (u.slot i).ing = { (s.slot i).ing with reception := none, landing := .clear } := by
    rw [hu, endLanding_ing, ing_setRx]
  have hreport := endLanding_reporting (i := i) (setRx_touches i s .awaitHeader).reporting (decide (w = ~~~crc))
    r.hdr.chan
  rw [← hu] at hreport
  have hua : u.park.areas[n] = a := by rw [hbegin.park, ha]
  have hland' := landRing_touches (good := decide (w = ~~~crc)) (i := i) (n := n) (h := h) (ws := ws) (s := u)
  have hall := hbegin.then hland' (rs := [.port, .ing, .park, .alarm, .mgmt])
  have hlands : land (decide (w = ~~~crc)) i n h ws u = landRing (decide (w = ~~~crc)) i n h ws u := by
    unfold land
    rw [hua, hmode]
  obtain ⟨hmem, hareas⟩ := landRing_park (good := decide (w = ~~~crc)) (i := i) (n := n) (h := h) (ws := ws)
    (s := u)
  have halarm := landRing_alarm (good := decide (w = ~~~crc)) (i := i) (n := n) (h := h) (ws := ws) hreport
  rw [putRing_mem, hua, hbegin.park] at hmem
  rw [hua, hbegin.park] at hareas
  rw [hua] at halarm
  have hwords := footprintWords_length (good := decide (w = ~~~crc)) (i := i) (h := h) (ws := ws)
  refine ⟨_, exec_landing hframes hrx hr hfate hlog hland (by rw [← hu]; exact hlands) (hall.settleDrains hs),
    ?_, fun j hj => ?_, fun b hb hout => ?_, ?_, ?_, ?_, ?_, ?_, hall.keeps, hall.replies, hall.others⟩
  · have hhead := parkRead_writeRing_on (ws := footprintWords (decide (w = ~~~crc)) i h ws) (m := s.park.mem)
      (k := a.writeIdx) (j := 0) hfit (by omega) (by omega)
    rw [Nat.add_zero, Nat.mod_eq_of_lt hidx] at hhead
    rw [hmem, hhead, footprintWords_head]
  · have hplace : a.writeIdx + 1 + j = a.writeIdx + (j + 1) := by omega
    rw [hmem, hplace, parkRead_writeRing_on hfit (by omega) (by omega), footprintWords_payload (by omega)]
  · rw [hmem, parkRead_writeRing_off (by omega) hfit hb]
    intro j hj
    exact hout j (by omega)
  · have hadvance : (decide (w = ~~~crc) || a.advance) = true ↔ w = ~~~crc ∨ a.advance = true := by simp
    rw [hareas]
    simp only [hadvance]
    simp [ringAdvanced, hua, Area.complete, State.now, State.uptime, hbegin.timing, hlen, Nat.add_assoc]
  · have hf : a.writeIdx + (h.len.toNat + 1) = a.writeIdx + ws.length + 1 := by omega
    rw [halarm, hf, ← hlen]
    by_cases hgood : w = ~~~crc
    · simp [hgood, Area.reported]
    · by_cases hadv : a.advance = true <;> simp [hgood, hadv, Area.reported]
  · rw [hland'.port, hport]
  · rw [hland'.ing, hing]
  · rw [hland'.ing, hing]

end Sys2Proof.Machine
end

section
/-! PROOFS. Marks of flow control from the card, and entries of the alarm queue (R12, R13, R135, R159 to R163). -/

namespace Sys2Proof.Machine

/-! ## Flow control and AWAKE (R7, R12, R13, R135) -/

section Marks

variable {i : Slot} {s : State}

theorem isRaised_raised (c : Fin 64) (n : Nat) (p : Word) (s : State) : (raiseCond c n p s).isRaised c n = true := by
  simp [isRaised_raiseCond]

theorem isRaised_cleared (c : Fin 64) (n : Nat) (p : Word) (s : State) : (clearCond c n p s).isRaised c n = false := by
  simp [isRaised_clearCond]

theorem isRaised_of_alarm {s t : State} (h : t.alarm = s.alarm) (c : Fin 64) (n : Nat) :
    t.isRaised c n = s.isRaised c n := by
  unfold State.isRaised
  rw [h]

theorem slot_lt (i : Slot) : i.val < 64 := by have := i.isLt; omega

theorem modPort_port_self (s : State) (i : Slot) (f : Port → Port) :
    ((s.modPort i f).slot i).port = f (s.slot i).port := by
  simp

theorem modPort_self {f : Port → Port} (h : f (s.slot i).port = (s.slot i).port) : s.modPort i f = s := by
  rw [State.modPort, h]
  exact setSlot_self s i

theorem holdOff_acts (hframes : s.framing i = true) :
    ∃ t, exec (.holdOff i) s = .next t ∧
      (t.slot i).port = (if (s.slot i).port.cardHold then (s.slot i).port
        else { (s.slot i).port with cardHold := true, holdTimer := some s.timing.uptime }) ∧
      KeepsBut [.port] s t ∧ OtherSlots i s t := by
  refine ⟨cardHoldOff i s, rfl, ?_⟩
  unfold cardHoldOff
  rw [hframes, Bool.true_and]
  cases hhold : (s.slot i).port.cardHold with
  | true => exact ⟨rfl, .refl .., OtherSlots.refl i s⟩
  | false =>
    have hset := modPort_touches i s (fun p => { p with cardHold := true, holdTimer := some s.uptime })
    rw [if_pos (by rfl)]
    exact ⟨modPort_port_self .., hset.keeps, hset.others⟩

theorem resume_acts (hframes : s.framing i = true) :
    ∃ t, exec (.resume i) s = .next t ∧
      ((s.slot i).port.cardHold = false → t = s) ∧
      ((s.slot i).port.cardHold = true →
        (t.slot i).port = { (s.slot i).port with cardHold := false, holdTimer := none } ∧
        (t.slot i).egr = (s.slot i).egr.occasion ∧ t.isRaised causeLinkHeld i.val = false) ∧
      (∀ c m, c ≠ causeLinkHeld → m < 64 → t.isRaised c m = s.isRaised c m) ∧
      KeepsBut [.port, .egr, .alarm, .mgmt] s t ∧ OnlyReplies s t ∧ OtherSlots i s t := by
  refine ⟨cardResume i s, rfl, ?_⟩
  unfold cardResume
  rw [hframes, Bool.true_and]
  cases hhold : (s.slot i).port.cardHold with
  | false => exact ⟨fun _ => rfl, by simp, fun _ _ _ _ => rfl, .refl .., .refl s,
      OtherSlots.refl i s⟩
  | true =>
    have hmarked := (modPort_touches i s (fun p => { p with cardHold := false, holdTimer := none })).then
      (modEgr_touches i _ Egress.occasion) (rs := [.port, .egr])
    have hall := hmarked.then (clearCond_touches i _ causeLinkHeld i.val 0) (rs := [.port, .egr, .alarm, .mgmt])
    refine ⟨by simp, fun _ => ⟨?_, ?_, isRaised_cleared ..⟩, fun c m hc hm => ?_, hall.keeps, hall.replies,
      hall.others⟩
    · simp
    · simp
    · exact (isRaised_clearCond_other hc (slot_lt i) hm).trans (isRaised_of_alarm hmarked.alarm c m)

theorem holdOffTimer_expires {u : Uptime} (htimer : (s.slot i).port.holdTimer = some u)
    (hdue : (s.slot i).cfg.holdOffLimit ≤ (s.timing.uptime - u).toNat) :
    ∃ t, exec (.holdOffTimerExpiry i) s = .next t ∧ t.isRaised causeLinkHeld i.val = true ∧
      (t.slot i).port = { (s.slot i).port with holdTimer := none } ∧
      (∀ c m, c ≠ causeLinkHeld → m < 64 → t.isRaised c m = s.isRaised c m) ∧
      KeepsBut [.port, .alarm, .mgmt] s t ∧ OnlyReplies s t ∧ OtherSlots i s t := by
  have hpast : s.holdOffDue i = true := by
    unfold State.holdOffDue
    rw [htimer]
    exact decide_eq_true hdue
  have hstop := modPort_touches i s (fun p => { p with holdTimer := none })
  have hall := hstop.then (raiseCond_touches i _ causeLinkHeld i.val 0) (rs := [.port, .alarm, .mgmt])
  have hexec : exec (.holdOffTimerExpiry i) s =
      .next (raiseCond causeLinkHeld i.val 0 (s.modPort i (fun p => { p with holdTimer := none }))) :=
    congrArg Host.Outcome.next (if_pos hpast)
  refine ⟨_, hexec, isRaised_raised .., ?_, fun c m hc hm => ?_, hall.keeps, hall.replies, hall.others⟩
  · rw [(raiseCond_touches i ..).port, modPort_port_self]
  · exact (isRaised_raiseCond_other hc (slot_lt i) hm).trans (isRaised_of_alarm hstop.alarm c m)

theorem awake_acts (hlink : (s.slot i).port.link = .resting) :
    ∃ t, exec (.awake i) s = .next t ∧
      (t.slot i).port = { (s.slot i).port with link := .up, wakeAsked := false } ∧
      (t.slot i).ctl = (if (s.slot i).ctl.phase = .admitted
        then { (s.slot i).ctl with sub := .awake, timer := none } else (s.slot i).ctl) ∧
      KeepsBut [.port, .ctl] s t ∧ OtherSlots i s t := by
  have hup := modPort_touches i s (fun p => { p with link := .up, wakeAsked := false })
  refine ⟨cardAwake i s, rfl, ?_⟩
  unfold cardAwake
  rw [if_pos hlink]
  dsimp only
  split
  · have hall := hup.then (modCtl_touches i _ (fun c => { c with sub := .awake, timer := none })) (rs := [.port, .ctl])
    exact ⟨by simp, by simp, hall.keeps, hall.others⟩
  · exact ⟨modPort_port_self .., by simp, hup.keeps.mono, hup.others⟩

end Marks

/-- Settles O27: each mark and the hold-off timer, one by one. -/
theorem cardMarksAct : Obligations.CardMarksAct :=
  ⟨fun _ _ hframes => ⟨holdOff_acts hframes, resume_acts hframes⟩, fun _ _ _ => holdOffTimer_expires,
    fun _ _ => awake_acts⟩

/-! ## Entries (R157, R159 to R163) -/

section Entries

variable {c : Fin 64} {n : Nat} {w : Word} {s : State}

/-- An entry written below the last place is not followed by QUEUE-WRAPPED. -/
theorem postEntry_of_room (a : AlarmAction) (k : Nat) (hidx : s.alarm.idx < 127) :
    postEntry c n a k w s = writeEntry (makeEntry c n a k w s) s := by
  have hnext : (writeEntry (makeEntry c n a k w s) s).alarm.idx = (s.alarm.idx + 1) % Config.alarmPlaces := by
    rw [writeEntry_alarm]
  unfold postEntry judgeWrap
  rw [if_neg]
  intro ⟨hzero, _⟩
  have hmod : (s.alarm.idx + 1) % 128 = 0 := hnext.symm.trans hzero
  omega

/-- What one entry does to the queue, its write index and its count. -/
theorem postEntry_room_alarm (a : AlarmAction) (k : Nat) (hidx : s.alarm.idx < 127) :
    (postEntry c n a k w s).alarm = { s.alarm with
      queue := assocPut s.alarm.queue s.alarm.idx (makeEntry c n a k w s), idx := s.alarm.idx + 1,
      count := s.alarm.count + 1 } := by
  have hplaces : Config.alarmPlaces = 128 := rfl
  rw [postEntry_of_room a k hidx, writeEntry_alarm, Nat.mod_eq_of_lt (by omega)]

theorem postEvent_of_disabled (h : (s.cause c).enable = false) : postEvent c n w s = s := by
  unfold postEvent
  rw [h]
  rfl

theorem postEvent_of_heldOff (he : (s.cause c).enable = true) (h : s.heldOff c n = true) :
    postEvent c n w s = suppressEvent c n s := by
  unfold postEvent
  rw [if_pos he, if_pos h]

theorem postEvent_of_posted (he : (s.cause c).enable = true) (h : s.heldOff c n = false) :
    postEvent c n w s = postEntry c n .event (s.pendingRepeats c n) w (trackPosted c n s) := by
  unfold postEvent
  rw [if_pos he, if_neg (by simp [h])]

theorem heldOff_of_not (h : NotHeldOff s c n) : s.heldOff c n = false := by
  unfold State.heldOff
  split
  · rfl
  · next x hx => exact decide_eq_false (Nat.not_lt.mpr (h x hx))

theorem makeEntry_trackPosted (d : Fin 64) (m : Nat) (a : AlarmAction) (k : Nat) :
    makeEntry c n a k w (trackPosted d m s) = makeEntry c n a k w s := by
  simp [makeEntry, trackPosted, State.severityOf, State.cause, State.now]

theorem event_suppressed {u : Uptime} {k : Nat} (he : (s.cause c).enable = true)
    (htrack : assocGet s.alarm.track (pairKey c n) = some { last := u, pending := k })
    (hheld : (s.timing.uptime - u).toNat < (s.cause c).holdOff) :
    ∃ t, t = postEvent c n w s ∧
      assocGet t.alarm.track (pairKey c n) = some { last := u, pending := Nat.min 255 (k + 1) } ∧
      t.alarm.causes = s.alarm.causes.set c.val
        { s.cause c with suppressed := Nat.min 65535 ((s.cause c).suppressed + 1) } ∧
      t.alarm.queue = s.alarm.queue ∧ t.alarm.idx = s.alarm.idx ∧ t.alarm.count = s.alarm.count ∧
      KeepsBut [.alarm] s t := by
  have hoff : s.heldOff c n = true := by
    unfold State.heldOff
    rw [htrack]
    exact decide_eq_true hheld
  refine ⟨_, rfl, ?_⟩
  rw [postEvent_of_heldOff he hoff]
  refine ⟨?_, rfl, rfl, rfl, rfl, modAlarm_keepsBut ..⟩
  simp [suppressEvent, htrack, assocGet_put_self]

theorem event_posted (he : (s.cause c).enable = true) (hnot : NotHeldOff s c n) (hidx : s.alarm.idx < 127) :
    ∃ t, t = postEvent c n w s ∧
      assocGet t.alarm.queue s.alarm.idx = some
        { cause := c, inst := n, action := .event, severity := s.severityOf c n,
          repeats := ((assocGet s.alarm.track (pairKey c n)).map (·.pending)).getD 0, param := w,
          stamp := { sec := s.timing.time.sec % 65536, ns := s.timing.time.ns } } ∧
      (∀ k, k ≠ s.alarm.idx → assocGet t.alarm.queue k = assocGet s.alarm.queue k) ∧
      t.alarm.idx = s.alarm.idx + 1 ∧ t.alarm.count = s.alarm.count + 1 ∧
      assocGet t.alarm.track (pairKey c n) = some { last := s.timing.uptime, pending := 0 } ∧
      KeepsBut [.alarm, .mgmt] s t ∧ OnlyReplies s t := by
  have halarm : (postEvent c n w s).alarm = { (trackPosted c n s).alarm with
      queue := assocPut s.alarm.queue s.alarm.idx (makeEntry c n .event (s.pendingRepeats c n) w s),
      idx := s.alarm.idx + 1, count := s.alarm.count + 1 } := by
    rw [postEvent_of_posted he (heldOff_of_not hnot), postEntry_room_alarm (s := trackPosted c n s) _ _ hidx,
      makeEntry_trackPosted]
    rfl
  refine ⟨_, rfl, ?_, fun k hk => ?_, ?_, ?_, ?_, postEvent_keepsBut .., postEvent_onlyReplies ..⟩
  · rw [halarm, assocGet_put_self]
    rfl
  · rw [halarm, assocGet_put_ne _ _ hk]
  · rw [halarm]
  · rw [halarm]
  · rw [halarm]
    exact assocGet_put_self ..

theorem condition_raised (hr : s.isRaised c n = false) (hidx : s.alarm.idx < 127) :
    ∃ t, t = raiseCond c n w s ∧ t.isRaised c n = true ∧
      assocGet t.alarm.queue s.alarm.idx = (if (s.cause c).enable = true
        then some { cause := c, inst := n, action := .raise, severity := s.severityOf c n, repeats := 0,
                    param := w, stamp := { sec := s.timing.time.sec % 65536, ns := s.timing.time.ns } }
        else assocGet s.alarm.queue s.alarm.idx) ∧
      (∀ k, k ≠ s.alarm.idx → assocGet t.alarm.queue k = assocGet s.alarm.queue k) ∧ t.relaysOk ∧
      KeepsBut [.alarm, .mgmt] s t ∧ OnlyReplies s t := by
  obtain ⟨hrelays, -, hqueue, -, -, -⟩ := judgeRelays_withRaised _ _ (raiseCond_of_not_raised hr w)
  refine ⟨_, rfl, isRaised_raised .., ?_, fun k hk => ?_, hrelays, raiseCond_keepsBut .., raiseCond_onlyReplies ..⟩
  · rw [hqueue, reportEntry]
    split
    · rw [postEntry_room_alarm _ _ hidx, assocGet_put_self]
      rfl
    · rfl
  · rw [hqueue, reportEntry]
    split
    · rw [postEntry_room_alarm _ _ hidx, assocGet_put_ne _ _ hk]
    · rfl

theorem writeEntry_offers (e : AlarmEntry) (s : State) :
    if s.glob.alarmReporting = true ∧ s.isAwake s.mgmtSlot = true ∧
        s.mgmt.replies.length + (if s.mgmt.claim then 1 else 0) < 8 then
      (writeEntry e s).mgmt = { s.mgmt with
        replies := s.mgmt.replies ++ [{ kind := 4, tag := 0, words := (s.alarm.count + 1) :: e.words }] }
    else (writeEntry e s).mgmt = s.mgmt := by
  have htaken : s.mgmt.taken = s.mgmt.replies.length + (if s.mgmt.claim then 1 else 0) := by
    unfold Mgmt.taken
    cases s.mgmt.claim <;> rfl
  have htest : (s.glob.alarmReporting && s.isAwake s.mgmtSlot && decide (s.mgmt.taken < Config.replyPlaces)) = true ↔
      s.glob.alarmReporting = true ∧ s.isAwake s.mgmtSlot = true ∧
        s.mgmt.replies.length + (if s.mgmt.claim then 1 else 0) < 8 := by
    rw [htaken, Bool.and_eq_true, Bool.and_eq_true, decide_eq_true_iff, and_assoc]
    rfl
  unfold writeEntry offerAlarmParcel
  by_cases h : s.glob.alarmReporting = true ∧ s.isAwake s.mgmtSlot = true ∧
      s.mgmt.replies.length + (if s.mgmt.claim then 1 else 0) < 8
  · rw [if_pos h]
    exact congrArg State.mgmt (if_pos (htest.mpr h))
  · rw [if_neg h]
    exact (congrArg State.mgmt (if_neg (fun g => h (htest.mp g)))).trans rfl

theorem postEntry_wraps (a : AlarmAction) (k : Nat) (hidx : s.alarm.idx = 127)
    (he : (s.cause causeQueueWrapped).enable = true) :
    ∃ t, t = postEntry c n a k w s ∧ t.alarm.idx = 1 ∧ t.alarm.count = s.alarm.count + 2 ∧
      assocGet t.alarm.queue 127 = some (makeEntry c n a k w s) ∧
      ∃ e, assocGet t.alarm.queue 0 = some e ∧ e.cause = causeQueueWrapped ∧ e.inst = 0 ∧ e.action = .event ∧
        e.param = s.alarm.count + 1 := by
  obtain ⟨u, hu⟩ : ∃ u, u = writeEntry (makeEntry c n a k w s) s := ⟨_, rfl⟩
  have halarm : u.alarm = { s.alarm with
      queue := assocPut s.alarm.queue 127 (makeEntry c n a k w s), idx := 0, count := s.alarm.count + 1 } := by
    rw [hu, writeEntry_alarm, hidx]
    rfl
  have hcause : (u.cause causeQueueWrapped).enable = true := by
    unfold State.cause at *
    rw [halarm]
    exact he
  have hwrap : postEntry c n a k w s = trackPosted causeQueueWrapped 0
      (writeEntry (makeEntry causeQueueWrapped 0 .event (u.pendingRepeats causeQueueWrapped 0) u.alarm.count u) u) := by
    rw [postEntry, ← hu]
    exact if_pos ⟨by rw [halarm], hcause⟩
  have hthen : (postEntry c n a k w s).alarm = { u.alarm with
      track := (postEntry c n a k w s).alarm.track,
      queue := assocPut u.alarm.queue 0
        (makeEntry causeQueueWrapped 0 .event (u.pendingRepeats causeQueueWrapped 0) u.alarm.count u),
      idx := 1, count := u.alarm.count + 1 } := by
    have hplace : u.alarm.idx = 0 := by rw [halarm]
    rw [hwrap]
    simp [trackPosted, writeEntry_alarm, hplace, Config.alarmPlaces]
  refine ⟨_, rfl, by rw [hthen], ?_, ?_, _, by rw [hthen]; exact assocGet_put_self .., rfl, rfl, rfl, ?_⟩
  · rw [hthen, halarm]
    exact BitVec.add_assoc ..
  · rw [hthen, halarm]
    exact (assocGet_put_ne _ _ (by decide)).trans (assocGet_put_self ..)
  · show u.alarm.count = _
    rw [halarm]

end Entries

/-- Settles O26: by what the report finds, the cause's setting, the hold-off and the pair. -/
theorem entriesAreMadeAndQueued : Obligations.EntriesAreMadeAndQueued :=
  ⟨fun _ _ _ _ => ⟨postEvent_of_disabled, fun _ _ => event_suppressed, event_posted, condition_raised⟩,
    writeEntry_offers, fun _ _ a k _ _ => postEntry_wraps a k⟩

end Sys2Proof.Machine
end

section
/-! PROOFS. The transit log: reservation, completion and the standing test of hand-overs (R75 to R79). -/

namespace Sys2Proof.Machine

/-! ## Reservation (R76, R77) -/

/-- A record as it is reserved. -/
def freshRecord (i : Slot) (h : Header) (st : Stamp) (park : Bool) : LogRecord :=
  { outcome := .inProgress, reason := 0, ingress := i, hdr := h, stamp := st, loc := 0, parked := park, area := 0,
    enq := 0, second := 0 }

/-- The log after a reservation, before its crossings are judged. -/
def State.reserved (s : State) (x : LogRecord) : State :=
  s.modLog (fun l => { recs := assocPut l.recs s.log.idx x, idx := (s.log.idx + 1) % s.glob.logSize,
                       count := s.log.count + 1 })

/-- The entry of a crossing of the log's write index at `next`. -/
def logCrossing (next : Nat) (count : Word) (s : State) : State :=
  if next = s.glob.logSize / 2 then postEvent causeLogHalf 0 count s
  else if next = 0 then postEvent causeLogWrap 0 count s else s

section Reserve

variable {i : Slot} {h : Header} {st : Stamp} {park : Bool} {s : State}

theorem logReserve_on (hon : s.glob.logEnable = true) : logReserve i h st park s =
    (some { idx := s.log.idx, count := s.log.count + 1 },
      logCrossing ((s.log.idx + 1) % s.glob.logSize) (s.log.count + 1) (s.reserved (freshRecord i h st park))) := by
  unfold logReserve
  rw [if_pos hon]
  rfl

theorem logCrossing_touches (next : Nat) (count : Word) (s : State) :
    Touches [.alarm, .mgmt] i s (logCrossing next count s) :=
  touches_ite (postEvent_touches ..) (touches_ite (postEvent_touches ..) (.refl ..))

theorem reserved_touches (x : LogRecord) : Touches [.log] i s (s.reserved x) := by
  unfold State.reserved
  exact modLog_touches ..

theorem logCrossing_alarm {t : State} (hst : SameReporting s t) (hglob : t.glob = s.glob) (next : Nat) (count : Word) :
    (logCrossing next count t).alarm =
      (if next = s.glob.logSize / 2 then (postEvent causeLogHalf 0 count s).alarm
        else if next = 0 then (postEvent causeLogWrap 0 count s).alarm else s.alarm) := by
  unfold logCrossing
  rw [hglob]
  split
  · exact postEvent_alarm_congr hst ..
  · split
    · exact postEvent_alarm_congr hst ..
    · exact hst.1

end Reserve

/-! ## Hand-overs (R78, R79) -/

theorem logStands_now (size r : Nat) (c : Word) : logStands size r c c = true := by
  simp [logStands]

theorem handOver_stands {r : Nat} {c0 : Word} {h : HandOver} {s : State}
    (hs : logStands s.glob.logSize r c0 s.log.count = true) :
    logHandOver r c0 h s = (true, s.modLog (fun l => { l with recs := takeRecord l.recs r h })) := if_pos hs

theorem handOver_dropped {r : Nat} {c0 : Word} {h : HandOver} {s : State}
    (hs : logStands s.glob.logSize r c0 s.log.count = false) : logHandOver r c0 h s = (false, s) :=
  if_neg (by simp [hs])

theorem takeRecord_same {recs : Assoc LogRecord} {r : Nat} {h : HandOver} {x : LogRecord}
    (hx : assocGet recs r = some x) : assocGet (takeRecord recs r h) r = some (x.take h) := by
  unfold takeRecord
  rw [hx]
  exact assocGet_put_self ..

theorem takeRecord_other {recs : Assoc LogRecord} {r k : Nat} {h : HandOver} (hk : k ≠ r) :
    assocGet (takeRecord recs r h) k = assocGet recs k := by
  unfold takeRecord
  split
  · rfl
  · exact assocGet_put_ne _ _ hk

theorem take_eq (x : LogRecord) (h : HandOver) : x.take h =
    { x with
      outcome := h.outcome, reason := h.reason, loc := h.loc, area := if x.parked then h.area else x.area,
      enq := if x.parked then x.enq else h.enq, second := if x.parked then x.second else h.second } := by
  unfold LogRecord.take
  cases x.parked <;> rfl

/-- The places from a count's write index to a record, where the record is that many after it (R79). -/
theorem places_between {size r d c : Nat} (_hr : r < size) (hd : d < size) (hplace : (c + d) % size = r) :
    (r + size - c % size) % size = d := by
  have hc : c % size < size := Nat.mod_lt c (by omega)
  rw [Nat.add_mod, Nat.mod_eq_of_lt hd] at hplace
  by_cases hwrap : c % size + d < size
  · rw [Nat.mod_eq_of_lt hwrap] at hplace
    rw [show r + size - c % size = d + size by omega, Nat.add_mod_right, Nat.mod_eq_of_lt hd]
  · rw [Nat.mod_eq_sub_mod (by omega), Nat.mod_eq_of_lt (by omega)] at hplace
    rw [show r + size - c % size = d by omega, Nat.mod_eq_of_lt hd]

theorem handOver_judged {r d : Nat} {c0 : Word} {h : HandOver} {x : LogRecord} {s : State} (hr : r < s.glob.logSize)
    (hd : d < s.glob.logSize) (hplace : (c0.toNat + d) % s.glob.logSize = r)
    (hx : assocGet s.log.recs r = some x) :
    ((s.log.count - c0).toNat ≤ d →
      (logHandOver r c0 h s).1 = true ∧
      assocGet (logHandOver r c0 h s).2.log.recs r = some
        { x with
          outcome := h.outcome, reason := h.reason, loc := h.loc, area := if x.parked then h.area else x.area,
          enq := if x.parked then x.enq else h.enq, second := if x.parked then x.second else h.second } ∧
      (∀ k, k ≠ r → assocGet (logHandOver r c0 h s).2.log.recs k = assocGet s.log.recs k) ∧
      KeepsBut [.log] s (logHandOver r c0 h s).2) ∧
    (d < (s.log.count - c0).toNat → logHandOver r c0 h s = (false, s)) := by
  have htest : logStands s.glob.logSize r c0 s.log.count = decide ((s.log.count - c0).toNat ≤ d) := by
    unfold logStands
    rw [places_between hr hd hplace]
  refine ⟨fun hle => ?_, fun hlt => handOver_dropped (htest.trans (decide_eq_false (by omega)))⟩
  rw [handOver_stands (htest.trans (decide_eq_true hle))]
  refine ⟨rfl, ?_, fun k hk => takeRecord_other hk, modLog_keepsBut ..⟩
  rw [← take_eq]
  exact takeRecord_same hx

/-! ## A logged parcel that is refused (R22, R23) -/

theorem refusal_kind {e : FlowEntry} {i : Slot} {k : BitVec 3} (hvalid : e.valid = true)
    (hrefused : 6 ≤ k.toNat ∨ e.permits k = false) :
    { e with dest := delSlot e.dest i }.refusal k = some (if 6 ≤ k.toNat then 2 else 3) := by
  have hperm : { e with dest := delSlot e.dest i }.permits k = e.permits k := rfl
  unfold FlowEntry.refusal
  rw [hperm, hvalid]
  by_cases hkind : 6 ≤ k.toNat
  · simp [hkind]
  · simp [hkind, hrefused.resolve_left hkind]

theorem reportRefusal_quiet {i : Slot} {h : Header} {e : FlowEntry} {reason : Nat} {s : State} (hreason : reason ≠ 1)
    (hquiet : e.alarm = false) : reportRefusal i h e reason s = s := by
  unfold reportRefusal
  rw [if_neg hreason, hquiet]
  rfl

theorem lookupHeader_logged_refused {i : Slot} {h : Header} {reason : Nat} {s : State}
    (hvalid : (s.entryAt i h).valid = true) (hlog : (s.entryAt i h).log = true)
    (hquiet : (s.entryAt i h).alarm = false) (hon : s.glob.logEnable = true) (hreason : reason ≠ 1)
    (hno : (s.entryCopy i h).refusal h.kind = some reason) :
    lookupHeader i h s = handOver (some { idx := s.log.idx, count := s.log.count + 1 }) (HandOver.plain .refused reason)
      (beginReception i h (s.entryCopy i h) s.now.stamp (some { idx := s.log.idx, count := s.log.count + 1 }) .refused
        (logCrossing ((s.log.idx + 1) % s.glob.logSize) (s.log.count + 1)
          (s.reserved (freshRecord i h s.now.stamp (s.entryAt i h).park)))) := by
  have hask : ((s.entryAt i h).valid && (s.entryAt i h).log) = true := by rw [hvalid, hlog, Bool.and_self]
  unfold lookupHeader
  dsimp only
  have hno' : { s.entryAt i h with dest := delSlot (s.entryAt i h).dest i }.refusal h.kind = some reason := hno
  rw [show s.flowAt (i.val * 64 + h.chan.toNat) = s.entryAt i h from rfl, if_pos hask, logReserve_on hon, hno']
  dsimp only
  rw [reportRefusal_quiet hreason (by exact hquiet)]
  rfl

/-- Settles O25: the reservation, its crossing and the completion at once; then the standing test. -/
theorem logRecordsFollowR79 : Obligations.LogRecordsFollowR79 := by
  refine ⟨?_, fun r d c0 h x s hr hd hplace hx => handOver_judged hr hd hplace hx⟩
  intro i w s h e hh he hframes hrx hs hmgmt htod hidx hvalid hlog hquiet hon hrefused
  subst hh he
  obtain ⟨reason, hreason⟩ : ∃ k, k = if 6 ≤ (Header.ofWord w).kind.toNat then 2 else 3 := ⟨_, rfl⟩
  have hno : ((s.setRx i (headerRx w)).entryCopy i (Header.ofWord w)).refusal (Header.ofWord w).kind = some reason := by
    rw [entryCopy_setRx, hreason]
    exact refusal_kind hvalid hrefused
  have hset := setRx_touches i s (headerRx w)
  have hlookup := lookupHeader_logged_refused (s := s.setRx i (headerRx w)) (by rw [entryAt_setRx]; exact hvalid)
    (by rw [entryAt_setRx]; exact hlog) (by rw [entryAt_setRx]; exact hquiet) (by rw [hset.glob]; exact hon)
    (by rw [hreason]; split <;> decide) hno
  rw [entryAt_setRx, entryCopy_setRx, now_setRx, hset.log, hset.glob] at hlookup
  obtain ⟨hd, hhd⟩ : ∃ hd : LogHandle, hd = { idx := s.log.idx, count := s.log.count + 1 } := ⟨_, rfl⟩
  obtain ⟨x, hx⟩ : ∃ x, x = freshRecord i (Header.ofWord w) s.now.stamp (s.entryAt i (Header.ofWord w)).park :=
    ⟨_, rfl⟩
  obtain ⟨u, hu⟩ : ∃ u, u = beginReception i (Header.ofWord w) (s.entryCopy i (Header.ofWord w)) s.now.stamp (some hd)
    .refused (logCrossing ((s.log.idx + 1) % s.glob.logSize) (s.log.count + 1)
      ((s.setRx i (headerRx w)).reserved x)) := ⟨_, rfl⟩
  rw [← hhd, ← hx, ← hu] at hlookup
  have hres := hset.then (reserved_touches x) (rs := [.port, .log])
  have hcross := logCrossing_touches (i := i) ((s.log.idx + 1) % s.glob.logSize) (s.log.count + 1)
    ((s.setRx i (headerRx w)).reserved x)
  have hbegin := hcross.then (beginReception_touches i _ (Header.ofWord w) (s.entryCopy i (Header.ofWord w)) s.now.stamp
    (some hd) .refused) (rs := [.ing, .alarm, .mgmt])
  rw [← hu] at hbegin
  have hulog : u.log = { recs := assocPut s.log.recs s.log.idx x, idx := (s.log.idx + 1) % s.glob.logSize,
                         count := s.log.count + 1 } := by
    rw [hbegin.log]
    simp [State.reserved]
  have hdone : handOver (some hd) (HandOver.plain .refused reason) u = u.modLog (fun l =>
      { l with recs := takeRecord l.recs s.log.idx (HandOver.plain .refused reason) }) := by
    rw [handOver, handOver_stands (by rw [hulog, hhd]; exact logStands_now ..), hhd]
  rw [hdone] at hlookup
  have hall := (hres.then hbegin (rs := [.port, .ing, .log, .alarm, .mgmt])).then (modLog_touches i u (fun l =>
    { l with recs := takeRecord l.recs s.log.idx (HandOver.plain .refused reason) }))
    (rs := [.port, .ing, .log, .alarm, .mgmt])
  refine ⟨_, exec_headerWord hframes hrx ⟨hmgmt, htod⟩ hlookup (hall.settleDrains hs), ?_, ?_, ?_, fun k hk => ?_, ?_,
    hall.keeps, hall.replies, hall.others⟩
  · exact congrArg TransitLog.idx hulog
  · exact congrArg TransitLog.count hulog
  · show assocGet (takeRecord u.log.recs s.log.idx _) s.log.idx = _
    rw [takeRecord_same (by rw [hulog]; exact assocGet_put_self ..), hx, take_eq, hreason]
    unfold State.entryAt
    cases (s.flowAt (i.val * 64 + (Header.ofWord w).chan.toNat)).park <;> rfl
  · show assocGet (takeRecord u.log.recs s.log.idx _) k = _
    rw [takeRecord_other hk, hulog, assocGet_put_ne _ _ hk]
  · show u.alarm = if u.log.idx = _ then _ else if u.log.idx = 0 then _ else _
    have hbegun := (beginReception_touches i (logCrossing ((s.log.idx + 1) % s.glob.logSize) (s.log.count + 1)
      ((s.setRx i (headerRx w)).reserved x)) (Header.ofWord w) (s.entryCopy i (Header.ofWord w)) s.now.stamp (some hd)
      .refused).alarm
    rw [← hu, logCrossing_alarm hres.reporting hres.glob] at hbegun
    have hcount : u.log.count = s.log.count + 1 := congrArg TransitLog.count hulog
    have hnext : u.log.idx = (s.log.idx + 1) % s.glob.logSize := congrArg TransitLog.idx hulog
    rw [hbegun]
    show _ = if u.log.idx = _ then (postEvent causeLogHalf 0 u.log.count s).alarm
      else if u.log.idx = 0 then (postEvent causeLogWrap 0 u.log.count s).alarm else s.alarm
    rw [hcount, hnext]

end Sys2Proof.Machine
end

section
/-! PROOFS. Requests offered to the request queue, and times of day staged (R100, R172). -/

namespace Sys2Proof.Machine

/-! ## Enqueues that may wake a slot (R48, R134) -/

section Wake

variable (s : State) (i : Slot)

theorem applyWake_touches : Touches [.port, .ctl] i s (applyWake i s) :=
  touches_ite (touches_ite (modCtl_touches ..).mono ((modPort_touches ..).then (modCtl_touches ..))) (.refl ..)

theorem wakeReport_touches : Touches [.port, .ctl] i s (wakeReport i s) :=
  touches_ite (applyWake_touches s i) (.refl ..)

theorem pushReply_touches (p : ReplyParcel) : Touches [.mgmt, .port, .ctl] s.mgmtSlot s (pushReply p s) :=
  have hjoin : Touches [.mgmt] s.mgmtSlot s (s.modMgmt (fun m => { m with replies := m.replies ++ [p] })) :=
    ⟨modMgmt_keepsBut .., ⟨[p], by simp⟩, otherSlots_of_slots (by simp)⟩
  hjoin.then (wakeReport_touches ..)

end Wake

/-! ## Requests (R172) -/

section Requests

variable {tag : BitVec 8} {ws : List Word} {s : State}

theorem exec_mgmtRequest (hlen : ws.length ≤ 255) (hframes : s.framing s.mgmtSlot = true) :
    exec (.mgmtRequest tag ws) s = .next (offerRequest { tag := tag, words := ws } s) := by
  show (if 255 < ws.length then _ else _) = _
  rw [if_neg (by omega), if_pos hframes]

theorem offerRequest_joins {r : Request} (h : s.mgmt.queue.length < 4) :
    offerRequest r s = s.modMgmt (fun m => { m with queue := m.queue ++ [r] }) := if_pos h

theorem offerRequest_busy {r : Request} (h : 4 ≤ s.mgmt.queue.length) (hroom : s.mgmt.taken < 8) :
    offerRequest r s = pushReply (replyTo r .busy []) s := by
  unfold offerRequest
  rw [if_neg (show ¬ s.mgmt.queue.length < Config.requestPlaces from Nat.not_lt.mpr h)]
  exact if_pos hroom

theorem offerRequest_lost {r : Request} (h : 4 ≤ s.mgmt.queue.length) (hfull : 8 ≤ s.mgmt.taken) :
    offerRequest r s = s := by
  unfold offerRequest
  rw [if_neg (show ¬ s.mgmt.queue.length < Config.requestPlaces from Nat.not_lt.mpr h)]
  exact if_neg (Nat.not_lt.mpr hfull)

theorem taken_unclaimed (h : s.mgmt.claim = false) : s.mgmt.taken = s.mgmt.replies.length := by
  unfold Mgmt.taken
  rw [h]
  rfl

theorem replies_le_taken : s.mgmt.replies.length ≤ s.mgmt.taken := Nat.le_add_right ..

/-- The one word of a BUSY answer: the status and the code of the request's first word. -/
theorem busyReply_words : (replyTo { tag := tag, words := ws } .busy []).words =
    [1#8 ++ (ws.getD 0 0).extractLsb' 24 8 ++ 0#16] := by
  have hcode : BitVec.ofNat 8 ((ws.getD 0 0).extractLsb' 24 8).toNat = (ws.getD 0 0).extractLsb' 24 8 := by
    rw [BitVec.ofNat_toNat, BitVec.setWidth_eq]
  unfold replyTo replyWord Request.code Request.word
  rw [hcode]
  rfl

theorem request_isTaken (hlen : ws.length ≤ 255) (hframes : s.framing s.mgmtSlot = true) :
    ∃ t, exec (.mgmtRequest tag ws) s = .next t ∧
      (s.mgmt.queue.length < 4 →
        t.mgmt = { s.mgmt with queue := s.mgmt.queue ++ [{ tag := tag, words := ws }] } ∧ KeepsBut [.mgmt] s t) ∧
      (4 ≤ s.mgmt.queue.length → s.mgmt.replies.length < 8 → s.mgmt.claim = false →
        t.mgmt = { s.mgmt with
          replies := s.mgmt.replies ++
            [ReplyParcel.mk 5 tag [1#8 ++ (ws.getD 0 0).extractLsb' 24 8 ++ 0#16]] } ∧
        KeepsBut [.mgmt, .port, .ctl] s t ∧ OtherSlots s.mgmtSlot s t) ∧
      (4 ≤ s.mgmt.queue.length → 8 ≤ s.mgmt.replies.length → t = s) := by
  refine ⟨_, exec_mgmtRequest hlen hframes, fun hroom => ?_, fun hfull hreply hclaim => ?_, fun hfull hreplies => ?_⟩
  · rw [offerRequest_joins hroom]
    exact ⟨by simp, modMgmt_keepsBut ..⟩
  · have hall := pushReply_touches s (replyTo { tag := tag, words := ws } .busy [])
    rw [offerRequest_busy hfull (by rw [taken_unclaimed hclaim]; exact hreply)]
    refine ⟨?_, hall.keeps, hall.others⟩
    rw [pushReply_mgmt, ← busyReply_words]
    rfl
  · exact offerRequest_lost hfull (hreplies.trans replies_le_taken)

end Requests

/-! ## Times of day (R100) -/

theorem stageTimeOfDay_ref (i : Slot) (w0 w1 : Word) (rest : List Word) (s : State) (r : RefId) :
    (stageTimeOfDay i (w0 :: w1 :: rest) s).timing.ref r = (if (s.timing.ref r).cfg.slot = i.val
      then { s.timing.ref r with staged := some (w0.toNat % 65536 * 4294967296 + w1.toNat) }
      else s.timing.ref r) := by
  cases r <;> rfl

theorem timeOfDay_isStaged {i : Slot} {w0 w1 : Word} {rest : List Word} {s : State} (hlen : rest.length ≤ 253)
    (hframes : s.framing i = true) :
    ∃ t, exec (.timeOfDayParcel i (w0 :: w1 :: rest)) s = .next t ∧
      (∀ r, t.timing.ref r = (if (s.timing.ref r).cfg.slot = i.val
        then { s.timing.ref r with staged := some (w0.toNat % 65536 * 4294967296 + w1.toNat) }
        else s.timing.ref r)) ∧
      { t.timing with refA := s.timing.refA, refB := s.timing.refB } = s.timing ∧ KeepsBut [.timing] s t := by
  refine ⟨stageTimeOfDay i (w0 :: w1 :: rest) s, ?_, stageTimeOfDay_ref i w0 w1 rest s, rfl, modTiming_keepsBut ..⟩
  show (if 255 < (w0 :: w1 :: rest).length then _ else _) = _
  rw [if_neg (by simp only [List.length_cons]; omega), if_pos hframes]

/-- Settles O29: the room of the two queues decides on a request; the references that name the slot stage the time. -/
theorem divertedParcelsAreTaken : Obligations.DivertedParcelsAreTaken :=
  ⟨fun _ _ _ => request_isTaken, fun _ _ _ _ _ => timeOfDay_isStaged⟩

end Sys2Proof.Machine
end

section
/-! PROOFS. Words and marks put on a link: what each operation that sends one does where it may (R1, R8, R11, R14, R15,
R53, R55). -/

namespace Sys2Proof.Machine

/-! ## A word on the link (R1) -/

section Words

variable (s : State) (i : Slot)

theorem sendWord_touches (w : LinkWord) : Touches [.port] i s (sendWord i w s) := modPort_touches ..

theorem sendMark_touches (code : Nat) : Touches [.port] i s (sendMark i code s) := sendWord_touches s i _

theorem sendWord_port (w : LinkWord) : ((sendWord i w s).slot i).port =
    { (s.slot i).port with out := some w, slotTaken := true } := modPort_port_self ..

theorem sendMark_port (code : Nat) : ((sendMark i code s).slot i).port =
    { (s.slot i).port with out := some (.mark (markWordOf code)), slotTaken := true } := sendWord_port s i _

theorem modCtl_ctl_self (f : Ctl → Ctl) : ((s.modCtl i f).slot i).ctl = f (s.slot i).ctl := by simp

theorem modEgr_egr_self (f : Egress → Egress) : ((s.modEgr i f).slot i).egr = f (s.slot i).egr := by simp

theorem modIng_ing_self (f : Ingress → Ingress) : ((s.modIng i f).slot i).ing = f (s.slot i).ing := by simp

theorem callInsertion_touches : Touches [.egr] i s (callInsertion i s) := by
  unfold callInsertion
  split
  · exact touches_ite (modEgr_touches ..) (.refl ..)
  · exact .refl ..

end Words

section Free

variable {i : Slot} {s : State}

theorem slotFree_of_open (h : (s.slot i).port.slotTaken = false) : s.slotFree i = true := by
  simp [State.slotFree, h]

theorem holdMarkWaits_of_agree (h : (s.slot i).port.holdReq = (s.slot i).port.announcedHeld) :
    s.holdMarkWaits i = false := by
  simp [State.holdMarkWaits, h]

theorem holdMarkWaits_of_differ (hframes : s.framing i = true)
    (h : (s.slot i).port.holdReq ≠ (s.slot i).port.announcedHeld) : s.holdMarkWaits i = true := by
  simp [State.holdMarkWaits, hframes, h]

/-! ## Marks (R8, R11, R14, R15, R53) -/

theorem holdMark_leaves (hfree : (s.slot i).port.slotTaken = false) (hframes : s.framing i = true)
    (hdiffer : (s.slot i).port.holdReq ≠ (s.slot i).port.announcedHeld) :
    ((sendHoldMark i s).slot i).port = { (s.slot i).port with
        announcedHeld := (s.slot i).port.holdReq, slotTaken := true,
        out := some (.mark (if (s.slot i).port.holdReq then 0x01000000#32 else 0x02000000#32)) } ∧
      Touches [.port] i s (sendHoldMark i s) := by
  have hdue : (s.slotFree i && s.holdMarkWaits i) = true := by
    rw [slotFree_of_open hfree, holdMarkWaits_of_differ hframes hdiffer, Bool.and_self]
  unfold sendHoldMark
  rw [if_pos hdue]
  refine ⟨?_, (modPort_touches i s _).then (sendMark_touches ..)⟩
  have hword (b : Bool) : markWordOf (if b then codeHoldOff else codeResume) =
      if b then 0x01000000#32 else 0x02000000#32 := by cases b <;> rfl
  rw [sendMark_port, modPort_port_self, hword]

theorem restMark_leaves (hfree : (s.slot i).port.slotTaken = false) (hrest : (s.slot i).ctl.restReq = true)
    (hup : (s.slot i).port.link = .up) (htx : (s.slot i).egr.tx.free = true)
    (hagree : (s.slot i).port.holdReq = (s.slot i).port.announcedHeld) :
    ∃ t, exec (.restMarkSent i) s = .next t ∧
      (t.slot i).port = { (s.slot i).port with
        link := .resting, slotTaken := true, out := some (.mark 0x07000000#32) } ∧
      (t.slot i).ctl = { (s.slot i).ctl with restReq := false } ∧
      (t.slot i).egr = { (s.slot i).egr with tx := .idle } ∧
      KeepsBut [.port, .ctl, .egr] s t ∧ OtherSlots i s t := by
  have hdue : (s.slotFree i && s.restWaits i && !s.holdMarkWaits i) = true := by
    simp [slotFree_of_open hfree, holdMarkWaits_of_agree hagree, State.restWaits, hrest, hup, htx]
  have hctl := modCtl_touches i s (fun c => { c with restReq := false })
  have hall := ((hctl.then (modPort_touches i _ (fun p => { p with link := .resting })) (rs := [.ctl, .port])).then
    (modEgr_touches i _ (fun e => { e with tx := .idle })) (rs := [.port, .ctl, .egr])).then
    (sendMark_touches _ i codeRest) (rs := [.port, .ctl, .egr])
  refine ⟨_, congrArg Host.Outcome.next (if_pos hdue), ?_, ?_, ?_, hall.keeps, hall.others⟩
  · rw [sendMark_port]
    simp
    rfl
  · rw [(sendMark_touches ..).ctl]
    simp
  · rw [(sendMark_touches ..).egr]
    simp

theorem wakeMark_leaves (hfree : (s.slot i).port.slotTaken = false) (hasked : (s.slot i).port.wakeAsked = true)
    (hresting : (s.slot i).port.link = .resting)
    (hagree : (s.slot i).port.holdReq = (s.slot i).port.announcedHeld) :
    ∃ t, exec (.wakeMarkSent i) s = .next t ∧
      (t.slot i).port = { (s.slot i).port with
        wakeAsked := false, slotTaken := true, out := some (.mark 0x08000000#32) } ∧
      KeepsBut [.port] s t ∧ OtherSlots i s t := by
  have hdue : (s.slotFree i && (s.slot i).port.wakeAsked && (s.slot i).port.link == .resting &&
      !s.holdMarkWaits i) = true := by
    simp [slotFree_of_open hfree, holdMarkWaits_of_agree hagree, hasked, hresting]
  have hall := (modPort_touches i s (fun x => { x with wakeAsked := false })).then (sendMark_touches _ i codeWake)
    (rs := [.port])
  refine ⟨_, congrArg Host.Outcome.next (if_pos hdue), ?_, hall.keeps, hall.others⟩
  rw [sendMark_port, modPort_port_self]
  rfl

theorem suspend_leaves {q : TxParcel} {x : ExpressParcel} {rest : List ExpressParcel}
    (hfree : (s.slot i).port.slotTaken = false) (htx : (s.slot i).egr.tx = .insertCalled q .suspendDue)
    (hhead : (s.slot i).egr.express = x :: rest) (hagree : (s.slot i).port.holdReq = (s.slot i).port.announcedHeld) :
    ∃ t, exec (.suspendSent i) s = .next t ∧
      (t.slot i).egr = { (s.slot i).egr with tx := .bracket q (txExpress x) } ∧
      (t.slot i).port = { (s.slot i).port with slotTaken := true, out := some (.mark 0x03000000#32) } ∧
      KeepsBut [.egr, .port] s t ∧ OtherSlots i s t := by
  have hdue : (s.slotFree i && !s.holdMarkWaits i) = true := by
    simp [slotFree_of_open hfree, holdMarkWaits_of_agree hagree]
  have hsend : sendSuspend i s =
      sendMark i codeSuspend (s.modEgr i (fun e => { e with tx := .bracket q (txExpress x) })) := by
    unfold sendSuspend
    rw [htx, hhead]
    exact if_pos hdue
  have hall := (modEgr_touches i s (fun e => { e with tx := .bracket q (txExpress x) })).then
    (sendMark_touches _ i codeSuspend) (rs := [.egr, .port])
  refine ⟨_, congrArg Host.Outcome.next hsend, ?_, ?_, hall.keeps, hall.others⟩
  · rw [(sendMark_touches ..).egr, modEgr_egr_self]
  · rw [sendMark_port, (modEgr_touches i ..).port]
    rfl

/-- Where a parcel in transmission may be interrupted an insertion is called for (R53). -/
theorem callInsertion_egr {q : TxParcel} (htx : (s.slot i).egr.tx = .sending q) :
    ((callInsertion i s).slot i).egr = { (s.slot i).egr with
      tx := if (s.slot i).egr.express ≠ [] ∧ q.interruptible = true ∧ (s.slot i).ctl.restReq = false
        then .insertCalled q q.insertMode else .sending q } := by
  have htest : (!(s.slot i).egr.express.isEmpty && q.interruptible && !(s.slot i).ctl.restReq) = true ↔
      (s.slot i).egr.express ≠ [] ∧ q.interruptible = true ∧ (s.slot i).ctl.restReq = false := by
    simp [and_assoc]
  unfold callInsertion
  rw [htx]
  dsimp only
  by_cases hcall : (s.slot i).egr.express ≠ [] ∧ q.interruptible = true ∧ (s.slot i).ctl.restReq = false
  · rw [if_pos (htest.mpr hcall), if_pos hcall, modEgr_egr_self]
  · rw [if_neg (fun h => hcall (htest.mp h)), if_neg hcall]
    cases h : (s.slot i).egr
    simp_all

theorem continue_leaves {q : TxParcel} (hfree : (s.slot i).port.slotTaken = false)
    (htx : (s.slot i).egr.tx = .continueDue q)
    (hagree : (s.slot i).port.holdReq = (s.slot i).port.announcedHeld) :
    ∃ t, exec (.continueSent i) s = .next t ∧
      (t.slot i).egr = { (s.slot i).egr with
        tx := if (s.slot i).egr.express ≠ [] ∧ q.interruptible = true ∧ (s.slot i).ctl.restReq = false
          then .insertCalled q q.insertMode else .sending q } ∧
      (t.slot i).port = { (s.slot i).port with slotTaken := true, out := some (.mark 0x04000000#32) } ∧
      KeepsBut [.egr, .port] s t ∧ OtherSlots i s t := by
  have hdue : (s.slotFree i && !s.holdMarkWaits i) = true := by
    simp [slotFree_of_open hfree, holdMarkWaits_of_agree hagree]
  have hsend : sendContinue i s =
      callInsertion i (sendMark i codeContinue (s.modEgr i (fun e => { e with tx := .sending q }))) := by
    unfold sendContinue
    rw [htx]
    exact if_pos hdue
  have hgo := modEgr_touches i s (fun e => { e with tx := .sending q })
  have hmark := sendMark_touches (s.modEgr i (fun e => { e with tx := .sending q })) i codeContinue
  have hall := (hgo.then hmark (rs := [.egr, .port])).then (callInsertion_touches _ i) (rs := [.egr, .port])
  refine ⟨_, congrArg Host.Outcome.next hsend, ?_, ?_, hall.keeps, hall.others⟩
  · rw [callInsertion_egr (q := q) (by rw [hmark.egr, modEgr_egr_self]), hmark.egr, hmark.ctl, hgo.ctl, modEgr_egr_self]
  · rw [(callInsertion_touches ..).port, sendMark_port, hgo.port]
    rfl

theorem trainReq_leaves {k : Nat} (hfree : (s.slot i).port.slotTaken = false)
    (hasked : (s.slot i).port.trainReq = some k) (hlink : (s.slot i).port.link = .training)
    (hphase : (s.slot i).ctl.phase = .training) :
    ∃ t, exec (.trainReqSent i) s = .next t ∧
      (t.slot i).port = { (s.slot i).port with
        trainReq := none, slotTaken := true, out := some (.mark (0x05#8 ++ 0#5 ++ BitVec.ofNat 3 k ++ 0#16)) } ∧
      (t.slot i).ctl = { (s.slot i).ctl with
        train := { (s.slot i).ctl.train with step := .wait s.timing.time s.timing.core false } } ∧
      KeepsBut [.port, .ctl] s t ∧ OtherSlots i s t := by
  have hsend : sendTrainReq i s = (sendWord i (.mark (trainReqWord k))
      (s.modPort i (fun p => { p with trainReq := none }))).modCtl i
        (fun c => { c with train := { c.train with step := .wait s.now s.timing.core false } }) := by
    unfold sendTrainReq
    dsimp only
    rw [hasked]
    exact if_pos ⟨slotFree_of_open hfree, hlink, hphase⟩
  have hclear := modPort_touches i s (fun p => { p with trainReq := none })
  have hword := sendWord_touches (s.modPort i (fun p => { p with trainReq := none })) i (.mark (trainReqWord k))
  have hall := (hclear.then hword (rs := [.port])).then (modCtl_touches i _
    (fun c => { c with train := { c.train with step := .wait s.now s.timing.core false } })) (rs := [.port, .ctl])
  refine ⟨_, congrArg Host.Outcome.next hsend, ?_, ?_, hall.keeps, hall.others⟩
  · rw [(modCtl_touches i ..).port, sendWord_port, modPort_port_self]
    rfl
  · rw [modCtl_ctl_self, hword.ctl, hclear.ctl]
    rfl

end Free

/-- Settles O35: each mark in its own case. -/
theorem marksLeave : Obligations.MarksLeave := by
  intro i s hfree
  refine ⟨fun hframes hdiffer => ?_, restMark_leaves hfree, wakeMark_leaves hfree, fun q x rest => suspend_leaves hfree,
    fun q => continue_leaves hfree, fun k => trainReq_leaves hfree⟩
  obtain ⟨hport, hall⟩ := holdMark_leaves hfree hframes hdiffer
  exact ⟨_, rfl, hport, hall.keeps, hall.others⟩

end Sys2Proof.Machine
end

section
/-! PROOFS. Departures of EDGE parcels, and choices of the egress schedulers (R49 to R52, R55, R118). -/

namespace Sys2Proof.Machine

/-! ## Departures (R55, R118) -/

section Edge

variable {i : Slot} {q : TxParcel} {n : EdgeNote} {s : State}

theorem modEgr_self {f : Egress → Egress} (h : f (s.slot i).egr = (s.slot i).egr) : s.modEgr i f = s := by
  rw [State.modEgr, h]
  exact setSlot_self s i

theorem modEgr_congr {f g : Egress → Egress} (h : f (s.slot i).egr = g (s.slot i).egr) : s.modEgr i f = s.modEgr i g := by
  rw [State.modEgr, h]
  rfl

theorem parcelSlot_open (hup : (s.slot i).port.link = .up) (hfree : (s.slot i).port.slotTaken = false)
    (hrest : s.restWaits i = false) (hagree : (s.slot i).port.holdReq = (s.slot i).port.announcedHeld)
    (htx : (s.slot i).egr.tx.markWaits = false) : s.parcelSlot i = true := by
  simp [State.parcelSlot, State.markWaits, hup, slotFree_of_open hfree, holdMarkWaits_of_agree hagree, hrest, htx]

theorem restWaits_of_not (h : (s.slot i).ctl.restReq = false) : s.restWaits i = false := by
  simp [State.restWaits, h]

theorem departNext_holds (htx : (s.slot i).egr.tx = .sending q) (hedge : q.edge = some n)
    (hearly : s.timing.core ≤ n.made) : departNext i s = s := by
  unfold departNext
  simp only [htx, Tx.current, hedge]
  rw [if_neg]
  simp only [Bool.and_eq_true, decide_eq_true_iff, not_and]
  intro _
  omega

theorem departNext_departs (htx : (s.slot i).egr.tx = .sending q) (hedge : q.edge = some n)
    (hnot : q.headerSent = false) (hslot : s.parcelSlot i = true) (hlater : n.made < s.timing.core) :
    departNext i s = departEdge i q n s := by
  have htest : (q.notLeft && s.parcelSlot i && decide (n.made < s.timing.core)) = true := by
    simp [TxParcel.notLeft, hnot, hslot, hlater]
  unfold departNext
  simp only [htx, Tx.current, hedge]
  exact if_pos htest

theorem judgeLate_eq (edge : CabTime) (delay : Nat) (s : State) {late : Int}
    (hlate : late = CabTime.diff { s.timing.time with frac := 0 } (edge.move (-(delay : Int) * 4294967296))
      / 4294967296) :
    judgeLate i edge delay s =
      (if 0 < late then postEvent causeEdgeLate i.val (wordOf (Nat.min 4294967295 late.toNat)) s else s) := by
  subst hlate
  rfl

theorem edge_departs {x : ExpressParcel} {rest : List ExpressParcel} {late : Int}
    (htx : (s.slot i).egr.tx = .sending q) (hedge : q.edge = some n) (hnot : q.headerSent = false)
    (hat : q.attached = true)
    (hlate : late = CabTime.diff { s.timing.time with frac := 0 } (n.instant.move (-(n.delay : Int) * 4294967296))
      / 4294967296)
    (hlater : n.made < s.timing.core) (hup : (s.slot i).port.link = .up) (hfree : (s.slot i).port.slotTaken = false)
    (hrest : (s.slot i).ctl.restReq = false) (hagree : (s.slot i).port.holdReq = (s.slot i).port.announcedHeld)
    (hhead : (s.slot i).egr.express = x :: rest) :
    ∃ t, exec (.edgeDeparture i) s = .next t ∧
      (t.slot i).egr = { (s.slot i).egr with
        tx := .sending { q with headerSent := true, crc := crcWord 0xFFFFFFFF#32 q.header },
        express := { x with
          words := (x.words.set 4 (wordOf s.timing.time.sec)).set 5 (wordOf s.timing.time.ns) } :: rest } ∧
      (t.slot i).port = { (s.slot i).port with out := some (.header q.header), slotTaken := true } ∧
      t.alarm = (if 0 < late then (postEvent causeEdgeLate i.val (wordOf (Nat.min 4294967295 late.toNat)) s).alarm
        else s.alarm) ∧
      KeepsBut [.egr, .port, .alarm, .mgmt] s t ∧ OnlyReplies s t ∧ OtherSlots i s t := by
  have hslot := parcelSlot_open hup hfree (restWaits_of_not hrest) hagree (by rw [htx]; rfl)
  obtain ⟨f, hf⟩ : ∃ f : Egress → Egress, f = fun e =>
      { e with
        tx := .sending { q with headerSent := true, crc := crcWord 0xFFFFFFFF#32 q.header },
        express := { x with
          words := (x.words.set 4 (wordOf s.timing.time.sec)).set 5 (wordOf s.timing.time.ns) } :: rest } := ⟨_, rfl⟩
  have hdepart : departNext i s = judgeLate i n.instant n.delay (sendWord i (.header q.header) (s.modEgr i f)) := by
    rw [departNext_departs htx hedge hnot hslot hlater, departEdge]
    dsimp only
    congr 2
    refine modEgr_congr ?_
    rw [hf]
    dsimp only
    rw [htx, if_pos hat, hhead]
    rfl
  have hstamp := modEgr_touches i s f
  have hword := sendWord_touches (s.modEgr i f) i (.header q.header)
  have hsent := hstamp.then hword (rs := [.egr, .port])
  rw [judgeLate_eq (late := late) _ _ _ (by rw [hsent.timing]; exact hlate)] at hdepart
  have hpost : Touches [.alarm, .mgmt] i (sendWord i (.header q.header) (s.modEgr i f)) (if 0 < late then
      postEvent causeEdgeLate i.val (wordOf (Nat.min 4294967295 late.toNat))
        (sendWord i (.header q.header) (s.modEgr i f))
      else sendWord i (.header q.header) (s.modEgr i f)) := touches_ite (postEvent_touches ..) (.refl ..)
  have hall := hsent.then hpost (rs := [.egr, .port, .alarm, .mgmt])
  refine ⟨_, congrArg Host.Outcome.next hdepart, ?_, ?_, ?_, hall.keeps, hall.replies, hall.others⟩
  · rw [hpost.egr, hword.egr, modEgr_egr_self, hf]
  · rw [hpost.port, sendWord_port, hstamp.port]
  · split
    · exact postEvent_alarm_congr hsent.reporting ..
    · exact hsent.alarm

end Edge

/-- Settles O34: in the core period of its making the header stays, after it the header leaves. -/
theorem edgeDepartureIsStamped : Obligations.EdgeDepartureIsStamped := by
  intro i q x rest n late s htx hedge hnot hat hlate
  exact ⟨fun hearly => congrArg Host.Outcome.next (departNext_holds htx hedge hearly),
    fun hlater hup hfree hrest hagree hhead => edge_departs htx hedge hnot hat hlate hlater hup hfree hrest hagree hhead⟩

/-! ## Choices (R49 to R52) -/

section Choice

variable {i : Slot} {s : State}

theorem startExpress_head {x : ExpressParcel} {rest : List ExpressParcel} (h : (s.slot i).egr.express = x :: rest) :
    startExpress i s = s.modEgr i (fun e => { e with tx := .sending (txExpress x) }) := by
  unfold startExpress
  rw [h]

theorem startReply_head {x : ReplyParcel} {rest : List ReplyParcel} (h : s.mgmt.replies = x :: rest) :
    startReply i s = s.modEgr i (fun e => { e with tx := .sending (txReply x) }) := by
  unfold startReply
  rw [h]

theorem startClass_head {c : Cls} {pid : Nat} {rest : List Nat} {p : Stored}
    (h : (s.slot i).egr.queue c = pid :: rest) (hp : s.parcel pid = some p) :
    startClass i c s = s.modEgr i (fun e => { e with tx := .sending (txClass c pid p) }) := by
  unfold startClass
  rw [h]
  dsimp only
  rw [hp]

theorem setSlot_setSlot (x y : SlotState) (s : State) : (s.setSlot i x).setSlot i y = s.setSlot i y := by
  simp [State.setSlot]

theorem modEgr_modEgr (f g : Egress → Egress) (s : State) :
    (s.modEgr i f).modEgr i g = s.modEgr i (fun e => g (f e)) := by
  unfold State.modEgr
  rw [slot_setSlot_self, setSlot_setSlot]

/-- A choice that hands over a parcel: what every choice does first, then the parcel. -/
def handsOver (i : Slot) (q : TxParcel) (s : State) : State :=
  s.modEgr i (fun e => { e.atChoice with tx := .sending q })

theorem handsOver_touches (q : TxParcel) : Touches [.egr] i s (handsOver i q s) := modEgr_touches ..

theorem handsOver_egr (q : TxParcel) :
    ((handsOver i q s).slot i).egr = { (s.slot i).egr.atChoice with tx := .sending q } := modEgr_egr_self ..

theorem choose_express {x : ExpressParcel} {rest : List ExpressParcel} (h : (s.slot i).egr.express = x :: rest) :
    choose i s = handsOver i (txExpress x) s := by
  have hq : ((s.modEgr i Egress.atChoice).slot i).egr.express = x :: rest := by rw [modEgr_egr_self]; exact h
  unfold choose
  dsimp only
  rw [hq, if_pos (by rfl), startExpress_head hq, modEgr_modEgr]
  rfl

theorem dwellCalls_atChoice (e : Egress) (limit : Nat) : e.atChoice.dwellCalls limit = e.dwellCalls limit := by
  unfold Egress.dwellCalls Egress.atChoice
  cases e.control <;> cases e.bulk <;> rfl

theorem classChoice_atChoice (e : Egress) (limit : Nat) (a : Arbitration) :
    e.atChoice.classChoice limit a = e.classChoice limit a := by
  unfold Egress.classChoice
  rw [dwellCalls_atChoice]
  rfl

section Empty

variable (hexpress : (s.slot i).egr.express = [])

include hexpress

theorem choose_held (hhold : (s.slot i).port.cardHold = true) : choose i s = s.modEgr i Egress.atChoice := by
  unfold choose
  simp [Egress.atChoice, hexpress, hhold]

theorem choose_reply {x : ReplyParcel} {rest : List ReplyParcel} (hhold : (s.slot i).port.cardHold = false)
    (hmgmt : i = s.mgmtSlot) (hreply : s.mgmt.replies = x :: rest) : choose i s = handsOver i (txReply x) s := by
  have hq : (s.modEgr i Egress.atChoice).mgmt.replies = x :: rest := by simpa using hreply
  have hslot : (s.modEgr i Egress.atChoice).mgmtSlot = i := by rw [hmgmt]; rfl
  have hegr : ((s.modEgr i Egress.atChoice).slot i).egr.express = [] := by rw [modEgr_egr_self]; exact hexpress
  have hport : ((s.modEgr i Egress.atChoice).slot i).port.cardHold = false := by
    rw [(modEgr_touches i ..).port]; exact hhold
  unfold choose
  dsimp only
  rw [hegr, if_neg (by simp), hport, if_neg (by simp), hslot, hq, if_pos (by simp), startReply_head hq, modEgr_modEgr]
  rfl

theorem choose_class {c : Cls} {pid : Nat} {rest : List Nat} {p : Stored} (hhold : (s.slot i).port.cardHold = false)
    (hreply : i = s.mgmtSlot → s.mgmt.replies = [])
    (hc : (s.slot i).egr.classChoice (s.slot i).cfg.dwellLimit (s.slot i).cfg.arb = some c)
    (hqueue : (s.slot i).egr.queue c = pid :: rest) (hp : s.parcel pid = some p) :
    choose i s = handsOver i (txClass c pid p) s := by
  have hegr := modEgr_egr_self s i Egress.atChoice
  have hexp : ((s.modEgr i Egress.atChoice).slot i).egr.express = [] := by rw [hegr]; exact hexpress
  have hport : ((s.modEgr i Egress.atChoice).slot i).port.cardHold = false := by
    rw [(modEgr_touches i ..).port]; exact hhold
  have hcfg := (modEgr_touches i s Egress.atChoice).cfg (by decide) i
  have hq : ((s.modEgr i Egress.atChoice).slot i).egr.queue c = pid :: rest := by
    rw [hegr]
    cases c <;> exact hqueue
  have hmgmt : (i == (s.modEgr i Egress.atChoice).mgmtSlot && !(s.modEgr i Egress.atChoice).mgmt.replies.isEmpty) =
      false := by
    show (i == s.mgmtSlot && !s.mgmt.replies.isEmpty) = false
    by_cases hi : i = s.mgmtSlot
    · simp [hreply hi]
    · simp [hi]
  unfold choose
  dsimp only
  rw [hexp, if_neg (by simp), hport, if_neg (by simp), hmgmt, if_neg (by simp), hegr, hcfg, classChoice_atChoice, hc]
  dsimp only
  rw [startClass_head hq hp, modEgr_modEgr]
  rfl

end Empty

theorem classChoice_stream {e : Egress} {limit : Nat} (a : Arbitration) (hstream : e.stream ≠ [])
    (h : limit = 0 ∨ e.dwell < limit ∨ (e.control = [] ∧ e.bulk = [])) :
    e.classChoice limit a = some .stream := by
  have hcalls : e.dwellCalls limit = false := by
    unfold Egress.dwellCalls
    rcases h with h | h | ⟨hcontrol, hbulk⟩
    · simp [h]
    · simp [Nat.not_le.mpr h]
    · simp [hcontrol, hbulk]
  unfold Egress.classChoice
  simp [hcalls, hstream]

theorem choiceOpen_of_handed {q : TxParcel} (htx : (s.slot i).egr.tx = .sending q)
    (hreply : i ≠ s.mgmtSlot ∨ s.mgmt.replies = []) : s.choiceOpen i = false := by
  unfold State.choiceOpen
  rw [htx]
  rcases hreply with h | h
  · simp [h]
  · simp [h]

theorem exec_choice (hmay : s.mayChoose i = true) : exec (.schedulerChoice i) s = .next (choose i s) :=
  congrArg Host.Outcome.next (if_pos hmay)

end Choice

/-- Settles O32: the order of a choice step by step, and a choice that stands. -/
theorem choicesGoByR50 : Obligations.ChoicesGoByR50 := by
  intro i s
  refine ⟨fun hmay => ⟨fun x rest hx => ?_, fun hexpress hhold => ?_, fun x rest hexpress hhold hi hreply => ?_,
    fun pid rest p hexpress hhold hreply hstream hp hdwell => ?_⟩, fun q htx _ hreply => ?_⟩
  · have hall := handsOver_touches (i := i) (s := s) (txExpress x)
    rw [exec_choice hmay, choose_express hx]
    exact ⟨_, rfl, by rw [handsOver_egr], by rw [handsOver_egr]; exact hx, by rw [handsOver_egr]; rfl, hall.keeps,
      hall.others⟩
  · have hall := modEgr_touches i s Egress.atChoice
    rw [exec_choice hmay, choose_held hexpress hhold]
    exact ⟨_, rfl, by rw [modEgr_egr_self]; rfl, hall.keeps, hall.others⟩
  · have hall := handsOver_touches (i := i) (s := s) (txReply x)
    rw [exec_choice hmay, choose_reply hexpress hhold hi hreply]
    exact ⟨_, rfl, by rw [handsOver_egr], by rw [handsOver_egr]; rfl, hall.keeps, hall.others⟩
  · have hall := handsOver_touches (i := i) (s := s) (txClass .stream pid p)
    have hc := classChoice_stream (s.slot i).cfg.arb (e := (s.slot i).egr) (by rw [hstream]; simp) hdwell
    rw [exec_choice hmay, choose_class hexpress hhold hreply hc hstream hp]
    exact ⟨_, rfl, by rw [handsOver_egr], by rw [handsOver_egr]; exact hstream, by rw [handsOver_egr]; rfl, hall.keeps,
      hall.others⟩
  · have hno : s.mayChoose i = false := by
      simp [State.mayChoose, choiceOpen_of_handed htx hreply]
    exact congrArg Host.Outcome.next (if_neg (by simp [hno]))

end Sys2Proof.Machine
end

section
/-! PROOFS. An ABORTED end of a reception, and what the events that quiesce a slot leave alone (R4, R31, R46, R138). -/

namespace Sys2Proof.Machine

/-! ## Parts that an operation on several slots leaves alone -/

section Each

variable {ps : List Part} {s : State}

theorem KeepsBut.trans {t u : State} (h : KeepsBut ps s t) (g : KeepsBut ps t u) : KeepsBut ps s u :=
  ⟨fun p hp => (h.1 p hp).trans (g.1 p hp), g.2.trans h.2⟩

theorem foldl_keepsBut {β : Type} {f : State → β → State} (hf : ∀ b t, KeepsBut ps t (f t b)) (l : List β)
    (s : State) : KeepsBut ps s (l.foldl f s) := by
  induction l generalizing s with
  | nil => exact .refl ..
  | cons b l ih => exact (hf b s).trans (ih _)

theorem eachSlot_keepsBut {f : Slot → State → State} (hf : ∀ i t, KeepsBut ps t (f i t)) :
    KeepsBut ps s (s.eachSlot f) :=
  foldl_keepsBut (fun i t => hf i t) _ s

end Each

/-! ## Ends of receptions -/

section Aborted

variable (i : Slot) (s : State)

theorem handOver_touches (hd : Option LogHandle) (h : HandOver) : Touches [.log] i s (handOver hd h s) := by
  cases hd with
  | none => exact .refl ..
  | some x =>
    cases hstands : logStands s.glob.logSize x.idx x.count s.log.count with
    | true =>
      rw [handOver, handOver_stands hstands]
      dsimp only
      exact modLog_touches ..
    | false =>
      rw [handOver, handOver_dropped hstands]
      exact .refl ..

theorem removeRef_touches (c : Cls) (pid : Nat) : Touches [.egr, .pool, .alarm, .mgmt] i s (removeRef i c pid s) :=
  (modEgr_touches i s _).then (releaseHold_touches i _ pid)

theorem failAt_touches (pid : Nat) : Touches [.egr, .pool, .alarm, .mgmt] i s (failAt pid i s) := by
  unfold failAt
  dsimp only
  exact touches_ite (touches_ite (modEgr_touches ..).mono (removeRef_touches ..)) (.refl ..)

theorem passedFail_keepsBut (r : Reception) (pid : Nat) (isOpen bad : Bool) :
    KeepsBut [.egr, .pool, .log, .alarm, .mgmt] s (passedFail i r pid isOpen bad s) := by
  have hopen : KeepsBut [.egr, .pool, .log, .alarm, .mgmt] s (if isOpen then s.eachSlot (failAt pid) else s) :=
    keepsBut_ite (eachSlot_keepsBut (fun j t => (failAt_touches j t pid).keeps.mono)) (.refl ..)
  have hlet := hopen.then (releaseHold_touches i _ pid).keeps (rs := [.egr, .pool, .log, .alarm, .mgmt])
  unfold passedFail
  dsimp only
  exact (hlet.then (keepsBut_ite (postEvent_touches i ..).keeps (.refl ..))
    (rs := [.egr, .pool, .log, .alarm, .mgmt])).then (handOver_touches i ..).keeps

theorem parkEnd_aborted_touches (hd : Option LogHandle) : Touches [.ing, .log] i s (parkEnd i .aborted hd s) := by
  have hclear := (setLanding_touches i s .clear).mono (rs := [.ing, .log])
  unfold parkEnd
  dsimp only
  split
  · exact hclear
  · exact hclear
  · rw [if_pos rfl]
    exact hclear.then (handOver_touches ..)

/-- An ABORTED end touches the reception, what the parcel was stored in, and the record that follows it. -/
theorem parcelEnd_aborted_keepsBut :
    KeepsBut [.ing, .egr, .pool, .log, .alarm, .mgmt] s (parcelEnd i .aborted s) := by
  have hclose := (closeReception_touches i s).keeps.mono (rs := [.ing, .egr, .pool, .log, .alarm, .mgmt])
  unfold parcelEnd
  split
  · exact .refl ..
  · dsimp only
    split
    · exact hclose.then (modMgmt_keepsBut ..)
    · exact hclose.then (modIng_keepsBut ..)
    · exact hclose
    · exact hclose
    · exact hclose.then (parkEnd_aborted_touches ..).keeps
    · exact hclose.then (passedFail_keepsBut ..)

theorem parcelEnd_idle {e : PEnd} (h : (s.slot i).ing.reception = none) : parcelEnd i e s = s := by
  unfold parcelEnd
  rw [h]

end Aborted

/-! ## Links, power lines and slot states -/

section Ctl

variable (i : Slot) (s : State)

theorem abandonTx_touches : Touches [.egr, .pool, .alarm, .mgmt] i s (abandonTx i s) := by
  have hidle := (modEgr_touches i s (fun e => { e with tx := .idle })).mono (rs := [.egr, .pool, .alarm, .mgmt])
  unfold abandonTx
  dsimp only
  split
  · exact hidle
  · split
    · exact touches_ite (hidle.then (removeRef_touches ..)) hidle
    · exact hidle

theorem setLink_keepsBut (dst : LinkState) :
    KeepsBut [.port, .ing, .egr, .pool, .log, .alarm, .mgmt] s (setLink i dst s) := by
  have hport (f : Port → Port) (u : State) := (modPort_keepsBut u i f).mono
    (rs := [.port, .ing, .egr, .pool, .log, .alarm, .mgmt])
  unfold setLink
  refine keepsBut_ite ?_ (hport ..)
  refine KeepsBut.then ?_ (clearCond_touches i ..).keeps (ps := [.port, .ing, .egr, .pool, .log, .alarm, .mgmt])
  refine KeepsBut.trans ?_ (hport ..)
  refine KeepsBut.then ?_ (abandonTx_touches ..).keeps (ps := [.port, .ing, .egr, .pool, .log, .alarm, .mgmt])
  exact (hport _ s).trans ((parcelEnd_aborted_keepsBut i _).then (modPort_keepsBut ..))

theorem abortChain_touches (r : AbortReason) : Touches [.cursor, .alarm, .mgmt] i s (abortChain i r s) := by
  unfold abortChain
  exact touches_ite (.refl ..) ((setCursor_touches ..).then (postEvent_touches ..))

theorem powerOffLines_touches : Touches [.ctl, .alarm, .mgmt] i s (powerOffLines i s) :=
  (modCtl_touches i s _).then (clearCond_touches ..)

theorem settleAs_keepsBut (o : LogOutcome) (pid : Nat) (hd : Option LogHandle) (enq disc : SlotSet) :
    KeepsBut [.pool, .log, .alarm, .mgmt] s (settleAs o pid hd enq disc s) :=
  (releaseHold_touches 0 s pid).keeps.then (handOver_touches 0 ..).keeps

theorem waitEnd_keepsBut (w : Waiting) : KeepsBut [.ing, .port, .pool, .log, .alarm, .mgmt] s (waitEnd i w s) :=
  ((modIng_keepsBut s i _).then (modPort_keepsBut ..) (rs := [.ing, .port])).then (settleAs_keepsBut ..)

theorem putWaiting_keepsBut (w : Waiting) : KeepsBut [.ing, .port, .pool, .log, .alarm, .mgmt] s (putWaiting i w s) :=
  keepsBut_ite (waitEnd_keepsBut ..) (modIng_keepsBut ..).mono

theorem reresolveIn_keepsBut (j : Slot) : KeepsBut [.ing, .port, .pool, .log, .alarm, .mgmt] s (reresolveIn i j s) := by
  unfold reresolveIn
  split
  · exact .refl ..
  · refine keepsBut_ite ?_ (.refl ..)
    split
    · exact .refl ..
    · exact putWaiting_keepsBut ..
    · exact putWaiting_keepsBut ..

theorem reresolve_keepsBut : KeepsBut [.ing, .port, .pool, .log, .alarm, .mgmt] s (reresolve i s) :=
  eachSlot_keepsBut (fun j t => reresolveIn_keepsBut i t j)

theorem setPhase_keepsBut (ph : Phase) : KeepsBut [.ctl, .ing, .port, .pool, .log, .alarm, .mgmt] s (setPhase i ph s) :=
  (modCtl_keepsBut s i _).then (reresolve_keepsBut ..)

theorem emptyMgmt_keepsBut : KeepsBut [.mgmt] s (emptyMgmt i s) := keepsBut_ite (modMgmt_keepsBut ..) (.refl ..)

theorem emptySwitchQueues_keepsBut : KeepsBut [.egr, .mgmt] s (emptySwitchQueues i s) := by
  unfold emptySwitchQueues
  exact (modEgr_keepsBut s i _).then (keepsBut_ite (modMgmt_keepsBut ..) (.refl ..)) (qs := [.mgmt])

theorem flushSlot_keepsBut : KeepsBut [.egr, .pool, .alarm, .mgmt] s (flushSlot i s) := by
  unfold flushSlot
  dsimp only
  refine KeepsBut.then (ps := [.egr, .pool, .alarm, .mgmt]) ?_ (emptySwitchQueues_keepsBut ..)
  exact (modEgr_keepsBut s i _).then
    (foldl_keepsBut (ps := [.pool, .alarm, .mgmt]) (fun pid t => (releaseHold_touches i t pid).keeps) _ _)

/-- The parts that an entry to EMPTY, SEATED, QUIESCED or FAULTED may touch. -/
theorem enterOut_keepsBut (ph : Phase) :
    KeepsBut [.ctl, .egr, .ing, .port, .pool, .log, .alarm, .mgmt] s (enterOut i ph s) :=
  ((setPhase_keepsBut i s ph).then (emptySwitchQueues_keepsBut ..)
    (rs := [.ctl, .egr, .ing, .port, .pool, .log, .alarm, .mgmt])).then (emptyMgmt_keepsBut ..)

theorem quiesce_keepsBut : KeepsBut [.ctl, .egr, .ing, .port, .pool, .log, .alarm, .mgmt] s (quiesce i s) := by
  unfold quiesce
  dsimp only
  have hoff : KeepsBut [.ctl, .alarm, .mgmt] s (if (s.slot i).cfg.autoPowerOff then powerOffLines i s else s) :=
    keepsBut_ite (powerOffLines_touches i s).keeps (.refl ..)
  exact (hoff.then (setLink_keepsBut ..) (rs := [.ctl, .egr, .ing, .port, .pool, .log, .alarm, .mgmt])).then
    (enterOut_keepsBut ..)

theorem settleRounds_keepsBut (n : Nat) :
    KeepsBut [.ctl, .egr, .ing, .port, .pool, .log, .alarm, .mgmt] s (settleRounds n s) := by
  induction n generalizing s with
  | zero => exact .refl ..
  | succ n ih =>
    unfold settleRounds
    split
    · exact .refl ..
    · exact (quiesce_keepsBut ..).trans (ih _)

/-- The egress-empty reports leave the timing unit, the watches and parking memory alone (R46, R138). -/
theorem settleDrains_keepsBut :
    KeepsBut [.ctl, .egr, .ing, .port, .pool, .log, .alarm, .mgmt] s (settleDrains s) := settleRounds_keepsBut s 16

end Ctl

end Sys2Proof.Machine
end

section
/-! PROOFS. The core period: what each word slot carries, cabinet time and the uptime (R1, R8, R10, R85, R87). -/

namespace Sys2Proof.Machine

/-! ## An operation on every slot that keeps to its slot -/

theorem allSlots_nodup : allSlots.Nodup := by decide

theorem mem_allSlots_all (i : Slot) : i ∈ allSlots := by revert i; decide

/-- Where each slot's part of an operation leaves the other slots alone, every slot ends as its own part leaves it. -/
theorem foldSlots_at {P : State → Prop} {f : Slot → State → State} {s : State}
    (hf : ∀ i t, P t → t.slot i = s.slot i → P (f i t) ∧ OtherSlots i t (f i t)) (l : List Slot) (hl : l.Nodup) (u : State)
    (hu : P u) (hsame : ∀ j, j ∈ l → u.slot j = s.slot j) :
    P (l.foldl (fun t i => f i t) u) ∧
    (∀ j, j ∈ l → ∃ t, P t ∧ t.slot j = s.slot j ∧ (l.foldl (fun t i => f i t) u).slot j = (f j t).slot j) ∧
    ∀ j, j ∉ l → (l.foldl (fun t i => f i t) u).slot j = u.slot j := by
  induction l generalizing u with
  | nil => exact ⟨hu, nofun, fun _ _ => rfl⟩
  | cons i l ih =>
    obtain ⟨hi, hl⟩ := List.nodup_cons.mp hl
    obtain ⟨hnext, hothers⟩ := hf i u hu (hsame i List.mem_cons_self)
    have hrest : ∀ j, j ∈ l → (f i u).slot j = s.slot j := fun j hj =>
      (hothers j (fun h => hi (h ▸ hj))).trans (hsame j (List.mem_cons_of_mem _ hj))
    obtain ⟨hend, hin, hout⟩ := ih hl (f i u) hnext hrest
    refine ⟨hend, fun j hj => ?_, fun j hj => ?_⟩
    · rcases List.mem_cons.mp hj with rfl | hj
      · exact ⟨u, hu, hsame j List.mem_cons_self, hout j hi⟩
      · exact hin j hj
    · rw [List.mem_cons, not_or] at hj
      exact (hout j hj.2).trans (hothers j hj.1)

theorem eachSlot_at {P : State → Prop} {f : Slot → State → State} {s : State} (hs : P s)
    (hf : ∀ i t, P t → t.slot i = s.slot i → P (f i t) ∧ OtherSlots i t (f i t)) :
    P (s.eachSlot f) ∧ ∀ j, ∃ t, P t ∧ t.slot j = s.slot j ∧ (s.eachSlot f).slot j = (f j t).slot j := by
  obtain ⟨hend, hin, -⟩ := foldSlots_at hf allSlots allSlots_nodup s hs (fun _ _ => rfl)
  exact ⟨hend, fun j => hin j (mem_allSlots_all j)⟩

/-! ## A slot with nothing to send -/

section Quiet

variable {i : Slot} {s : State}

theorem choose_nothing (hegr : (s.slot i).egr.express = [] ∧ (s.slot i).egr.stream = [] ∧
      (s.slot i).egr.control = [] ∧ (s.slot i).egr.bulk = [] ∧ (s.slot i).egr.dwell = 0)
    (hidle : (s.slot i).egr.tx = .idle) (hreply : i = s.mgmtSlot → s.mgmt.replies = []) : choose i s = s := by
  obtain ⟨hexpress, hstream, hcontrol, hbulk, hdwell⟩ := hegr
  have hsame : s.modEgr i Egress.atChoice = s := by
    refine modEgr_self ?_
    unfold Egress.atChoice
    cases h : (s.slot i).egr
    simp_all
  have hmgmt : (i == s.mgmtSlot && !s.mgmt.replies.isEmpty) = false := by
    by_cases hi : i = s.mgmtSlot
    · simp [hreply hi]
    · simp [hi]
  unfold choose
  simp [hsame, hexpress, hmgmt, Egress.classChoice, Egress.turn, hstream, hcontrol, hbulk]

theorem makeChoice_quiet (h : QuietSlot s i) : makeChoice i s = s := by
  obtain ⟨htx, -, -, -, -, hqueues⟩ := h
  unfold makeChoice
  split
  · next hmay =>
    obtain ⟨hexpress, hstream, hcontrol, hbulk, hdwell, hreply⟩ := hqueues hmay
    exact choose_nothing ⟨hexpress, hstream, hcontrol, hbulk, hdwell⟩ htx hreply
  · rfl

theorem sendHoldMark_quiet (h : (s.slot i).port.holdReq = (s.slot i).port.announcedHeld) : sendHoldMark i s = s := by
  simp [sendHoldMark, holdMarkWaits_of_agree h]

theorem sendTrainReq_none (h : (s.slot i).port.trainReq = none) : sendTrainReq i s = s := by
  unfold sendTrainReq
  dsimp only
  rw [h]

theorem sendTrainReq_up (h : (s.slot i).port.link = .up) : sendTrainReq i s = s := by
  unfold sendTrainReq
  dsimp only
  split
  · rfl
  · rw [if_neg]
    simp [h]

theorem sendRest_none (h : s.restWaits i = false) : sendRest i s = s := by simp [sendRest, h]

theorem sendWake_none (h : (s.slot i).port.wakeAsked = false) : sendWake i s = s := by simp [sendWake, h]

theorem sendWake_up (h : (s.slot i).port.link = .up) : sendWake i s = s := by simp [sendWake, h]

theorem sendSuspend_none (h : ∀ p, (s.slot i).egr.tx ≠ .insertCalled p .suspendDue) : sendSuspend i s = s := by
  unfold sendSuspend
  split
  · next p x r htx _ => exact absurd htx (h p)
  · rfl

theorem sendContinue_none (h : ∀ p, (s.slot i).egr.tx ≠ .continueDue p) : sendContinue i s = s := by
  unfold sendContinue
  split
  · next p htx => exact absurd htx (h p)
  · rfl

theorem sendParcelWord_idle (h : (s.slot i).egr.tx = .idle) : sendParcelWord i s = s := by
  simp [sendParcelWord, h, Tx.current]

theorem departNext_idle (h : (s.slot i).egr.tx = .idle) : departNext i s = s := by
  simp [departNext, h, Tx.current]

theorem endOf_idle (h : (s.slot i).egr.tx = .idle) : endOf i s = s := by
  simp [endOf, h]

theorem fillSlot_quiet (h : QuietSlot s i) : fillSlot i s = s := by
  have hchoice := makeChoice_quiet h
  obtain ⟨htx, hagree, hrest, hwake, htrain, -⟩ := h
  unfold fillSlot
  rw [hchoice, sendHoldMark_quiet hagree, sendTrainReq_none htrain, sendRest_none (restWaits_of_not hrest),
    sendWake_none hwake, sendSuspend_none (by simp [htx]), sendContinue_none (by simp [htx]), sendParcelWord_idle htx,
    departNext_idle htx, endOf_idle htx]

/-- A quiet slot sends IDLE, or nothing in RESTING, in a word slot still free. -/
def Port.idled (p : Port) : Port :=
  { p with slotTaken := false, out := if p.slotTaken then p.out else p.link.idleWord }

theorem wordSlot_quiet (h : QuietSlot s i) : wordSlot i s = s.modPort i Port.idled := by
  unfold wordSlot
  rw [fillSlot_quiet h]
  rfl

end Quiet

/-! ## The word slots of one core period -/

/-- The parts of a state that belong to its slots. -/
def slotParts : List Part := [.cfg, .port, .ing, .egr, .ctl, .edges, .cursor]

section WordSlots

variable {s : State}

theorem mgmtSlot_of_same {t : State} (hmgmt : t.mgmt = s.mgmt) : t.mgmtSlot = s.mgmtSlot := by
  unfold State.mgmtSlot
  rw [hmgmt]

/-- Whether a choice may be made is told by the slot and the management unit. -/
theorem mayChoose_of_same {t : State} {i : Slot} (hmgmt : t.mgmt = s.mgmt) (hi : t.slot i = s.slot i) :
    t.mayChoose i = s.mayChoose i := by
  simp only [State.mayChoose, State.choiceOpen, State.isAwake, State.mgmtSlot, hi, hmgmt]

theorem quietSlot_of_same {t : State} {i : Slot} (ht : KeepsBut slotParts s t) (hi : t.slot i = s.slot i)
    (h : QuietSlot s i) : QuietSlot t i := by
  have hmgmt : t.mgmt = s.mgmt := ht.1 .mgmt (by decide)
  unfold QuietSlot
  rw [hi, mayChoose_of_same hmgmt hi, hmgmt, mgmtSlot_of_same hmgmt]
  exact h

/-- Where each slot's word slot touches its own port and egress alone, and does so in the same way whatever the other
slots have sent, the word slots of a core period leave every slot with those. -/
theorem wordSlots_local {p : Slot → Port} {e : Slot → Egress}
    (h : ∀ i t, KeepsBut slotParts s t → t.slot i = s.slot i → Touches [.port, .egr] i t (wordSlot i t) ∧
      ((wordSlot i t).slot i).port = p i ∧ ((wordSlot i t).slot i).egr = e i) :
    (∀ j, ((s.eachSlot wordSlot).slot j).port = p j ∧ ((s.eachSlot wordSlot).slot j).egr = e j) ∧
    KeepsBut [.port, .egr] s (s.eachSlot wordSlot) := by
  have hrun := eachSlot_at (P := KeepsBut [.port, .egr] s) (f := wordSlot) (.refl ..) (fun i t ht hi => by
    obtain ⟨htouch, -⟩ := h i t (ht.mono (by decide)) hi
    exact ⟨ht.trans htouch.keeps, htouch.others⟩)
  obtain ⟨hkeeps, hslots⟩ := hrun
  refine ⟨fun j => ?_, hkeeps⟩
  obtain ⟨t, ht, hj, hsame⟩ := hslots j
  obtain ⟨-, hport, hegr⟩ := h j t (ht.mono (by decide)) hj
  rw [hsame]
  exact ⟨hport, hegr⟩

end WordSlots

end Sys2Proof.Machine
end

section
/-! PROOFS. Word slots of a core period: one word each, marks ahead of parcel words, and the start of a parcel chosen (R5,
R8, R50 to R52). -/

namespace Sys2Proof.Machine

/-! ## A core period without a carry (R85) -/

section Period

variable {s t : State}

theorem drained_none_of_egress (h : s.settled) (hp : ∀ i, (t.slot i).ctl.phase = (s.slot i).ctl.phase)
    (he : ∀ i, t.egressEmpty i = true → s.egressEmpty i = true) : t.drained = none := by
  unfold State.settled State.drained at *
  rw [List.find?_eq_none] at *
  intro i hi hboth
  rw [Bool.and_eq_true] at hboth
  obtain ⟨hphase, hempty⟩ := hboth
  exact h i hi (Bool.and_eq_true _ _ ▸ ⟨hp i ▸ hphase, he i hempty⟩)

theorem egressEmpty_of_egr {i : Slot} (hegr : (t.slot i).egr = (s.slot i).egr) (hmgmt : t.mgmt = s.mgmt) :
    t.egressEmpty i = s.egressEmpty i := by
  unfold State.egressEmpty State.mgmtSlot
  rw [hegr, hmgmt]

/-- The queues of an egress are empty and nothing is handed over or in transmission. -/
def Egress.bare (e : Egress) : Prop :=
  e.tx = .idle ∧ e.stream = [] ∧ e.control = [] ∧ e.bulk = [] ∧ e.express = []

theorem egressEmpty_iff {i : Slot} : s.egressEmpty i = true ↔
    (s.slot i).egr.bare ∧ (i = s.mgmtSlot → s.mgmt.replies = [] ∧ s.mgmt.claim = false) := by
  simp only [State.egressEmpty, Egress.bare, Bool.and_eq_true, Bool.or_eq_true, List.isEmpty_iff, beq_iff_eq, bne_iff_ne,
    Bool.not_eq_true']
  constructor
  · rintro ⟨⟨⟨⟨⟨hstream, hcontrol⟩, hbulk⟩, hexpress⟩, htx⟩, hreplies⟩
    exact ⟨⟨htx, hstream, hcontrol, hbulk, hexpress⟩, fun hi => hreplies.resolve_left (not_not_intro hi)⟩
  · rintro ⟨⟨htx, hstream, hcontrol, hbulk, hexpress⟩, hreplies⟩
    have hmgmt := (Classical.em (i = s.mgmtSlot)).symm.imp id hreplies
    exact ⟨⟨⟨⟨⟨hstream, hcontrol⟩, hbulk⟩, hexpress⟩, htx⟩, hmgmt⟩

theorem carries_false {x : CabTime} {adj : Int} (h : x.inRange) (hadj : adj.natAbs ≤ 6871948)
    (hns : x.ns + 9 < 1000000000) : x.carries adj = false := by
  obtain ⟨-, -, hfrac⟩ := h
  simp only [Config.fracPerNs] at hfrac
  unfold CabTime.carries
  refine decide_eq_false ?_
  simp only [Config.nsPerSec, Config.fracPerNs]
  omega

theorem takeUptime_done (h : s.timing.uptime = BitVec.ofNat 32 (s.timing.core / 125000)) : takeUptime s = s := by
  have hdue : s.timing.uptimeDue = false := by
    unfold Timing.uptimeDue
    rw [h]
    exact bne_self_eq_false _
  unfold takeUptime
  rw [if_neg (by simp [hdue])]

/-- Cabinet time and the count of core periods move on. -/
def ticked (s : State) : State :=
  s.modTiming (fun t => { t with core := t.core + 1, time := t.time.advance t.adj })

theorem ticked_keepsBut (s : State) : KeepsBut [.timing] s (ticked s) := by
  unfold ticked
  exact modTiming_keepsBut ..

theorem ticked_slot (s : State) (j : Slot) : (ticked s).slot j = s.slot j := rfl

theorem corePeriod_plain (huptime : takeUptime s = s) (hsettle : settleDrains (s.eachSlot wordSlot) = s.eachSlot wordSlot)
    (htiming : (s.eachSlot wordSlot).timing = s.timing) (hcarry : s.now.carries s.timing.adj = false) :
    corePeriod s = ticked (s.eachSlot wordSlot) := by
  unfold corePeriod
  dsimp only
  rw [huptime, hsettle, State.now, htiming]
  exact if_neg (by simpa [State.now] using hcarry)

end Period

section Plain

variable {i : Slot} {s : State}

/-- A plain core period in which one slot's word slot leaves it a port and an egress, and takes no class parcel, express
parcel or transmission from it. -/
theorem plainPeriod_leaves {p : Port} {e : Egress} (h : PlainPeriod i s)
    (hlocal : ∀ t, KeepsBut slotParts s t → t.slot i = s.slot i → Touches [.port, .egr] i t (wordSlot i t) ∧
      ((wordSlot i t).slot i).port = p ∧ ((wordSlot i t).slot i).egr = e)
    (hkeep : e.bare → (s.slot i).egr.bare ∨ (i = s.mgmtSlot ∧ s.mgmt.replies ≠ [])) :
    ∃ t, exec .cabinetTimeAdvance s = .next t ∧ (t.slot i).port = p ∧ (t.slot i).egr = e ∧
      (∀ j, j ≠ i → (t.slot j).egr = (s.slot j).egr) ∧ KeepsBut [.timing, .port, .egr] s t := by
  obtain ⟨hsettled, hquiet, huptime, hrange, hadj, hns⟩ := h
  obtain ⟨hslots, hkeeps⟩ := wordSlots_local (s := s) (p := fun j => if j = i then p else (s.slot j).port.idled)
    (e := fun j => if j = i then e else (s.slot j).egr) (fun j t ht hj => by
      by_cases hji : j = i
      · subst hji
        rw [if_pos rfl, if_pos rfl]
        exact hlocal t ht hj
      · rw [if_neg hji, if_neg hji, wordSlot_quiet (quietSlot_of_same ht hj (hquiet j hji)), modPort_port_self, hj]
        exact ⟨(modPort_touches ..).mono, rfl, by rw [(modPort_touches j ..).egr, hj]⟩)
  have hmgmt : (s.eachSlot wordSlot).mgmt = s.mgmt := hkeeps.1 .mgmt (by decide)
  have hmgmtSlot : (s.eachSlot wordSlot).mgmtSlot = s.mgmtSlot := by unfold State.mgmtSlot; rw [hmgmt]
  have hempty (j : Slot) (hj : (s.eachSlot wordSlot).egressEmpty j = true) : s.egressEmpty j = true := by
    by_cases hji : j = i
    · subst hji
      have hegr := (hslots j).2
      rw [if_pos rfl] at hegr
      rw [egressEmpty_iff, hegr, hmgmt, hmgmtSlot] at hj
      obtain ⟨hbare, hreplies⟩ := hj
      rcases hkeep hbare with h | ⟨hm, hr⟩
      · exact egressEmpty_iff.mpr ⟨h, hreplies⟩
      · exact absurd (hreplies hm).1 hr
    · have hegr := (hslots j).2
      rw [if_neg hji] at hegr
      rw [← egressEmpty_of_egr hegr hmgmt]
      exact hj
  have hctl (j : Slot) : ((s.eachSlot wordSlot).slot j).ctl = (s.slot j).ctl := hkeeps.1 .ctl (by decide) j
  have hsettle := settleDrains_of_settled (drained_none_of_egress hsettled (fun j => by rw [hctl j]) hempty)
  have hperiod := corePeriod_plain (takeUptime_done huptime) hsettle (hkeeps.1 .timing (by decide))
    (carries_false hrange hadj hns)
  have hall := hkeeps.then (ticked_keepsBut (s.eachSlot wordSlot)) (rs := [.timing, .port, .egr])
  have hslot (j : Slot) := ticked_slot (s.eachSlot wordSlot) j
  refine ⟨_, congrArg Host.Outcome.next hperiod, ?_, ?_, fun j hj => ?_, hall⟩
  · rw [hslot, (hslots i).1, if_pos rfl]
  · rw [hslot, (hslots i).2, if_pos rfl]
  · rw [hslot, (hslots j).2, if_neg hj]

end Plain

/-! ## A word slot that is taken, and one that carries a mark or a word -/

section Carries

variable {i : Slot} {s t : State}

theorem startClass_touches (c : Cls) : Touches [.egr] i s (startClass i c s) := by
  unfold startClass
  split
  · exact .refl ..
  · split
    · exact .refl ..
    · exact modEgr_touches ..

theorem choose_touches : Touches [.egr] i s (choose i s) := by
  have hfirst := modEgr_touches i s Egress.atChoice
  unfold choose
  dsimp only
  refine touches_ite ?_ (touches_ite hfirst (touches_ite ?_ ?_))
  · unfold startExpress
    split
    · exact hfirst
    · exact hfirst.then (modEgr_touches ..)
  · unfold startReply
    split
    · exact hfirst
    · exact hfirst.then (modEgr_touches ..)
  · split
    · exact hfirst
    · exact hfirst.then (startClass_touches _)

/-- A choice leaves every queue as it is. -/
theorem choose_queues (i : Slot) (s : State) :
    ((choose i s).slot i).egr.stream = (s.slot i).egr.stream ∧
    ((choose i s).slot i).egr.control = (s.slot i).egr.control ∧
    ((choose i s).slot i).egr.bulk = (s.slot i).egr.bulk ∧
    ((choose i s).slot i).egr.express = (s.slot i).egr.express := by
  unfold choose startExpress startReply startClass
  dsimp only
  repeat' split
  all_goals simp only [modEgr_egr_self]; exact ⟨rfl, rfl, rfl, rfl⟩

theorem makeChoice_touches : Touches [.egr] i s (makeChoice i s) := touches_ite choose_touches (.refl ..)

theorem choose_congr (ht : KeepsBut slotParts s t) (hi : t.slot i = s.slot i) :
    ((choose i t).slot i).egr = ((choose i s).slot i).egr := by
  have hmgmt : t.mgmt = s.mgmt := ht.1 .mgmt (by decide)
  have hslot : t.mgmtSlot = s.mgmtSlot := by unfold State.mgmtSlot; rw [hmgmt]
  have hparcel (pid : Nat) : t.parcel pid = s.parcel pid := by
    unfold State.parcel
    rw [ht.1 .pool (by decide)]
  have hparcel' (pid : Nat) : (t.modEgr i Egress.atChoice).parcel pid = (s.modEgr i Egress.atChoice).parcel pid :=
    hparcel pid
  have hslot' : (t.modEgr i Egress.atChoice).mgmtSlot = (s.modEgr i Egress.atChoice).mgmtSlot := hslot
  have hmgmt' : (t.modEgr i Egress.atChoice).mgmt = (s.modEgr i Egress.atChoice).mgmt := hmgmt
  unfold choose startExpress startReply startClass
  simp only [modEgr_egr_self, (modEgr_touches i _ _).port, (modEgr_touches i _ _).cfg, hi, hmgmt', hslot', hparcel']
  repeat' split
  all_goals simp only [modEgr_egr_self, hi]

theorem makeChoice_congr (ht : KeepsBut slotParts s t) (hi : t.slot i = s.slot i) :
    ((makeChoice i t).slot i).egr = ((makeChoice i s).slot i).egr := by
  unfold makeChoice
  rw [mayChoose_of_same (ht.1 .mgmt (by decide)) hi]
  split
  · exact choose_congr ht hi
  · rw [hi]

theorem makeChoice_none (h : s.mayChoose i = false) : makeChoice i s = s := if_neg (by simp [h])

theorem endOf_taken (h : (s.slot i).port.slotTaken = true) : endOf i s = s := by
  have hstay (p : TxParcel) := mayEnd_eq_false p h
  unfold endOf
  simp only [hstay, Bool.false_eq_true, if_false]
  split
  · rfl
  · next p htx =>
    unfold dropLateReplies
    dsimp only
    rw [if_neg]
    simp [htx]
  all_goals rfl

/-- Once the slot is taken nothing more leaves in it. -/
theorem words_taken (h : (s.slot i).port.slotTaken = true) : endOf i (departNext i (sendParcelWord i s)) = s := by
  rw [sendParcelWord_taken h, departNext_taken h, endOf_taken h]

theorem marks_taken (h : (s.slot i).port.slotTaken = true) :
    endOf i (departNext i (sendParcelWord i (sendContinue i (sendSuspend i (sendWake i (sendRest i
      (sendTrainReq i s))))))) = s := by
  rw [sendTrainReq_taken h, sendRest_taken h, sendWake_taken h, sendSuspend_taken h, sendContinue_taken h, words_taken h]

theorem fillSlot_taken (h : (s.slot i).port.slotTaken = true) : fillSlot i s = makeChoice i s := by
  have htaken : ((makeChoice i s).slot i).port.slotTaken = true := by rw [makeChoice_touches.port]; exact h
  unfold fillSlot
  rw [sendHoldMark_taken htaken, marks_taken htaken]

theorem fillSlot_holdMark (hfree : (s.slot i).port.slotTaken = false) (hframes : s.framing i = true)
    (hdiffer : (s.slot i).port.holdReq ≠ (s.slot i).port.announcedHeld) :
    fillSlot i s = sendHoldMark i (makeChoice i s) := by
  have hport : ((makeChoice i s).slot i).port = (s.slot i).port := makeChoice_touches.port (by decide) i
  obtain ⟨hsent, -⟩ := holdMark_leaves (s := makeChoice i s) (i := i) (by rw [hport]; exact hfree)
    (by unfold State.framing; rw [hport]; exact hframes) (by rw [hport]; exact hdiffer)
  unfold fillSlot
  rw [marks_taken (by rw [hsent])]

/-- On a link that is UP with no mark waiting, the word slot carries the next word of the parcel handed over or in
transmission. -/
theorem fillSlot_word {q : TxParcel} {u : State} (hu : makeChoice i s = u) (hup : (u.slot i).port.link = .up)
    (hagree : (u.slot i).port.holdReq = (u.slot i).port.announcedHeld) (hrest : u.restWaits i = false)
    (htx : (u.slot i).egr.tx = .sending q) (htaken : ((sendParcelWord i u).slot i).port.slotTaken = true) :
    fillSlot i s = sendParcelWord i u := by
  unfold fillSlot
  rw [hu, sendHoldMark_quiet hagree, sendTrainReq_up hup, sendRest_none hrest, sendWake_up hup,
    sendSuspend_none (by simp [htx]), sendContinue_none (by simp [htx]), departNext_taken htaken, endOf_taken htaken]

theorem sendParcelWord_body {q p : TxParcel} {w : LinkWord} (htx : (s.slot i).egr.tx = .sending q)
    (hslot : s.parcelSlot i = true) (hnext : s.nextWord i q = some (w, p)) (hleft : q.notLeft = false) :
    sendParcelWord i s = sendWord i w (s.modEgr i (fun e => { e with tx := .sending p })) := by
  unfold sendParcelWord
  simp only [htx, Tx.current, hslot, hnext, hleft, if_true, if_false, Bool.false_eq_true]
  rfl

theorem sendParcelWord_header {q p : TxParcel} {w : LinkWord} (htx : (s.slot i).egr.tx = .sending q)
    (hslot : s.parcelSlot i = true) (hnext : s.nextWord i q = some (w, p)) (hleft : q.notLeft = true) :
    sendParcelWord i s = sendWord i w (s.modEgr i (fun e => { e.startOf q.origin with tx := .sending p })) := by
  unfold sendParcelWord
  simp only [htx, Tx.current, hslot, hnext, hleft, if_true]
  rfl

theorem wordSlot_touches (h : Touches [.port, .egr] i s (fillSlot i s)) : Touches [.port, .egr] i s (wordSlot i s) :=
  h.then (modPort_touches ..)

theorem wordSlot_port (i : Slot) (s : State) :
    ((wordSlot i s).slot i).port = ((fillSlot i s).slot i).port.idled := modPort_port_self ..

theorem wordSlot_egr (i : Slot) (s : State) : ((wordSlot i s).slot i).egr = ((fillSlot i s).slot i).egr := by
  unfold wordSlot
  rw [(modPort_touches i ..).egr]

end Carries

/-! ## Word slots of one slot in a plain core period -/

section Slots

variable {i : Slot} {s : State}

/-- A choice made with nothing handed over hands over a parcel or leaves all queues as they are. -/
theorem choose_bare (h : ((choose i s).slot i).egr.bare) (htx : (s.slot i).egr.tx = .idle) : (s.slot i).egr.bare := by
  obtain ⟨-, hstream, hcontrol, hbulk, hexpress⟩ := h
  obtain ⟨hs, hc, hb, he⟩ := choose_queues i s
  exact ⟨htx, hs ▸ hstream, hc ▸ hcontrol, hb ▸ hbulk, he ▸ hexpress⟩

theorem makeChoice_bare (hopen : (s.slot i).egr.tx = .idle ∨ s.mayChoose i = false)
    (h : ((makeChoice i s).slot i).egr.bare) : (s.slot i).egr.bare := by
  cases hmay : s.mayChoose i with
  | false =>
    rw [makeChoice_none hmay] at h
    exact h
  | true =>
    rw [makeChoice, if_pos hmay] at h
    exact choose_bare h (hopen.resolve_right (by simp [hmay]))

theorem taken_period (h : PlainPeriod i s) (hopen : (s.slot i).egr.tx = .idle ∨ s.mayChoose i = false)
    (htaken : (s.slot i).port.slotTaken = true) :
    ∃ t, exec .cabinetTimeAdvance s = .next t ∧ (t.slot i).port = { (s.slot i).port with slotTaken := false } ∧
      (t.slot i).egr = ((makeChoice i s).slot i).egr ∧
      (∀ j, j ≠ i → (t.slot j).egr = (s.slot j).egr) ∧ KeepsBut [.timing, .port, .egr] s t := by
  refine plainPeriod_leaves h (fun t ht hi => ?_) (fun h => .inl (makeChoice_bare hopen h))
  have hfill := fillSlot_taken (i := i) (s := t) (by rw [hi]; exact htaken)
  refine ⟨wordSlot_touches (hfill ▸ makeChoice_touches.mono), ?_, ?_⟩
  · rw [wordSlot_port, hfill, makeChoice_touches.port, hi, Port.idled, htaken]
    rfl
  · rw [wordSlot_egr, hfill, makeChoice_congr ht hi]

theorem holdMark_period (h : PlainPeriod i s) (hopen : (s.slot i).egr.tx = .idle ∨ s.mayChoose i = false)
    (hfree : (s.slot i).port.slotTaken = false) (hframes : s.framing i = true)
    (hdiffer : (s.slot i).port.holdReq ≠ (s.slot i).port.announcedHeld) :
    ∃ t, exec .cabinetTimeAdvance s = .next t ∧
      (t.slot i).port = { (s.slot i).port with
        announcedHeld := (s.slot i).port.holdReq,
        out := some (.mark (if (s.slot i).port.holdReq then 0x01000000#32 else 0x02000000#32)) } ∧
      (t.slot i).egr = ((makeChoice i s).slot i).egr ∧
      (∀ j, j ≠ i → (t.slot j).egr = (s.slot j).egr) ∧ KeepsBut [.timing, .port, .egr] s t := by
  refine plainPeriod_leaves h (fun t ht hi => ?_) (fun h => .inl (makeChoice_bare hopen h))
  have hframes' : t.framing i = true := by unfold State.framing; rw [hi]; exact hframes
  have hport : ((makeChoice i t).slot i).port = (s.slot i).port := by rw [makeChoice_touches.port, hi]
  have hfill := fillSlot_holdMark (i := i) (s := t) (by rw [hi]; exact hfree) hframes' (by rw [hi]; exact hdiffer)
  obtain ⟨hsent, htouch⟩ := holdMark_leaves (i := i) (s := makeChoice i t) (by rw [hport]; exact hfree)
    (by unfold State.framing; rw [hport]; exact hframes) (by rw [hport]; exact hdiffer)
  refine ⟨wordSlot_touches (hfill ▸ makeChoice_touches.then htouch), ?_, ?_⟩
  · rw [wordSlot_port, hfill, hsent, hport, Port.idled]
    simp [hfree]
  · rw [wordSlot_egr, hfill, htouch.egr, makeChoice_congr ht hi]

/-- What a parcel in transmission sends next is told by its slot, the pool and the management unit. -/
theorem txSource_of_same {t : State} (ht : KeepsBut slotParts s t) (hi : t.slot i = s.slot i) (q : TxParcel) :
    t.txSource i q = s.txSource i q := by
  unfold State.txSource State.parcel
  rw [hi, ht.1 .mgmt (by decide), ht.1 .pool (by decide)]

theorem word_period {q : TxParcel} (h : PlainPeriod i s) (hfree : (s.slot i).port.slotTaken = false)
    (hup : (s.slot i).port.link = .up) (hagree : (s.slot i).port.holdReq = (s.slot i).port.announcedHeld)
    (htx : (s.slot i).egr.tx = .sending q) (hsent : q.headerSent = true) (hmore : q.sent < q.len)
    (hready : s.txReady i q = true) :
    ∃ t, exec .cabinetTimeAdvance s = .next t ∧
      (t.slot i).port = { (s.slot i).port with out := some (.body (s.txNext i q)) } ∧
      (t.slot i).egr = { (s.slot i).egr with
        tx := .sending { q with sent := q.sent + 1, crc := crcWord q.crc (s.txNext i q) } } ∧
      (∀ j, j ≠ i → (t.slot j).egr = (s.slot j).egr) ∧ KeepsBut [.timing, .port, .egr] s t := by
  refine plainPeriod_leaves h (fun t ht hi => ?_) (fun h => by obtain ⟨h, -⟩ := h; cases h)
  have htx' : (t.slot i).egr.tx = .sending q := by rw [hi]; exact htx
  have hnotLeft : q.notLeft = false := by simp [TxParcel.notLeft, hsent]
  have hno : t.mayChoose i = false := by
    simp [State.mayChoose, State.choiceOpen, htx', hnotLeft]
  have hrest : t.restWaits i = false := by simp [State.restWaits, htx', Tx.free, hnotLeft]
  have hslot := parcelSlot_open (s := t) (i := i) (by rw [hi]; exact hup) (by rw [hi]; exact hfree) hrest
    (by rw [hi]; exact hagree) (by rw [htx']; rfl)
  have hnext : t.nextWord i q = some (.body (s.txNext i q),
      { q with sent := q.sent + 1, crc := crcWord q.crc (s.txNext i q) }) := by
    unfold State.txReady at hready
    unfold State.nextWord State.txReady State.txNext
    rw [txSource_of_same ht hi, if_neg (by simp [hnotLeft]), if_pos ⟨hmore, hready⟩]
  have hsends := sendParcelWord_body htx' hslot hnext hnotLeft
  have hfill := fillSlot_word (makeChoice_none hno) (by rw [hi]; exact hup) (by rw [hi]; exact hagree) hrest htx'
    (by rw [hsends, sendWord_port])
  rw [hsends] at hfill
  refine ⟨wordSlot_touches ?_, ?_, ?_⟩
  · rw [hfill]
    exact (modEgr_touches ..).then (sendWord_touches ..)
  · rw [wordSlot_port, hfill, sendWord_port, (modEgr_touches i ..).port, hi, Port.idled]
    simp [hfree]
  · rw [wordSlot_egr, hfill, (sendWord_touches ..).egr, modEgr_egr_self, hi]

end Slots

theorem keepsBut_egr {s t : State} (h : KeepsBut [.timing, .port, .egr] s t)
    (he : ∀ j, (t.slot j).egr = (s.slot j).egr) : KeepsBut [.timing, .port] s t := by
  refine ⟨fun p hp => ?_, h.2⟩
  by_cases hegr : p = .egr
  · subst hegr
    exact he
  · exact h.1 p (by simp_all)

/-- Settles O36: a taken slot, a mark that waits and a payload word, each in its case. -/
theorem wordSlotsCarryOneWord : Obligations.WordSlotsCarryOneWord := by
  refine ⟨fun i s htaken => ⟨fun c hc => ?_, fun hs htx => ?_⟩, fun i s hperiod hopen => ⟨fun htaken => ?_,
    fun hfree hframes hdiffer => ?_, fun q hfree hup hagree htx hsent hmore hready =>
      word_period hperiod hfree hup hagree htx hsent hmore hready⟩⟩
  · simp only [List.mem_cons, List.not_mem_nil, or_false] at hc
    rcases hc with rfl | rfl | rfl | rfl | rfl | rfl | rfl
    · exact congrArg Host.Outcome.next (departNext_taken htaken)
    · exact congrArg Host.Outcome.next (sendHoldMark_taken htaken)
    · exact congrArg Host.Outcome.next (sendRest_taken htaken)
    · exact congrArg Host.Outcome.next (sendTrainReq_taken htaken)
    · exact congrArg Host.Outcome.next (sendSuspend_taken htaken)
    · exact congrArg Host.Outcome.next (sendContinue_taken htaken)
    · exact congrArg Host.Outcome.next (sendWake_taken htaken)
  · show Host.Outcome.next (settleDrains (endOf i s)) = .next s
    rw [endOf_taken htaken, settleDrains_of_settled hs]
  · obtain ⟨t, hexec, hport, hegr, hothers, hkeeps⟩ := taken_period hperiod hopen htaken
    refine ⟨t, hexec, hport, fun hno => keepsBut_egr hkeeps (fun j => ?_), hkeeps⟩
    by_cases hj : j = i
    · rw [hj, hegr, makeChoice_none hno]
    · exact hothers j hj
  · obtain ⟨t, hexec, hport, hegr, hothers, hkeeps⟩ := holdMark_period hperiod hopen hfree hframes hdiffer
    refine ⟨t, hexec, hport, fun hno => keepsBut_egr hkeeps (fun j => ?_), hkeeps⟩
    by_cases hj : j = i
    · rw [hj, hegr, makeChoice_none hno]
    · exact hothers j hj

end Sys2Proof.Machine
end

section
/-! PROOFS. Arbitration between CONTROL and BULK, and the start of the parcel chosen (R50 to R52). -/

namespace Sys2Proof.Machine

section Arbitration

variable {i : Slot} {c : Cls} {pid : Nat} {p : Stored} {s : State}

/-- The class whose head is taken among CONTROL and BULK, one of which holds a parcel. -/
def Egress.arbitrated (e : Egress) (a : Arbitration) : Cls :=
  if e.bulk = [] then .control else if e.control = [] then .bulk else if a = .controlFirst then .control
  else if e.bulkTurn then .bulk else .control

theorem turn_arbitrated {e : Egress} {a : Arbitration} (h : e.control ≠ [] ∨ e.bulk ≠ []) :
    e.turn a = some (e.arbitrated a) := by
  unfold Egress.turn Egress.arbitrated
  cases hcontrol : e.control with
  | nil =>
    cases hbulk : e.bulk with
    | nil => simp [hcontrol, hbulk] at h
    | cons => rfl
  | cons =>
    cases hbulk : e.bulk with
    | nil => rfl
    | cons => cases a <;> rfl

theorem classChoice_arbitrated {e : Egress} {limit : Nat} {a : Arbitration} (h : e.control ≠ [] ∨ e.bulk ≠ [])
    (hstream : e.stream = [] ∨ limit ≠ 0 ∧ limit ≤ e.dwell) : e.classChoice limit a = some (e.arbitrated a) := by
  have hpass : (!e.stream.isEmpty && !e.dwellCalls limit) = false := by
    rcases hstream with hstream | ⟨hlimit, hdwell⟩
    · simp [hstream]
    · have hcalls : e.dwellCalls limit = true := by
        unfold Egress.dwellCalls
        rcases h with h | h <;> simp [h, hlimit, hdwell]
      simp [hcalls]
  unfold Egress.classChoice
  rw [hpass, if_neg (by simp), turn_arbitrated h]

theorem arbitrated_ne_stream (e : Egress) (a : Arbitration) : e.arbitrated a ≠ .stream := by
  unfold Egress.arbitrated
  repeat' split
  all_goals decide

/-- Where CONTROL or BULK holds a parcel a choice leaves the dwell count. -/
theorem atChoice_of_waiting {e : Egress} (h : e.control ≠ [] ∨ e.bulk ≠ []) :
    e.atChoice = { e with tx := .idle } := by
  have hsome : (e.control.isEmpty && e.bulk.isEmpty) = false := by rcases h with h | h <;> simp [h]
  unfold Egress.atChoice
  rw [hsome]
  rfl

/-- The effects of a start of a CONTROL or BULK parcel (R51, R52). -/
theorem startOf_class (e : Egress) {c : Cls} (h : c ≠ .stream) :
    e.startOf (.cls c) = { e with dwell := 0, bulkTurn := decide (c = .control) } := by
  cases c with
  | stream => exact absurd rfl h
  | control => rfl
  | bulk => rfl

/-- The header of the class parcel handed over leaves in the word slot. -/
theorem nextWord_start (hhold : (s.slot i).port.cardHold = false) : s.nextWord i (txClass c pid p) =
    some (.header (txClass c pid p).header, (txClass c pid p).sendHeader) := by
  unfold State.nextWord State.mayStart
  rw [hhold]
  rfl

/-- The word slot in which the class parcel that a choice hands over starts. -/
theorem wordSlot_start (hc : c ≠ .stream) (hmay : s.mayChoose i = true)
    (hchoose : choose i s = handsOver i (txClass c pid p) s)
    (hbusy : (s.slot i).egr.control ≠ [] ∨ (s.slot i).egr.bulk ≠ []) (hhold : (s.slot i).port.cardHold = false)
    (hfree : (s.slot i).port.slotTaken = false) (hagree : (s.slot i).port.holdReq = (s.slot i).port.announcedHeld) :
    Touches [.port, .egr] i s (wordSlot i s) ∧
    ((wordSlot i s).slot i).port =
      { (s.slot i).port with out := some (.header (txClass c pid p).header) } ∧
    ((wordSlot i s).slot i).egr = { (s.slot i).egr with
      tx := .sending (txClass c pid p).sendHeader, dwell := 0, bulkTurn := decide (c = .control) } := by
  have hup : (s.slot i).port.link = .up ∧ (s.slot i).ctl.restReq = false := by
    simp only [State.mayChoose, Bool.and_eq_true, beq_iff_eq, Bool.not_eq_true'] at hmay
    exact ⟨hmay.1.1.2, hmay.2⟩
  obtain ⟨hup, hrest⟩ := hup
  have hgive := handsOver_touches (i := i) (s := s) (txClass c pid p)
  have hport : ((handsOver i (txClass c pid p) s).slot i).port = (s.slot i).port := hgive.port (by decide) i
  have hctl : ((handsOver i (txClass c pid p) s).slot i).ctl = (s.slot i).ctl := hgive.ctl (by decide) i
  have htx : ((handsOver i (txClass c pid p) s).slot i).egr.tx = .sending (txClass c pid p) := by rw [handsOver_egr]
  have hslot := parcelSlot_open (s := handsOver i (txClass c pid p) s) (i := i) (by rw [hport]; exact hup)
    (by rw [hport]; exact hfree) (restWaits_of_not (by rw [hctl]; exact hrest)) (by rw [hport]; exact hagree)
    (by rw [htx]; rfl)
  have hsends := sendParcelWord_header htx hslot (nextWord_start (by rw [hport]; exact hhold)) rfl
  have hfill := fillSlot_word (s := s) (by rw [makeChoice, if_pos hmay, hchoose]) (by rw [hport]; exact hup)
    (by rw [hport]; exact hagree) (restWaits_of_not (by rw [hctl]; exact hrest)) htx (by rw [hsends, sendWord_port])
  rw [hsends] at hfill
  refine ⟨wordSlot_touches ?_, ?_, ?_⟩
  · rw [hfill]
    exact (hgive.then (modEgr_touches i _ _) (rs := [.egr])).then (sendWord_touches ..)
  · rw [wordSlot_port, hfill, sendWord_port, (modEgr_touches i ..).port, hport, Port.idled]
    simp [hfree]
  · rw [wordSlot_egr, hfill, (sendWord_touches ..).egr, modEgr_egr_self, handsOver_egr, atChoice_of_waiting hbusy]
    rw [show (txClass c pid p).origin = .cls c from rfl, startOf_class _ hc]

end Arbitration

/-- Settles O31: the class the choice takes, and the core period in which its head starts. -/
theorem arbitrationChoosesByR51 : Obligations.ArbitrationChoosesByR51 := by
  refine ⟨fun _ => rfl, ?_⟩
  intro i c pid p q s hmay hexpress hhold hreply hstream hbusy hc hhead hp hq
  have harb : c = (s.slot i).egr.arbitrated (s.slot i).cfg.arb := hc
  have hclass := classChoice_arbitrated (a := (s.slot i).cfg.arb) hbusy hstream
  have hne : c ≠ .stream := by rw [harb]; exact arbitrated_ne_stream _ _
  obtain ⟨rest, hqueue⟩ : ∃ rest, (s.slot i).egr.queue c = pid :: rest := List.head?_eq_some_iff.mp hhead
  have hchoose : ∀ t, KeepsBut slotParts s t → t.slot i = s.slot i →
      choose i t = handsOver i (txClass c pid p) t := by
    intro t ht hi
    have hmgmt : t.mgmt = s.mgmt := ht.1 .mgmt (by decide)
    refine choose_class (by rw [hi]; exact hexpress) (by rw [hi]; exact hhold)
      (by rw [mgmtSlot_of_same hmgmt, hmgmt]; exact hreply) (by rw [hi, hclass, harb]) (by rw [hi]; exact hqueue) ?_
    unfold State.parcel at hp ⊢
    rw [ht.1 .pool (by decide)]
    exact hp
  subst hq
  refine ⟨?_, fun hperiod hfree hagree => ?_⟩
  · have hall := handsOver_touches (i := i) (s := s) (txClass c pid p)
    rw [exec_choice hmay, hchoose s (.refl ..) rfl]
    exact ⟨_, rfl, by rw [handsOver_egr, atChoice_of_waiting hbusy], hall.keeps, hall.others⟩
  · obtain ⟨t, hexec, hport, hegr, hothers, hkeeps⟩ := plainPeriod_leaves hperiod (fun t ht hi => by
      have hstart := wordSlot_start (s := t) hne (by rw [mayChoose_of_same (ht.1 .mgmt (by decide)) hi]; exact hmay)
        (hchoose t ht hi) (by rw [hi]; exact hbusy) (by rw [hi]; exact hhold) (by rw [hi]; exact hfree)
        (by rw [hi]; exact hagree)
      rw [hi] at hstart
      exact hstart) (fun h => by obtain ⟨h, -⟩ := h; cases h)
    exact ⟨t, hexec, hegr, rfl, hport, hothers, hkeeps⟩

end Sys2Proof.Machine
end

section
/-! PROOFS. Cabinet time over a core period, TIME parcels at a carry, and the uptime (R1, R8, R10, R85, R87, R120). -/

namespace Sys2Proof.Machine

/-! ## The advance of cabinet time (R85) -/

section Advance

variable {x : CabTime} {adj : Int}

/-- The advance of one core period as a sum modulo the range. -/
theorem advance_total (h : x.inRange) (hadj : adj.natAbs ≤ 6871948) : (x.advance adj).total =
    (((x.total : Int) + 8 * 4294967296 + adj) % (timeModulus : Int)).toNat := by
  obtain ⟨hsec, hns, hfrac⟩ := h
  unfold CabTime.advance
  by_cases hcarry : Config.nsPerSec ≤ ((x.ns : Int) + 8 + ((x.frac : Int) + adj) / (Config.fracPerNs : Int)).toNat
  · rw [if_pos hcarry]
    simp only [CabTime.total, timeModulus, Config.secModulus, Config.nsPerSec, Config.fracPerNs] at *
    omega
  · rw [if_neg hcarry]
    simp only [CabTime.total, timeModulus, Config.secModulus, Config.nsPerSec, Config.fracPerNs] at *
    omega

theorem advance_carries (h : x.inRange) (hadj : adj.natAbs ≤ 6871948) (hcarry : x.carries adj = true) :
    (x.advance adj).sec = (x.sec + 1) % 281474976710656 ∧ (x.advance adj).ns < 9 := by
  obtain ⟨hsec, hns, hfrac⟩ := h
  simp only [Config.nsPerSec, Config.fracPerNs] at hns hfrac
  have hover := of_decide_eq_true hcarry
  unfold CabTime.advance
  rw [if_pos hover]
  refine ⟨rfl, ?_⟩
  simp only [Config.nsPerSec, Config.fracPerNs]
  omega

end Advance

/-! ## The uptime (R10, R87) -/

section Uptime

variable (s : State)

theorem uptimeDue_iff : s.timing.uptimeDue = true ↔ s.timing.uptime ≠ BitVec.ofNat 32 (s.timing.core / 125000) := by
  unfold Timing.uptimeDue
  rw [bne_iff_ne]
  rfl

theorem takeUptime_port (j : Slot) : ((takeUptime s).slot j).port = { (s.slot j).port with
    windowErrs := if s.timing.uptime = BitVec.ofNat 32 (s.timing.core / 125000) then (s.slot j).port.windowErrs
      else 0 } := by
  by_cases hdone : s.timing.uptime = BitVec.ofNat 32 (s.timing.core / 125000)
  · rw [takeUptime_done hdone, if_pos hdone]
  · obtain ⟨-, hslots⟩ := eachSlot_at (P := fun _ => True)
      (s := s.modTiming (fun t => { t with uptime := t.uptime + 1 }))
      (f := fun i t => t.modPort i (fun p => { p with windowErrs := 0 })) trivial
      (fun i t _ _ => ⟨trivial, modPort_otherSlots t i _⟩)
    obtain ⟨t, -, hj, hsame⟩ := hslots j
    rw [takeUptime, if_pos ((uptimeDue_iff s).mpr hdone), hsame, modPort_port_self, hj, if_neg hdone]
    rfl

theorem takeUptime_keepsBut : KeepsBut [.timing, .port] s (takeUptime s) :=
  keepsBut_ite ((modTiming_keepsBut ..).then (eachSlot_keepsBut (fun i t => modPort_keepsBut t i _))) (.refl ..)

theorem takeUptime_timing_eq : (takeUptime s).timing = { s.timing with
    uptime := if s.timing.uptime = BitVec.ofNat 32 (s.timing.core / 125000) then s.timing.uptime
      else s.timing.uptime + 1 } := by
  rw [takeUptime_timing]
  by_cases hdone : s.timing.uptime = BitVec.ofNat 32 (s.timing.core / 125000)
  · rw [if_neg (fun h => (uptimeDue_iff s).mp h hdone), if_pos hdone]
  · rw [if_pos ((uptimeDue_iff s).mpr hdone), if_neg hdone]

end Uptime

/-! ## A core period of quiet links -/

section Quiet

variable {s : State}

theorem quietSlot_takeUptime {j : Slot} (h : QuietSlot s j) : QuietSlot (takeUptime s) j := by
  have hkeeps := takeUptime_keepsBut s
  have hmgmt : (takeUptime s).mgmt = s.mgmt := hkeeps.1 .mgmt (by decide)
  have hctl : ((takeUptime s).slot j).ctl = (s.slot j).ctl := hkeeps.1 .ctl (by decide) j
  have hegr : ((takeUptime s).slot j).egr = (s.slot j).egr := hkeeps.1 .egr (by decide) j
  have hmay : (takeUptime s).mayChoose j = s.mayChoose j := by
    simp only [State.mayChoose, State.choiceOpen, State.isAwake, State.mgmtSlot, hctl, hegr, hmgmt, takeUptime_port]
  unfold QuietSlot
  rw [hmay, hctl, hegr, hmgmt, mgmtSlot_of_same hmgmt, takeUptime_port]
  exact h

theorem wordSlots_quiet (h : ∀ j, QuietSlot s j) :
    (∀ j, ((s.eachSlot wordSlot).slot j).port = (s.slot j).port.idled) ∧ KeepsBut [.port] s (s.eachSlot wordSlot) := by
  obtain ⟨hslots, hkeeps⟩ := wordSlots_local (s := s) (p := fun j => (s.slot j).port.idled)
    (e := fun j => (s.slot j).egr) (fun j t ht hj => by
      rw [wordSlot_quiet (quietSlot_of_same ht hj (h j)), modPort_port_self, (modPort_touches j ..).egr, hj]
      exact ⟨(modPort_touches ..).mono, rfl, rfl⟩)
  refine ⟨fun j => (hslots j).1, fun p hp => ?_, hkeeps.2⟩
  by_cases hegr : p = .egr
  · subst hegr
    exact fun j => (hslots j).2
  · exact hkeeps.1 p (by simp_all)

theorem settled_of_kept {t : State} (hs : s.settled) (hk : KeepsBut [.timing, .port] s t) : settleDrains t = t := by
  have hmgmt : t.mgmt = s.mgmt := hk.1 .mgmt (by decide)
  have hctl (j : Slot) : (t.slot j).ctl = (s.slot j).ctl := hk.1 .ctl (by decide) j
  exact settleDrains_of_settled (drained_none_of_egress hs (fun j => by rw [hctl j])
    (fun j hj => by rwa [← egressEmpty_of_egr (hk.1 .egr (by decide) j) hmgmt]))

end Quiet

/-- What a core period has done before cabinet time advances. -/
def beforeTick (s : State) : State := settleDrains ((takeUptime s).eachSlot wordSlot)

theorem corePeriod_eq (s : State) : corePeriod s =
    if (beforeTick s).now.carries (beforeTick s).timing.adj then makeTimeParcels (ticked (beforeTick s))
    else ticked (beforeTick s) := by
  unfold corePeriod beforeTick ticked
  dsimp only

theorem wordSlot_timing (i : Slot) (s : State) : (wordSlot i s).timing = s.timing := by simp

theorem beforeTick_timing (s : State) : (beforeTick s).timing = (takeUptime s).timing := by
  rw [beforeTick, (settleDrains_keepsBut _).1 .timing (by decide)]
  exact eachSlot_timing wordSlot_timing

/-! ## TIME parcels (R116, R120) -/

section Time

variable (i : Slot) (s : State)

theorem offerExpress_touches (p : ExpressParcel) (lost : Word) :
    Touches [.egr, .alarm, .mgmt] i s (offerExpress i p lost s) :=
  touches_ite ((modEgr_touches i s _).then (callInsertion_touches ..)) (postEvent_touches ..).mono

theorem offerTime_touches (p : ExpressParcel) (lost : Word) :
    Touches [.egr, .alarm, .mgmt] i s (offerTime p lost i s) := touches_ite (offerExpress_touches ..) (.refl ..)

variable {i s}

theorem offerTime_given {p : ExpressParcel} {lost : Word} (henrol : (s.slot i).cfg.timeEnrol = true)
    (hawake : s.isAwake i = true) (hempty : (s.slot i).egr.express = []) (htx : (s.slot i).egr.tx = .idle) :
    ((offerTime p lost i s).slot i).egr.express = [p] := by
  have hroom : (s.slot i).egr.express.length < Config.expressPlaces := by rw [hempty]; decide
  have hjoined : ((s.modEgr i (fun e => { e with express := e.express ++ [p] }.occasion)).slot i).egr.tx = .idle := by
    rw [modEgr_egr_self]
    simp [Egress.occasion, htx]
  have hno : callInsertion i (s.modEgr i (fun e => { e with express := e.express ++ [p] }.occasion)) =
      s.modEgr i (fun e => { e with express := e.express ++ [p] }.occasion) := by
    unfold callInsertion
    rw [hjoined]
  unfold offerTime offerExpress
  rw [if_pos (by rw [henrol, hawake, Bool.and_self]), if_pos hroom, hno, modEgr_egr_self, Egress.occasion_express, hempty]
  rfl

theorem offerTime_notEnrolled {p : ExpressParcel} {lost : Word} (henrol : (s.slot i).cfg.timeEnrol = false) :
    offerTime p lost i s = s := by
  unfold offerTime
  rw [henrol]
  rfl

/-- What the TIME parcels of a carry leave: the parcel in each slot that takes one, and nothing but egresses and reports
elsewhere. -/
theorem makeTimeParcels_leaves (s : State) :
    (KeepsBut [.egr, .alarm, .mgmt] s (makeTimeParcels s) ∧ RepliesGrow s (makeTimeParcels s)) ∧
    ∀ j, ∃ t, (KeepsBut [.egr, .alarm, .mgmt] s t ∧ RepliesGrow s t) ∧ t.slot j = s.slot j ∧
      (makeTimeParcels s).slot j =
        (offerTime s.timeParcel (wordOf (65536 + s.now.sec % 65536)) j t).slot j := by
  exact eachSlot_at (P := fun t => KeepsBut [.egr, .alarm, .mgmt] s t ∧ RepliesGrow s t) ⟨.refl .., .refl s⟩
    (fun i t ht _ => by
      have h := offerTime_touches i t s.timeParcel (wordOf (65536 + s.now.sec % 65536))
      exact ⟨⟨ht.1.trans h.keeps, ht.2.trans h.grow⟩, h.others⟩)

end Time

/-! ## The core period -/

section CorePeriod

variable (s : State)

theorem makeTimeParcels_timing : (makeTimeParcels s).timing = s.timing :=
  (makeTimeParcels_leaves s).1.1.1 .timing (by decide)

theorem corePeriod_timing : (corePeriod s).timing = { (takeUptime s).timing with
    time := s.timing.time.advance s.timing.adj, core := s.timing.core + 1 } := by
  have hticked : (ticked (beforeTick s)).timing = { (takeUptime s).timing with
      time := s.timing.time.advance s.timing.adj, core := s.timing.core + 1 } := by
    change { (beforeTick s).timing with
      time := (beforeTick s).timing.time.advance (beforeTick s).timing.adj, core := (beforeTick s).timing.core + 1 } = _
    rw [beforeTick_timing, takeUptime_timing_eq]
  rw [corePeriod_eq]
  split
  · rw [makeTimeParcels_timing, hticked]
  · exact hticked

theorem beforeTick_carries : (beforeTick s).now.carries (beforeTick s).timing.adj = s.timing.time.carries s.timing.adj := by
  rw [State.now, beforeTick_timing, takeUptime_timing_eq]

variable {s}

/-- With nothing to send on any link, the word slots of a core period change the ports alone. -/
theorem beforeTick_quiet (hsettled : s.settled) (hquiet : ∀ j, QuietSlot s j) :
    KeepsBut [.timing, .port] s (beforeTick s) ∧
    ∀ j, ((beforeTick s).slot j).port = { (s.slot j).port with
      slotTaken := false,
      out := if (s.slot j).port.slotTaken = true then (s.slot j).port.out
        else if (s.slot j).port.link = .resting then none else some (.mark 0#32),
      windowErrs := if s.timing.uptime = BitVec.ofNat 32 (s.timing.core / 125000) then (s.slot j).port.windowErrs
        else 0 } := by
  obtain ⟨hports, hslots⟩ := wordSlots_quiet (fun j => quietSlot_takeUptime (hquiet j))
  have hkeeps : KeepsBut [.timing, .port] s ((takeUptime s).eachSlot wordSlot) := (takeUptime_keepsBut s).trans hslots.mono
  have hdrained : beforeTick s = (takeUptime s).eachSlot wordSlot := settled_of_kept hsettled hkeeps
  rw [hdrained]
  refine ⟨hkeeps, fun j => ?_⟩
  rw [hports, takeUptime_port]
  simp only [Port.idled, LinkState.idleWord]
  cases (s.slot j).port.link <;> rfl

theorem not_carries_of_early (hrange : s.timing.time.inRange) (hadj : s.timing.adj.natAbs ≤ 6871948)
    (hns : s.timing.time.ns + 9 < 1000000000) : s.timing.time.carries s.timing.adj = false :=
  carries_false hrange (by omega) hns

end CorePeriod

/-! ## Obligation O37 -/

/-- What CABINET_TIME_ADVANCE leaves. -/
theorem advance_leaves (s : State) (hrange : s.timing.time.inRange) (hadj : s.timing.adj.natAbs ≤ 6871948) :
    ∃ t, exec .cabinetTimeAdvance s = .next t ∧ t.timing.time.inRange ∧
      t.timing.time.total =
        (((s.timing.time.total : Int) + 8 * 4294967296 + s.timing.adj) % (timeModulus : Int)).toNat ∧
      t.timing = { s.timing with
        time := t.timing.time, core := s.timing.core + 1,
        uptime := if s.timing.uptime = BitVec.ofNat 32 (s.timing.core / 125000) then s.timing.uptime
          else s.timing.uptime + 1 } ∧
      (s.settled → (∀ j, QuietSlot s j) → s.timing.time.ns + 9 < 1000000000 →
        KeepsBut [.timing, .port] s t ∧
        ∀ j, (t.slot j).port = { (s.slot j).port with
          slotTaken := false,
          out := if (s.slot j).port.slotTaken = true then (s.slot j).port.out
            else if (s.slot j).port.link = .resting then none else some (.mark 0#32),
          windowErrs := if s.timing.uptime = BitVec.ofNat 32 (s.timing.core / 125000) then (s.slot j).port.windowErrs
            else 0 }) := by
  have htiming := corePeriod_timing s
  refine ⟨corePeriod s, rfl, ?_, ?_, ?_, fun hsettled hquiet hns => ?_⟩
  · rw [htiming]
    exact advance_inRange hrange (by omega)
  · rw [htiming]
    exact advance_total hrange hadj
  · rw [htiming, takeUptime_timing_eq]
  · obtain ⟨hkeeps, hports⟩ := beforeTick_quiet hsettled hquiet
    have hplain : corePeriod s = ticked (beforeTick s) := by
      rw [corePeriod_eq, beforeTick_carries, not_carries_of_early hrange hadj hns]
      exact if_neg (by decide)
    rw [hplain]
    exact ⟨hkeeps.trans (ticked_keepsBut _).mono, fun j => by rw [ticked_slot, hports j]⟩

/-- What SECOND_CARRY leaves where the advance carries. -/
theorem carry_leaves (s : State) (hrange : s.timing.time.inRange) (hadj : s.timing.adj.natAbs ≤ 6871948)
    (hcarry : s.timing.time.carries s.timing.adj = true) :
    ∃ t, exec .secondCarry s = .next t ∧
      t.timing.time.sec = (s.timing.time.sec + 1) % 281474976710656 ∧ t.timing.time.ns < 9 ∧
      t.timing.core = s.timing.core + 1 ∧
      (s.settled → (∀ j, QuietSlot s j) →
        (∀ i, ((s.slot i).cfg.timeEnrol = true → s.isAwake i = true → (s.slot i).egr.express = [] →
            (t.slot i).egr.express =
              [{ chan := 62,
                 words := [wordOf (t.timing.time.sec / 4294967296), wordOf t.timing.time.sec,
                   wordOf s.timing.loop.code, wordOf s.timing.sel.code, wordOfInt (s.timing.freq.tdiv 65536),
                   wordOf t.holdoverSeconds],
                 edge := none }]) ∧
          ((s.slot i).cfg.timeEnrol = false → (t.slot i).egr = (s.slot i).egr)) ∧
        KeepsBut [.timing, .port, .egr, .alarm, .mgmt] s t ∧ OnlyReplies s t) := by
  have htiming := corePeriod_timing s
  obtain ⟨hsec, hns⟩ := advance_carries hrange hadj hcarry
  refine ⟨corePeriod s, congrArg Host.Outcome.next (if_pos hcarry), ?_, ?_, ?_, fun hsettled hquiet => ?_⟩
  · rw [htiming]
    exact hsec
  · rw [htiming]
    exact hns
  · rw [htiming]
  · obtain ⟨hkeeps, hports⟩ := beforeTick_quiet hsettled hquiet
    have hmade : corePeriod s = makeTimeParcels (ticked (beforeTick s)) := by
      rw [corePeriod_eq, beforeTick_carries, if_pos hcarry]
    have hbefore : KeepsBut [.timing, .port] s (ticked (beforeTick s)) := hkeeps.trans (ticked_keepsBut _).mono
    obtain ⟨⟨hmakes, hgrow⟩, hslots⟩ := makeTimeParcels_leaves (ticked (beforeTick s))
    have htickedTiming : (ticked (beforeTick s)).timing = (corePeriod s).timing := by
      rw [hmade, makeTimeParcels_timing]
    rw [hmade] at htickedTiming ⊢
    refine ⟨fun i => ?_, hbefore.mono.trans hmakes.mono, ?_⟩
    · obtain ⟨t, ⟨ht, -⟩, hslot, hgives⟩ := hslots i
      have hcfg : (t.slot i).cfg = (s.slot i).cfg := by rw [hslot, hbefore.1 .cfg (by decide)]
      have hegr : (t.slot i).egr = (s.slot i).egr := by rw [hslot, hbefore.1 .egr (by decide)]
      have hctl : (t.slot i).ctl = (s.slot i).ctl := by rw [hslot, hbefore.1 .ctl (by decide)]
      rw [hgives]
      refine ⟨fun henrol hawake hempty => ?_, fun henrol => ?_⟩
      · have hawakeT : t.isAwake i = true := by rw [State.isAwake, hctl]; exact hawake
        rw [offerTime_given (by rw [hcfg, henrol]) hawakeT (by rw [hegr, hempty]) (by rw [hegr, (hquiet i).1])]
        unfold State.timeParcel State.holdoverSeconds State.now State.uptime Timing.ppb secWords
        have hend := hmade ▸ htiming
        rw [takeUptime_timing_eq] at hend
        rw [htickedTiming, hend]
        rfl
      · rw [offerTime_notEnrolled (by rw [hcfg, henrol]), hegr]
    · exact (onlyReplies_of_same (hbefore.1 .mgmt (by decide))).then (onlyReplies_of_grow hgrow)

/-- Settles O37: by the equations of the advance over the parts of a core period. -/
theorem coreTimeAdvances : Obligations.CoreTimeAdvances := by
  unfold Obligations.CoreTimeAdvances
  refine ⟨fun s hrange hadj => ⟨advance_leaves s hrange hadj, carry_leaves s hrange hadj, fun hcarry => ?_⟩,
    fun s => ⟨fun hdue => ⟨takeUptime s, rfl, ?_, fun i => ?_, takeUptime_keepsBut s⟩, fun hdone => ?_⟩⟩
  · exact congrArg Host.Outcome.next (if_neg (by rw [State.now, hcarry]; decide))
  · rw [takeUptime_timing_eq, if_neg hdue]
  · rw [takeUptime_port, if_neg hdue]
  · exact congrArg Host.Outcome.next (takeUptime_done hdone)

end Sys2Proof.Machine
end

section
/-! PROOFS. The end of a transmission: the check word leaves and the parcel its queue (R39, R44, R52, R54, R150). -/

namespace Sys2Proof.Machine

/-! ## Nothing to report after an effect on one slot (R46) -/

section Settles

variable {ps : List Part} {i : Slot} {s t : State}

theorem mgmtSlot_of_msel (h : t.mgmt.msel = s.mgmt.msel) : t.mgmtSlot = s.mgmtSlot := by
  unfold State.mgmtSlot
  rw [h]

/-- The egress-empty reports have nothing to do where every slot that is DRAINING and empty was so before. -/
theorem drained_none_of_before (hs : s.settled) (h : ∀ j, (t.slot j).ctl.phase = .draining → t.egressEmpty j = true →
    (s.slot j).ctl.phase = .draining ∧ s.egressEmpty j = true) : t.drained = none := by
  unfold State.settled State.drained at *
  rw [List.find?_eq_none] at *
  intro j hj hboth
  rw [Bool.and_eq_true, beq_iff_eq] at hboth
  obtain ⟨hphase, hempty⟩ := h j hboth.1 hboth.2
  exact hs j hj (by rw [hphase, hempty]; rfl)

theorem egressEmpty_before {j : Slot} (hslot : t.slot j = s.slot j) (hgrow : RepliesGrow s t)
    (h : t.egressEmpty j = true) : s.egressEmpty j = true := by
  obtain ⟨l, hmgmt⟩ := hgrow
  rw [egressEmpty_iff] at h ⊢
  obtain ⟨hbare, hreplies⟩ := h
  rw [hslot] at hbare
  have hslotOf : t.mgmtSlot = s.mgmtSlot := mgmtSlot_of_msel (by rw [hmgmt])
  rw [hmgmt] at hreplies
  exact ⟨hbare, fun hj => ⟨(List.append_eq_nil_iff.mp (hreplies (hslotOf ▸ hj)).1).1, (hreplies (hslotOf ▸ hj)).2⟩⟩

/-- They have nothing to do after an effect on one slot that does not leave it DRAINING. -/
theorem Touches.settles (h : Touches ps i s t) (hs : s.settled) (hi : (t.slot i).ctl.phase ≠ .draining) :
    Machine.settleDrains t = t := by
  refine settleDrains_of_settled (drained_none_of_before hs (fun j hphase hempty => ?_))
  have hslot : t.slot j = s.slot j := h.others j (fun hj => hi (hj ▸ hphase))
  exact ⟨hslot ▸ hphase, egressEmpty_before hslot h.grow hempty⟩

end Settles

/-! ## The release of a hold (R39) -/

section Release

variable {pid : Nat} {p : Stored} {s : State}

theorem releaseHold_parcel_held (hp : s.parcel pid = some p) (hrefs : 1 < p.refs) (k : Nat) :
    (releaseHold pid s).parcel k = if k = pid then some { p with refs := p.refs - 1 } else s.parcel k := by
  rw [releaseHold_of_held hp hrefs, modStored_parcel hp]

theorem releaseHold_parcel_last (hp : s.parcel pid = some p) (hrefs : p.refs ≤ 1) (k : Nat) :
    (releaseHold pid s).parcel k = if k = pid then none else s.parcel k := by
  rw [State.parcel, releaseHold_pool_last hp hrefs]
  exact assocGet_del ..

theorem releaseHold_freeCount_held (hp : s.parcel pid = some p) (hrefs : 1 < p.refs) :
    (releaseHold pid s).pool.freeCount = s.pool.freeCount := by
  rw [releaseHold_of_held hp hrefs, modStored_some hp, (modPool_fields _ _).1]

/-- A hold released while others remain is no concern of any unit but the pool. -/
theorem releaseHold_held_touches (i : Slot) (hp : s.parcel pid = some p) (hrefs : 1 < p.refs) :
    Touches [.pool] i s (releaseHold pid s) := by
  rw [releaseHold_of_held hp hrefs]
  exact modStored_touches ..

end Release

/-! ## The end of a transmission (R54) -/

section End

variable {i : Slot} {q : TxParcel} {s : State}

theorem completeChain_touches (i : Slot) (s : State) : Touches [.cursor, .alarm, .mgmt] i s (completeChain i s) :=
  (setCursor_touches i s _).then (postEvent_touches i ..)

theorem chainSent_touches (i : Slot) (pid : Nat) (s : State) : Touches [.cursor, .alarm, .mgmt] i s (chainSent i pid s) :=
  touches_ite (completeChain_touches ..) (.refl ..)

/-- The state once the last word of the parcel in transmission has gone. -/
def sentLast (i : Slot) (q : TxParcel) (s : State) : State :=
  sendWord i (.body q.lastWord) (s.modEgr i (fun e => { e with tx := .idle }))

theorem sentLast_touches (i : Slot) (q : TxParcel) (s : State) : Touches [.port, .egr] i s (sentLast i q s) :=
  (modEgr_touches i s _).then (sendWord_touches ..)

theorem sentLast_port (hearly : q.early = false) : ((sentLast i q s).slot i).port =
    { (s.slot i).port with out := some (.body (~~~q.crc)), slotTaken := true } := by
  unfold sentLast TxParcel.lastWord
  rw [sendWord_port, (modEgr_touches i ..).port, hearly]
  rfl

theorem sentLast_egr : ((sentLast i q s).slot i).egr = { (s.slot i).egr with tx := .idle } := by
  unfold sentLast
  rw [(sendWord_touches ..).egr, modEgr_egr_self]

/-- What a parcel's end does to the egress it leaves, beside its queue: the transmit side is free, and a STREAM parcel
adds to the dwell count. -/
def Egress.sentOf (e : Egress) (c : Cls) (len : Nat) : Egress :=
  { e with tx := .idle, dwell := if c = .stream then Nat.min 65535 (e.dwell + len + 2) else e.dwell }

theorem sentOf_without {e : Egress} {c : Cls} {pid len : Nat} {rest : List Nat} (hqueue : e.queue c = pid :: rest) :
    (e.sentOf c len).without c pid = { e.setQueue c rest with
      tx := .idle, dwell := if c = .stream then Nat.min 65535 (e.dwell + len + 2) else e.dwell } := by
  cases c <;> simp_all [Egress.sentOf, Egress.without, Egress.queue, Egress.setQueue, Tx.forget]

/-- The state once a class parcel has left its queue, with its hold not yet released. -/
def leftQueue (i : Slot) (c : Cls) (q : TxParcel) (s : State) : State :=
  (sentLast i q s).modEgr i (fun _ => ((s.slot i).egr.sentOf c q.len).without c q.pid)

theorem leaveQueue_class {c : Cls} (horigin : q.origin = .cls c) (hatt : q.attached = true) (hearly : q.early = false) :
    leaveQueue i q (sentLast i q s) = chainSent i q.pid (releaseHold q.pid (leftQueue i c q s)) := by
  have hegr := sentLast_egr (i := i) (q := q) (s := s)
  have hleft : (if c = .stream then (sentLast i q s).modEgr i
        (fun e => { e with dwell := Nat.min 65535 (e.dwell + q.len + 2) }) else sentLast i q s).modEgr i
      (fun e => e.without c q.pid) = leftQueue i c q s := by
    unfold leftQueue
    split
    · rw [modEgr_modEgr]
      refine modEgr_congr ?_
      rw [hegr]
      simp [Egress.sentOf, ‹c = .stream›]
    · refine modEgr_congr ?_
      rw [hegr]
      simp [Egress.sentOf, ‹¬c = .stream›]
  unfold leaveQueue removeRef
  rw [horigin]
  dsimp only
  rw [if_pos hatt, hearly, hleft]
  rfl

theorem dropLateReplies_of_phase (h : (s.slot i).ctl.phase ≠ .draining) : dropLateReplies i s = s := by
  unfold dropLateReplies
  exact if_neg (fun hdrop => h hdrop.2.1)

/-- The last word goes where nothing is in its way (R5, R8, R54). -/
theorem endOf_sent (htx : (s.slot i).egr.tx = .sending q) (hup : (s.slot i).port.link = .up)
    (hfree : (s.slot i).port.slotTaken = false) (hagree : (s.slot i).port.holdReq = (s.slot i).port.announcedHeld)
    (hsent : q.headerSent = true) (hlen : q.sent = q.len) (hclosed : s.txClosed q = true)
    (hphase : (s.slot i).ctl.phase = .admitted) : endOf i s = leaveQueue i q (sentLast i q s) := by
  have hrest : s.restWaits i = false := by simp [State.restWaits, htx, Tx.free, TxParcel.notLeft, hsent]
  have hmay : s.mayEnd i q = true := by
    simp [State.mayEnd, parcelSlot_open hup hfree hrest hagree (by rw [htx]; rfl), hsent, hlen, hclosed]
  have hctl : ((leaveQueue i q (sentLast i q s)).slot i).ctl = (s.slot i).ctl := by
    rw [← (sentLast_touches i q s).ctl]
    simp
  unfold endOf
  rw [htx]
  dsimp only
  rw [if_pos hmay]
  exact dropLateReplies_of_phase (by
    change ((leaveQueue i q (sentLast i q s)).slot i).ctl.phase ≠ .draining
    rw [hctl, hphase]
    decide)

/-- While a word has still to leave nothing ends. -/
theorem endOf_due (htx : (s.slot i).egr.tx = .sending q) (hdue : q.headerSent = false ∨ q.sent < q.len) :
    endOf i s = s := by
  have hmay : s.mayEnd i q = false := by
    rcases hdue with h | h
    · simp [State.mayEnd, h]
    · simp [State.mayEnd, Nat.not_le_of_gt h]
  unfold endOf
  rw [htx]
  dsimp only
  rw [if_neg (by rw [hmay]; decide)]
  unfold dropLateReplies
  exact if_neg (fun h => by rw [htx] at h; cases h.2.2.2)

theorem leftQueue_touches (i : Slot) (c : Cls) (q : TxParcel) (s : State) :
    Touches [.port, .egr] i s (leftQueue i c q s) := (sentLast_touches i q s).then (modEgr_touches ..)

/-- The end of a class parcel. -/
theorem class_ends {c : Cls} {p : Stored} {rest : List Nat} (hsettled : s.settled)
    (hphase : (s.slot i).ctl.phase = .admitted) (hend : endOf i s = leaveQueue i q (sentLast i q s))
    (horigin : q.origin = .cls c) (hatt : q.attached = true) (hearly : q.early = false)
    (hqueue : (s.slot i).egr.queue c = q.pid :: rest) (hp : s.parcel q.pid = some p) :
    ∃ t, exec (.transmissionEnd i) s = .next t ∧
      (t.slot i).port = { (s.slot i).port with out := some (.body (~~~q.crc)), slotTaken := true } ∧
      (t.slot i).egr = { (s.slot i).egr.setQueue c rest with
        tx := .idle,
        dwell := if c = .stream then Nat.min 65535 ((s.slot i).egr.dwell + q.len + 2) else (s.slot i).egr.dwell } ∧
      (1 < p.refs → t.parcel q.pid = some { p with refs := p.refs - 1 } ∧ t.pool.freeCount = s.pool.freeCount) ∧
      (p.refs = 1 → t.parcel q.pid = none ∧ t.pool.freeCount = s.pool.freeCount + p.nBlocks) ∧
      (∀ k, k ≠ q.pid → t.parcel k = s.parcel k) ∧
      ((s.slot i).cursor.state = .idle → (t.slot i).cursor = (s.slot i).cursor ∧
        (1 < p.refs → t.alarm = s.alarm ∧ t.mgmt = s.mgmt)) ∧
      ((s.slot i).cursor.state = .finishing → (s.slot i).cursor.last = some q.pid →
        (t.slot i).cursor = Cursor.idle ∧ (1 < p.refs →
          t.alarm = (postEvent causeChainDone i.val (wordOf (s.slot i).cursor.made) s).alarm)) ∧
      KeepsBut [.port, .egr, .pool, .cursor, .alarm, .mgmt] s t ∧ OnlyReplies s t ∧ OtherSlots i s t := by
  have hleft := leftQueue_touches i c q s
  have hrel := releaseHold_touches i (leftQueue i c q s) q.pid
  have hsent := chainSent_touches i q.pid (releaseHold q.pid (leftQueue i c q s))
  have hall : Touches [.port, .egr, .pool, .cursor, .alarm, .mgmt] i s
      (chainSent i q.pid (releaseHold q.pid (leftQueue i c q s))) :=
    (hleft.then hrel (rs := [.port, .egr, .pool, .alarm, .mgmt])).then hsent
  have hp' : (leftQueue i c q s).parcel q.pid = some p := by rw [State.parcel, hleft.pool]; exact hp
  have hpool (k : Nat) : (leftQueue i c q s).parcel k = s.parcel k := by rw [State.parcel, hleft.pool, State.parcel]
  have hcursor : ((releaseHold q.pid (leftQueue i c q s)).slot i).cursor = (s.slot i).cursor := by
    rw [hrel.cursor, hleft.cursor]
  have hexec : exec (.transmissionEnd i) s = .next (chainSent i q.pid (releaseHold q.pid (leftQueue i c q s))) := by
    have hsettles := hall.settles hsettled (by rw [hall.ctl, hphase]; decide)
    rw [← leaveQueue_class horigin hatt hearly, ← hend] at hsettles ⊢
    exact congrArg Host.Outcome.next hsettles
  refine ⟨_, hexec, ?_, ?_, fun hmore => ?_, fun hlast => ?_, fun k hk => ?_, fun hidle => ?_, fun hfin hlast => ?_,
    hall.keeps, hall.replies, hall.others⟩
  · rw [hsent.port, hrel.port, leftQueue, (modEgr_touches i ..).port, sentLast_port hearly]
  · rw [hsent.egr, hrel.egr, leftQueue, modEgr_egr_self, sentOf_without hqueue]
  · rw [State.parcel, hsent.pool]
    exact ⟨by rw [← State.parcel, releaseHold_parcel_held hp' hmore, if_pos rfl],
      by rw [releaseHold_freeCount_held hp' hmore, hleft.pool]⟩
  · rw [State.parcel, hsent.pool]
    exact ⟨by rw [← State.parcel, releaseHold_parcel_last hp' (Nat.le_of_eq hlast), if_pos rfl],
      by rw [releaseHold_pool_last hp' (Nat.le_of_eq hlast), hleft.pool]⟩
  · rw [State.parcel, hsent.pool, ← State.parcel]
    rcases Nat.lt_or_ge 1 p.refs with hmore | hlast
    · rw [releaseHold_parcel_held hp' hmore, if_neg hk, hpool]
    · rw [releaseHold_parcel_last hp' hlast, if_neg hk, hpool]
  · rw [chainSent, if_neg (by rw [hcursor, hidle]; simp)]
    refine ⟨hcursor, fun hmore => ?_⟩
    have hkeep := releaseHold_held_touches i hp' hmore
    exact ⟨hkeep.alarm.trans hleft.alarm, hkeep.mgmt.trans hleft.mgmt⟩
  · rw [chainSent, if_pos (by rw [hcursor]; exact ⟨hfin, hlast⟩), completeChain, hcursor]
    refine ⟨?_, fun hmore => ?_⟩
    · rw [(postEvent_touches i ..).cursor]
      simp
    · have hkeep := releaseHold_held_touches i hp' hmore
      exact postEvent_alarm_congr ⟨by simpa using hkeep.alarm.trans hleft.alarm,
        by simpa using hkeep.watches.trans hleft.watches,
        by simpa using hkeep.timing.trans hleft.timing⟩ ..

end End

/-- Settles O33, by what the sending of the last word and the leaving of each kind of queue do. -/
theorem transmissionEndRemovesTheHead : Obligations.TransmissionEndRemovesTheHead := by
  unfold Obligations.TransmissionEndRemovesTheHead
  refine ⟨?_, fun i q s hsettled htx hdue => ?_⟩
  · rintro i q port s hsettled hphase hup hfree hagree htx hatt hearly hsent hlen rfl
    have hport := sentLast_port (i := i) (s := s) hearly
    have htouch := sentLast_touches i q s
    have hend (h : s.txClosed q = true) := endOf_sent htx hup hfree hagree hsent hlen h hphase
    refine ⟨fun c p rest horigin hqueue hp hclosed _ => ?_, fun x rest horigin hqueue => ?_, fun horigin hi => ?_⟩
    · exact class_ends hsettled hphase (hend (by simp [State.txClosed, hp, hclosed])) horigin hatt hearly hqueue hp
    · have hall : Touches [.port, .egr] i s ((sentLast i q s).modEgr i (fun e => { e with express := e.express.tail })) :=
        htouch.then (modEgr_touches ..)
      have hleave : endOf i s = (sentLast i q s).modEgr i (fun e => { e with express := e.express.tail }) := by
        rw [hend (by simp [State.txClosed, horigin]), leaveQueue, horigin]
        exact if_pos hatt
      have hsettles := hall.settles hsettled (by rw [hall.ctl, hphase]; decide)
      rw [← hleave] at hsettles
      refine ⟨_, congrArg Host.Outcome.next (hsettles.trans hleave), ?_, ?_, hall.keeps, hall.others⟩
      · rw [(modEgr_touches i ..).port, hport]
      · rw [modEgr_egr_self, sentLast_egr, hqueue]
        rfl
    · have hleave : endOf i s = (sentLast i q s).modMgmt (fun m => { m with replies := m.replies.tail }) := by
        rw [hend (by simp [State.txClosed, horigin]), leaveQueue, horigin]
        exact if_pos hatt
      have hslots (j : Slot) : ((endOf i s).slot j) = (sentLast i q s).slot j := by
        rw [hleave]
        simp
      have hmgmt : (endOf i s).mgmt = { s.mgmt with replies := s.mgmt.replies.tail } := by
        rw [hleave, ← htouch.mgmt]
        simp
      have hkeeps : KeepsBut [.port, .egr, .mgmt] s (endOf i s) := by
        rw [hleave]
        exact htouch.keeps.then (modMgmt_keepsBut ..)
      have hothers : OtherSlots i s (endOf i s) := fun j hj => (hslots j).trans (htouch.others j hj)
      have hsettles := settleDrains_of_settled (drained_none_of_before (t := endOf i s) hsettled
        (fun j hdraining hempty => by
          have hj : j ≠ i := by
            rintro rfl
            rw [hslots, htouch.ctl, hphase] at hdraining
            cases hdraining
          have hslot := hothers j hj
          rw [egressEmpty_iff, hslot] at hempty
          exact ⟨hslot ▸ hdraining, egressEmpty_iff.mpr ⟨hempty.1, fun h => absurd (h.trans hi.symm) hj⟩⟩))
      refine ⟨_, congrArg Host.Outcome.next hsettles, ?_, ?_, hmgmt, hkeeps, hothers⟩
      · rw [hslots, hport]
      · rw [hslots, sentLast_egr]
  · exact congrArg Host.Outcome.next (by rw [endOf_due htx hdue, settleDrains_of_settled hsettled])

end Sys2Proof.Machine
end

section
/-! PROOFS. Pulses, losses and selection: what they leave of the timing unit, and of everything else (R91 to R98). -/

namespace Sys2Proof.Machine

/-! ## What the loop's operations touch -/

section Frame

variable (i : Slot) (s : State)

theorem modRef_touches (r : RefId) (f : Reference → Reference) : Touches [.timing] i s (modRef r f s) :=
  modTiming_touches ..

theorem setFreq_touches (intg freq : Int) : Touches [.timing] i s (setFreq intg freq s) := modTiming_touches ..

theorem changeLoop_touches (new : LoopState) : Touches [.timing, .alarm, .mgmt] i s (changeLoop new s) :=
  touches_ite (.refl ..) ((modTiming_touches i s _).then (postEvent_touches i ..))

theorem enterAcquiring_touches : Touches [.timing, .alarm, .mgmt] i s (enterAcquiring s) := by
  have hlock := modTiming_touches i s (fun t => { t with lock := 0 })
  have hclear (t : State) : Touches [.timing, .alarm, .mgmt] i t (clearCond causeFreeRun 0 0 (clearCond causeHoldover 0 0
      (t.modTiming (fun x => { x with holdover := none })))) :=
    ((modTiming_touches i t _).then (clearCond_touches i ..) (rs := [.timing, .alarm, .mgmt])).then (clearCond_touches i ..)
  unfold enterAcquiring
  dsimp only
  split
  · exact (hlock.then (hclear _) (rs := [.timing, .alarm, .mgmt])).then (changeLoop_touches i _ _)
  · exact (hlock.then (hclear _) (rs := [.timing, .alarm, .mgmt])).then (changeLoop_touches i _ _)
  · exact hlock.then (changeLoop_touches i _ _)

theorem enterHoldover_touches : Touches [.timing, .alarm, .mgmt] i s (enterHoldover s) :=
  (((setFreq_touches i s ..).then (modTiming_touches i _ _) (rs := [.timing, .alarm, .mgmt])).then
    (changeLoop_touches i _ _) (rs := [.timing, .alarm, .mgmt])).then (raiseCond_touches i ..)

theorem judgeSelection_touches : Touches [.timing, .alarm, .mgmt] i s (judgeSelection s) := by
  have hswitch (p : Word) (new : Sel) : Touches [.timing, .alarm, .mgmt] i s (postEvent causeReferenceSwitch 0 p
      (s.modTiming (fun t => { t with sel := new }))) := (modTiming_touches i s _).then (postEvent_touches i ..)
  unfold judgeSelection
  dsimp only
  split
  · exact .refl ..
  · split
    · split
      · exact (hswitch ..).then (enterHoldover_touches i _)
      · exact (hswitch ..).then (enterHoldover_touches i _)
      · exact hswitch ..
    · exact (hswitch ..).then (enterAcquiring_touches i _)

theorem qualify_touches (r : RefId) : Touches [.timing, .alarm, .mgmt] i s (qualify r s) :=
  ((modRef_touches i s r _).then (clearCond_touches i ..) (rs := [.timing, .alarm, .mgmt])).then
    (judgeSelection_touches i _)

theorem loseReference_touches (r : RefId) : Touches [.timing, .alarm, .mgmt] i s (loseReference r s) := by
  have hlost : Touches [.timing, .alarm, .mgmt] i s (raiseCond causeRefLoss (refNum r)
      (wordOf (s.timing.ref r).cfg.slot)
      (modRef r (fun x => { x with qualified := false, run := 0, last := none, staged := none }) s)) :=
    (modRef_touches i s r _).then (raiseCond_touches i ..)
  exact touches_ite (hlost.then (judgeSelection_touches i _)) hlost

end Frame

/-! ## The records of the references -/

section Refs

variable (t : Timing) (r : RefId) (x y : Reference)

theorem setRef_setRef : (t.setRef r x).setRef r y = t.setRef r y := by cases r <;> rfl

theorem ref_setRef_self : (t.setRef r x).ref r = x := by cases r <;> rfl

theorem modRef_timing (f : Reference → Reference) (s : State) :
    (modRef r f s).timing = s.timing.setRef r (f (s.timing.ref r)) := by simp [modRef]

/-- A reference's own fields and the selection are apart. -/
theorem setRef_fields : (t.setRef r x).sel = t.sel ∧ (t.setRef r x).cfg = t.cfg ∧ (t.setRef r x).loop = t.loop ∧
    (t.setRef r x).holdover = t.holdover := by
  cases r <;> exact ⟨rfl, rfl, rfl, rfl⟩

theorem selQualified_setRef (z : Sel) : (t.setRef r x).selQualified z =
    if z = refSel r then x.qualified else t.selQualified z := by
  rcases sel_cases z with rfl | ⟨q, rfl⟩
  · cases r <;> rfl
  · rw [selQualified_refSel, selQualified_refSel, timing_ref_setRef]
    have hinj : refSel q = refSel r ↔ q = r := by cases q <;> cases r <;> decide
    simp only [hinj]
    split <;> rfl

end Refs

/-! ## What a judgement of the selection reports (R95 to R98) -/

section Raised

variable {c : Fin 64} {n : Nat} (s : State)

theorem enterAcquiring_isRaised_other (hc : c ≠ causeHoldover) (hf : c ≠ causeFreeRun) (hn : n < 64) :
    (enterAcquiring s).isRaised c n = s.isRaised c n := by
  unfold enterAcquiring
  dsimp only
  split
  · rw [changeLoop_isRaised, isRaised_clearCond_other hf (by omega) hn, isRaised_clearCond_other hc (by omega) hn,
      modTiming_isRaised, modTiming_isRaised]
  · rw [changeLoop_isRaised, isRaised_clearCond_other hf (by omega) hn, isRaised_clearCond_other hc (by omega) hn,
      modTiming_isRaised, modTiming_isRaised]
  · rw [changeLoop_isRaised, modTiming_isRaised]

theorem enterHoldover_isRaised_other (hc : c ≠ causeHoldover) (hn : n < 64) :
    (enterHoldover s).isRaised c n = s.isRaised c n := by
  unfold enterHoldover
  dsimp only
  rw [isRaised_raiseCond_other hc (by omega) hn, changeLoop_isRaised, modTiming_isRaised, setFreq_isRaised]

theorem postEvent_isRaised (d : Fin 64) (m : Nat) (p : Word) : (postEvent d m p s).isRaised c n = s.isRaised c n := by
  simp

theorem judgeSelection_isRaised_other (hc : c ≠ causeHoldover) (hf : c ≠ causeFreeRun) (hn : n < 64) :
    (judgeSelection s).isRaised c n = s.isRaised c n := by
  unfold judgeSelection
  dsimp only
  split
  · rfl
  · split
    · split
      · rw [enterHoldover_isRaised_other _ hc hn, postEvent_isRaised, modTiming_isRaised]
      · rw [enterHoldover_isRaised_other _ hc hn, postEvent_isRaised, modTiming_isRaised]
      · rw [postEvent_isRaised, modTiming_isRaised]
    · rw [enterAcquiring_isRaised_other _ hc hf hn, postEvent_isRaised, modTiming_isRaised]

theorem enterAcquiring_clears (h : s.timing.loop = .free ∨ s.timing.loop = .holdover) :
    (enterAcquiring s).isRaised causeHoldover 0 = false ∧ (enterAcquiring s).isRaised causeFreeRun 0 = false := by
  have hcleared (u : State) : (changeLoop .acquiring (clearCond causeFreeRun 0 0 (clearCond causeHoldover 0 0
      u))).isRaised causeHoldover 0 = false ∧ (changeLoop .acquiring (clearCond causeFreeRun 0 0
      (clearCond causeHoldover 0 0 u))).isRaised causeFreeRun 0 = false := by
    rw [changeLoop_isRaised, changeLoop_isRaised, isRaised_clearCond_other (by decide) (by omega) (by omega)]
    exact ⟨isRaised_cleared .., isRaised_cleared ..⟩
  unfold enterAcquiring
  rcases h with h | h
  · rw [h]
    exact hcleared _
  · rw [h]
    exact hcleared _

/-- A judgement that keeps the selection does nothing. -/
theorem judgeSelection_kept (h : s.timing.judged = s.timing.sel) : judgeSelection s = s := if_pos h

/-- A judgement that selects another reference has the loop acquire it. -/
theorem judgeSelection_selects (h : s.timing.judged ≠ s.timing.sel) (hsome : s.timing.judged ≠ .none) :
    ∃ p, judgeSelection s = enterAcquiring (postEvent causeReferenceSwitch 0 p
      (s.modTiming (fun t => { t with sel := s.timing.judged }))) := by
  refine ⟨wordOf (s.timing.sel.code * 256 + s.timing.judged.code), ?_⟩
  unfold judgeSelection
  dsimp only
  rw [if_neg h]
  cases hj : s.timing.judged with
  | none => exact absurd hj hsome
  | a | b => rfl

/-- A judgement that leaves no reference while the loop follows one has it hold over. -/
theorem judgeSelection_loses (h : s.timing.judged = .none) (hsel : s.timing.sel ≠ .none)
    (hloop : s.timing.loop = .acquiring ∨ s.timing.loop = .locked) :
    ∃ p, judgeSelection s = enterHoldover (postEvent causeReferenceSwitch 0 p
      (s.modTiming (fun t => { t with sel := .none }))) := by
  refine ⟨wordOf (s.timing.sel.code * 256 + Sel.none.code), ?_⟩
  unfold judgeSelection
  dsimp only
  rw [if_neg (by rw [h]; exact fun e => hsel e.symm), h]
  have hsame (p : Word) : (postEvent causeReferenceSwitch 0 p (s.modTiming (fun t => { t with sel := .none }))).timing.loop =
      s.timing.loop := by simp
  dsimp only
  rw [hsame]
  rcases hloop with h | h <;> rw [h]

end Raised

end Sys2Proof.Machine
end

section
/-! PROOFS. Obligations O39 and O41: pulses of a reference that is not selected, losses and holdover (R91 to R98). -/

namespace Sys2Proof.Machine

/-! ## Captured pulses (R91, R92) -/

section Pulse

variable {r : RefId} {s : State}

theorem exec_pulse (h : s.captures r = true) : exec (.referencePulse r) s = .next (judgePulse r s) :=
  congrArg Host.Outcome.next (if_pos h)

theorem last_of_gap {gap : Int} (h : (s.timing.ref r).last.map (CabTime.diff { s.timing.time with frac := 0 }) = some gap) :
    ∃ p, (s.timing.ref r).last = some p ∧ CabTime.diff { s.timing.time with frac := 0 } p = gap := by
  cases hlast : (s.timing.ref r).last with
  | none => rw [hlast] at h; cases h
  | some p =>
    rw [hlast] at h
    exact ⟨p, rfl, Option.some.inj h⟩

theorem judgePulse_first (h : (s.timing.ref r).last = none) :
    judgePulse r s = acceptPulse r { s.timing.time with frac := 0 } 1 s := by
  unfold judgePulse
  rw [h]
  rfl

/-- The judgement of a pulse that follows an accepted capture, by its gap. -/
theorem judgePulse_after {p c : CabTime} (h : (s.timing.ref r).last = some p) (hc : c = { s.timing.time with frac := 0 }) :
    judgePulse r s = if c.diff p < nsUnits 999000000 then
        modRef r (fun x => { x with early := Nat.min 65535 (x.early + 1) }) s
      else if c.diff p ≤ nsUnits 1001000000 then acceptPulse r c (Nat.min 15 ((s.timing.ref r).run + 1)) s
      else acceptPulse r c 1 s := by
  unfold judgePulse
  rw [h, hc]
  rfl

theorem judgePulse_late {p c : CabTime} (h : (s.timing.ref r).last = some p) (hc : c = { s.timing.time with frac := 0 })
    (hlate : 1001000000 * 4294967296 < c.diff p) : judgePulse r s = acceptPulse r c 1 s := by
  have hhigh : nsUnits 1001000000 = 1001000000 * 4294967296 := rfl
  have hlow : nsUnits 999000000 = 999000000 * 4294967296 := rfl
  rw [judgePulse_after h hc, if_neg (by omega), if_neg (by omega)]

theorem judgePulse_early {p c : CabTime} (h : (s.timing.ref r).last = some p) (hc : c = { s.timing.time with frac := 0 })
    (hearly : c.diff p < 999000000 * 4294967296) :
    judgePulse r s = modRef r (fun x => { x with early := Nat.min 65535 (x.early + 1) }) s := by
  have hlow : nsUnits 999000000 = 999000000 * 4294967296 := rfl
  rw [judgePulse_after h hc, if_pos (by omega)]

theorem judgePulse_inWindow {p c : CabTime} (h : (s.timing.ref r).last = some p)
    (hc : c = { s.timing.time with frac := 0 }) (hfrom : 999000000 * 4294967296 ≤ c.diff p)
    (hto : c.diff p ≤ 1001000000 * 4294967296) :
    judgePulse r s = acceptPulse r c (Nat.min 15 ((s.timing.ref r).run + 1)) s := by
  have hhigh : nsUnits 1001000000 = 1001000000 * 4294967296 := rfl
  have hlow : nsUnits 999000000 = 999000000 * 4294967296 := rfl
  rw [judgePulse_after h hc, if_neg (by omega), if_pos (by omega)]

/-- An accepted pulse of a reference that is not selected, where it does not qualify the reference. -/
theorem acceptPulse_keepsJudged {c : CabTime} {run : Nat} (hsel : s.timing.sel ≠ refSel r)
    (h : (s.timing.ref r).qualified = true ∨ run < s.timing.cfg.qualCount) : acceptPulse r c run s =
      modRef r (fun x => { x with staged := none }) (modRef r (fun x => { x with run := run, last := some c }) s) := by
  unfold acceptPulse
  dsimp only
  rw [if_neg hsel, if_neg]
  rcases h with h | h
  · simp [h]
  · simp [Nat.not_le_of_gt h]

theorem acceptPulse_qualifies {c : CabTime} {run : Nat} (hsel : s.timing.sel ≠ refSel r)
    (hunq : (s.timing.ref r).qualified = false) (hrun : s.timing.cfg.qualCount ≤ run) : acceptPulse r c run s =
      modRef r (fun x => { x with staged := none })
        (qualify r (modRef r (fun x => { x with run := run, last := some c }) s)) := by
  unfold acceptPulse
  dsimp only
  rw [if_neg hsel, if_pos (by simp [hunq, hrun])]

/-- What an accepted pulse that qualifies nothing leaves. -/
theorem pulse_accepted {c : CabTime} {run : Nat} (hcap : s.captures r = true) (hsel : s.timing.sel ≠ refSel r)
    (h : (s.timing.ref r).qualified = true ∨ run < s.timing.cfg.qualCount)
    (hjudge : judgePulse r s = acceptPulse r c run s) :
    ∃ t, exec (.referencePulse r) s = .next t ∧
      t.timing.ref r = { s.timing.ref r with run := run, last := some c, staged := none } ∧
      t.timing = s.timing.setRef r (t.timing.ref r) ∧ KeepsBut [.timing] s t := by
  refine ⟨_, (exec_pulse hcap).trans (congrArg _ (hjudge.trans (acceptPulse_keepsJudged hsel h))), ?_, ?_,
    ((modRef_touches 0 s r _).then (modRef_touches 0 _ r _) (rs := [.timing])).keeps⟩
  · rw [modRef_timing, modRef_timing, ref_setRef_self, ref_setRef_self]
  · rw [modRef_timing, modRef_timing, setRef_setRef, ref_setRef_self, ref_setRef_self]

theorem judged_qualified_eq {x : Reference} {q : Sel → Bool} {sel : Sel} (hx : x.qualified = true)
    (hq : q = fun y => y == refSel r || s.timing.selQualified y)
    (hsel : sel = (if s.timing.cfg.preferred = .none then .none
      else if s.timing.cfg.revertive = false ∧ q s.timing.sel = true then s.timing.sel
      else if q s.timing.cfg.preferred = true then s.timing.cfg.preferred
      else if q s.timing.cfg.preferred.other = true then s.timing.cfg.preferred.other else .none)) :
    (s.timing.setRef r x).judged = sel := by
  have hqual (z : Sel) : (s.timing.setRef r x).selQualified z = q z := by
    rw [selQualified_setRef, hq]
    by_cases hz : z = refSel r <;> simp [hz, hx]
  obtain ⟨hs, hc, -⟩ := setRef_fields s.timing r x
  unfold Timing.judged
  simp only [hqual, hs, hc, hsel, Bool.and_eq_true, Bool.not_eq_true']

/-- What the pulse that qualifies a reference leaves. -/
theorem pulse_qualifies {c : CabTime} {n : Nat} {x : Reference} {q : Sel → Bool} {sel : Sel} (hcap : s.captures r = true)
    (hother : s.timing.sel ≠ refSel r) (hunq : (s.timing.ref r).qualified = false)
    (hrun : s.timing.cfg.qualCount ≤ n) (hjudge : judgePulse r s = acceptPulse r c n s)
    (hx : x = { s.timing.ref r with qualified := true, run := n, last := some c, staged := none })
    (hq : q = fun y => y == refSel r || s.timing.selQualified y)
    (hsel : sel = (if s.timing.cfg.preferred = .none then .none
      else if s.timing.cfg.revertive = false ∧ q s.timing.sel = true then s.timing.sel
      else if q s.timing.cfg.preferred = true then s.timing.cfg.preferred
      else if q s.timing.cfg.preferred.other = true then s.timing.cfg.preferred.other else .none)) :
    ∃ t, exec (.referencePulse r) s = .next t ∧ t.isRaised causeRefLoss (refNum r) = false ∧
      (sel = s.timing.sel → t.timing = s.timing.setRef r x) ∧
      (sel ≠ s.timing.sel → sel ≠ .none →
        t.timing = { s.timing.setRef r x with
          sel := sel, loop := .acquiring, lock := 0,
          holdover := if s.timing.loop = .free ∨ s.timing.loop = .holdover then none else s.timing.holdover } ∧
        (s.timing.loop = .free ∨ s.timing.loop = .holdover →
          t.isRaised causeHoldover 0 = false ∧ t.isRaised causeFreeRun 0 = false)) ∧
      KeepsBut [.timing, .alarm, .mgmt] s t ∧ OnlyReplies s t := by
  obtain ⟨u, hu⟩ : ∃ u, u = clearCond causeRefLoss (refNum r)
      (wordOf ((modRef r (fun x => { x with run := n, last := some c }) s).timing.ref r).cfg.slot)
      (modRef r (fun x => { x with qualified := true }) (modRef r (fun x => { x with run := n, last := some c }) s)) :=
    ⟨_, rfl⟩
  obtain ⟨y, hy⟩ : ∃ y : Reference, y = { s.timing.ref r with qualified := true, run := n, last := some c } := ⟨_, rfl⟩
  have htiming : u.timing = s.timing.setRef r y := by
    rw [hu, (clearCond_touches 0 _ _ _ _).timing, modRef_timing, modRef_timing, setRef_setRef, ref_setRef_self, hy]
  have hstaged : { y with staged := none } = x := by rw [hx, hy]
  obtain ⟨hu_sel, -, hu_loop, hu_timer⟩ := setRef_fields s.timing r y
  have hjudged : u.timing.judged = sel := htiming ▸ judged_qualified_eq (by rw [hy]) hq hsel
  have htouch : Touches [.timing, .alarm, .mgmt] 0 s
      (modRef r (fun x => { x with staged := none }) (judgeSelection u)) := by
    rw [hu]
    exact ((modRef_touches 0 s r _).then (qualify_touches 0 _ r) (rs := [.timing, .alarm, .mgmt])).then
      (modRef_touches 0 _ r _)
  have hexec : exec (.referencePulse r) s =
      .next (modRef r (fun x => { x with staged := none }) (judgeSelection u)) := by
    rw [exec_pulse hcap, hjudge, acceptPulse_qualifies hother hunq hrun, hu]
    rfl
  refine ⟨_, hexec, ?_, fun hsame => ?_, fun hnew hsome => ?_, htouch.keeps, htouch.replies⟩
  · rw [modRef_isRaised, judgeSelection_isRaised_other _ (by decide) (by decide) (refNum_lt r), hu]
    exact isRaised_cleared ..
  · have hkept : judgeSelection u = u := judgeSelection_kept u (by rw [hjudged, hsame, htiming, hu_sel])
    rw [hkept, modRef_timing, htiming, setRef_setRef,
      ref_setRef_self, hstaged]
  · obtain ⟨p, hp⟩ := judgeSelection_selects u (by rwa [hjudged, htiming, hu_sel]) (by rwa [hjudged])
    have hloop : (postEvent causeReferenceSwitch 0 p (u.modTiming (fun t => { t with sel := u.timing.judged }))).timing =
        { s.timing.setRef r y with sel := sel } := by
      rw [(postEvent_touches 0 _ _ _ _).timing, hjudged]
      exact congrArg (fun t : Timing => { t with sel := sel }) htiming
    rw [hp]
    refine ⟨?_, fun hfree => ?_⟩
    · rw [modRef_timing, enterAcquiring_timing, State.holdingOver, hloop, ← hstaged]
      cases r <;> cases hl : s.timing.loop <;> simp [Timing.setRef, Timing.ref, hl]
    · rw [modRef_isRaised, modRef_isRaised]
      exact enterAcquiring_clears _ (by rw [hloop]; exact hu_loop ▸ hfree)

end Pulse

/-- Settles O39, by the judgement of a pulse by its spacing and that of the selection it may change. -/
theorem pulsesAreJudged : Obligations.PulsesAreJudged := by
  unfold Obligations.PulsesAreJudged
  intro r gap s hcap hsel hcount
  refine ⟨fun hfirst => ?_, fun hgap => ?_⟩
  · refine pulse_accepted hcap hsel (.inr hcount) ?_
    rcases hfirst with hnone | ⟨hgap, hlate⟩
    · exact judgePulse_first hnone
    · obtain ⟨p, hp, rfl⟩ := last_of_gap hgap
      exact judgePulse_late hp rfl hlate
  · obtain ⟨p, hp, rfl⟩ := last_of_gap hgap
    refine ⟨fun hearly => ?_, fun hfrom hto hkeeps => ?_, ?_⟩
    · refine ⟨_, (exec_pulse hcap).trans (congrArg _ (judgePulse_early hp rfl hearly)), ?_, ?_,
        (modRef_touches 0 s r _).keeps⟩
      · rw [modRef_timing, ref_setRef_self]
      · rw [modRef_timing, ref_setRef_self]
    · exact pulse_accepted hcap hsel hkeeps (judgePulse_inWindow hp rfl hfrom hto)
    · rintro n x q sel hfrom hto hunq rfl hrun hx hq hjudged
      exact pulse_qualifies hcap hsel hunq hrun (judgePulse_inWindow hp rfl hfrom hto) hx hq hjudged

/-! ## Losses and the end of holdover (R93, R98) -/

section Loss

variable {r : RefId} {s : State}

theorem exec_loss {c : CabTime} (hlast : (s.timing.ref r).last = some c)
    (hpast : 1100000000 * 4294967296 < s.timing.time.diff c) :
    exec (.lossDeadlineExpiry r) s = .next (loseReference r s) := by
  refine congrArg Host.Outcome.next (if_pos ?_)
  unfold State.deadlinePast
  rw [hlast]
  exact decide_eq_true hpast

theorem sel_other_cases (r : RefId) (z : Sel) : z = refSel r ∨ z = (refSel r).other ∨ z = .none := by
  cases r <;> cases z <;> decide

/-- A loss that leaves no reference: the other one is not qualified either. -/
theorem judged_lost {x : Reference} (hsel : s.timing.sel = refSel r) (hx : x.qualified = false)
    (hother : s.timing.selQualified (refSel r).other = false) : (s.timing.setRef r x).judged = .none := by
  obtain ⟨hs, hc, -⟩ := setRef_fields s.timing r x
  have hne : (refSel r).other ≠ refSel r := by cases r <;> decide
  have hself : (s.timing.setRef r x).selQualified (refSel r) = false := by rw [selQualified_setRef, if_pos rfl, hx]
  have hrest : (s.timing.setRef r x).selQualified (refSel r).other = false := by
    rw [selQualified_setRef, if_neg hne, hother]
  have hall (z : Sel) : (s.timing.setRef r x).selQualified z = false := by
    rcases sel_other_cases r z with rfl | rfl | rfl
    · exact hself
    · exact hrest
    · rfl
  unfold Timing.judged
  simp [hall, hs, hc]

end Loss

/-- Settles O41, by what the loss of a reference and the end of holdover do. -/
theorem lossAndHoldover : Obligations.LossAndHoldover := by
  unfold Obligations.LossAndHoldover
  refine ⟨fun r c s hlast hpast => ?_, fun u s hloop htimer hdue => ?_⟩
  · have htouch := loseReference_touches 0 s r
    obtain ⟨x, hx⟩ : ∃ x : Reference,
        x = { s.timing.ref r with qualified := false, run := 0, last := none, staged := none } := ⟨_, rfl⟩
    obtain ⟨u, hu⟩ : ∃ u, u = raiseCond causeRefLoss (refNum r) (wordOf (s.timing.ref r).cfg.slot)
      (modRef r (fun x => { x with qualified := false, run := 0, last := none, staged := none }) s) := ⟨_, rfl⟩
    have htiming : u.timing = s.timing.setRef r x := by
      rw [hu, (raiseCond_touches 0 _ _ _ _).timing, modRef_timing, hx]
    have hraised : u.isRaised causeRefLoss (refNum r) = true := hu ▸ isRaised_raised ..
    refine ⟨fun hunq => ?_, fun hqual hsel hother hloop => ?_⟩
    · have hlost : loseReference r s = u := by rw [loseReference, hu]; exact if_neg (by rw [hunq]; decide)
      refine ⟨_, exec_loss hlast hpast, hlost ▸ hraised, ?_, htouch.keeps, htouch.replies⟩
      rw [hlost, htiming, hx]
      congr 1
      rw [← hunq]
    · have hlost : loseReference r s = judgeSelection u := by rw [loseReference, hu]; exact if_pos hqual
      obtain ⟨hu_sel, -, hu_loop, -⟩ := setRef_fields s.timing r x
      obtain ⟨p, hp⟩ := judgeSelection_loses u (htiming ▸ judged_lost hsel (by rw [hx]) hother)
        (by rw [htiming, hu_sel, hsel]; cases r <;> decide) (by rwa [htiming, hu_loop])
      have hswitched : (postEvent causeReferenceSwitch 0 p (u.modTiming (fun t => { t with sel := .none }))).timing =
          { s.timing.setRef r x with sel := .none } := by
        rw [(postEvent_touches 0 _ _ _ _).timing]
        exact congrArg (fun t : Timing => { t with sel := .none }) htiming
      have hend := enterHoldover_timing (postEvent causeReferenceSwitch 0 p (u.modTiming (fun t => { t with sel := .none })))
      rw [hswitched] at hend
      rw [hlost] at htouch
      refine ⟨judgeSelection u, hlost ▸ exec_loss hlast hpast, ?_, hp ▸ enterHoldover_raises _, ?_⟩
      · rw [judgeSelection_isRaised_other _ (by decide) (by decide) (refNum_lt r), hraised]
      · rw [hp] at htouch ⊢
        rw [hend]
        have hfields : (s.timing.setRef r x).intg = s.timing.intg ∧ (s.timing.setRef r x).cfg = s.timing.cfg ∧
            (s.timing.setRef r x).uptime = s.timing.uptime := by cases r <;> exact ⟨rfl, rfl, rfl⟩
        obtain ⟨hintg, hcfg, huptime⟩ := hfields
        refine ⟨rfl, rfl, hintg, hintg, by rw [← hintg, ← hcfg], rfl, congrArg some huptime, ?_, htouch.keeps,
          htouch.replies⟩
        cases r <;> exact hx
  · have hexpired : exec .holdoverTimerExpiry s = .next
        ((changeLoop .free (raiseCond causeFreeRun 0 (wordOfInt s.timing.ppb)
          (clearCond causeHoldover 0 (wordOf s.holdoverSeconds) s))).modTiming (fun t => { t with holdover := none })) := by
      refine congrArg Host.Outcome.next (if_pos ?_)
      unfold State.holdoverDue
      rw [hloop, htimer]
      exact decide_eq_true hdue
    have htouch := (((clearCond_touches 0 s causeHoldover 0 (wordOf s.holdoverSeconds)).then
      (raiseCond_touches 0 _ causeFreeRun 0 (wordOfInt s.timing.ppb)) (rs := [.timing, .alarm, .mgmt])).then
      (changeLoop_touches 0 _ .free) (rs := [.timing, .alarm, .mgmt])).then
      (modTiming_touches 0 _ (fun t => { t with holdover := none })) (rs := [.timing, .alarm, .mgmt])
    refine ⟨_, hexpired, ?_, ?_, ?_, fun c m hhold hfree hm => ?_, htouch.keeps, htouch.replies⟩
    · simp [changeLoop_timing]
    · rw [modTiming_isRaised, changeLoop_isRaised, isRaised_raiseCond_other (by decide) (by omega) (by omega)]
      exact isRaised_cleared ..
    · rw [modTiming_isRaised, changeLoop_isRaised]
      exact isRaised_raised ..
    · rw [modTiming_isRaised, changeLoop_isRaised, isRaised_raiseCond_other hfree (by omega) hm,
        isRaised_clearCond_other hhold (by omega) hm]

end Sys2Proof.Machine
end

section
/-! PROOFS. Obligation O42: edge instants, EDGE parcels and strobes (R113, R115, R116, R119). -/

namespace Sys2Proof.Machine

section Edges

variable {i : Slot} {s : State}

theorem modEdges_edges_self (f : SlotEdges → SlotEdges) : ((s.modEdges i f).slot i).edges = f (s.slot i).edges := by simp

theorem modEdges_touches (i : Slot) (s : State) (f : SlotEdges → SlotEdges) : Touches [.edges] i s (s.modEdges i f) :=
  ⟨modEdges_keepsBut .., .of_eq (by simp), modEdges_otherSlots s i f⟩

theorem setNextEdge_touches (i : Slot) (s : State) (x : CabTime) :
    Touches [.nextEdge] i s { s with nextEdge := x } :=
  have hslot (j : Slot) : ({ s with nextEdge := x } : State).slot j = s.slot j := rfl
  ⟨⟨fun p hp => by cases p <;> simp_all [Part.Same], rfl⟩, .refl s, .refl i s⟩

theorem exec_edgeDispatch {d : Sched} (h : (s.slot i).edges.parcel = some d) (hdue : 0 ≤ s.timing.time.diff d.due) :
    exec (.edgeDispatch i) s = .next (dispatchEdge i d s) := by
  refine congrArg Host.Outcome.next ?_
  rw [h]
  exact if_pos (decide_eq_true hdue)

theorem exec_strobe {d : Sched} (h : (s.slot i).edges.strobe = some d) (hdue : 0 ≤ s.timing.time.diff d.due) :
    exec (.strobe i) s = .next (giveStrobe i d s) := by
  refine congrArg Host.Outcome.next ?_
  rw [h]
  exact if_pos (decide_eq_true hdue)

/-- A parcel that joins the express queue of a slot with nothing in transmission: no insertion is called for. -/
theorem offerExpress_joins {p : ExpressParcel} {lost : Word} (htx : (s.slot i).egr.tx = .idle)
    (hroom : (s.slot i).egr.express.length < 4) : offerExpress i p lost s =
      s.modEgr i (fun e => { e with express := e.express ++ [p] }.occasion) := by
  have hjoined : ((s.modEgr i (fun e => { e with express := e.express ++ [p] }.occasion)).slot i).egr.tx = .idle := by
    rw [modEgr_egr_self]
    simp [Egress.occasion, htx]
  unfold offerExpress
  rw [if_pos (show _ < Config.expressPlaces from hroom)]
  unfold callInsertion
  rw [hjoined]

/-- What a dispatch leaves: the schedule moved on, and the EDGE parcel in an express queue that takes it. -/
theorem dispatch_leaves {d : Sched} {t : State} (ht : t = dispatchEdge i d s) :
    (t.slot i).edges = { (s.slot i).edges with
      parcel := some { edge := d.edge.move (s.glob.edgePeriod * 4294967296),
                       due := d.due.move (s.glob.edgePeriod * 4294967296) } } ∧
    (s.isAwake i = false → KeepsBut [.edges] s t) ∧
    (s.isAwake i = true → (s.slot i).egr.tx = .idle → (s.slot i).egr.express.length < 4 →
      (t.slot i).egr = { (s.slot i).egr with
        express := (s.slot i).egr.express ++
          [ExpressParcel.mk 61
            [wordOf (d.edge.sec / 4294967296), wordOf d.edge.sec, wordOf d.edge.ns,
             wordOf ((d.edge.sec * (1000000000 / s.glob.edgePeriod) + d.edge.ns / s.glob.edgePeriod)
               % s.glob.edgeModulus), 0, 0]
            (some { instant := d.edge, delay := (s.slot i).ctl.delay, made := s.timing.core })] } ∧
      KeepsBut [.edges, .egr] s t) ∧
    OtherSlots i s t := by
  have hmoved := modEdges_touches i s (fun x => { x with parcel := some (d.next s.glob.edgePeriod) })
  have hegr := hmoved.egr (by decide) i
  subst ht
  unfold dispatchEdge
  dsimp only
  cases hawake : s.isAwake i with
  | false =>
    rw [if_neg (by decide)]
    exact ⟨modEdges_edges_self .., fun _ => hmoved.keeps, nofun, hmoved.others⟩
  | true =>
    rw [if_pos rfl]
    have hoffer := offerExpress_touches i (s.modEdges i (fun x => { x with parcel := some (d.next s.glob.edgePeriod) }))
      (edgeParcel d.edge (edgeNumber s.glob.edgePeriod s.glob.edgeModulus d.edge) (s.slot i).ctl.delay s.timing.core)
      (wordOf (edgeNumber s.glob.edgePeriod s.glob.edgeModulus d.edge))
    refine ⟨?_, nofun, fun _ htx hroom => ?_, hmoved.others.then hoffer.others⟩
    · rw [hoffer.edges, modEdges_edges_self]
      rfl
    · rw [offerExpress_joins (by rw [hegr, htx]) (by rw [hegr]; exact hroom), modEgr_egr_self, hegr]
      refine ⟨?_, hmoved.keeps.then (modEgr_keepsBut ..)⟩
      rw [Egress.occasion, htx]
      rfl

/-- What a strobe leaves. -/
theorem strobe_leaves {d : Sched} {t : State} (ht : t = giveStrobe i d s) :
    (t.slot i).edges = { (s.slot i).edges with
      strobe := some { edge := d.edge.move (s.glob.edgePeriod * 4294967296),
                       due := d.due.move (s.glob.edgePeriod * 4294967296) } } ∧
    (t.slot i).ctl = (if (s.slot i).ctl.pwrEn = true ∧ (s.slot i).ctl.phase ≠ .powering
      then { (s.slot i).ctl with
        pulse0 := if (s.slot i).cfg.fn0 = .strobeOut then some s.timing.core else (s.slot i).ctl.pulse0,
        pulse1 := if (s.slot i).cfg.fn1 = .strobeOut then some s.timing.core else (s.slot i).ctl.pulse1 }
      else (s.slot i).ctl) ∧
    KeepsBut [.edges, .ctl] s t ∧ OtherSlots i s t := by
  have hmoved := modEdges_touches i s (fun x => { x with strobe := some (d.next s.glob.edgePeriod) })
  have hctl := hmoved.ctl (by decide) i
  subst ht
  unfold giveStrobe
  dsimp only
  by_cases hgives : (s.slot i).ctl.pwrEn = true ∧ (s.slot i).ctl.phase ≠ .powering
  · have hall := hmoved.then (rs := [.edges, .ctl]) (modCtl_touches i _ (fun c =>
      { c with
        pulse0 := if (s.slot i).cfg.fn0 = .strobeOut then some s.timing.core else c.pulse0,
        pulse1 := if (s.slot i).cfg.fn1 = .strobeOut then some s.timing.core else c.pulse1 }))
    rw [if_pos (by simpa using hgives), if_pos hgives]
    refine ⟨?_, ?_, hall.keeps, hall.others⟩
    · rw [(modCtl_touches i ..).edges, modEdges_edges_self]
      rfl
    · rw [modCtl_ctl_self, hctl]
  · rw [if_neg (by simpa using hgives), if_neg hgives]
    exact ⟨modEdges_edges_self .., hctl, hmoved.keeps.mono, hmoved.others⟩

end Edges

/-- Settles O42, by what each command of the edge generator does once its time has come. -/
theorem edgesAndStrobesAreServed : Obligations.EdgesAndStrobesAreServed := by
  unfold Obligations.EdgesAndStrobesAreServed
  refine ⟨fun s hdue => ?_, fun i d s hsched hdue => ?_, fun i d s hsched hdue => ?_, fun i l u s hpulse hover => ?_⟩
  · exact ⟨_, congrArg Host.Outcome.next (if_pos (decide_eq_true hdue)), rfl, (setNextEdge_touches 0 s _).keeps⟩
  · exact ⟨_, exec_edgeDispatch hsched hdue, dispatch_leaves rfl⟩
  · exact ⟨_, exec_strobe hsched hdue, strobe_leaves rfl⟩
  · have hend (p : Option Nat) (h : p = some u) : pulseOver s.timing.core p = true := by
      rw [h]
      exact decide_eq_true hover
    cases l with
    | sb0 =>
      have htouch := modCtl_touches i s (fun c => { c with pulse0 := none })
      exact ⟨_, congrArg Host.Outcome.next (if_pos (hend _ hpulse)), modCtl_ctl_self .., htouch.keeps, htouch.others⟩
    | sb1 =>
      have htouch := modCtl_touches i s (fun c => { c with pulse1 := none })
      exact ⟨_, congrArg Host.Outcome.next (if_pos (hend _ hpulse)), modCtl_ctl_self .., htouch.keeps, htouch.others⟩

end Sys2Proof.Machine
end

section
/-! PROOFS. Obligation O40: a processed pulse slews or steps, and a staged value corrects the seconds (R99 to R106). -/

namespace Sys2Proof.Machine

/-! ## Effects beyond one slot, and entries that are added -/

/-- An effect touches only the given parts, and of the management unit adds replies alone. -/
structure Leaves (ps : List Part) (s t : State) : Prop where
  keeps : KeepsBut ps s t
  grow : RepliesGrow s t

theorem Touches.leaves {ps : List Part} {i : Slot} {s t : State} (h : Touches ps i s t) : Leaves ps s t :=
  ⟨h.keeps, h.grow⟩

theorem Leaves.refl (ps : List Part) (s : State) : Leaves ps s s := ⟨.refl .., .refl s⟩

theorem Leaves.then {ps qs rs : List Part} {s t u : State} (h : Leaves ps s t) (g : Leaves qs t u)
    (hp : ps ⊆ rs := by decide) (hq : qs ⊆ rs := by decide) : Leaves rs s u :=
  ⟨h.keeps.then g.keeps hp hq, h.grow.trans g.grow⟩

theorem Leaves.mono {ps rs : List Part} {s t : State} (h : Leaves ps s t) (hp : ps ⊆ rs := by decide) : Leaves rs s t :=
  ⟨h.keeps.mono hp, h.grow⟩

theorem Leaves.replies {ps : List Part} {s t : State} (h : Leaves ps s t) : OnlyReplies s t := onlyReplies_of_grow h.grow

/-- The alarm queue only gains entries, at most `k` of them, at places from the write index on. -/
structure Appends (k : Nat) (s t : State) : Prop where
  idx : s.alarm.idx ≤ t.alarm.idx ∧ t.alarm.idx ≤ s.alarm.idx + k
  kept : ∀ n, n < s.alarm.idx → assocGet t.alarm.queue n = assocGet s.alarm.queue n

section Appends

variable {k m : Nat} {s t u : State} {c : Fin 64} {n : Nat} {w : Word}

theorem Appends.of_alarm (h : t.alarm = s.alarm) : Appends 0 s t := by
  refine ⟨?_, fun n _ => ?_⟩
  · rw [h]
    exact ⟨Nat.le_refl _, Nat.le_refl _⟩
  · rw [h]

theorem Appends.trans (h : Appends k s t) (g : Appends m t u) : Appends (k + m) s u := by
  obtain ⟨⟨hfrom, hto⟩, hkept⟩ := h
  obtain ⟨⟨gfrom, gto⟩, gkept⟩ := g
  exact ⟨⟨by omega, by omega⟩, fun n hn => (gkept n (by omega)).trans (hkept n hn)⟩

theorem Appends.mono (h : Appends k s t) (hk : k ≤ m) : Appends m s t := by
  obtain ⟨⟨hfrom, hto⟩, hkept⟩ := h
  exact ⟨⟨hfrom, by omega⟩, hkept⟩

theorem postEntry_appends {a : AlarmAction} {r : Nat} (hidx : s.alarm.idx < 127) : Appends 1 s (postEntry c n a r w s) := by
  have halarm := postEntry_room_alarm (c := c) (n := n) (w := w) (s := s) a r hidx
  refine ⟨?_, fun j hj => ?_⟩
  · rw [halarm]
    exact ⟨Nat.le_succ _, Nat.le_refl _⟩
  · rw [halarm, assocGet_put, if_neg (by omega)]

theorem postEvent_appends (hidx : s.alarm.idx < 127) : Appends 1 s (postEvent c n w s) := by
  unfold postEvent
  split
  · split
    · refine ⟨?_, fun _ _ => ?_⟩ <;> simp [suppressEvent]
    · have htrack : Appends 0 s (trackPosted c n s) := by
        refine ⟨?_, fun _ _ => ?_⟩ <;> simp [trackPosted]
      exact (htrack.trans (postEntry_appends (by simpa [trackPosted] using hidx))).mono (by decide)
  · exact (Appends.of_alarm rfl).mono (by decide)

theorem changeLoop_appends {new : LoopState} (hidx : s.alarm.idx < 127) : Appends 1 s (changeLoop new s) := by
  unfold changeLoop
  split
  · exact (Appends.of_alarm rfl).mono (by decide)
  · have hmod : Appends 0 s (s.modTiming (fun t => { t with loop := new })) := .of_alarm (by simp)
    exact (hmod.trans (postEvent_appends (by simpa using hidx))).mono (by decide)

/-- An event reported in a state with the alarm unit as it was, and followed by others, is the first entry. -/
theorem postsFirst_of (halarm : u.alarm = s.alarm) (huptime : u.timing.uptime = s.timing.uptime)
    (hafter : s.alarm.idx < 120 → Appends k (postEvent c n w u) t) : PostsFirst c n w s t := by
  intro henable hnot hidx
  have henable' : (u.cause c).enable = true := by unfold State.cause; rw [halarm]; exact henable
  have hnot' : NotHeldOff u c n := by
    unfold NotHeldOff State.cause at *
    rw [halarm, huptime]
    exact hnot
  obtain ⟨t', rfl, hentry, -, hnext, -⟩ := event_posted (w := w) henable' hnot' (by rw [halarm]; omega)
  obtain ⟨-, hkept⟩ := hafter hidx
  refine ⟨_, (hkept _ ?_).trans (halarm ▸ hentry), rfl, rfl, rfl, rfl⟩
  rw [hnext, halarm]
  omega

end Appends

/-! ## Slewing (R104, R106) -/

section Slew

variable (lag : Int) (u : State)

/-- The bound, the sums and the clamped values of a slew. -/
def State.bound (u : State) : Int := u.timing.cfg.fmax * 65536
def State.slewI0 (u : State) (lag : Int) : Int := u.timing.intg + shiftBy u.timing.cfg.rounding lag u.timing.cfg.ki
def State.slewI (u : State) (lag : Int) : Int := max (-u.bound) (min u.bound (u.slewI0 lag))
def State.slewF0 (u : State) (lag : Int) : Int := shiftBy u.timing.cfg.rounding lag u.timing.cfg.kp + u.slewI lag
def State.slewF (u : State) (lag : Int) : Int := max (-u.bound) (min u.bound (u.slewF0 lag))

/-- The lock count and the loop state after a slew. -/
def State.slewLock (u : State) (lag : Int) : Nat :=
  if lag.natAbs ≤ u.timing.cfg.lockWindow then Nat.min 255 (u.timing.lock + 1) else 0
def State.slewLoop (u : State) (lag : Int) : LoopState :=
  if u.timing.cfg.lockWindow < lag.natAbs then .acquiring
  else if u.timing.cfg.lockCount ≤ u.slewLock lag then .locked else u.timing.loop

theorem clampTo_eq {b : Int} (hb : 0 ≤ b) (x : Int) : clampTo b x = max (-b) (min b x) := by
  unfold clampTo
  split
  · omega
  · split <;> omega

/-- A slew sets I, F and D, and reports a clamp that replaced a value. -/
theorem slew_eq : slew lag u =
    if u.slewI lag = u.slewI0 lag ∧ u.slewF lag = u.slewF0 lag then setFreq (u.slewI lag) (u.slewF lag) u
    else postEvent causeFreqLimit 0 (wordOfInt ((u.slewF lag).tdiv 65536)) (setFreq (u.slewI lag) (u.slewF lag) u) := by
  have hb : (0 : Int) ≤ u.timing.cfg.bound := by unfold LoopSettings.bound; omega
  unfold slew
  simp only [clampTo_eq hb]
  rfl

theorem slew_timing : (slew lag u).timing = { u.timing with
    intg := u.slewI lag, freq := u.slewF lag, adj := adjOf u.timing.cfg.rounding (u.slewF lag) } := by
  rw [slew_eq]
  split
  · exact setFreq_timing ..
  · rw [(postEvent_touches 0 _ _ _ _).timing, setFreq_timing]

theorem slew_leaves : Leaves [.timing, .alarm, .mgmt] u (slew lag u) := by
  have hset := setFreq_touches 0 u (u.slewI lag) (u.slewF lag)
  rw [slew_eq]
  exact (touches_ite hset.mono (hset.then (postEvent_touches 0 ..))).leaves

theorem lockAfterSlew_leaves : Leaves [.timing, .alarm, .mgmt] u (lockAfterSlew lag u) := by
  have hset (n : Nat) (new : LoopState) (p : Prop) [Decidable p] : Touches [.timing, .alarm, .mgmt] 0 u
      (if p then changeLoop new (u.modTiming (fun t => { t with lock := n })) else
        u.modTiming (fun t => { t with lock := n })) :=
    touches_ite ((modTiming_touches 0 u _).then (changeLoop_touches 0 _ new)) (modTiming_touches 0 u _).mono
  exact (touches_ite (hset ..) (hset ..)).leaves

variable {lag u}

theorem lockAfterSlew_timing (hloop : u.timing.loop = .acquiring ∨ u.timing.loop = .locked) :
    (lockAfterSlew lag u).timing = { u.timing with lock := u.slewLock lag, loop := u.slewLoop lag } := by
  unfold lockAfterSlew State.slewLoop State.slewLock
  by_cases hin : lag.natAbs ≤ u.timing.cfg.lockWindow
  · simp only [if_pos hin, if_neg (Nat.not_lt.mpr hin)]
    rcases hloop with h | h <;> split <;> simp_all [changeLoop_timing]
  · simp only [if_neg hin, if_pos (Nat.lt_of_not_le hin)]
    rcases hloop with h | h <;> simp [h, changeLoop_timing]

/-- A loop state that does not change is not reported. -/
theorem lockAfterSlew_quiet (hloop : u.timing.loop = .acquiring ∨ u.timing.loop = .locked)
    (hsame : u.slewLoop lag = u.timing.loop) : (lockAfterSlew lag u).alarm = u.alarm := by
  unfold State.slewLoop State.slewLock at hsame
  unfold lockAfterSlew
  by_cases hin : lag.natAbs ≤ u.timing.cfg.lockWindow
  · simp only [if_pos hin, if_neg (Nat.not_lt.mpr hin)] at hsame ⊢
    rcases hloop with h | h <;> split <;> simp_all
  · simp only [if_neg hin, if_pos (Nat.lt_of_not_le hin)] at hsame ⊢
    rw [if_neg (by rw [← hsame]; decide)]
    simp

theorem lockAfterSlew_appends (hidx : u.alarm.idx < 127) : Appends 1 u (lockAfterSlew lag u) := by
  have hset (n : Nat) : Appends 0 u (u.modTiming (fun t => { t with lock := n })) := .of_alarm (by simp)
  have hchange (n : Nat) (new : LoopState) :
      Appends 1 u (changeLoop new (u.modTiming (fun t => { t with lock := n }))) :=
    ((hset n).trans (changeLoop_appends (by simpa using hidx))).mono (by decide)
  unfold lockAfterSlew
  dsimp only
  split
  · split
    · exact hchange ..
    · exact (hset _).mono (by decide)
  · split
    · exact hchange ..
    · exact (hset _).mono (by decide)

theorem slew_appends (hidx : u.alarm.idx < 127) : Appends 1 u (slew lag u) := by
  have hset : Appends 0 u (setFreq (u.slewI lag) (u.slewF lag) u) := .of_alarm (setFreq_touches 0 ..).alarm
  rw [slew_eq]
  split
  · exact hset.mono (by decide)
  · exact (hset.trans (postEvent_appends (by rw [(setFreq_touches 0 ..).alarm]; exact hidx))).mono (by decide)

/-- What a slew and the lock count after it leave, in a loop that follows a reference. -/
theorem slewed_leaves (hloop : u.timing.loop = .acquiring ∨ u.timing.loop = .locked) {t : State}
    (ht : t = lockAfterSlew lag (slew lag u)) :
    t.timing = { u.timing with
      intg := u.slewI lag, freq := u.slewF lag, adj := adjOf u.timing.cfg.rounding (u.slewF lag),
      lock := u.slewLock lag, loop := u.slewLoop lag } ∧
    Leaves [.timing, .alarm, .mgmt] u t ∧ (u.alarm.idx < 126 → Appends 2 u t) ∧
    (u.slewI lag ≠ u.slewI0 lag ∨ u.slewF lag ≠ u.slewF0 lag →
      PostsFirst causeFreqLimit 0 (wordOfInt ((u.slewF lag).tdiv 65536)) u t) ∧
    (u.slewI lag = u.slewI0 lag → u.slewF lag = u.slewF0 lag → u.slewLoop lag = u.timing.loop → t.alarm = u.alarm) := by
  have htiming := slew_timing lag u
  have hlock : (slew lag u).slewLock lag = u.slewLock lag := by unfold State.slewLock; rw [htiming]
  have hloopEq : (slew lag u).slewLoop lag = u.slewLoop lag := by unfold State.slewLoop; rw [hlock, htiming]
  have hset : (setFreq (u.slewI lag) (u.slewF lag) u).alarm = u.alarm := (setFreq_touches 0 ..).alarm
  subst ht
  refine ⟨?_, (slew_leaves lag u).then (lockAfterSlew_leaves ..), fun hidx => ?_, fun hclamped => ?_,
    fun hi hf hsame => ?_⟩
  · rw [lockAfterSlew_timing (by rwa [htiming]), htiming, hlock, hloopEq]
  · have hslew := slew_appends (lag := lag) (u := u) (by omega)
    exact hslew.trans (lockAfterSlew_appends (by have := hslew.idx; omega))
  · refine postsFirst_of (u := setFreq (u.slewI lag) (u.slewF lag) u) (k := 1) hset (by rw [setFreq_timing])
      (fun hidx => ?_)
    have heq : slew lag u = postEvent causeFreqLimit 0 (wordOfInt ((u.slewF lag).tdiv 65536))
        (setFreq (u.slewI lag) (u.slewF lag) u) := by
      rw [slew_eq, if_neg (fun h => hclamped.elim (· h.1) (· h.2))]
    rw [← heq]
    exact lockAfterSlew_appends (by have := (slew_appends (lag := lag) (u := u) (by omega)).idx; omega)
  · rw [lockAfterSlew_quiet (by rwa [htiming]) (by rw [hloopEq, hsame, htiming]), slew_eq, if_pos ⟨hi, hf⟩, hset]

end Slew

end Sys2Proof.Machine
end

section
/-! PROOFS. Obligation O40, its end: moves of cabinet time, staged values, steps, and the pulse as a whole (R86, R101,
R103). -/

namespace Sys2Proof.Machine

/-! ## Moves of cabinet time (R86) -/

section Move

variable (amount : Int) (s : State)

theorem makeSchedules_keepsBut (i : Slot) (s : State) : KeepsBut [.edges] s (makeSchedules i s) := modEdges_keepsBut ..

theorem reschedule_leaves : Leaves [.nextEdge, .edges] s (reschedule s) :=
  ⟨(setNextEdge_touches 0 s _).keeps.then (eachSlot_keepsBut makeSchedules_keepsBut), .of_eq (by simp)⟩

theorem reschedule_nextEdge : (reschedule s).nextEdge = edgeAfter s.glob.edgePeriod s.timing.time := by
  unfold reschedule
  rw [(eachSlot_keepsBut makeSchedules_keepsBut).1 .nextEdge (by decide)]
  rfl

theorem voidExchange_keepsBut (i : Slot) (s : State) : KeepsBut [.ctl] s (voidExchange i s) := modCtl_keepsBut ..

theorem moveTimeTo_leaves (v : CabTime) :
    Leaves [.timing, .nextEdge, .edges, .ctl] s (moveTimeTo v amount s) :=
  (((modTiming_touches 0 s _).leaves).then (reschedule_leaves _) (rs := [.timing, .nextEdge, .edges])).then
    ⟨eachSlot_keepsBut voidExchange_keepsBut, .of_eq (by simp)⟩

theorem moveTimeTo_nextEdge (v : CabTime) : (moveTimeTo v amount s).nextEdge = edgeAfter s.glob.edgePeriod v := by
  unfold moveTimeTo
  dsimp only
  rw [(eachSlot_keepsBut voidExchange_keepsBut).1 .nextEdge (by decide), reschedule_nextEdge]
  rfl

theorem moveTime_timing : (moveTime amount s).timing =
    { s.timing with
      time := s.timing.time.move amount,
      refA := { s.timing.refA with last := s.timing.refA.last.map (fun c => c.move amount) },
      refB := { s.timing.refB with last := s.timing.refB.last.map (fun c => c.move amount) } } := moveTimeTo_timing ..

theorem moveTime_alarm : (moveTime amount s).alarm = s.alarm := (moveTimeTo_leaves amount s _).keeps.1 .alarm (by decide)

theorem moveTime_ref (r : RefId) : (moveTime amount s).timing.ref r =
    { s.timing.ref r with last := (s.timing.ref r).last.map (fun c => c.move amount) } := by
  rw [moveTime_timing]
  cases r <;> rfl

end Move

/-! ## Staged values (R101) -/

section Staged

variable {r : RefId} {n v : Nat} {d : Int} {s : State}

theorem checkSeconds_none (h : (s.timing.ref r).staged = none) : checkSeconds r n s = s := by
  unfold checkSeconds
  rw [h]

theorem checkSeconds_agrees (h : (s.timing.ref r).staged = some v) (hd : secDiff v n = 0) :
    checkSeconds r n s = modRef r (fun x => { x with staged := none }) s := by
  unfold checkSeconds
  rw [h]
  exact if_pos hd

theorem checkSeconds_differs (h : (s.timing.ref r).staged = some v) (hd : secDiff v n ≠ 0) :
    checkSeconds r n s = postEvent causeSecondsMismatch 0 (wordOfInt (limit32 (secDiff v n)))
      (moveTime (nsUnits (secDiff v n * 1000000000)) (modRef r (fun x => { x with staged := none }) s)) := by
  unfold checkSeconds
  rw [h]
  exact if_neg hd

theorem limit32_eq (x : Int) : limit32 x = max (-2147483648) (min 2147483647 x) := by
  unfold limit32
  split
  · omega
  · split <;> omega

/-- The boundary seconds count modulo 2^48, as their difference from a staged value does. -/
theorem secDiff_boundary (v : Nat) (c : CabTime) (lag offset : Int) : secDiff v (boundarySeconds c lag offset) =
    (BitVec.ofInt 48 ((v : Int) - ((c.sec * 1000000000 + c.ns : Nat) + lag - offset) / 1000000000)).toInt := by
  unfold secDiff boundarySeconds
  congr 1
  apply BitVec.eq_of_toNat_eq
  simp only [BitVec.toNat_ofInt, Config.nsPerSec, Config.secModulus]
  omega

end Staged

/-! ## Steps (R103, R106) -/

section Step

variable {lag : Int} {s : State}

theorem stepTime_leaves (lag : Int) (s : State) :
    Leaves [.timing, .nextEdge, .edges, .ctl, .alarm, .mgmt] s (stepTime lag s) :=
  (((moveTimeTo_leaves _ s _).then (setFreq_touches 0 _ _ _).leaves (rs := [.timing, .nextEdge, .edges, .ctl])).then
    (postEvent_touches 0 ..).leaves (rs := [.timing, .nextEdge, .edges, .ctl, .alarm, .mgmt])).then
    (modTiming_touches 0 _ _).leaves

theorem stepTime_timing (lag : Int) (s : State) : (stepTime lag s).timing = { (moveTime (nsUnits lag) s).timing with
    intg := s.timing.intg, freq := s.timing.intg, adj := adjOf s.timing.cfg.rounding s.timing.intg, lock := 0 } := by
  unfold stepTime
  simp [setFreq_timing, moveTime_timing]

/-- The state in which a step is reported. -/
def stepped (lag : Int) (s : State) : State := setFreq s.timing.intg s.timing.intg (moveTime (nsUnits lag) s)

theorem stepTime_eq (lag : Int) (s : State) : stepTime lag s =
    (postEvent causeTimeStep 0 (wordOfInt lag) (stepped lag s)).modTiming (fun t => { t with lock := 0 }) := rfl

theorem stepped_alarm (lag : Int) (s : State) : (stepped lag s).alarm = s.alarm :=
  (setFreq_touches 0 (moveTime (nsUnits lag) s) _ _).alarm.trans (moveTime_alarm ..)

theorem stepped_uptime (lag : Int) (s : State) : (stepped lag s).timing.uptime = s.timing.uptime := by
  rw [stepped, setFreq_timing, moveTime_timing]

theorem stepTime_alarm (lag : Int) (s : State) :
    (stepTime lag s).alarm = (postEvent causeTimeStep 0 (wordOfInt lag) (stepped lag s)).alarm := by
  rw [stepTime_eq]
  simp

theorem stepTime_nextEdge (lag : Int) (s : State) :
    (stepTime lag s).nextEdge = edgeAfter s.glob.edgePeriod (s.timing.time.move (nsUnits lag)) := by
  rw [stepTime_eq, (modTiming_touches 0 _ _).nextEdge, (postEvent_touches 0 _ _ _ _).nextEdge, stepped,
    (setFreq_touches 0 _ _ _).nextEdge, moveTime, moveTimeTo_nextEdge]
  rfl

theorem lockAfterStep_timing (hloop : s.timing.loop = .acquiring ∨ s.timing.loop = .locked) :
    (lockAfterStep lag s).timing = { s.timing with
      loop := if s.timing.cfg.lockWindow < lag.natAbs then .acquiring else s.timing.loop } := by
  unfold lockAfterStep
  by_cases hout : s.timing.cfg.lockWindow < lag.natAbs
  · rcases hloop with h | h <;> simp [h, hout, changeLoop_timing]
    rw [← h]
  · simp [hout]

theorem lockAfterStep_touches (i : Slot) : Touches [.timing, .alarm, .mgmt] i s (lockAfterStep lag s) :=
  touches_ite (changeLoop_touches ..) (.refl ..)

theorem lockAfterStep_appends (hidx : s.alarm.idx < 127) : Appends 1 s (lockAfterStep lag s) := by
  unfold lockAfterStep
  split
  · exact changeLoop_appends hidx
  · exact (Appends.of_alarm rfl).mono (by decide)

end Step

end Sys2Proof.Machine
end

section
/-! PROOFS. Obligation O40: the pulse of the selected reference as a whole (R99 to R106). -/

namespace Sys2Proof.Machine

section Process

variable {r : RefId} {c cap : CabTime} {lag : Int} {run : Nat} {s : State}

/-- The state with a pulse of the selected reference accepted. -/
def accepted (r : RefId) (cap : CabTime) (run : Nat) (s : State) : State :=
  modRef r (fun x => { x with run := run, last := some cap }) s

theorem accepted_timing : (accepted r cap run s).timing =
    s.timing.setRef r { s.timing.ref r with run := run, last := some cap } := modRef_timing ..

theorem accepted_ref : (accepted r cap run s).timing.ref r = { s.timing.ref r with run := run, last := some cap } := by
  rw [accepted_timing, ref_setRef_self]

/-- A pulse of the selected reference that is not early is accepted and processed. -/
theorem exec_selected (hcap : s.captures r = true) (hsel : s.timing.sel = refSel r)
    (hqual : (s.timing.ref r).qualified = true) (hlast : (s.timing.ref r).last = some c)
    (hc : cap = { s.timing.time with frac := 0 }) (hgap : 999000000 * 4294967296 ≤ cap.diff c)
    (hrun : run = if cap.diff c ≤ 1001000000 * 4294967296 then Nat.min 15 ((s.timing.ref r).run + 1) else 1) :
    exec (.referencePulse r) s = .next (processPulse r cap (accepted r cap run s)) := by
  have haccept (n : Nat) : acceptPulse r cap n s = processPulse r cap (accepted r cap n s) := by
    unfold acceptPulse
    dsimp only
    rw [if_pos hsel, if_neg (by simp [hqual])]
    rfl
  rw [exec_pulse hcap, ← haccept, hrun]
  by_cases hto : cap.diff c ≤ 1001000000 * 4294967296
  · rw [judgePulse_inWindow hlast hc hgap hto, if_pos hto]
  · rw [judgePulse_late hlast hc (by omega), if_neg hto]

/-- The parts of the loop that a slew reads are the same in two states. -/
def SameFilter (s u : State) : Prop :=
  u.timing.cfg = s.timing.cfg ∧ u.timing.intg = s.timing.intg ∧ u.timing.lock = s.timing.lock ∧
  u.timing.loop = s.timing.loop

theorem slew_same {u : State} (h : SameFilter s u) : u.slewI0 lag = s.slewI0 lag ∧ u.slewI lag = s.slewI lag ∧
    u.slewF0 lag = s.slewF0 lag ∧ u.slewF lag = s.slewF lag ∧ u.slewLock lag = s.slewLock lag ∧
    u.slewLoop lag = s.slewLoop lag := by
  obtain ⟨hcfg, hintg, hlock, hloop⟩ := h
  have hi0 : u.slewI0 lag = s.slewI0 lag := by simp only [State.slewI0, hcfg, hintg]
  have hbound : u.bound = s.bound := by simp only [State.bound, hcfg]
  have hi : u.slewI lag = s.slewI lag := by simp only [State.slewI, hi0, hbound]
  have hf0 : u.slewF0 lag = s.slewF0 lag := by simp only [State.slewF0, hcfg, hi]
  have hl : u.slewLock lag = s.slewLock lag := by simp only [State.slewLock, hcfg, hlock]
  exact ⟨hi0, hi, hf0, by simp only [State.slewF, hf0, hbound], hl, by simp only [State.slewLoop, hcfg, hl, hloop]⟩

theorem accepted_sameFilter : SameFilter s (accepted r cap run s) := by
  unfold SameFilter
  rw [accepted_timing]
  cases r <;> exact ⟨rfl, rfl, rfl, rfl⟩

theorem processPulse_eq (hlag : lag = lagOf (s.timing.ref r).cfg.offset cap.ns) :
    processPulse r cap (accepted r cap run s) =
      if s.timing.steps lag then lockAfterStep lag (stepTime lag
          (checkSeconds r (boundarySeconds cap lag (s.timing.ref r).cfg.offset) (accepted r cap run s)))
      else lockAfterSlew lag (slew lag
          (checkSeconds r (boundarySeconds cap lag (s.timing.ref r).cfg.offset) (accepted r cap run s))) := by
  have hsteps : (accepted r cap run s).timing.steps lag = s.timing.steps lag := by
    obtain ⟨hcfg, -, -, hloop⟩ := accepted_sameFilter (r := r) (cap := cap) (run := run) (s := s)
    unfold Timing.steps
    rw [hcfg, hloop]
  have hoffset : ((accepted r cap run s).timing.ref r).cfg.offset = (s.timing.ref r).cfg.offset := by rw [accepted_ref]
  unfold processPulse
  dsimp only
  rw [hoffset, ← hlag, hsteps]

theorem steps_false (h : lag.natAbs ≤ s.timing.cfg.stepThreshold ∨
    (s.timing.loop = .locked ∧ s.timing.cfg.stepInLock = false)) : s.timing.steps lag = false := by
  unfold Timing.steps
  rcases h with h | ⟨hloop, hno⟩
  · rw [decide_eq_false (Nat.not_lt.mpr h)]
    rfl
  · simp [hloop, hno]

theorem steps_true (hlag : s.timing.cfg.stepThreshold < lag.natAbs)
    (hloop : s.timing.loop = .acquiring ∨ s.timing.loop = .locked)
    (h : s.timing.loop = .acquiring ∨ s.timing.cfg.stepInLock = true) : s.timing.steps lag = true := by
  unfold Timing.steps
  rcases hloop with hl | hl <;> simp_all

/-- The state of an accepted pulse with the staged value gone. -/
def unstaged (r : RefId) (cap : CabTime) (run : Nat) (s : State) : State :=
  modRef r (fun x => { x with staged := none }) (accepted r cap run s)

theorem unstaged_timing : (unstaged r cap run s).timing =
    s.timing.setRef r { s.timing.ref r with run := run, last := some cap, staged := none } := by
  rw [unstaged, modRef_timing, accepted_ref, accepted_timing, setRef_setRef]

theorem unstaged_touches (i : Slot) : Touches [.timing] i s (unstaged r cap run s) :=
  (modRef_touches i s r _).then (modRef_touches i _ r _)

/-- What the comparison of a staged value leaves: it is gone, and cabinet time is moved where it differs. -/
theorem corrected_leaves {v n : Nat} {d : Int} {u : State} (hstaged : (s.timing.ref r).staged = some v)
    (hd : d = secDiff v n) (hu : u = checkSeconds r n (accepted r cap run s)) :
    SameFilter s u ∧ (u.timing.ref r).staged = none ∧
    u.timing.time = (if d = 0 then s.timing.time else s.timing.time.move (d * 1000000000 * 4294967296)) ∧
    u.timing.sel = s.timing.sel ∧ Leaves [.timing, .nextEdge, .edges, .ctl, .alarm, .mgmt] s u ∧
    (d ≠ 0 → ∃ w : State, w.alarm = s.alarm ∧ w.timing.uptime = s.timing.uptime ∧
      u = postEvent causeSecondsMismatch 0 (wordOfInt (max (-2147483648) (min 2147483647 d))) w) := by
  have hstagedHere : ((accepted r cap run s).timing.ref r).staged = some v := by rw [accepted_ref, hstaged]
  have htouch := unstaged_touches (r := r) (cap := cap) (run := run) (s := s) 0
  have htimingB := unstaged_timing (r := r) (cap := cap) (run := run) (s := s)
  by_cases hzero : d = 0
  · rw [checkSeconds_agrees hstagedHere (hd ▸ hzero)] at hu
    have hu : u = unstaged r cap run s := hu
    rw [hu, if_pos hzero, SameFilter, htimingB]
    exact ⟨by cases r <;> exact ⟨rfl, rfl, rfl, rfl⟩, by rw [ref_setRef_self], by cases r <;> rfl, by cases r <;> rfl,
      htouch.leaves.mono, fun h => absurd hzero h⟩
  · rw [checkSeconds_differs hstagedHere (hd ▸ hzero), ← hd, limit32_eq] at hu
    have hu : u = postEvent causeSecondsMismatch 0 (wordOfInt (max (-2147483648) (min 2147483647 d)))
      (moveTime (nsUnits (d * 1000000000)) (unstaged r cap run s)) := hu
    have hmove : Leaves [.timing, .nextEdge, .edges, .ctl] (unstaged r cap run s)
      (moveTime (nsUnits (d * 1000000000)) (unstaged r cap run s)) := moveTimeTo_leaves ..
    have htiming : u.timing = (moveTime (nsUnits (d * 1000000000)) (unstaged r cap run s)).timing := by
      rw [hu, (postEvent_touches 0 _ _ _ _).timing]
    have hleaves : Leaves [.timing, .nextEdge, .edges, .ctl, .alarm, .mgmt] s u := by
      rw [hu]
      exact (htouch.leaves.then hmove (rs := [.timing, .nextEdge, .edges, .ctl])).then (postEvent_touches 0 ..).leaves
    rw [moveTime_timing, htimingB] at htiming
    refine ⟨?_, ?_, ?_, ?_, hleaves, fun _ => ⟨_, (moveTime_alarm ..).trans htouch.alarm, ?_, hu⟩⟩
    · rw [SameFilter, htiming]
      cases r <;> exact ⟨rfl, rfl, rfl, rfl⟩
    · rw [htiming]
      cases r <;> rfl
    · rw [htiming, if_neg hzero]
      cases r <;> rfl
    · rw [htiming]
      cases r <;> rfl
    · rw [moveTime_timing, htimingB]
      cases r <;> rfl

/-! ## The three ways of a processed pulse -/

variable (hexec : exec (.referencePulse r) s = .next (processPulse r cap (accepted r cap run s)))
  (hlag : lag = lagOf (s.timing.ref r).cfg.offset cap.ns)
  (hloop : s.timing.loop = .acquiring ∨ s.timing.loop = .locked)

include hexec hlag hloop

/-- A slew without a staged value. -/
theorem pulse_slews (hno : s.timing.steps lag = false) (hstaged : (s.timing.ref r).staged = none) :
    ∃ t, exec (.referencePulse r) s = .next t ∧
      t.timing = { s.timing.setRef r { s.timing.ref r with run := run, last := some cap } with
        intg := s.slewI lag, freq := s.slewF lag, adj := adjOf s.timing.cfg.rounding (s.slewF lag),
        lock := s.slewLock lag, loop := s.slewLoop lag } ∧
      (s.slewI lag ≠ s.slewI0 lag ∨ s.slewF lag ≠ s.slewF0 lag →
        PostsFirst causeFreqLimit 0 (wordOfInt ((s.slewF lag).tdiv 65536)) s t) ∧
      (s.slewI lag = s.slewI0 lag → s.slewF lag = s.slewF0 lag → s.slewLoop lag = s.timing.loop → t.alarm = s.alarm) ∧
      KeepsBut [.timing, .alarm, .mgmt] s t ∧ OnlyReplies s t := by
  have hfilter := accepted_sameFilter (r := r) (cap := cap) (run := run) (s := s)
  have haccept : Touches [.timing] 0 s (accepted r cap run s) := modRef_touches ..
  obtain ⟨hi0, hi, hf0, hf, hl, hll⟩ := slew_same (lag := lag) hfilter
  obtain ⟨hcfg, -, -, hloopEq⟩ := hfilter
  obtain ⟨htiming, hleaves, -, hposts, hquiet⟩ :=
    slewed_leaves (u := accepted r cap run s) (lag := lag) (by rwa [hloopEq]) rfl
  have hall : Leaves [.timing, .alarm, .mgmt] s (lockAfterSlew lag (slew lag (accepted r cap run s))) :=
    haccept.leaves.then hleaves
  have hprocess : processPulse r cap (accepted r cap run s) = lockAfterSlew lag (slew lag (accepted r cap run s)) := by
    rw [processPulse_eq hlag, hno, checkSeconds_none (by rw [accepted_ref, hstaged])]
    rfl
  rw [hi0, hi, hf0, hf] at hposts hquiet
  refine ⟨_, hprocess ▸ hexec, ?_, fun hclamped => ?_, fun heq hfeq hsame => ?_, hall.keeps, hall.replies⟩
  · rw [htiming, hi, hf, hl, hll, hcfg, accepted_timing]
  · have hpost := hposts hclamped
    unfold PostsFirst NotHeldOff State.cause at hpost ⊢
    rwa [haccept.alarm, show (accepted r cap run s).timing.uptime = s.timing.uptime by
      rw [accepted_timing]; cases r <;> rfl] at hpost
  · rw [hquiet heq hfeq (by rw [hll, hsame, hloopEq]), haccept.alarm]

/-- A slew after a staged value is compared. -/
theorem pulse_corrects {v : Nat} {d : Int} (hno : s.timing.steps lag = false) (hstaged : (s.timing.ref r).staged = some v)
    (hd : d = secDiff v (boundarySeconds cap lag (s.timing.ref r).cfg.offset)) :
    ∃ t, exec (.referencePulse r) s = .next t ∧ (t.timing.ref r).staged = none ∧
      t.timing.time = (if d = 0 then s.timing.time else s.timing.time.move (d * 1000000000 * 4294967296)) ∧
      t.timing.intg = s.slewI lag ∧ t.timing.freq = s.slewF lag ∧
      t.timing.adj = adjOf s.timing.cfg.rounding (s.slewF lag) ∧
      t.timing.lock = s.slewLock lag ∧ t.timing.loop = s.slewLoop lag ∧ t.timing.sel = s.timing.sel ∧
      (d ≠ 0 → PostsFirst causeSecondsMismatch 0 (wordOfInt (max (-2147483648) (min 2147483647 d))) s t) ∧
      KeepsBut [.timing, .nextEdge, .edges, .ctl, .alarm, .mgmt] s t ∧ OnlyReplies s t := by
  obtain ⟨u, hu⟩ : ∃ u, u = checkSeconds r (boundarySeconds cap lag (s.timing.ref r).cfg.offset) (accepted r cap run s) :=
    ⟨_, rfl⟩
  have hprocess : processPulse r cap (accepted r cap run s) = lockAfterSlew lag (slew lag u) := by
    rw [processPulse_eq hlag, hno, hu]
    rfl
  obtain ⟨hfilter, hgone, htime, hsel, hleavesU, hpostU⟩ := corrected_leaves hstaged hd hu
  obtain ⟨-, hi, -, hf, hl, hll⟩ := slew_same (lag := lag) hfilter
  obtain ⟨hcfg, -, -, hloopEq⟩ := hfilter
  obtain ⟨htiming, hleaves, happends, -⟩ := slewed_leaves (u := u) (lag := lag) (by rwa [hloopEq]) rfl
  have hall : Leaves [.timing, .nextEdge, .edges, .ctl, .alarm, .mgmt] s (lockAfterSlew lag (slew lag u)) :=
    hleavesU.then hleaves
  rw [hi, hf, hl, hll, hcfg] at htiming
  refine ⟨_, hprocess ▸ hexec, ?_, ?_, ?_, ?_, ?_, ?_, ?_, ?_, fun hne => ?_, hall.keeps, hall.replies⟩
  · rw [htiming]
    cases r <;> exact hgone
  · rw [htiming]
    exact htime
  · rw [htiming]
  · rw [htiming]
  · rw [htiming]
  · rw [htiming]
  · rw [htiming]
  · rw [htiming]
    exact hsel
  · obtain ⟨w, halarm, huptime, rfl⟩ := hpostU hne
    exact postsFirst_of halarm huptime (fun hidx => happends (by
      have := (postEvent_appends (c := causeSecondsMismatch) (n := 0)
        (w := wordOfInt (max (-2147483648) (min 2147483647 d))) (s := w) (by rw [halarm]; omega)).idx
      rw [halarm] at this
      omega))

/-- A step. -/
theorem pulse_steps (hyes : s.timing.steps lag = true) (hstaged : (s.timing.ref r).staged = none) :
    ∃ t, exec (.referencePulse r) s = .next t ∧
      t.timing.time = s.timing.time.move (lag * 4294967296) ∧ t.timing.intg = s.timing.intg ∧
      t.timing.freq = s.timing.intg ∧ t.timing.adj = adjOf s.timing.cfg.rounding s.timing.intg ∧
      t.timing.lock = 0 ∧ t.timing.sel = s.timing.sel ∧
      t.timing.loop = (if s.timing.cfg.lockWindow < lag.natAbs then .acquiring else s.timing.loop) ∧
      (t.timing.ref r).last = some (cap.move (lag * 4294967296)) ∧
      (∀ x, x ≠ r → (t.timing.ref x).last = (s.timing.ref x).last.map (·.move (lag * 4294967296))) ∧
      t.nextEdge = edgeAfter s.glob.edgePeriod t.timing.time ∧ PostsFirst causeTimeStep 0 (wordOfInt lag) s t ∧
      KeepsBut [.timing, .nextEdge, .edges, .ctl, .alarm, .mgmt] s t ∧ OnlyReplies s t := by
  have haccept : Touches [.timing] 0 s (accepted r cap run s) := modRef_touches ..
  obtain ⟨u, hu⟩ : ∃ u, u = stepTime lag (accepted r cap run s) := ⟨_, rfl⟩
  have hutiming : u.timing = { (moveTime (nsUnits lag) (accepted r cap run s)).timing with
      intg := s.timing.intg, freq := s.timing.intg, adj := adjOf s.timing.cfg.rounding s.timing.intg, lock := 0 } := by
    obtain ⟨hcfg, hintg, -, -⟩ := accepted_sameFilter (r := r) (cap := cap) (run := run) (s := s)
    rw [hu, stepTime_timing, hcfg, hintg]
  have hmoved := moveTime_timing (nsUnits lag) (accepted r cap run s)
  have hfields : u.timing.time = s.timing.time.move (lag * 4294967296) ∧ u.timing.sel = s.timing.sel ∧
      u.timing.loop = s.timing.loop ∧ u.timing.cfg = s.timing.cfg := by
    rw [hutiming, hmoved, accepted_timing]
    cases r <;> exact ⟨rfl, rfl, rfl, rfl⟩
  obtain ⟨htime, hsel, hloopEq, hcfg⟩ := hfields
  have href (x : RefId) : (u.timing.ref x).last =
      ((accepted r cap run s).timing.ref x).last.map (·.move (lag * 4294967296)) := by
    have hshift := moveTime_ref (nsUnits lag) (accepted r cap run s) x
    rw [hutiming]
    cases x <;> exact congrArg Reference.last hshift
  have hend : (lockAfterStep lag u).timing = { u.timing with
      loop := if s.timing.cfg.lockWindow < lag.natAbs then .acquiring else s.timing.loop } := by
    rw [lockAfterStep_timing (by rwa [hloopEq]), hcfg, hloopEq]
  have hendTouch : Touches [.timing, .alarm, .mgmt] 0 u (lockAfterStep lag u) := lockAfterStep_touches 0
  have hall : Leaves [.timing, .nextEdge, .edges, .ctl, .alarm, .mgmt] s (lockAfterStep lag u) := by
    have hstep := stepTime_leaves lag (accepted r cap run s)
    rw [← hu] at hstep
    exact (haccept.leaves.then hstep (rs := [.timing, .nextEdge, .edges, .ctl, .alarm, .mgmt])).then hendTouch.leaves
  have hprocess : processPulse r cap (accepted r cap run s) = lockAfterStep lag u := by
    rw [processPulse_eq hlag, hyes, checkSeconds_none (by rw [accepted_ref, hstaged]), hu]
    rfl
  refine ⟨_, hprocess ▸ hexec, ?_, ?_, ?_, ?_, ?_, ?_, ?_, ?_, fun x hx => ?_, ?_, ?_, hall.keeps, hall.replies⟩
  · rw [hend]
    exact htime
  · rw [hend, hutiming]
  · rw [hend, hutiming]
  · rw [hend, hutiming]
  · rw [hend, hutiming]
  · rw [hend]
    exact hsel
  · rw [hend]
  · rw [hend]
    refine Eq.trans (b := (u.timing.ref r).last) (by cases r <;> rfl) ?_
    rw [href, accepted_ref]
    rfl
  · rw [hend]
    refine Eq.trans (b := (u.timing.ref x).last) (by cases x <;> rfl) ?_
    rw [href, accepted_timing, timing_ref_setRef, if_neg hx]
  · have htimeHere : (accepted r cap run s).timing.time = s.timing.time := by
      rw [accepted_timing]
      cases r <;> rfl
    rw [hendTouch.nextEdge, hend, hu, stepTime_nextEdge, htimeHere, haccept.glob, ← hu]
    exact congrArg (edgeAfter s.glob.edgePeriod) htime.symm
  · have huptime : (accepted r cap run s).timing.uptime = s.timing.uptime := by
      rw [accepted_timing]
      cases r <;> rfl
    refine postsFirst_of ((stepped_alarm lag _).trans haccept.alarm) ((stepped_uptime lag _).trans huptime) (k := 1)
      (fun hidx => ?_)
    have halarm : (stepped lag (accepted r cap run s)).alarm = s.alarm := (stepped_alarm lag _).trans haccept.alarm
    have hposted := (postEvent_appends (c := causeTimeStep) (n := 0) (w := wordOfInt lag)
      (s := stepped lag (accepted r cap run s)) (by rw [halarm]; omega)).idx
    have hsame := stepTime_alarm lag (accepted r cap run s)
    rw [halarm] at hposted
    rw [← hu] at hsame
    exact (Appends.of_alarm hsame).trans (lockAfterStep_appends (by rw [hsame]; omega))

end Process

/-- Settles O40, by the slew, the correction and the step of an accepted pulse of the selected reference. -/
theorem slewFollowsTheLag : Obligations.SlewFollowsTheLag := by
  unfold Obligations.SlewFollowsTheLag
  rintro r c cap b lag i0 i1 f0 f1 lock run loop s hcap hsel hqual hlast hloop hc hgap hrun hlag rfl rfl rfl rfl rfl rfl rfl
  have hexec := exec_selected hcap hsel hqual hlast hc hgap hrun
  have hlag' : lag = lagOf (s.timing.ref r).cfg.offset cap.ns := by rw [hlag, hc]
  refine ⟨fun hslew => ⟨fun hnone => ?_, fun v d hstaged hd => ?_⟩, fun hfar hstep hnone => ?_⟩
  · exact pulse_slews hexec hlag' hloop (steps_false hslew) hnone
  · refine pulse_corrects hexec hlag' hloop (steps_false hslew) hstaged ?_
    rw [hd, secDiff_boundary, hc]
  · exact pulse_steps hexec hlag' hloop (steps_true hfar hloop hstep) hnone

end Sys2Proof.Machine
end

section
/-! PROOFS. Requests that have no effect but their reply: reads of tables and of copies (R73, R173 to R175). -/

namespace Sys2Proof.Machine

/-! ## READ-ENTRIES (R174, R175) -/

section Reads

variable {table entries : Nat} {c : Instr} {image : Nat → List Word} {r : Request} {rest : List Request} {s u : State}

/-- The command of a table is the service of its row by the read of that table. -/
theorem readRow_exec (h : (table, c, entries, image) ∈ readRows u) : ∃ (e : State → Nat) (im : State → Nat → List Word),
    (∀ s, exec c s = .next (serve (.read table) (fun r s => readTable (e s) (im s) r s) s)) ∧ e u = entries ∧
    im u = image ∧ 1 ≤ table ∧ table ≤ 13 := by
  simp only [readRows, List.mem_cons, List.not_mem_nil, or_false, Prod.mk.injEq] at h
  rcases h with ⟨rfl, rfl, rfl, rfl⟩ | ⟨rfl, rfl, rfl, rfl⟩ | ⟨rfl, rfl, rfl, rfl⟩ | ⟨rfl, rfl, rfl, rfl⟩ |
    ⟨rfl, rfl, rfl, rfl⟩ | ⟨rfl, rfl, rfl, rfl⟩ | ⟨rfl, rfl, rfl, rfl⟩ | ⟨rfl, rfl, rfl, rfl⟩ | ⟨rfl, rfl, rfl, rfl⟩ |
    ⟨rfl, rfl, rfl, rfl⟩ | ⟨rfl, rfl, rfl, rfl⟩ | ⟨rfl, rfl, rfl, rfl⟩ | ⟨rfl, rfl, rfl, rfl⟩
  · exact ⟨fun _ => 16, fun s k => (s.slot (Fin.ofNat 16 k)).cfg.words, fun _ => rfl, rfl, rfl, by decide⟩
  · exact ⟨fun _ => 1024, fun s k => (s.flowAt k).words, fun _ => rfl, rfl, rfl, by decide⟩
  · exact ⟨fun _ => 64, fun s k => (s.park.areas[Fin.ofNat 64 k]).words, fun _ => rfl, rfl, rfl, by decide⟩
  · exact ⟨fun _ => 32, fun s k => (s.watches[Fin.ofNat 32 k]).words (s.isRaised causeWatch k), fun _ => rfl, rfl, rfl,
      by decide⟩
  · exact ⟨fun _ => 64, fun s k => (s.chain.table[Fin.ofNat 64 k]).words, fun _ => rfl, rfl, rfl, by decide⟩
  · exact ⟨fun _ => 64, fun s k => (s.cause (Fin.ofNat 64 k)).words (s.raisedMap (Fin.ofNat 64 k)), fun _ => rfl, rfl,
      rfl, by decide⟩
  · exact ⟨fun _ => 1, fun s _ => s.glob.words, fun _ => rfl, rfl, rfl, by decide⟩
  · exact ⟨fun _ => 3, fun s => s.timing.record, fun _ => rfl, rfl, rfl, by decide⟩
  · exact ⟨fun _ => 128, State.alarmWords, fun _ => rfl, rfl, rfl, by decide⟩
  · exact ⟨fun s => s.glob.logSize, State.logWords, fun _ => rfl, rfl, rfl, by decide⟩
  · exact ⟨fun _ => 16, fun s k => s.slotStatus (Fin.ofNat 16 k), fun _ => rfl, rfl, rfl, by decide⟩
  · exact ⟨fun _ => 1, fun s _ => s.timingStatus, fun _ => rfl, rfl, rfl, by decide⟩
  · exact ⟨fun _ => 1, fun s _ => s.fabricStatus, fun _ => rfl, rfl, rfl, by decide⟩

theorem row_eq_read (hne : r.words ≠ []) (hcode : r.code = 1) (hfrom : 1 ≤ r.subject) (hto : r.subject ≤ 13) :
    r.row = some (.read r.subject) := by
  simp [Request.row, hne, hcode, hfrom, hto]

theorem badIndex_false (h : r.count = 0 ∨ r.first + r.count ≤ entries) : r.badIndex entries = false := by
  unfold Request.badIndex
  rcases h with h | h
  · simp [h]
  · rw [Bool.and_eq_false_iff, Bool.or_eq_false_iff]
    by_cases hzero : r.count = 0
    · exact .inl (by simp [hzero])
    · exact .inr ⟨decide_eq_false (by omega), decide_eq_false (by omega)⟩

theorem badIndex_true (hsome : 0 < r.count) (h : entries < r.first + r.count) : r.badIndex entries = true := by
  unfold Request.badIndex
  simp [hsome, h]

variable (hread : r.code = 1) (hlen : r.words.length = 3)

include hread hlen

theorem readTable_done (hin : r.count = 0 ∨ r.first + r.count ≤ entries)
    (hfits : ((List.range r.count).flatMap (fun k => image (r.first + k))).length ≤ 254) :
    readTable entries image r u =
      { status := .done, data := (List.range r.count).flatMap (fun k => image (r.first + k)), state := u } := by
  unfold readTable
  rw [if_neg (by omega), if_neg (by omega), if_neg (by rw [badIndex_false hin]; decide)]
  exact if_neg (Nat.not_lt.mpr hfits)

theorem readTable_badValue (hin : r.count = 0 ∨ r.first + r.count ≤ entries)
    (hlong : 254 < ((List.range r.count).flatMap (fun k => image (r.first + k))).length) :
    readTable entries image r u = refuse .badValue u := by
  unfold readTable
  rw [if_neg (by omega), if_neg (by omega), if_neg (by rw [badIndex_false hin]; decide)]
  exact if_pos hlong

theorem readTable_badIndex (hsome : 0 < r.count) (hout : entries < r.first + r.count) :
    readTable entries image r u = refuse .badIndex u := by
  unfold readTable
  rw [if_neg (by omega), if_neg (by omega), if_pos (badIndex_true hsome hout)]

end Reads

/-- A service of its row that answers and leaves the state as it finds it. -/
theorem answers_only {c : Instr} {row : ReqRow} {f : Request → State → Served} {r : Request} {rest : List Request}
    {st : Status} {data : List Word} {s : State} (hexec : exec c s = .next (serve row f s)) (h : Servable s r rest)
    (hrow : r.row = some row)
    (hf : f r (takeRequest rest s) = { status := st, data := data, state := takeRequest rest s }) :
    ∃ t, exec c s = .next t ∧ OnlyAnswered r rest st data s t := by
  have hserved := serve_onlyAnswered h hrow (congrArg Served.state hf)
  rw [hf] at hserved
  exact ⟨_, hexec, hserved⟩

/-- Settles O50, by the reads of the thirteen tables. -/
theorem readsAnswerImages : Obligations.ReadsAnswerImages := by
  unfold Obligations.ReadsAnswerImages
  rintro table entries c image data r rest s hmem hs hlen hcode rfl rfl
  obtain ⟨e, im, hexec, he, him, hfrom, hto⟩ := readRow_exec hmem
  have hrow := row_eq_read (List.ne_nil_of_length_pos (by omega)) hcode hfrom hto
  refine ⟨fun hin hfits => ?_, fun hin hlong => ?_, fun hsome hout => ?_⟩
  · exact answers_only (hexec s) hs hrow (by rw [he, him]; exact readTable_done hcode hlen hin hfits)
  · exact answers_only (hexec s) hs hrow (by rw [he, him]; exact readTable_badValue hcode hlen hin hlong)
  · exact answers_only (hexec s) hs hrow (by rw [he, him]; exact readTable_badIndex hcode hlen hsome hout)

/-! ## READ-LATEST (R73) -/

section Latest

variable {r : Request} {s : State}

theorem row_eq_readLatest (hlen : r.words.length = 3) (hcode : r.code = 4) : r.row = some .readLatest := by
  have hne : r.words ≠ [] := List.ne_nil_of_length_pos (by omega)
  simp [Request.row, hne, hcode]

/-- The words of the readable copy that a READ-LATEST answers. -/
def State.latestWords (s : State) (a : Area) (from_ : Nat) : List Word :=
  match a.readable with
  | none => []
  | some half => ((s.copyWords a half).drop from_).take 248

variable (hlen : r.words.length = 3)

include hlen

theorem readLatestCopy_badIndex (h : 63 < r.first) : readLatestCopy r s = refuse .badIndex s := by
  unfold readLatestCopy
  rw [if_neg (by omega), dif_neg (by omega)]

theorem readLatestCopy_badValue {n : Fin 64} (hn : r.first = n.val) (h : 255 < r.count) :
    readLatestCopy r s = refuse .badValue s := by
  unfold readLatestCopy
  rw [if_neg (by omega), dif_pos (by omega), if_pos h]

theorem readLatestCopy_wrongState {n : Fin 64} (hn : r.first = n.val) (h : r.count ≤ 255)
    (hmode : s.park.areas[n].mode ≠ .latest) : readLatestCopy r s = refuse .wrongState s := by
  unfold readLatestCopy
  rw [if_neg (by omega), dif_pos (by omega), if_neg (by omega)]
  refine if_pos ?_
  simp only [hn]
  exact hmode

theorem readLatestCopy_done {n : Fin 64} {a : Area} (hn : r.first = n.val) (h : r.count ≤ 255)
    (ha : a = s.park.areas[n]) (hmode : a.mode = .latest) : readLatestCopy r s =
      { status := .done,
        data := [(match a.readable with | none => 3 | some false => 0 | some true => 1), wordOf a.copies,
          wordOf (a.doneSec / 4294967296), wordOf a.doneSec, wordOf a.doneNs,
          wordOf (s.latestWords a r.count).length] ++ s.latestWords a r.count,
        state := s } := by
  have hget (hlt : r.first < 64) : s.park.areas[r.first] = a := by
    rw [ha]
    simp only [hn, Fin.getElem_fin]
  unfold readLatestCopy
  rw [if_neg (by omega), dif_pos (by omega), if_neg (by omega)]
  simp only [hget]
  rw [if_neg (by rw [hmode]; exact fun hne => hne rfl)]
  unfold State.latestWords
  cases hreadable : a.readable with
  | none => rfl
  | some half => cases half <;> rfl

end Latest

theorem latestWords_spec {s : State} {a : Area} {k : Nat} {half : Bool} {start size : Nat}
    (hreadable : a.readable = some half) (hstart : start = if half then a.base + a.size else a.base)
    (hsize : size = Nat.min (landingLen (parkRead s.park.mem start) + 1) a.size) :
    (s.latestWords a k).length = Nat.min (size - k) 248 ∧
    ∀ j, j < (s.latestWords a k).length → (s.latestWords a k).getD j 0 = parkRead s.park.mem (start + k + j) := by
  have hcopy : s.latestWords a k = ((parkReadN s.park.mem start size).drop k).take 248 := by
    unfold State.latestWords State.copyWords Area.halfStart
    rw [hreadable]
    dsimp only
    rw [hsize, hstart]
  have hlen : (s.latestWords a k).length = Nat.min (size - k) 248 := by
    rw [hcopy, List.length_take, List.length_drop, parkReadN_length, Nat.min_comm]
  refine ⟨hlen, fun j hj => ?_⟩
  have hbound : j < Nat.min (size - k) 248 := hlen ▸ hj
  have hsmall : j < 248 := Nat.lt_of_lt_of_le hbound (Nat.min_le_right ..)
  have hleft : j < size - k := Nat.lt_of_lt_of_le hbound (Nat.min_le_left ..)
  rw [hcopy, List.getD_eq_getElem?_getD, List.getElem?_take_of_lt hsmall, List.getElem?_drop,
    ← List.getD_eq_getElem?_getD, parkReadN_getD _ _ (by omega), Nat.add_assoc]

/-- Settles O52, by the cases of READ-LATEST. -/
theorem readLatestAnswers : Obligations.ReadLatestAnswers := by
  unfold Obligations.ReadLatestAnswers
  intro r rest s hs hlen hcode
  have hrow := row_eq_readLatest hlen hcode
  have hpark : (takeRequest rest s).park = s.park := by simp [takeRequest]
  refine ⟨fun h => answers_only rfl hs hrow (readLatestCopy_badIndex hlen h), fun n hn => ⟨fun h => ?_, fun h hmode => ?_,
    fun h hmode => ?_⟩⟩
  · exact answers_only rfl hs hrow (readLatestCopy_badValue hlen hn h)
  · exact answers_only rfl hs hrow (readLatestCopy_wrongState hlen hn h (by rwa [hpark]))
  · obtain ⟨t, hexec, honly⟩ := answers_only (c := .readLatest) rfl hs hrow
      (readLatestCopy_done (n := n) (s := takeRequest rest s) hlen hn h rfl (by rwa [hpark]))
    have hwords : (takeRequest rest s).latestWords s.park.areas[n] r.count = s.latestWords s.park.areas[n] r.count := by
      unfold State.latestWords State.copyWords
      rw [hpark]
    rw [hpark, hwords] at honly
    refine ⟨t, s.latestWords s.park.areas[n] r.count, hexec, honly, fun hnone => ?_, fun half start size hr hst hsz => ?_⟩
    · unfold State.latestWords
      rw [hnone]
    · exact latestWords_spec hr hst hsz

end Sys2Proof.Machine
end

section
/-! PROOFS. Obligation O53: a refused WRITE-ENTRIES has no effect but its reply (R125, R166, R174). -/

namespace Sys2Proof.Machine

/-! ## WRITE-ENTRIES (R174, R175) -/

section Writes

variable {table : Nat} {c : Instr} {w : WriteTable} {r : Request} {rest : List Request} {s : State}

/-- The command of a writable table is the service of its row by the write of that table; taking a request is no concern
of its check of state. -/
theorem writeRow_exec (h : (table, c, w) ∈ writeRows) : (∀ s, exec c s = .next (serve (.write table) (writeTable w) s)) ∧
    1 ≤ table ∧ table ≤ 8 ∧ ∀ rest s, w.allowed (takeRequest rest s) = w.allowed s := by
  simp only [writeRows, List.mem_cons, List.not_mem_nil, or_false, Prod.mk.injEq] at h
  rcases h with ⟨rfl, rfl, rfl⟩ | ⟨rfl, rfl, rfl⟩ | ⟨rfl, rfl, rfl⟩ | ⟨rfl, rfl, rfl⟩ | ⟨rfl, rfl, rfl⟩ |
    ⟨rfl, rfl, rfl⟩ | ⟨rfl, rfl, rfl⟩ | ⟨rfl, rfl, rfl⟩
  all_goals exact ⟨fun _ => rfl, by decide, by decide, fun _ _ => rfl⟩

theorem row_eq_write (hne : r.words ≠ []) (hcode : r.code = 2) (hfrom : 1 ≤ r.subject) (hto : r.subject ≤ 8) :
    r.row = some (.write r.subject) := by
  simp [Request.row, hne, hcode, hfrom, hto]

/-- A write of a table that is only read belongs to that table's row. -/
theorem row_eq_readOnly (hne : r.words ≠ []) (hcode : r.code = 2) (hfrom : 9 ≤ r.subject) (hto : r.subject ≤ 13) :
    r.row = some (.read r.subject) := by
  have habove : ¬ (1 ≤ r.subject ∧ r.subject ≤ 8) := by omega
  simp [Request.row, hne, hcode, habove, hfrom, hto]

theorem row_none_of_noTable (hcode : r.code = 2) (h : r.subject = 0 ∨ 13 < r.subject) : r.row = none := by
  have hread : ¬ (9 ≤ r.subject ∧ r.subject ≤ 13) := by omega
  have hwrite : ¬ (1 ≤ r.subject ∧ r.subject ≤ 8) := by omega
  simp [Request.row, hcode, hread, hwrite]

theorem writeTable_badIndex (hsome : 0 < r.count) (hout : w.entries < r.first + r.count) :
    writeTable w r s = refuse .badIndex s := if_pos (badIndex_true hsome hout)

variable (hin : r.count = 0 ∨ r.first + r.count ≤ w.entries)

include hin

theorem writeTable_badRequest (hlen : r.words.length ≠ 3 + imagesLength w.size r.first r.count) :
    writeTable w r s = refuse .badRequest s := by
  unfold writeTable
  rw [if_neg (by rw [badIndex_false hin]; decide), if_pos hlen]

variable (hlen : r.words.length = 3 + imagesLength w.size r.first r.count)

include hlen

theorem writeTable_badValue {k : Nat}
    (hbad : firstRefused w.ok (splitImages w.size r.first r.count (r.words.drop 3)) = some k) :
    writeTable w r s = refuseAt .badValue k s := by
  unfold writeTable
  rw [if_neg (by rw [badIndex_false hin]; decide), if_neg (not_not_intro hlen)]
  dsimp only
  rw [hbad]

variable (hvalid : firstRefused w.ok (splitImages w.size r.first r.count (r.words.drop 3)) = none)

include hvalid

theorem writeTable_wrongState {k : Nat}
    (hbad : firstRefused (w.allowed s) (splitImages w.size r.first r.count (r.words.drop 3)) = some k) :
    writeTable w r s = refuseAt .wrongState k s := by
  unfold writeTable
  rw [if_neg (by rw [badIndex_false hin]; decide), if_neg (not_not_intro hlen)]
  dsimp only
  rw [hvalid]
  dsimp only
  rw [hbad]

theorem writeTable_done (hallowed : firstRefused (w.allowed s) (splitImages w.size r.first r.count (r.words.drop 3)) = none) :
    writeTable w r s =
      doneWith ((splitImages w.size r.first r.count (r.words.drop 3)).foldl (fun u p => w.put p.1 p.2 u) s) := by
  unfold writeTable
  rw [if_neg (by rw [badIndex_false hin]; decide), if_neg (not_not_intro hlen)]
  dsimp only
  rw [hvalid]
  dsimp only
  rw [hallowed]

end Writes

/-! ## A write of one entry -/

section One

variable {w : WriteTable} {r : Request} {s : State}

theorem imagesLength_one (size : Nat → Nat) (k : Nat) : imagesLength size k 1 = size k := by
  simp [imagesLength]

theorem splitImages_one {size : Nat → Nat} {k : Nat} {ws : List Word} (h : ws.length = size k) :
    splitImages size k 1 ws = [(k, ws)] := by
  simp [splitImages, ← h]

theorem firstRefused_one (ok : Nat → List Word → Bool) (k : Nat) (ws : List Word) :
    firstRefused ok [(k, ws)] = if ok k ws = true then none else some k := by
  unfold firstRefused
  cases h : ok k ws <;> simp [h]

variable (hcount : r.count = 1) (hin : r.first < w.entries) (hlen : r.words.length = 3 + w.size r.first)
  (hok : w.ok r.first (r.words.drop 3) = true)

include hcount hin hlen hok

theorem writeTable_one_wrongState (hbad : w.allowed s r.first (r.words.drop 3) = false) :
    writeTable w r s = refuseAt .wrongState r.first s := by
  have hdrop : (r.words.drop 3).length = w.size r.first := by rw [List.length_drop]; omega
  refine writeTable_wrongState (.inr (by omega)) (by rw [hcount, imagesLength_one, hlen]) ?_ ?_
  · rw [hcount, splitImages_one hdrop, firstRefused_one, if_pos hok]
  · rw [hcount, splitImages_one hdrop, firstRefused_one, if_neg (by rw [hbad]; decide)]

theorem writeTable_one_done (hallowed : w.allowed s r.first (r.words.drop 3) = true) :
    writeTable w r s = doneWith (w.put r.first (r.words.drop 3) s) := by
  have hdrop : (r.words.drop 3).length = w.size r.first := by rw [List.length_drop]; omega
  rw [writeTable_done (.inr (by omega)) (by rw [hcount, imagesLength_one, hlen])]
  · rw [hcount, splitImages_one hdrop]
    rfl
  · rw [hcount, splitImages_one hdrop, firstRefused_one, if_pos hok]
  · rw [hcount, splitImages_one hdrop, firstRefused_one, if_pos hallowed]

end One

/-! ## Obligation O53 -/

section Refused

variable {r : Request} {rest : List Request} {s : State}

/-- A head that names no row is answered by whichever row serves. -/
theorem noRow_answers {c : Instr} {row : ReqRow} {f : Request → State → Served}
    (hexec : exec c s = .next (serve row f s)) (h : Servable s r rest) (hrow : r.row = none) :
    ∃ t, exec c s = .next t ∧ OnlyAnswered r rest r.badStatus [] s t := by
  have hserve : serve row f s = giveReply (replyTo r r.badStatus []) (takeRequest rest s) := by
    obtain ⟨hqueue, hroom, hclaim, -, hs⟩ := h
    have htaken : s.mgmt.taken < Config.replyPlaces := by
      simpa [Mgmt.taken, hclaim, boolNat, Config.replyPlaces] using hroom
    simp [serve, hqueue, htaken, hrow, refuse, settleDrains_of_settled (takeRequest_settled rest hs)]
  exact ⟨_, hexec.trans (congrArg _ hserve), giveReply_onlyAnswered h ..⟩

theorem linesOk_false {i : Slot} {ws : List Word} (hchange : (SlotSettings.ofWords ws).fn0 ≠ (s.slot i).cfg.fn0 ∨
      (SlotSettings.ofWords ws).fn1 ≠ (s.slot i).cfg.fn1)
    (hphase : (s.slot i).ctl.phase ∉ [Phase.empty, .seated])
    (hpower : (s.slot i).ctl.phase ≠ .quiesced ∨ (s.slot i).ctl.pwrEn = true) : s.linesOk i.val ws = false := by
  have hi : Fin.ofNat 16 i.val = i := by simp
  have hfree : (s.slot i).ctl.linesFree = false := by
    simp only [List.mem_cons, List.not_mem_nil, or_false, not_or] at hphase
    unfold Ctl.linesFree
    rcases hpower with h | h <;> simp [hphase, h]
  unfold State.linesOk
  simp only [hi, hfree, Bool.or_false]
  rcases hchange with h | h <;> simp [h]

/-- The fields of the one image of a write. -/
theorem getD_image (k : Nat) : (r.words.drop 3).getD k 0 = r.word (3 + k) := by
  simp [Request.word, List.getD_eq_getElem?_getD, List.getElem?_drop]

theorem watchAreaOk_false {a : Fin 64} (hon : (r.word 3).toNat = 1) (harea : (r.word 4).toNat = a.val)
    (hmode : s.park.areas[a].mode ≠ .latest) : s.watchAreaOk (r.words.drop 3) = false := by
  have hfirst : fieldBool (r.words.drop 3) 1 = true := decide_eq_true (by rw [fieldNat, getD_image]; exact hon)
  have hsecond : fieldNat (r.words.drop 3) 2 = a.val := by rw [fieldNat, getD_image]; exact harea
  have hof : Fin.ofNat 64 a.val = a := by simp
  unfold State.watchAreaOk
  simp only [hfirst, hsecond, hof, Bool.not_true, Bool.false_or]
  exact beq_eq_false_iff_ne.mpr hmode

end Refused

/-- Settles O53, by the first test of a write that fails. -/
theorem refusedWritesHaveNoEffect : Obligations.RefusedWritesHaveNoEffect := by
  unfold Obligations.RefusedWritesHaveNoEffect
  refine ⟨?_, ?_, ?_, ?_⟩
  · rintro table c w r rest s hmem hs hne hcode rfl
    obtain ⟨hexec, hfrom, hto, hallowed⟩ := writeRow_exec hmem
    have hrow := row_eq_write hne hcode hfrom hto
    refine ⟨fun hsome hout => ?_, fun hin hlen => ?_, fun k hin hlen hbad => ?_, fun k hin hlen hvalid hbad => ?_⟩
    · exact answers_only (hexec s) hs hrow (writeTable_badIndex hsome hout)
    · exact answers_only (hexec s) hs hrow (writeTable_badRequest hin hlen)
    · exact answers_only (hexec s) hs hrow (writeTable_badValue hin hlen hbad)
    · exact answers_only (hexec s) hs hrow (writeTable_wrongState hin hlen hvalid (by rwa [hallowed]))
  · rintro ws r rest s hs hcode hcount rfl
    refine ⟨fun i hsubject hfirst hlen hok hchange hphase hpower => ?_,
      fun n a hsubject hfirst hlen hok hon harea hmode => ?_⟩
    · have hrow := row_eq_write (List.ne_nil_of_length_pos (by omega)) hcode (by omega) (by omega)
      have hi := i.isLt
      refine answers_only (f := writeTable slotTable) rfl hs (hsubject ▸ hrow) ?_
      rw [writeTable_one_wrongState (w := slotTable) hcount (by rw [hfirst]; exact hi) hlen hok]
      · rw [hfirst]
        rfl
      · rw [hfirst]
        exact linesOk_false hchange hphase hpower
    · have hrow := row_eq_write (List.ne_nil_of_length_pos (by omega)) hcode (by omega) (by omega)
      have hn := n.isLt
      refine answers_only (f := writeTable watchTable) rfl hs (hsubject ▸ hrow) ?_
      rw [writeTable_one_wrongState (w := watchTable) hcount (by rw [hfirst]; exact hn) hlen hok]
      · rw [hfirst]
        rfl
      · exact watchAreaOk_false hon harea hmode
  · rintro table entries c image r rest s hmem hlow hs hne hcode rfl
    obtain ⟨e, im, hexec, -, -, -, hto⟩ := readRow_exec hmem
    exact answers_only (hexec s) hs (row_eq_readOnly hne hcode hlow hto) (if_pos hcode)
  · intro table c w r rest s hmem hs hne hcode hno
    obtain ⟨hexec, -⟩ := writeRow_exec hmem
    have hstatus : r.badStatus = .badTable := if_pos ⟨hne, .inl hcode⟩
    exact hstatus ▸ noRow_answers (hexec s) hs (row_none_of_noTable hcode hno)

end Sys2Proof.Machine
end

section
/-! PROOFS. The reply to a request that has an effect (R173), and the actions on cabinet time (R107, R108). -/

namespace Sys2Proof.Machine

/-! ## The parts that are kept -/

section Kept

variable {ps : List Part} {s t : State}

theorem KeepsBut.flow (h : KeepsBut ps s t) (hp : Part.flow ∉ ps := by decide) : t.flow = s.flow := h.1 .flow hp
theorem KeepsBut.pool (h : KeepsBut ps s t) (hp : Part.pool ∉ ps := by decide) : t.pool = s.pool := h.1 .pool hp
theorem KeepsBut.park (h : KeepsBut ps s t) (hp : Part.park ∉ ps := by decide) : t.park = s.park := h.1 .park hp
theorem KeepsBut.log (h : KeepsBut ps s t) (hp : Part.log ∉ ps := by decide) : t.log = s.log := h.1 .log hp
theorem KeepsBut.timing (h : KeepsBut ps s t) (hp : Part.timing ∉ ps := by decide) : t.timing = s.timing :=
  h.1 .timing hp
theorem KeepsBut.nextEdge (h : KeepsBut ps s t) (hp : Part.nextEdge ∉ ps := by decide) : t.nextEdge = s.nextEdge :=
  h.1 .nextEdge hp
theorem KeepsBut.chain (h : KeepsBut ps s t) (hp : Part.chain ∉ ps := by decide) : t.chain = s.chain := h.1 .chain hp
theorem KeepsBut.watches (h : KeepsBut ps s t) (hp : Part.watches ∉ ps := by decide) : t.watches = s.watches :=
  h.1 .watches hp
theorem KeepsBut.alarm (h : KeepsBut ps s t) (hp : Part.alarm ∉ ps := by decide) : t.alarm = s.alarm := h.1 .alarm hp
theorem KeepsBut.mgmt (h : KeepsBut ps s t) (hp : Part.mgmt ∉ ps := by decide) : t.mgmt = s.mgmt := h.1 .mgmt hp
theorem KeepsBut.glob (h : KeepsBut ps s t) (hp : Part.glob ∉ ps := by decide) : t.glob = s.glob := h.1 .glob hp
theorem KeepsBut.cfg (h : KeepsBut ps s t) (hp : Part.cfg ∉ ps := by decide) (j : Slot) :
    (t.slot j).cfg = (s.slot j).cfg := h.1 .cfg hp j
theorem KeepsBut.port (h : KeepsBut ps s t) (hp : Part.port ∉ ps := by decide) (j : Slot) :
    (t.slot j).port = (s.slot j).port := h.1 .port hp j
theorem KeepsBut.ing (h : KeepsBut ps s t) (hp : Part.ing ∉ ps := by decide) (j : Slot) :
    (t.slot j).ing = (s.slot j).ing := h.1 .ing hp j
theorem KeepsBut.egr (h : KeepsBut ps s t) (hp : Part.egr ∉ ps := by decide) (j : Slot) :
    (t.slot j).egr = (s.slot j).egr := h.1 .egr hp j
theorem KeepsBut.ctl (h : KeepsBut ps s t) (hp : Part.ctl ∉ ps := by decide) (j : Slot) :
    (t.slot j).ctl = (s.slot j).ctl := h.1 .ctl hp j
theorem KeepsBut.edges (h : KeepsBut ps s t) (hp : Part.edges ∉ ps := by decide) (j : Slot) :
    (t.slot j).edges = (s.slot j).edges := h.1 .edges hp j
theorem KeepsBut.cursor (h : KeepsBut ps s t) (hp : Part.cursor ∉ ps := by decide) (j : Slot) :
    (t.slot j).cursor = (s.slot j).cursor := h.1 .cursor hp j

end Kept

/-! ## The reply after an effect (R173) -/

/-- What an enqueue reported as a wake source does to a slot depends on that slot and the time alone. -/
theorem wakeReport_slot_congr {i j : Slot} {s t : State} (hslots : ∀ k, t.slot k = s.slot k) (htiming : t.timing = s.timing) :
    (wakeReport i t).slot j = (wakeReport i s).slot j := by
  by_cases hji : j = i
  · subst hji
    unfold wakeReport applyWake State.modCtl State.modPort State.uptime
    rw [hslots, htiming]
    split
    · split
      · split
        · rw [slot_setSlot_self, slot_setSlot_self]
        · rw [slot_setSlot_self, slot_setSlot_self, slot_setSlot_self, slot_setSlot_self]
      · exact hslots j
    · exact hslots j
  · rw [wakeReport_slot_ne t hji, wakeReport_slot_ne s hji, hslots]

/-- A reply is given after an effect: it stands at the tail of the reply queue, the claim is gone, and it may wake the
management slot. -/
structure Replied (m : Slot) (p : ReplyParcel) (u t : State) : Prop where
  mgmt : t.mgmt = { u.mgmt with claim := false, replies := u.mgmt.replies ++ [p] }
  keeps : KeepsBut [.mgmt, .port, .ctl] u t
  slots : ∀ j, t.slot j = (wakeReport m u).slot j

theorem Replied.others {m : Slot} {p : ReplyParcel} {u t : State} (h : Replied m p u t) : OtherSlots m u t :=
  fun j hj => (h.slots j).trans (wakeReport_slot_ne u hj)

section Replied

variable {row : ReqRow} {f : Request → State → Served} {r : Request} {rest : List Request} {st : Status}
  {data : List Word} {ps : List Part} {s u t : State}

theorem mgmtOut_of_same (hmsel : u.mgmt.msel = s.mgmt.msel)
    (hphase : (u.slot s.mgmtSlot).ctl.phase = (s.slot s.mgmtSlot).ctl.phase) : u.mgmtOut = s.mgmtOut := by
  unfold State.mgmtOut
  rw [mgmtSlot_of_msel hmsel, hphase]

theorem giveReply_replied (p : ReplyParcel) (hout : u.mgmtOut = false) : Replied u.mgmtSlot p u (giveReply p u) := by
  have hout' : (u.modMgmt (fun m => { m with claim := false })).mgmtOut = false :=
    (mgmtOut_of_same (by simp) (by simp)).trans hout
  have hslot : (u.modMgmt (fun m => { m with claim := false })).mgmtSlot = u.mgmtSlot := mgmtSlot_of_msel (by simp)
  have hgive : giveReply p u = pushReply p (u.modMgmt (fun m => { m with claim := false })) := by
    unfold giveReply
    dsimp only
    rw [hout']
    rfl
  rw [hgive]
  refine ⟨?_, ?_, fun j => ?_⟩
  · rw [pushReply_mgmt]
    simp
  · exact (modMgmt_keepsBut ..).then (pushReply_touches _ p).keeps (rs := [.mgmt, .port, .ctl])
  · unfold pushReply
    rw [hslot]
    exact wakeReport_slot_congr (fun k => by simp) (by simp)

theorem serve_replied (hs : Servable s r rest) (hrow : r.row = some row)
    (hf : f r (takeRequest rest s) = { status := st, data := data, state := u }) (hsettle : settleDrains u = u)
    (hmsel : u.mgmt.msel = s.mgmt.msel) (hphase : (u.slot s.mgmtSlot).ctl.phase = (s.slot s.mgmtSlot).ctl.phase) :
    Replied s.mgmtSlot (replyTo r st data) u (serve row f s) := by
  have hserve := serve_of_servable f hs hrow
  rw [hf, hsettle] at hserve
  obtain ⟨-, -, -, hout, -⟩ := hs
  have hreplied := giveReply_replied (replyTo r st data) ((mgmtOut_of_same hmsel hphase).trans hout)
  rwa [hserve, ← mgmtSlot_of_msel hmsel]

theorem Replied.answeredAfter {al : List ReplyParcel} (h : Replied s.mgmtSlot (replyTo r st data) u t)
    (hs : Servable s r rest) (hu : u.mgmt = { (takeRequest rest s).mgmt with replies := s.mgmt.replies ++ al }) :
    AnsweredAfter al r rest st data s t := by
  obtain ⟨-, -, hclaim, -, -⟩ := hs
  unfold AnsweredAfter
  rw [h.mgmt, hu]
  simp [takeRequest, hclaim]

/-- An effect that adds replies alone. -/
theorem Replied.answeredGrow (h : Replied s.mgmtSlot (replyTo r st data) u t) (hs : Servable s r rest)
    (hgrow : RepliesGrow (takeRequest rest s) u) : ∃ al, AnsweredAfter al r rest st data s t := by
  obtain ⟨al, hal⟩ := hgrow
  exact ⟨al, h.answeredAfter hs (by rw [hal]; simp [takeRequest])⟩

/-- An effect that leaves the management unit alone. -/
theorem Replied.answered (h : Replied s.mgmtSlot (replyTo r st data) u t) (hs : Servable s r rest)
    (hu : u.mgmt = (takeRequest rest s).mgmt) : Answered r rest st data s t :=
  h.answeredAfter hs (by rw [hu]; simp [takeRequest])

theorem takeRequest_keepsBut (rest : List Request) (s : State) : KeepsBut [.mgmt] s (takeRequest rest s) :=
  modMgmt_keepsBut ..

theorem takeRequest_slot (rest : List Request) (s : State) (j : Slot) : (takeRequest rest s).slot j = s.slot j := by
  simp [takeRequest]

/-- What a served request leaves beside the parts its effect touches. -/
theorem Replied.keepsBut (h : Replied s.mgmtSlot (replyTo r st data) u t) (hu : KeepsBut ps (takeRequest rest s) u)
    {rs : List Part} (hps : ps ⊆ rs := by decide) (hrs : [Part.mgmt, .port, .ctl] ⊆ rs := by decide) : KeepsBut rs s t :=
  ((takeRequest_keepsBut rest s).then hu (fun _ hp => hrs (by simp_all)) hps).then h.keeps (fun _ hp => hp) hrs

end Replied

/-! ## When nothing is left to report -/

theorem Leaves.settles {ps : List Part} {s t : State} (h : Leaves ps s t) (hs : s.settled)
    (hphase : ∀ j, (t.slot j).ctl.phase = (s.slot j).ctl.phase) (he : Part.egr ∉ ps := by decide) :
    Machine.settleDrains t = t :=
  settleDrains_of_settled (drained_none_of_grow hs hphase (fun j => h.keeps.1 .egr he j) h.grow)

/-! ## Requests that are actions (R171) -/

theorem row_eq_action {r : Request} {code : Nat} (hne : r.words ≠ []) (hcode : r.code = 5) (hsubject : r.subject = code)
    (hmem : actionCodes.contains code = true) : r.row = some (.action code) := by
  unfold Request.row
  rw [if_neg hne, hcode, hsubject]
  exact if_pos hmem

/-! ## SET-TIME and SET-FREQUENCY (R107, R108) -/

section Time

variable {r : Request} {rest : List Request} {s : State}

theorem moveTimeTo_phase (v : CabTime) (amount : Int) (s : State) (j : Slot) :
    ((moveTimeTo v amount s).slot j).ctl.phase = (s.slot j).ctl.phase := by
  obtain ⟨t, ht, htime⟩ : ∃ t, KeepsBut [.timing, .nextEdge, .edges] s t ∧
      moveTimeTo v amount s = t.eachSlot voidExchange :=
    ⟨_, ((modTiming_touches 0 s _).leaves.then (reschedule_leaves _) (rs := [.timing, .nextEdge, .edges])).keeps, rfl⟩
  obtain ⟨-, hslots⟩ := eachSlot_at (P := fun _ => True) (s := t) (f := voidExchange) trivial
    (fun i u _ _ => ⟨trivial, modCtl_otherSlots u i _⟩)
  obtain ⟨u, -, hslot, hsame⟩ := hslots j
  rw [htime, hsame, voidExchange, modCtl_ctl_self, hslot, ht.1 .ctl (by decide)]

theorem settled_takeRequest (hs : Servable s r rest) : (takeRequest rest s).settled := by
  obtain ⟨-, -, -, -, hsettled⟩ := hs
  exact takeRequest_settled rest hsettled

theorem takeRequest_msel (rest : List Request) (s : State) : (takeRequest rest s).mgmt.msel = s.mgmt.msel := by
  simp [takeRequest]

variable (hs : Servable s r rest) (hcode : r.code = 5)

include hs hcode

theorem setTime_refused (hsubject : r.subject = 16) (hlen : r.words.length = 4)
    (hbad : 65535 < (r.word 1).toNat ∨ 999999999 < (r.word 3).toNat) :
    ∃ t, exec .setTime s = .next t ∧ OnlyAnswered r rest .badValue [] s t := by
  refine answers_only rfl hs (row_eq_action (List.ne_nil_of_length_pos (by omega)) hcode hsubject (by decide)) ?_
  unfold actSetTime
  rw [if_neg (by omega), if_pos hbad]
  rfl

theorem setTime_done {c : CabTime} (hsubject : r.subject = 16) (hlen : r.words.length = 4)
    (hsec : (r.word 1).toNat ≤ 65535) (hns : (r.word 3).toNat ≤ 999999999)
    (hc : c = { sec := (r.word 1).toNat * 4294967296 + (r.word 2).toNat, ns := (r.word 3).toNat, frac := 0 }) :
    ∃ t, exec .setTime s = .next t ∧ Answered r rest .done [] s t ∧
      t.timing = { s.timing with
        time := c,
        refA := { s.timing.refA with last := s.timing.refA.last.map (·.move (c.diff s.timing.time)) },
        refB := { s.timing.refB with last := s.timing.refB.last.map (·.move (c.diff s.timing.time)) } } ∧
      t.nextEdge = edgeAfter s.glob.edgePeriod c ∧ t.alarm = s.alarm ∧
      KeepsBut [.timing, .nextEdge, .edges, .mgmt, .port, .ctl] s t := by
  have hrow := row_eq_action (List.ne_nil_of_length_pos (by omega)) hcode hsubject (by decide)
  have htake := takeRequest_keepsBut rest s
  have htiming : (takeRequest rest s).timing = s.timing := htake.timing
  obtain ⟨u, hu⟩ : ∃ u, u = moveTimeTo c (c.diff s.timing.time) (takeRequest rest s) := ⟨_, rfl⟩
  have hleaves : Leaves [.timing, .nextEdge, .edges, .ctl] (takeRequest rest s) u := hu ▸ moveTimeTo_leaves ..
  have hf : actSetTime r (takeRequest rest s) = { status := .done, data := [], state := u } := by
    unfold actSetTime setTimeTo State.now
    rw [if_neg (by omega), if_neg (by omega), hu, hc, htiming]
    rfl
  have hphase (j : Slot) : (u.slot j).ctl.phase = ((takeRequest rest s).slot j).ctl.phase := hu ▸ moveTimeTo_phase ..
  have hmgmt : u.mgmt = (takeRequest rest s).mgmt := hleaves.keeps.mgmt
  have hreplied := serve_replied hs hrow hf (hleaves.settles (settled_takeRequest hs) hphase)
    (by rw [hmgmt, takeRequest_msel]) (by rw [hphase, takeRequest_slot])
  refine ⟨_, rfl, hreplied.answered hs hmgmt, ?_, ?_, ?_, hreplied.keepsBut hleaves.keeps⟩
  · refine hreplied.keeps.timing.trans ?_
    rw [hu, moveTimeTo_timing, htiming]
  · refine hreplied.keeps.nextEdge.trans ?_
    rw [hu, moveTimeTo_nextEdge, htake.glob]
  · exact (hreplied.keeps.alarm.trans hleaves.keeps.alarm).trans htake.alarm

/-- The answer to a SET-FREQUENCY. -/
theorem setFrequency_answers {v : Int} (hsubject : r.subject = 17) (hlen : r.words.length = 3)
    (hv : v = ((r.word 1) ++ (r.word 2) : BitVec 64).toInt) :
    ∃ t, exec .setFrequency s = .next t ∧
      if s.timing.loop = .free then
        if v.natAbs ≤ s.timing.cfg.fmax * 65536 then
          Answered r rest .done [] s t ∧
          t.timing = { s.timing with intg := v, freq := v, adj := adjOf s.timing.cfg.rounding v } ∧
          KeepsBut [.timing, .mgmt, .port, .ctl] s t ∧ OtherSlots s.mgmtSlot s t
        else OnlyAnswered r rest .badValue [] s t
      else OnlyAnswered r rest .wrongState [] s t := by
  have hrow := row_eq_action (List.ne_nil_of_length_pos (by omega)) hcode hsubject (by decide)
  have htiming : (takeRequest rest s).timing = s.timing := (takeRequest_keepsBut rest s).timing
  have hbound : s.timing.cfg.bound = (s.timing.cfg.fmax : Int) * 65536 := rfl
  by_cases hloop : s.timing.loop = .free
  · by_cases hin : v.natAbs ≤ s.timing.cfg.fmax * 65536
    · have hf : actSetFrequency r (takeRequest rest s) =
          { status := .done, data := [], state := setFreq v v (takeRequest rest s) } := by
        unfold actSetFrequency
        dsimp only
        rw [if_neg (by omega), htiming, ← hv, if_neg (by rw [hloop]; simp), if_neg (by omega)]
        rfl
      have htouch := setFreq_touches s.mgmtSlot (takeRequest rest s) v v
      have hreplied := serve_replied hs hrow hf (htouch.settleDrains (settled_takeRequest hs))
        (by rw [htouch.mgmt, takeRequest_msel]) (by rw [htouch.ctl, takeRequest_slot])
      refine ⟨_, rfl, ?_⟩
      rw [if_pos hloop, if_pos hin]
      refine ⟨hreplied.answered hs htouch.mgmt, ?_, hreplied.keepsBut htouch.keeps, fun j hj => ?_⟩
      · refine hreplied.keeps.timing.trans ?_
        rw [setFreq_timing, htiming]
      · exact ((hreplied.others j hj).trans (htouch.others j hj)).trans (takeRequest_slot ..)
    · obtain ⟨t, hexec, honly⟩ := answers_only (c := .setFrequency) (st := .badValue) (data := []) rfl hs hrow (by
        unfold actSetFrequency
        dsimp only
        rw [if_neg (by omega), htiming, ← hv, if_neg (by rw [hloop]; simp), if_pos (by omega)]
        rfl)
      refine ⟨t, hexec, ?_⟩
      rw [if_pos hloop, if_neg hin]
      exact honly
  · obtain ⟨t, hexec, honly⟩ := answers_only (c := .setFrequency) (st := .wrongState) (data := []) rfl hs hrow (by
      unfold actSetFrequency
      dsimp only
      rw [if_neg (by omega), htiming, if_pos hloop]
      rfl)
    refine ⟨t, hexec, ?_⟩
    rw [if_neg hloop]
    exact honly

end Time

/-- Settles O59, by what the two actions do and when they are refused. -/
theorem timeActions : Obligations.TimeActions := by
  unfold Obligations.TimeActions
  refine ⟨fun r rest s hs hcode hsubject hlen => ⟨setTime_refused hs hcode hsubject hlen, fun c hsec hns hc => ?_⟩,
    fun v r rest s hs hcode hsubject hlen hv => setFrequency_answers hs hcode hsubject hlen hv⟩
  exact setTime_done hs hcode hsubject hlen hsec hns hc

end Sys2Proof.Machine
end

section
/-! PROOFS. Obligation O60: TIMING-RESTART, FABRIC-RESTART and LOG-CLEAR (R56, R81, R109, R178). -/

namespace Sys2Proof.Machine

/-! ## TIMING-RESTART (R109) -/

section Timing

variable (s : State)

theorem timingRestart_leaves : Leaves [.timing, .nextEdge, .edges, .alarm, .mgmt] s (timingRestart s) := by
  have hswitch : Touches [.timing, .alarm, .mgmt] 0 s (if s.timing.sel = .none then s
      else postEvent causeReferenceSwitch 0 (wordOf (s.timing.sel.code * 256 + Sel.none.code))
        (s.modTiming (fun t => { t with sel := .none }))) :=
    touches_ite (.refl ..) ((modTiming_touches 0 s _).then (postEvent_touches 0 ..))
  have hfree := hswitch.then (changeLoop_touches 0 _ .free) (rs := [.timing, .alarm, .mgmt])
  have hfresh := hfree.then (modTiming_touches 0 _ (fun t =>
    { t with
      refA := Reference.fresh t.refA.cfg, refB := Reference.fresh t.refB.cfg, intg := 0, freq := 0, adj := 0,
      lock := 0, holdover := none })) (rs := [.timing, .alarm, .mgmt])
  have hclear := (hfresh.then (clearCond_touches 0 _ causeHoldover 0 0) (rs := [.timing, .alarm, .mgmt])).then
    (clearCond_touches 0 _ causeFreeRun 0 0) (rs := [.timing, .alarm, .mgmt])
  exact hclear.leaves.then (reschedule_leaves _)

theorem timingRestart_freeRun : (timingRestart s).isRaised causeFreeRun 0 = false := by
  unfold timingRestart
  dsimp only
  rw [reschedule_isRaised]
  exact isRaised_cleared ..

theorem timingRestartAll_leaves : Leaves [.timing, .nextEdge, .edges, .alarm, .mgmt] s (timingRestartAll s) :=
  (timingRestart_leaves s).then (postEvent_touches 0 ..).leaves

end Timing

/-! ## LOG-CLEAR (R81) -/

section Log

variable (i : Slot) (s : State)

theorem emptyLog_touches : Touches [.log] i s (emptyLog s) := modLog_touches ..

theorem emptyLog_log : (emptyLog s).log =
    { recs := [], idx := 0, count := wordOf ((s.log.count.toNat + 4095) / 2048 * 2048) } := by
  simp [emptyLog]

end Log

/-! ## FABRIC-RESTART (R56, R178) -/

section Fabric

variable {s : State}

theorem modChain_touches (i : Slot) (s : State) (f : ChainEngine → ChainEngine) : Touches [.chain] i s (s.modChain f) :=
  ⟨modChain_keepsBut .., .of_eq (by simp), otherSlots_of_slots (by simp)⟩

theorem fabricSlot_leaves (i : Slot) (s : State) : KeepsBut [.port, .ing, .egr] s (fabricSlot i s) ∧
    OtherSlots i s (fabricSlot i s) :=
  ⟨⟨fun p hp => by cases p <;> simp_all [Part.Same, fabricSlot, slot_setSlot] <;> intro j <;> split <;> simp_all, by
    simp [fabricSlot]⟩, setSlot_otherSlots s i _⟩

theorem settleDrains_of_noDrain (h : ∀ i, (s.slot i).ctl.phase ≠ .draining) : settleDrains s = s := by
  refine settleDrains_of_settled ?_
  unfold State.drained
  rw [List.find?_eq_none]
  intro i _ hboth
  rw [Bool.and_eq_true, beq_iff_eq] at hboth
  exact h i hboth.1

/-- A slot whose reception, waiting place and queues are gone, with its chain as it was. -/
def SlotState.bareOf (x y : SlotState) : Prop :=
  y.ing = Ingress.reset ∧ y.port.holdReq = false ∧ y.egr.stream = [] ∧ y.egr.control = [] ∧ y.egr.bulk = [] ∧
  y.egr.express = [] ∧ y.ctl = x.ctl

theorem bareOf_of_parts {x y z : SlotState} (h : x.bareOf y) (hing : z.ing = y.ing) (hport : z.port = y.port)
    (hegr : z.egr = y.egr) (hctl : z.ctl = y.ctl) : x.bareOf z := by
  unfold SlotState.bareOf at *
  rwa [hing, hport, hegr, hctl]

/-- The first half of a FABRIC-RESTART: receptions, waiting places, queues and the pool are emptied. -/
def emptiedFabric (s : State) : State :=
  fabricPool ((s.eachSlot fabricSlot).modMgmt (fun m => { m with replies := [], store := [] }))

theorem emptiedFabric_spec (s : State) : (∀ j, (s.slot j).bareOf ((emptiedFabric s).slot j)) ∧
    KeepsBut [.pool, .alarm, .mgmt, .port, .ing, .egr] s (emptiedFabric s) ∧
    (∃ al, (emptiedFabric s).mgmt = { s.mgmt with store := [], replies := al }) ∧
    (emptiedFabric s).pool.freeCount = 8192 ∧ (emptiedFabric s).pool.parcels = [] ∧
    (emptiedFabric s).isRaised causePoolLow 0 = false := by
  obtain ⟨hkeeps, hslots⟩ := eachSlot_at (P := fun t => KeepsBut [.port, .ing, .egr] s t) (s := s) (f := fabricSlot)
    (.refl ..) (fun i t ht _ => by
      obtain ⟨hk, ho⟩ := fabricSlot_leaves i t
      exact ⟨ht.trans hk, ho⟩)
  have hpool : Touches [.pool, .alarm, .mgmt] 0
      ((s.eachSlot fabricSlot).modMgmt (fun m => { m with replies := [], store := [] })) (emptiedFabric s) :=
    (modPool_touches 0 _ _).then (clearCond_touches 0 ..)
  have hbare (j : Slot) : (s.slot j).bareOf ((s.eachSlot fabricSlot).slot j) := by
    obtain ⟨t, -, hslot, hsame⟩ := hslots j
    rw [hsame, ← hslot, fabricSlot, slot_setSlot_self]
    exact ⟨rfl, rfl, rfl, rfl, rfl, rfl, rfl⟩
  refine ⟨fun j => ?_, ?_, ?_, ?_, ?_, isRaised_cleared ..⟩
  · have hmgmt : ((s.eachSlot fabricSlot).modMgmt (fun m => { m with replies := [], store := [] })).slot j =
        (s.eachSlot fabricSlot).slot j := by simp
    exact bareOf_of_parts (hbare j) (by rw [hpool.ing, hmgmt]) (by rw [hpool.port, hmgmt]) (by rw [hpool.egr, hmgmt])
      (by rw [hpool.ctl, hmgmt])
  · exact (hkeeps.then (modMgmt_keepsBut ..) (rs := [.pool, .alarm, .mgmt, .port, .ing, .egr])).then hpool.keeps
  · obtain ⟨al, hal⟩ := hpool.grow
    refine ⟨al, ?_⟩
    rw [hal]
    simp
  · simp [emptiedFabric, fabricPool, Config.poolBlocks]
  · simp [emptiedFabric, fabricPool]

theorem abortChain_idle (i : Slot) (r : AbortReason) (s : State) : ((abortChain i r s).slot i).cursor.state = .idle := by
  unfold abortChain
  dsimp only
  split
  · assumption
  · rw [(postEvent_touches i ..).cursor, setCursor_cursor]
    simp [Cursor.idle]

/-- The end of a FABRIC-RESTART: the engine is free, the log is emptied and RESTARTED is posted. -/
def engineFreed (s : State) : State := postRestarted 2 0 (emptyLog (s.modChain (fun c => { c with busy := none })))

theorem engineFreed_touches (i : Slot) (s : State) : Touches [.chain, .log, .alarm, .mgmt] i s (engineFreed s) :=
  ((modChain_touches i s _).then (emptyLog_touches i _) (rs := [.chain, .log])).then (postEvent_touches i ..)

theorem engineFreed_log (s : State) : (engineFreed s).log =
    { recs := [], idx := 0, count := wordOf ((s.log.count.toNat + 4095) / 2048 * 2048) } := by
  rw [engineFreed, postRestarted, (postEvent_touches 0 _ _ _ _).log, emptyLog_log, (modChain_touches 0 _ _).log]

theorem engineFreed_isRaised (c : Fin 64) (n : Nat) (s : State) : (engineFreed s).isRaised c n = s.isRaised c n := by
  simp [engineFreed, postRestarted, State.isRaised]

/-- The second half: the chains are stopped, and the end. -/
def stoppedFabric (s : State) : State := engineFreed (s.eachSlot (fun i t => abortChain i .stopped t))

theorem stoppedFabric_spec (s : State) : (∀ j, ((stoppedFabric s).slot j).cursor.state = .idle) ∧
    Leaves [.chain, .log, .cursor, .alarm, .mgmt] s (stoppedFabric s) ∧
    (stoppedFabric s).log = { recs := [], idx := 0, count := wordOf ((s.log.count.toNat + 4095) / 2048 * 2048) } ∧
    (stoppedFabric s).isRaised causePoolLow 0 = s.isRaised causePoolLow 0 := by
  obtain ⟨⟨hleaves, hraised⟩, hslots⟩ := eachSlot_at (s := s) (f := fun i t => abortChain i .stopped t)
    (P := fun t => Leaves [.cursor, .alarm, .mgmt] s t ∧ t.isRaised causePoolLow 0 = s.isRaised causePoolLow 0)
    ⟨.refl .., rfl⟩ (fun i t ht _ => by
      have htouch := abortChain_touches i t .stopped
      refine ⟨⟨ht.1.then htouch.leaves, ht.2 ▸ ?_⟩, htouch.others⟩
      unfold abortChain
      dsimp only
      split
      · rfl
      · simp [State.isRaised])
  have hrest := engineFreed_touches 0 (s.eachSlot (fun i t => abortChain i .stopped t))
  refine ⟨fun j => ?_, hleaves.then hrest.leaves, ?_, ?_⟩
  · obtain ⟨t, -, -, hsame⟩ := hslots j
    rw [stoppedFabric, hrest.cursor, hsame]
    exact abortChain_idle ..
  · rw [stoppedFabric, engineFreed_log, hleaves.keeps.log]
  · rw [stoppedFabric, engineFreed_isRaised, hraised]

theorem fabricRestart_eq (h : ∀ i, (s.slot i).ctl.phase ≠ .draining) :
    fabricRestart s = stoppedFabric (emptiedFabric s) := by
  have hsettle : settleDrains (emptiedFabric s) = emptiedFabric s :=
    settleDrains_of_noDrain (fun i => by rw [(emptiedFabric_spec s).2.1.ctl]; exact h i)
  change stoppedFabric (settleDrains (emptiedFabric s)) = _
  rw [hsettle]

end Fabric

/-! ## Obligation O60 -/

section Restarts

variable {r : Request} {rest : List Request} {s : State}

/-- Where a reply wakes a slot it asks a WAKE of the port and changes the sub-mode. -/
theorem wakeReport_slot (i j : Slot) (s : State) :
    ((wakeReport i s).slot j).port.holdReq = (s.slot j).port.holdReq ∧
    ((wakeReport i s).slot j).ctl.phase = (s.slot j).ctl.phase := by
  by_cases hji : j = i
  · subst hji
    unfold wakeReport applyWake
    split
    · split
      · split <;> simp
      · exact ⟨rfl, rfl⟩
    · exact ⟨rfl, rfl⟩
  · rw [wakeReport_slot_ne s hji]
    exact ⟨rfl, rfl⟩

variable (hs : Servable s r rest) (hcode : r.code = 5) (hlen : r.words.length = 1)

include hs hcode hlen

theorem timingRestart_answers (hsubject : r.subject = 18) :
    ∃ t al, exec .timingRestart s = .next t ∧ AnsweredAfter al r rest .done [] s t ∧
      t.timing = { s.timing with
        sel := .none, loop := .free, intg := 0, freq := 0, adj := 0, lock := 0, holdover := none,
        refA := Reference.fresh s.timing.refA.cfg, refB := Reference.fresh s.timing.refB.cfg } ∧
      t.isRaised causeHoldover 0 = false ∧ t.isRaised causeFreeRun 0 = false ∧
      KeepsBut [.timing, .nextEdge, .edges, .alarm, .mgmt, .port, .ctl] s t := by
  have hrow := row_eq_action (List.ne_nil_of_length_pos (by omega)) hcode hsubject (by decide)
  have hf : plainAction timingRestartAll r (takeRequest rest s) =
      { status := .done, data := [], state := timingRestartAll (takeRequest rest s) } := by
    unfold plainAction
    rw [if_neg (by omega)]
    rfl
  have hleaves := timingRestartAll_leaves (takeRequest rest s)
  have hrestarted := postEvent_touches 0 (timingRestart (takeRequest rest s)) causeRestarted 3 (wordOf 0)
  obtain ⟨l, hl⟩ := hleaves.grow
  have hreplied := serve_replied hs hrow hf (hleaves.settles (settled_takeRequest hs) (fun j => by rw [hleaves.keeps.ctl]))
    (by rw [hl, takeRequest_msel]) (by rw [hleaves.keeps.ctl, takeRequest_slot])
  obtain ⟨al, hal⟩ := hreplied.answeredGrow hs ⟨l, hl⟩
  refine ⟨_, al, rfl, hal, ?_, ?_, ?_, hreplied.keepsBut hleaves.keeps⟩
  · rw [hreplied.keeps.timing, timingRestartAll, postRestarted, hrestarted.timing, timingRestart_timing,
      (takeRequest_keepsBut rest s).timing]
  · rw [isRaised_of_alarm hreplied.keeps.alarm, timingRestartAll, postRestarted, postEvent_isRaised,
      timingRestart_isRaised]
  · rw [isRaised_of_alarm hreplied.keeps.alarm, timingRestartAll, postRestarted, postEvent_isRaised,
      timingRestart_freeRun]

theorem logClear_answers (hsubject : r.subject = 25) :
    ∃ t, exec .logClear s = .next t ∧ Answered r rest .done [] s t ∧
      t.log = { recs := [], idx := 0, count := wordOf ((s.log.count.toNat + 4095) / 2048 * 2048) } ∧
      KeepsBut [.log, .mgmt, .port, .ctl] s t ∧ OtherSlots s.mgmtSlot s t := by
  have hrow := row_eq_action (List.ne_nil_of_length_pos (by omega)) hcode hsubject (by decide)
  have hf : plainAction emptyLog r (takeRequest rest s) =
      { status := .done, data := [], state := emptyLog (takeRequest rest s) } := by
    unfold plainAction
    rw [if_neg (by omega)]
    rfl
  have htouch := emptyLog_touches s.mgmtSlot (takeRequest rest s)
  have hreplied := serve_replied hs hrow hf (htouch.settleDrains (settled_takeRequest hs))
    (by rw [htouch.mgmt, takeRequest_msel]) (by rw [htouch.ctl, takeRequest_slot])
  refine ⟨_, rfl, hreplied.answered hs htouch.mgmt, ?_, hreplied.keepsBut htouch.keeps, fun j hj => ?_⟩
  · rw [hreplied.keeps.log, emptyLog_log, (takeRequest_keepsBut rest s).log]
  · exact ((hreplied.others j hj).trans (htouch.others j hj)).trans (takeRequest_slot ..)

theorem fabricRestart_answers (hsubject : r.subject = 24) (hdrain : ∀ i, (s.slot i).ctl.phase ≠ .draining) :
    ∃ t al, exec .fabricRestart s = .next t ∧
      t.mgmt = { s.mgmt with queue := rest, store := [], replies := al ++ [replyTo r .done []] } ∧
      t.pool.freeCount = 8192 ∧ t.pool.parcels = [] ∧ t.isRaised causePoolLow 0 = false ∧
      (∀ i, (t.slot i).ing = Ingress.reset ∧ (t.slot i).port.holdReq = false ∧ (t.slot i).egr.stream = [] ∧
        (t.slot i).egr.control = [] ∧ (t.slot i).egr.bulk = [] ∧ (t.slot i).egr.express = [] ∧
        (t.slot i).cursor.state = .idle ∧ (t.slot i).ctl.phase = (s.slot i).ctl.phase) ∧
      t.log = { recs := [], idx := 0, count := wordOf ((s.log.count.toNat + 4095) / 2048 * 2048) } ∧
      KeepsBut [.pool, .log, .chain, .alarm, .mgmt, .ing, .egr, .cursor, .port, .ctl] s t := by
  have hrow := row_eq_action (List.ne_nil_of_length_pos (by omega)) hcode hsubject (by decide)
  have hphaseTake (i : Slot) : ((takeRequest rest s).slot i).ctl.phase ≠ .draining := by
    rw [takeRequest_slot]
    exact hdrain i
  have hf : plainAction fabricRestart r (takeRequest rest s) =
      { status := .done, data := [], state := stoppedFabric (emptiedFabric (takeRequest rest s)) } := by
    unfold plainAction
    rw [if_neg (by omega), fabricRestart_eq hphaseTake]
    rfl
  obtain ⟨hbare, hempties, ⟨al, hal⟩, hfree, hparcels, hlow⟩ := emptiedFabric_spec (takeRequest rest s)
  obtain ⟨hidle, hstops, hlog, hraised⟩ := stoppedFabric_spec (emptiedFabric (takeRequest rest s))
  obtain ⟨more, hmore⟩ := hstops.grow
  have hctl (j : Slot) : ((stoppedFabric (emptiedFabric (takeRequest rest s))).slot j).ctl = (s.slot j).ctl := by
    rw [hstops.keeps.ctl, hempties.ctl, takeRequest_slot]
  have hreplied := serve_replied hs hrow hf (settleDrains_of_noDrain (fun i => by rw [hctl]; exact hdrain i))
    (by rw [hmore, hal]; simp [takeRequest]) (by rw [hctl])
  have hkeeps : KeepsBut [.pool, .log, .chain, .alarm, .mgmt, .ing, .egr, .cursor, .port] (takeRequest rest s)
      (stoppedFabric (emptiedFabric (takeRequest rest s))) := hempties.then hstops.keeps
  obtain ⟨-, -, hclaim, -, -⟩ := hs
  refine ⟨_, al ++ more, rfl, ?_, ?_, ?_, ?_, fun i => ?_, ?_, hreplied.keepsBut hkeeps⟩
  · rw [hreplied.mgmt, hmore, hal]
    simp [takeRequest, hclaim]
  · rw [hreplied.keeps.pool, hstops.keeps.pool, hfree]
  · rw [hreplied.keeps.pool, hstops.keeps.pool, hparcels]
  · rw [isRaised_of_alarm hreplied.keeps.alarm, hraised, hlow]
  · obtain ⟨hing, hhold, hstream, hcontrol, hbulk, hexpress, -⟩ := hbare i
    obtain ⟨hport, hphase⟩ := wakeReport_slot s.mgmtSlot i (stoppedFabric (emptiedFabric (takeRequest rest s)))
    rw [hreplied.keeps.ing, hreplied.keeps.egr, hreplied.keeps.cursor, hreplied.slots, hstops.keeps.ing,
      hstops.keeps.egr, hport, hstops.keeps.port, hphase, hctl]
    exact ⟨hing, hhold, hstream, hcontrol, hbulk, hexpress, hidle i, rfl⟩
  · rw [hreplied.keeps.log, hlog, hempties.log, (takeRequest_keepsBut rest s).log]

end Restarts

/-- Settles O60, by the three actions one by one. -/
theorem restartActions : Obligations.RestartActions := by
  unfold Obligations.RestartActions
  exact fun r rest s hs hcode hlen => ⟨timingRestart_answers hs hcode hlen, fabricRestart_answers hs hcode hlen,
    logClear_answers hs hcode hlen⟩

end Sys2Proof.Machine
end

section
/-! PROOFS. Obligation O58: CHAIN-START and CHAIN-STOP (R147, R148, R151). -/

namespace Sys2Proof.Machine

/-! ## Actions on a slot (R174, R178) -/

section SlotActions

variable {i : Slot} {code : Nat} {r : Request} {s : State}

theorem slotAction_of {f : Slot → State → Served} (h : SlotRequest code i r) : slotAction f r s = f i s := by
  obtain ⟨-, -, hlen, hfirst⟩ := h
  have hi := i.isLt
  unfold slotAction
  rw [if_neg (by omega), dif_pos (by omega)]
  congr 1
  exact Fin.ext hfirst

theorem row_of_slotRequest (h : SlotRequest code i r) (hmem : actionCodes.contains code = true) :
    r.row = some (.action code) := by
  obtain ⟨hcode, hsubject, hlen, -⟩ := h
  exact row_eq_action (List.ne_nil_of_length_pos (by omega)) hcode hsubject hmem

end SlotActions

/-! ## Chains -/

section Chains

variable {i : Slot} {s : State}

theorem setCursor_setCursor (c d : Cursor) : (s.setCursor i c).setCursor i d = s.setCursor i d := by
  simp [State.setCursor, setSlot_setSlot]

theorem setCursor_cursor_self (c : Cursor) : ((s.setCursor i c).slot i).cursor = c := by simp

/-- A cursor at its first visit, with no parcel made. -/
def Cursor.startedAt (h : Fin 64) (d : Descriptor) : Cursor :=
  { state := .running, cur := h, copy := d, visits := 1, offset := 0, made := 0, last := none }

theorem abortChain_of_idle (reason : AbortReason) (h : (s.slot i).cursor.state = .idle) : abortChain i reason s = s :=
  if_pos h

/-- A chain whose head has a word starts at it. -/
theorem startChain_eq {h : Fin 64} (hlen : 0 < s.chain.table[h].len) : startChain i h s =
    s.setCursor i (.startedAt h s.chain.table[h]) := by
  have hvisit : visit i h (s.setCursor i { Cursor.idle with state := .running }) =
      s.setCursor i (.startedAt h s.chain.table[h]) := by
    unfold visit
    dsimp only
    rw [setCursor_cursor_self, setCursor_setCursor, (setCursor_touches i s _).chain]
    rfl
  unfold startChain walkRounds
  rw [hvisit]
  unfold walk
  dsimp only
  rw [setCursor_cursor_self]
  exact if_pos hlen

end Chains

section Actions

variable {i : Slot} {r : Request} {rest : List Request} {s : State}

theorem takeRequest_phase : ((takeRequest rest s).slot i).ctl.phase = (s.slot i).ctl.phase := by rw [takeRequest_slot]

variable (hs : Servable s r rest)

include hs

theorem chainStart_starts {h : Fin 64} (hr : SlotRequest 8 i r) (hphase : (s.slot i).ctl.phase = .admitted)
    (hhead : (s.slot i).cfg.chainHead = h.val) (hlen : 0 < s.chain.table[h].len) :
    ∃ t, exec .chainStart s = .next t ∧ Answered r rest .done [] s t ∧
      (t.slot i).cursor = { state := .running, cur := h, copy := s.chain.table[h], visits := 1, offset := 0,
                            made := 0, last := none } ∧
      (∀ j, j ≠ i → (t.slot j).cursor = (s.slot j).cursor) ∧ KeepsBut [.cursor, .mgmt, .port, .ctl] s t := by
  have hchain : (takeRequest rest s).chain = s.chain := (takeRequest_keepsBut rest s).chain
  have hf : slotAction actChainStart r (takeRequest rest s) =
      { status := .done, data := [], state := (takeRequest rest s).setCursor i (.startedAt h s.chain.table[h]) } := by
    have hbound : ((takeRequest rest s).slot i).cfg.chainHead < 64 := by
      rw [takeRequest_slot, hhead]
      exact h.isLt
    have hfin : (⟨((takeRequest rest s).slot i).cfg.chainHead, hbound⟩ : Fin 64) = h :=
      Fin.ext ((congrArg (fun x : SlotState => x.cfg.chainHead) (takeRequest_slot rest s i)).trans hhead)
    rw [slotAction_of hr, actChainStart, if_pos (by rw [takeRequest_phase, hphase]), dif_pos hbound, hfin,
      startChain_eq (by rw [hchain]; exact hlen), hchain]
    rfl
  have htouch := setCursor_touches i (takeRequest rest s) (.startedAt h s.chain.table[h])
  have hreplied := serve_replied hs (row_of_slotRequest hr (by decide)) hf (htouch.settleDrains (settled_takeRequest hs))
    (by rw [htouch.mgmt, takeRequest_msel]) (by rw [htouch.ctl, takeRequest_slot])
  refine ⟨_, rfl, hreplied.answered hs htouch.mgmt, ?_, fun j hj => ?_, hreplied.keepsBut htouch.keeps⟩
  · rw [hreplied.keeps.cursor, setCursor_cursor_self]
    rfl
  · rw [hreplied.keeps.cursor, htouch.others j hj, takeRequest_slot]

theorem chainStart_badValue (hr : SlotRequest 8 i r) (hphase : (s.slot i).ctl.phase = .admitted)
    (hhead : 64 ≤ (s.slot i).cfg.chainHead) : ∃ t, exec .chainStart s = .next t ∧ OnlyAnswered r rest .badValue [] s t := by
  refine answers_only rfl hs (row_of_slotRequest hr (by decide)) ?_
  rw [slotAction_of hr, actChainStart, if_pos (by rw [takeRequest_phase, hphase]),
    dif_neg (by rw [takeRequest_slot]; omega)]
  rfl

theorem chainStart_wrongState (hr : SlotRequest 8 i r) (hphase : (s.slot i).ctl.phase ≠ .admitted) :
    ∃ t, exec .chainStart s = .next t ∧ OnlyAnswered r rest .wrongState [] s t := by
  refine answers_only rfl hs (row_of_slotRequest hr (by decide)) ?_
  rw [slotAction_of hr, actChainStart, if_neg (by rwa [takeRequest_phase])]
  rfl

theorem chainStop_stops (hr : SlotRequest 9 i r) :
    ∃ t al, exec .chainStop s = .next t ∧ AnsweredAfter al r rest .done [] s t ∧ (t.slot i).cursor.state = .idle ∧
      ((s.slot i).cursor.state = .idle → OnlyAnswered r rest .done [] s t) ∧
      ((s.slot i).cursor.state ≠ .idle →
        t.alarm = (postEvent causeChainAborted i.val
          (wordOf (65536 + (s.slot i).cursor.visits * 256 + (s.slot i).cursor.cur.val)) s).alarm) ∧
      (∀ j, j ≠ i → (t.slot j).cursor = (s.slot j).cursor) ∧
      KeepsBut [.cursor, .alarm, .mgmt, .port, .ctl] s t := by
  have hf : slotAction actChainStop r (takeRequest rest s) =
      { status := .done, data := [], state := abortChain i .stopped (takeRequest rest s) } := slotAction_of hr
  have hrow := row_of_slotRequest hr (by decide)
  have htouch := abortChain_touches i (takeRequest rest s) .stopped
  obtain ⟨l, hl⟩ := htouch.grow
  have hreplied := serve_replied hs hrow hf (htouch.settleDrains (settled_takeRequest hs)) (by rw [hl, takeRequest_msel])
    (by rw [htouch.ctl, takeRequest_slot])
  obtain ⟨al, hal⟩ := hreplied.answeredGrow hs ⟨l, hl⟩
  refine ⟨_, al, rfl, hal, ?_, fun hidle => ?_, fun hrunning => ?_, fun j hj => ?_, hreplied.keepsBut htouch.keeps⟩
  · rw [hreplied.keeps.cursor]
    exact abortChain_idle ..
  · have honly := serve_onlyAnswered hs hrow (f := slotAction actChainStop)
      (by rw [hf]; exact abortChain_of_idle _ (by rw [takeRequest_slot, hidle]))
    rwa [hf] at honly
  · rw [hreplied.keeps.alarm, abortChain, takeRequest_slot, if_neg hrunning]
    have hset := setCursor_touches i (takeRequest rest s) Cursor.idle
    have htake := takeRequest_keepsBut rest s
    exact postEvent_alarm_congr ⟨hset.alarm.trans htake.alarm, hset.watches.trans htake.watches,
      hset.timing.trans htake.timing⟩ ..
  · rw [hreplied.keeps.cursor, htouch.others j hj, takeRequest_slot]

end Actions

/-- Settles O58, by the cases of the two actions. -/
theorem chainActions : Obligations.ChainActions := by
  unfold Obligations.ChainActions
  exact fun i r rest s hs => ⟨fun hr => ⟨fun h hphase hhead hlen => chainStart_starts hs hr hphase hhead hlen,
    chainStart_badValue hs hr, chainStart_wrongState hs hr⟩, chainStop_stops hs⟩

end Sys2Proof.Machine
end

section
/-! PROOFS. Writes of one entry: what a write leaves, and the flow, area, chain and cause tables (R20, R60, R145, R156). -/

namespace Sys2Proof.Machine

/-! ## A write that is done (R173 to R175) -/

/-- A WRITE-ENTRIES request of one entry of a table with a valid image that the state allows. -/
structure WritesOne (w : WriteTable) (r : Request) (rest : List Request) (s : State) : Prop where
  served : Servable s r rest
  code : r.code = 2
  count : r.count = 1
  inTable : r.first < w.entries
  length : r.words.length = 3 + w.size r.first
  ok : w.ok r.first (r.words.drop 3) = true
  allowed : w.allowed s r.first (r.words.drop 3) = true

section Done

variable {table : Nat} {c : Instr} {w : WriteTable} {r : Request} {rest : List Request} {ps : List Part} {m : Slot}
  {s u : State}

/-- A write after which nothing is left to report is answered DONE. -/
theorem WritesOne.answers (h : WritesOne w r rest s) (hmem : (table, c, w) ∈ writeRows) (hsubject : r.subject = table)
    (hput : w.put r.first (r.words.drop 3) (takeRequest rest s) = u) (hsettle : settleDrains u = u)
    (hgrow : RepliesGrow (takeRequest rest s) u)
    (hphase : ∀ j, (u.slot j).ctl.phase = ((takeRequest rest s).slot j).ctl.phase) :
    ∃ t, exec c s = .next t ∧ Replied s.mgmtSlot (replyTo r .done []) u t ∧
      ∃ al, AnsweredAfter al r rest .done [] s t := by
  obtain ⟨hs, hcode, hcount, hin, hlen, hok, hallowed⟩ := h
  obtain ⟨hexec, hfrom, hto, htake⟩ := writeRow_exec hmem
  subst hsubject
  have hrow := row_eq_write (List.ne_nil_of_length_pos (by omega)) hcode hfrom hto
  have hf : writeTable w r (takeRequest rest s) = { status := .done, data := [], state := u } := by
    rw [writeTable_one_done hcount hin hlen hok (by rw [htake]; exact hallowed), hput]
    rfl
  obtain ⟨al, hal⟩ := id hgrow
  have hmsel : u.mgmt.msel = s.mgmt.msel := by rw [hal, takeRequest_msel]
  have hreplied := serve_replied hs hrow hf hsettle hmsel (by rw [hphase, takeRequest_slot])
  exact ⟨_, hexec s, hreplied, hreplied.answeredGrow hs hgrow⟩

/-- The same for an effect that leaves the slot states and the egresses. -/
theorem WritesOne.done (h : WritesOne w r rest s) (hmem : (table, c, w) ∈ writeRows) (hsubject : r.subject = table)
    (hput : w.put r.first (r.words.drop 3) (takeRequest rest s) = u) (hu : Leaves ps (takeRequest rest s) u)
    (hphase : ∀ j, (u.slot j).ctl.phase = ((takeRequest rest s).slot j).ctl.phase)
    (he : Part.egr ∉ ps := by decide) :
    ∃ t, exec c s = .next t ∧ Replied s.mgmtSlot (replyTo r .done []) u t ∧
      ∃ al, AnsweredAfter al r rest .done [] s t :=
  h.answers hmem hsubject hput (hu.settles (settled_takeRequest h.served) hphase he) hu.grow hphase

/-- The same for an effect on one slot at most. -/
theorem WritesOne.touches (h : WritesOne w r rest s) (hmem : (table, c, w) ∈ writeRows) (hsubject : r.subject = table)
    (hput : w.put r.first (r.words.drop 3) (takeRequest rest s) = u) (hu : Touches ps s.mgmtSlot (takeRequest rest s) u)
    (he : Part.egr ∉ ps := by decide) (hc : Part.ctl ∉ ps := by decide) :
    ∃ t, exec c s = .next t ∧ Replied s.mgmtSlot (replyTo r .done []) u t ∧
      (∃ al, AnsweredAfter al r rest .done [] s t) ∧ OtherSlots s.mgmtSlot s t := by
  obtain ⟨t, hexec, hreplied, hal⟩ :=
    h.done hmem hsubject hput hu.leaves (fun j => by rw [hu.ctl hc]) he
  exact ⟨t, hexec, hreplied, hal, fun j hj =>
    ((hreplied.others j hj).trans (hu.others j hj)).trans (takeRequest_slot ..)⟩

end Done

/-! ## The flow table (R20) -/

section Flow

variable {r : Request} {rest : List Request} {s : State}

theorem putFlow_touches (i : Slot) (s : State) (k : Nat) (e : FlowEntry) : Touches [.flow] i s (putFlow k e s) :=
  ⟨⟨fun p hp => by cases p <;> simp_all [Part.Same, putFlow], rfl⟩, .of_eq rfl, otherSlots_of_slots fun _ => rfl⟩

theorem putFlow_flowAt (k j : Nat) (e : FlowEntry) (s : State) :
    (putFlow k e s).flowAt j = if j = k then e else s.flowAt j := by
  unfold putFlow State.flowAt
  dsimp only
  by_cases he : e = FlowEntry.zero
  · rw [if_pos he, assocGet_del]
    split
    · exact he.symm
    · rfl
  · rw [if_neg he, assocGet_put]
    split <;> rfl

theorem writeFlow_stores (h : WritesOne flowTable r rest s) (hsubject : r.subject = 2) :
    ∃ t, exec .writeFlowTable s = .next t ∧ Answered r rest .done [] s t ∧
      (∀ k, t.flowAt k = (if k = r.first then FlowEntry.ofWords (r.word 3) (r.word 4) else s.flowAt k)) ∧
      KeepsBut [.flow, .mgmt, .port, .ctl] s t ∧ OtherSlots s.mgmtSlot s t := by
  have hu := putFlow_touches s.mgmtSlot (takeRequest rest s) r.first (FlowEntry.ofWords (r.word 3) (r.word 4))
  obtain ⟨t, hexec, hreplied, -, hothers⟩ := h.touches (c := .writeFlowTable) (by simp [writeRows]) hsubject
    (by rw [← getD_image 0, ← getD_image 1]; rfl) hu
  refine ⟨t, hexec, hreplied.answered h.served hu.mgmt, fun k => ?_, hreplied.keepsBut hu.keeps, hothers⟩
  have hflow (j : Nat) : (takeRequest rest s).flowAt j = s.flowAt j := by
    unfold State.flowAt
    rw [(takeRequest_keepsBut rest s).flow]
  rw [← hflow, ← putFlow_flowAt]
  unfold State.flowAt
  rw [hreplied.keeps.flow]

end Flow

/-! ## Park areas (R60) -/

section Areas

variable {r : Request} {rest : List Request} {s : State}

theorem eachSlot_leaves {f : Slot → State → State} {ps : List Part} (hf : ∀ i t, Leaves ps t (f i t)) (s : State) :
    Leaves ps s (s.eachSlot f) := by
  unfold State.eachSlot
  generalize allSlots = l
  induction l generalizing s with
  | nil => exact .refl ..
  | cons i l ih => exact (hf i s).then (ih _) (List.Subset.refl _) (List.Subset.refl _)

theorem writeArea_leaves (n : Fin 64) (ws : List Word) (s : State) :
    Leaves [.park, .ing, .watches, .alarm, .mgmt] s (writeArea n ws s) :=
  (((setArea_touches (i := 0) n _).leaves.then (eachSlot_leaves (fun i t => (modIng_touches i t _).leaves) _)
    (rs := [.park, .ing])).then (evalArea_touches _ 0 n).leaves)

theorem writeArea_park (n : Fin 64) (ws : List Word) (s : State) :
    (writeArea n ws s).park = { s.park with areas := s.park.areas.set n (Area.ofWords ws) } := by
  rw [writeArea, (evalArea_touches _ 0 n).park]
  exact (eachSlot_leaves (ps := [.ing]) (fun i t => (modIng_touches i t _).leaves) _).keeps.park

theorem Area.ofWords_image (r : Request) : Area.ofWords (r.words.drop 3) =
    { mode := AreaMode.ofCode (r.word 3).toNat, base := (r.word 4).toNat, size := (r.word 5).toNat,
      advance := decide ((r.word 6).toNat = 1), crossing := decide ((r.word 7).toNat = 1), writeIdx := 0,
      readable := none, copies := 0, doneSec := 0, doneNs := 0, doneUp := 0 } := by
  simp only [Area.ofWords, fieldNat, fieldBool, getD_image]
  rfl

theorem writeAreas_stores {n : Fin 64} (h : WritesOne areaTable r rest s) (hsubject : r.subject = 3)
    (hfirst : r.first = n.val) :
    ∃ t al, exec .writeParkAreas s = .next t ∧ AnsweredAfter al r rest .done [] s t ∧
      t.park = { s.park with areas := s.park.areas.set n (Area.ofWords (r.words.drop 3)) } ∧
      KeepsBut [.park, .watches, .alarm, .ing, .mgmt, .port, .ctl] s t := by
  have hu := writeArea_leaves n (r.words.drop 3) (takeRequest rest s)
  obtain ⟨t, hexec, hreplied, al, hal⟩ := h.done (c := .writeParkAreas) (by simp [writeRows]) hsubject
    (by rw [hfirst]; simp only [areaTable, Fin.ofNat_val_eq_self]) hu (fun j => by rw [hu.keeps.ctl])
  refine ⟨t, al, hexec, hal, ?_, hreplied.keepsBut hu.keeps⟩
  rw [hreplied.keeps.park, writeArea_park, (takeRequest_keepsBut rest s).park]

end Areas

/-! ## Chain descriptors (R145) -/

section Descriptors

variable {r : Request} {rest : List Request} {s : State}

theorem writeDescriptors_stores {n : Fin 64} (h : WritesOne chainTable r rest s) (hsubject : r.subject = 5)
    (hfirst : r.first = n.val) :
    ∃ t, exec .writeChainDescriptors s = .next t ∧ Answered r rest .done [] s t ∧
      t.chain = { s.chain with table := s.chain.table.set n (Descriptor.ofWords (r.words.drop 3)) } ∧
      KeepsBut [.chain, .mgmt, .port, .ctl] s t ∧ OtherSlots s.mgmtSlot s t := by
  have hu := modChain_touches s.mgmtSlot (takeRequest rest s)
    (fun c => { c with table := c.table.set n (Descriptor.ofWords (r.words.drop 3)) })
  obtain ⟨t, hexec, hreplied, -, hothers⟩ := h.touches (c := .writeChainDescriptors) (by simp [writeRows]) hsubject
    (by rw [hfirst]; simp only [chainTable, Fin.ofNat_val_eq_self]) hu
  refine ⟨t, hexec, hreplied.answered h.served hu.mgmt, ?_, hreplied.keepsBut hu.keeps, hothers⟩
  exact hreplied.keeps.chain.trans (by simp)

end Descriptors

/-! ## Cause settings (R156, R158) -/

section Causes

variable {r : Request} {rest : List Request} {s : State}

/-- The raised pairs of a cause replayed as RAISE entries (R156). -/
def replayed (c : Fin 64) (l : List (Nat × Word)) (s : State) : State :=
  l.foldl (fun t p => postEntry c p.1 .raise 0 p.2 t) s

theorem replayed_entriesOnly (c : Fin 64) (l : List (Nat × Word)) (s : State) : EntriesOnly s (replayed c l s) := by
  induction l generalizing s with
  | nil => exact .refl _
  | cons p l ih => exact (postEntry_entriesOnly ..).trans (ih _)

theorem postEntry_touches (i : Slot) (n : Nat) (c : Fin 64) (a : AlarmAction) (k : Nat) (w : Word) (s : State) :
    Touches [.alarm, .mgmt] i s (postEntry c n a k w s) :=
  ⟨⟨fun p hp => by cases p <;> simp_all [Part.Same], by simp⟩, postEntry_grow .., otherSlots_of_slots fun j =>
    slot_of_parts (by simp) (by simp) (by simp) (by simp) (by simp) (by simp) (by simp)⟩

theorem replayed_touches (i : Slot) (c : Fin 64) (l : List (Nat × Word)) (s : State) :
    Touches [.alarm, .mgmt] i s (replayed c l s) := by
  induction l generalizing s with
  | nil => exact .refl ..
  | cons p l ih => exact (postEntry_touches ..).then (ih _)

/-- The settings that a write gives a cause, with the suppressed count kept. -/
def State.causeWith (s : State) (c : Fin 64) (enable : Bool) (sev : Severity) (holdOff : Nat) : CauseCfg :=
  { enable := enable, severity := sev, holdOff := holdOff, suppressed := (s.cause c).suppressed }

/-- A cause with settings stored. -/
def setCause (c : Fin 64) (x : CauseCfg) (s : State) : State :=
  s.modAlarm (fun a => { a with causes := a.causes.set c.val x })

theorem writeCause_eq (c : Fin 64) (enable : Bool) (sev : Severity) (holdOff : Nat) (s : State) :
    writeCause c enable sev holdOff s = judgeRelays (
      if enable && !(s.cause c).enable && isStanding c then
        replayed c ((setCause c (s.causeWith c enable sev holdOff) s).raisedOf c)
          (setCause c (s.causeWith c enable sev holdOff) s)
      else setCause c (s.causeWith c enable sev holdOff) s) := rfl

theorem judgeRelays_touches (i : Slot) (s : State) : Touches [.alarm] i s (judgeRelays s) := modAlarm_touches ..

theorem judgeRelays_causes (s : State) : (judgeRelays s).alarm.causes = s.alarm.causes := rfl

theorem writeCause_touches (i : Slot) (c : Fin 64) (enable : Bool) (sev : Severity) (holdOff : Nat) (s : State) :
    Touches [.alarm, .mgmt] i s (writeCause c enable sev holdOff s) := by
  have hset : Touches [.alarm, .mgmt] i s (setCause c (s.causeWith c enable sev holdOff) s) := (modAlarm_touches i s _).mono
  rw [writeCause_eq]
  exact (touches_ite (hset.then (replayed_touches ..)) hset).then (judgeRelays_touches ..)

/-- A replay makes entries alone: the settings of the causes and the raised set are those of the write. -/
theorem writeCause_alarm (c : Fin 64) (enable : Bool) (sev : Severity) (holdOff : Nat) (s : State) :
    (writeCause c enable sev holdOff s).alarm.causes = s.alarm.causes.set c (s.causeWith c enable sev holdOff) ∧
    (writeCause c enable sev holdOff s).alarm.raised = s.alarm.raised := by
  rw [writeCause_eq, judgeRelays_raised, judgeRelays_causes]
  split
  · rw [replayed_entriesOnly]
    exact ⟨rfl, rfl⟩
  · exact ⟨rfl, rfl⟩

theorem State.relaysOk.frame {s t : State} (h : s.relaysOk) (halarm : t.alarm = s.alarm)
    (hwatches : t.watches = s.watches) : t.relaysOk := by
  unfold State.relaysOk at *
  have hdrives := drives_congr (s := s) (t := t) (by rw [halarm]) (fun c => by simp [State.cause, halarm])
    (fun n => by simp [hwatches])
  simpa only [hdrives, halarm] using h

theorem writeCauses_stores {c : Fin 64} (h : WritesOne causeTable r rest s) (hsubject : r.subject = 6)
    (hfirst : r.first = c.val) :
    ∃ t al, exec .writeCauseSettings s = .next t ∧ AnsweredAfter al r rest .done [] s t ∧
      t.alarm.causes = s.alarm.causes.set c
        { enable := decide ((r.word 3).toNat = 1), severity := Severity.ofCode (r.word 4).toNat,
          holdOff := (r.word 5).toNat, suppressed := (s.cause c).suppressed } ∧
      t.alarm.raised = s.alarm.raised ∧ t.relaysOk ∧
      KeepsBut [.alarm, .mgmt, .port, .ctl] s t ∧ OtherSlots s.mgmtSlot s t := by
  have hu := writeCause_touches s.mgmtSlot c (decide ((r.word 3).toNat = 1)) (Severity.ofCode (r.word 4).toNat)
    (r.word 5).toNat (takeRequest rest s)
  have htaken := (takeRequest_keepsBut rest s).alarm
  obtain ⟨hcauses, hraised⟩ := writeCause_alarm c (decide ((r.word 3).toNat = 1)) (Severity.ofCode (r.word 4).toNat)
    (r.word 5).toNat (takeRequest rest s)
  obtain ⟨t, hexec, hreplied, ⟨al, hal⟩, hothers⟩ := h.touches (c := .writeCauseSettings) (by simp [writeRows]) hsubject
    (by rw [hfirst]; simp only [causeTable, Fin.ofNat_val_eq_self, fieldBool, fieldNat, getD_image]) hu
  refine ⟨t, al, hexec, hal, ?_, ?_, ?_, hreplied.keepsBut hu.keeps, hothers⟩
  · rw [hreplied.keeps.alarm, hcauses, State.causeWith, State.cause, htaken]
    rfl
  · rw [hreplied.keeps.alarm, hraised, htaken]
  · exact (judgeRelays_relaysOk _).frame hreplied.keeps.alarm hreplied.keeps.watches

end Causes

end Sys2Proof.Machine
end

section
/-! PROOFS. Watches: what an evaluation finds and reports, and writes of watches (R166 to R169). -/

namespace Sys2Proof.Machine

/-! ## An evaluation (R167, R168) -/

/-- The raise or clear of a watch on what its evaluation has found. -/
def judgeWatch (n : Fin 32) (w : Watch) (rel : Relation) (v : Word) (raised : Bool) (u : State) : State :=
  if raised then
    if w.mask.getLsbD rel.code then u
    else if rel = .u ∨ w.margin ≤ w.distance v then clearCond causeWatch n.val v u
    else u
  else if w.mask.getLsbD rel.code then raiseCond causeWatch n.val v u
  else u

section Judge

variable {n : Fin 32} {w : Watch} {rel : Relation} {v : Word} {raised : Bool} {u : State}

theorem evalWatch_eq (n : Fin 32) (s : State) : evalWatch n s =
    judgeWatch n s.watches[n] (s.relation s.watches[n]).1 (s.relation s.watches[n]).2 (s.isRaised causeWatch n.val)
      (s.setWatch n { s.watches[n] with
        lastRel := (s.relation s.watches[n]).1, lastVal := (s.relation s.watches[n]).2 }) := rfl

theorem judgeWatch_touches (i : Slot) : Touches [.alarm, .mgmt] i u (judgeWatch n w rel v raised u) := by
  unfold judgeWatch
  split
  · split
    · exact .refl ..
    · exact touches_ite (clearCond_touches ..) (.refl ..)
  · exact touches_ite (raiseCond_touches ..) (.refl ..)

theorem judgeWatch_raises (h : w.mask.getLsbD rel.code = true) :
    judgeWatch n w rel v false u = raiseCond causeWatch n.val v u := if_pos h

theorem judgeWatch_clears (h : w.mask.getLsbD rel.code = false) (hfar : rel = .u ∨ w.margin ≤ w.distance v) :
    judgeWatch n w rel v true u = clearCond causeWatch n.val v u := by
  unfold judgeWatch
  rw [if_pos rfl, if_neg (by rw [h]; decide), if_pos hfar]

theorem judgeWatch_quiet (h : w.mask.getLsbD rel.code = false) : judgeWatch n w rel v false u = u := by
  unfold judgeWatch
  rw [if_neg (by decide), if_neg (by rw [h]; decide)]

theorem judgeWatch_stays (h : w.mask.getLsbD rel.code = true ∨ (rel ≠ .u ∧ w.distance v < w.margin)) :
    judgeWatch n w rel v true u = u := by
  unfold judgeWatch
  rw [if_pos rfl]
  rcases h with h | ⟨hrel, hnear⟩
  · exact if_pos h
  · rw [if_neg (show ¬(rel = .u ∨ w.margin ≤ w.distance v) by simp [hrel, hnear])]
    exact ite_self _

/-- On a relation U the pair stands exactly as the mask has it. -/
theorem judgeWatch_unknown (hraised : u.isRaised causeWatch n.val = raised) :
    (judgeWatch n w .u v raised u).isRaised causeWatch n.val = w.mask.getLsbD 0 := by
  cases raised <;> cases hmask : w.mask.getLsbD Relation.u.code
  · rw [judgeWatch_quiet hmask, hraised]
    exact hmask.symm
  · rw [judgeWatch_raises hmask, isRaised_raised]
    exact hmask.symm
  · rw [judgeWatch_clears hmask (.inl rfl), isRaised_cleared]
    exact hmask.symm
  · rw [judgeWatch_stays (.inl hmask), hraised]
    exact hmask.symm

theorem isRaised_raiseCond_ne {c d : Fin 64} {k m : Nat} {p : Word} {s : State} (hk : k < 64) (hm : m < 64)
    (h : d ≠ c ∨ m ≠ k) : (raiseCond c k p s).isRaised d m = s.isRaised d m := by
  rw [isRaised_raiseCond, decide_eq_false, Bool.false_or]
  rw [pairKey_inj hm hk]
  tauto

theorem isRaised_clearCond_ne {c d : Fin 64} {k m : Nat} {p : Word} {s : State} (hk : k < 64) (hm : m < 64)
    (h : d ≠ c ∨ m ≠ k) : (clearCond c k p s).isRaised d m = s.isRaised d m := by
  rw [isRaised_clearCond, decide_eq_true, Bool.true_and]
  rw [ne_eq, pairKey_inj hm hk]
  tauto

theorem watch_lt (n : Fin 32) : n.val < 64 := Nat.lt_trans n.isLt (by decide)

theorem judgeWatch_isRaised_ne {c : Fin 64} {m : Nat} (hm : m < 64) (h : c ≠ causeWatch ∨ m ≠ n.val) :
    (judgeWatch n w rel v raised u).isRaised c m = u.isRaised c m := by
  unfold judgeWatch
  split
  · split
    · rfl
    · split
      · exact isRaised_clearCond_ne (watch_lt n) hm h
      · rfl
  · split
    · exact isRaised_raiseCond_ne (watch_lt n) hm h
    · rfl

theorem judgeWatch_sameReporting {s t : State} (h : SameReporting s t) :
    SameReporting (judgeWatch n w rel v raised s) (judgeWatch n w rel v raised t) := by
  unfold judgeWatch
  split
  · split
    · exact h
    · split
      · exact clearCond_sameReporting h ..
      · exact h
  · split
    · exact raiseCond_sameReporting h ..
    · exact h

end Judge

theorem setWatch_watches (n : Fin 32) (w : Watch) (s : State) : (s.setWatch n w).watches = s.watches.set n w := rfl

/-! ## WATCH_STALE (R169) -/

theorem staleAt_iff {limit : Nat} {now done : Uptime} :
    staleAt limit now done = true ↔ limit ≠ 0 ∧ limit ≤ (now - done).toNat := by
  unfold staleAt
  rw [Bool.and_eq_true, decide_eq_true_iff, decide_eq_true_iff]
  rfl

theorem relation_of_stale {w : Watch} {a : Area} {s : State} (ha : a = s.park.areas[w.area])
    (hstale : staleAt w.stale s.uptime a.doneUp = true) : s.relation w = (.u, 0) := by
  subst ha
  unfold State.relation
  dsimp only
  split
  · exact if_pos hstale
  · rfl

theorem watchStale_unknown {n : Fin 32} {a : Area} {s : State} (ha : a = s.park.areas[s.watches[n].area])
    (hon : s.watches[n].enabled = true) (hmode : a.mode = .latest) (hreadable : a.readable.isSome = true)
    (hlimit : s.watches[n].stale ≠ 0) (hold : s.watches[n].stale ≤ (s.timing.uptime - a.doneUp).toNat) :
    ∃ t, exec (.watchStale n) s = .next t ∧
      t.watches = s.watches.set n { s.watches[n] with lastRel := .u, lastVal := 0 } ∧
      t.isRaised causeWatch n.val = s.watches[n].mask.getLsbD 0 ∧
      (∀ c m, c ≠ causeWatch → m < 64 → t.isRaised c m = s.isRaised c m) ∧
      KeepsBut [.watches, .alarm, .mgmt] s t ∧ OnlyReplies s t := by
  have hstale : staleAt s.watches[n].stale s.uptime a.doneUp = true := staleAt_iff.mpr ⟨hlimit, hold⟩
  have hcopy : s.copyStale n = true := by
    unfold State.copyStale
    simp only [← ha, hon, hmode, hreadable, hstale]
    rfl
  have hexec : exec (.watchStale n) s = .next (evalWatch n s) := congrArg Host.Outcome.next (if_pos hcopy)
  have hset := setWatch_touches s 0 n { s.watches[n] with lastRel := .u, lastVal := 0 }
  have hall := evalWatch_touches s 0 n
  have heval := evalWatch_eq n s
  rw [relation_of_stale ha hstale] at heval
  refine ⟨_, hexec, ?_, ?_, fun c m hc hm => ?_, hall.keeps, hall.replies⟩
  · rw [heval, (judgeWatch_touches 0).watches, setWatch_watches]
  · rw [heval]
    exact judgeWatch_unknown (isRaised_of_alarm hset.alarm ..)
  · rw [heval, judgeWatch_isRaised_ne hm (.inl hc)]
    exact isRaised_of_alarm hset.alarm c m

/-! ## A write of a watch (R166, R169) -/

section Write

variable {n : Fin 32} {ws : List Word} {w : Watch} {s : State}

/-- A watch stored with what an evaluation has found. -/
def State.foundWatch (s : State) (n : Fin 32) (w : Watch) (rel : Relation) (v : Word) : State :=
  s.setWatch n { w with lastRel := rel, lastVal := v }

/-- A write of a watch up to the relays: an enabled watch is evaluated, and the pair of a disabled one is cleared. -/
def storeWatch (n : Fin 32) (w : Watch) (s : State) : State :=
  if w.enabled then
    judgeWatch n w (s.relation w).1 (s.relation w).2 (s.isRaised causeWatch n.val)
      (s.foundWatch n w (s.relation w).1 (s.relation w).2)
  else clearCond causeWatch n.val 0 (s.foundWatch n w .u 0)

theorem setWatch_setWatch (v w : Watch) : (s.setWatch n v).setWatch n w = s.setWatch n w := by
  simp [State.setWatch]

theorem setWatch_self (w : Watch) : (s.setWatch n w).watches[n] = w := by
  simp [State.setWatch]

theorem writeWatch_eq (n : Fin 32) (ws : List Word) (s : State) : writeWatch n ws s =
    if (s.watches[n].withWords ws).severity = s.watches[n].severity then storeWatch n (s.watches[n].withWords ws) s
    else judgeRelays (storeWatch n (s.watches[n].withWords ws) s) := by
  have hstored (w : Watch) : (if w.enabled then evalWatch n (s.setWatch n w)
      else clearCond causeWatch n.val 0 ((s.setWatch n w).setWatch n { w with lastRel := .u, lastVal := 0 })) =
      storeWatch n w s := by
    unfold storeWatch State.foundWatch
    rw [evalWatch_eq, setWatch_self, setWatch_setWatch, setWatch_setWatch]
    rfl
  unfold writeWatch
  dsimp only
  rw [hstored]

theorem foundWatch_touches (i : Slot) (rel : Relation) (v : Word) :
    Touches [.watches] i s (s.foundWatch n w rel v) := setWatch_touches ..

theorem storeWatch_touches (i : Slot) : Touches [.watches, .alarm, .mgmt] i s (storeWatch n w s) := by
  have hfound (rel : Relation) (v : Word) := (foundWatch_touches (s := s) (n := n) (w := w) i rel v).mono
    (rs := [.watches, .alarm, .mgmt])
  unfold storeWatch
  exact touches_ite ((hfound _ _).then (judgeWatch_touches i)) ((hfound _ _).then (clearCond_touches ..))

theorem writeWatch_touches (i : Slot) : Touches [.watches, .alarm, .mgmt] i s (writeWatch n ws s) := by
  rw [writeWatch_eq]
  exact touches_ite (storeWatch_touches i) ((storeWatch_touches i).then (judgeRelays_touches ..))

/-- What the watch table holds after a write. -/
theorem writeWatch_watches : ∃ rel v, (writeWatch n ws s).watches =
      s.watches.set n { s.watches[n].withWords ws with lastRel := rel, lastVal := v } ∧
    ((s.watches[n].withWords ws).enabled = true → (rel, v) = s.relation (s.watches[n].withWords ws)) ∧
    ((s.watches[n].withWords ws).enabled = false → rel = .u ∧ v = 0 ∧
      (writeWatch n ws s).isRaised causeWatch n.val = false) := by
  have hjudge : (writeWatch n ws s).watches = (storeWatch n (s.watches[n].withWords ws) s).watches ∧
      (writeWatch n ws s).alarm.raised = (storeWatch n (s.watches[n].withWords ws) s).alarm.raised := by
    rw [writeWatch_eq]
    split
    · exact ⟨rfl, rfl⟩
    · exact ⟨(judgeRelays_touches 0 _).watches, judgeRelays_raised _⟩
  obtain ⟨hwatches, hraised⟩ := hjudge
  rw [hwatches]
  unfold State.isRaised
  rw [hraised]
  unfold storeWatch
  generalize s.watches[n].withWords ws = w
  cases hon : w.enabled with
  | true =>
    rw [if_pos rfl]
    refine ⟨(s.relation w).1, (s.relation w).2, ?_, fun _ => rfl, nofun⟩
    rw [(judgeWatch_touches 0).watches]
    exact setWatch_watches ..
  | false =>
    rw [if_neg (by decide)]
    refine ⟨.u, 0, ?_, nofun, fun _ => ⟨rfl, rfl, ?_⟩⟩
    · rw [(clearCond_touches 0 ..).watches]
      exact setWatch_watches ..
    · exact isRaised_cleared ..

theorem judgeRelays_of_relaysOk {u : State} (h : u.relaysOk) : judgeRelays u = u := by
  obtain ⟨hcrit, hmaj, hmin⟩ := h
  unfold judgeRelays State.modAlarm
  rw [← hcrit, ← hmaj, ← hmin]

/-- The alarm unit after a write that enables a watch, but for the relays. -/
theorem writeWatch_alarm (hon : (s.watches[n].withWords ws).enabled = true) {rel : Relation} {v : Word} {t : State}
    (hw : w = s.watches[n].withWords ws) (hfound : s.relation w = (rel, v))
    (ht : t = judgeWatch n w rel v (s.isRaised causeWatch n.val) (s.foundWatch n w rel v)) :
    (writeWatch n ws s).alarm.raised = t.alarm.raised ∧ (writeWatch n ws s).alarm.queue = t.alarm.queue ∧
    (t.relaysOk → (writeWatch n ws s).alarm = t.alarm) := by
  subst hw
  have hstore : storeWatch n (s.watches[n].withWords ws) s = t := by
    rw [ht, storeWatch, if_pos hon, hfound]
  rw [writeWatch_eq, hstore]
  split
  · exact ⟨rfl, rfl, fun _ => rfl⟩
  · exact ⟨judgeRelays_raised t, rfl, fun h => by rw [judgeRelays_of_relaysOk h]⟩

end Write

/-- What a write of a watch does depends on the alarm unit, the watches, the time and parking memory alone. -/
theorem writeWatch_congr (n : Fin 32) (ws : List Word) {s t : State} (h : SameReporting s t) (hpark : t.park = s.park) :
    (writeWatch n ws t).watches = (writeWatch n ws s).watches ∧ (writeWatch n ws t).alarm = (writeWatch n ws s).alarm := by
  obtain ⟨halarm, hwatches, htiming⟩ := id h
  have hrelation (w : Watch) : t.relation w = s.relation w := by
    unfold State.relation State.watchWord State.uptime
    rw [hpark, htiming]
  have hfound (w : Watch) (rel : Relation) (v : Word) :
      SameReporting (s.foundWatch n w rel v) (t.foundWatch n w rel v) :=
    ⟨halarm, congrArg (fun x : Vector Watch 32 => x.set n { w with lastRel := rel, lastVal := v }) hwatches, htiming⟩
  have hstore (w : Watch) : SameReporting (storeWatch n w s) (storeWatch n w t) := by
    unfold storeWatch
    rw [hrelation, isRaised_congr h]
    split
    · exact judgeWatch_sameReporting (hfound ..)
    · exact clearCond_sameReporting (hfound ..) ..
  have hall : SameReporting (writeWatch n ws s) (writeWatch n ws t) := by
    rw [writeWatch_eq, writeWatch_eq, hwatches]
    split
    · exact hstore _
    · exact judgeRelays_sameReporting (hstore _)
  exact ⟨hall.2.1, hall.1⟩

/-! ## What an evaluation finds (R167) -/

section Finds

variable {w : Watch} {s : State}

theorem distance_eq (w : Watch) (v : Word) : w.distance v = watchDistance w v := by
  unfold Watch.distance Watch.read watchDistance
  cases w.isUnsigned <;> rfl

theorem compare_eq (w : Watch) (v : Word) : w.compare v =
    if v = w.threshold then .e
    else if w.isUnsigned = true then if v.toNat < w.threshold.toNat then .l else .g
    else if v.toInt < w.threshold.toInt then .l else .g := by
  unfold Watch.compare Watch.read
  cases w.isUnsigned
  · simp only [Bool.false_eq_true, if_false, BitVec.toInt_inj]
    by_cases heq : v = w.threshold
    · simp [heq]
    · simp [heq]
  · simp only [if_true, Nat.cast_lt, Nat.cast_inj, BitVec.toNat_inj]
    by_cases heq : v = w.threshold
    · simp [heq]
    · simp [heq]

/-- The relation of a watch whose word lies in parking memory. -/
theorem relation_eq (hmem : ∀ b, s.park.areas[w.area].readable = some b →
      s.park.areas[w.area].halfStart b + 1 + w.offset < 32768) :
    s.relation w = watchFinds w s := by
  have hwords : Config.parkWords = 32768 := rfl
  unfold State.relation watchFinds
  dsimp only
  cases hreadable : s.park.areas[w.area].readable with
  | none => cases s.park.areas[w.area].mode <;> rfl
  | some b =>
    have hin := hmem b hreadable
    have hstart : (s.park.areas[w.area].halfStart b) = if b = true then
        s.park.areas[w.area].base + s.park.areas[w.area].size else s.park.areas[w.area].base := rfl
    have hread (k : Nat) (hk : k < 32768) : s.watchWord k = parkRead s.park.mem k := if_pos (by omega)
    cases hmode : s.park.areas[w.area].mode with
    | latest =>
      dsimp only
      rw [hread _ (by omega), hread _ (by omega), ← hstart, compare_eq]
      generalize parkRead s.park.mem (s.park.areas[w.area].halfStart b) = head
      generalize parkRead s.park.mem (s.park.areas[w.area].halfStart b + 1 + w.offset) = v
      have hlen : landingLen head = (head.extractLsb' 8 8).toNat := rfl
      have huptime : s.uptime = s.timing.uptime := rfl
      rw [← hlen, huptime]
      by_cases hold : w.stale ≠ 0 ∧ w.stale ≤ (s.timing.uptime - s.park.areas[w.area].doneUp).toNat
      · rw [if_pos (staleAt_iff.mpr hold), if_pos (.inr (.inl hold))]
      · rw [if_neg (fun h => hold (staleAt_iff.mp h))]
        by_cases hshort : landingLen head ≤ w.offset
        · rw [if_pos hshort, if_pos (.inr (.inr hshort))]
        · have hfresh : ¬(AreaMode.latest ≠ .latest ∨ (w.stale ≠ 0 ∧
              w.stale ≤ (s.timing.uptime - s.park.areas[w.area].doneUp).toNat) ∨ landingLen head ≤ w.offset) := by
            simp only [not_or]
            exact ⟨fun h => h rfl, hold, hshort⟩
          rw [if_neg hshort, if_neg hfresh]
          split
          · rfl
          · split <;> rfl
    | _ => rfl

end Finds

/-! ## WRITE-ENTRIES of a watch (R166, R168, R169) -/

section Served

variable {n : Fin 32} {r : Request} {rest : List Request} {s : State}

/-- A write of one watch is answered DONE, and what it leaves is what the write leaves of the watch unit and of the
alarm unit. -/
theorem writeWatches_done (h : WritesOne watchTable r rest s) (hsubject : r.subject = 4) (hfirst : r.first = n.val) :
    ∃ t al, exec .writeWatches s = .next t ∧ AnsweredAfter al r rest .done [] s t ∧
      t.watches = (writeWatch n (r.words.drop 3) s).watches ∧ t.alarm = (writeWatch n (r.words.drop 3) s).alarm ∧
      KeepsBut [.watches, .alarm, .mgmt, .port, .ctl] s t ∧ OtherSlots s.mgmtSlot s t := by
  have hu := writeWatch_touches (n := n) (ws := r.words.drop 3) (s := takeRequest rest s) s.mgmtSlot
  have htake := takeRequest_keepsBut rest s
  obtain ⟨hwatches, halarm⟩ := writeWatch_congr n (r.words.drop 3) (s := s) (t := takeRequest rest s)
    ⟨htake.alarm, htake.watches, htake.timing⟩ htake.park
  obtain ⟨t, hexec, hreplied, ⟨al, hal⟩, hothers⟩ := h.touches (c := .writeWatches) (by simp [writeRows]) hsubject
    (by rw [hfirst]; simp only [watchTable, Fin.ofNat_val_eq_self]) hu
  exact ⟨t, al, hexec, hal, hreplied.keeps.watches.trans hwatches, hreplied.keeps.alarm.trans halarm,
    hreplied.keepsBut hu.keeps, hothers⟩

/-- A write that enables a watch evaluates it: what it leaves is what the judgement of the watch leaves, and the relays
are judged. -/
theorem writeWatches_judges (h : WritesOne watchTable r rest s) (hsubject : r.subject = 4) (hfirst : r.first = n.val)
    {w : Watch} {rel : Relation} {v : Word} {u : State} (hw : w = s.watches[n].withWords (r.words.drop 3))
    (hon : w.enabled = true) (hfound : s.relation w = (rel, v)) (hu : u = s.foundWatch n w rel v) :
    ∃ t al, exec .writeWatches s = .next t ∧ AnsweredAfter al r rest .done [] s t ∧ t.watches = u.watches ∧
      t.alarm.raised = (judgeWatch n w rel v (s.isRaised causeWatch n.val) u).alarm.raised ∧
      t.alarm.queue = (judgeWatch n w rel v (s.isRaised causeWatch n.val) u).alarm.queue ∧
      ((judgeWatch n w rel v (s.isRaised causeWatch n.val) u).relaysOk →
        t.alarm = (judgeWatch n w rel v (s.isRaised causeWatch n.val) u).alarm) ∧
      KeepsBut [.watches, .alarm, .mgmt, .port, .ctl] s t ∧ OtherSlots s.mgmtSlot s t := by
  obtain ⟨t, al, hexec, hal, hwatches, halarm, hkeeps, hothers⟩ := writeWatches_done h hsubject hfirst
  have hon' : (s.watches[n].withWords (r.words.drop 3)).enabled = true := by rw [← hw]; exact hon
  obtain ⟨hraised, hqueue, hrelays⟩ := writeWatch_alarm hon' hw hfound (t := judgeWatch n w rel v
    (s.isRaised causeWatch n.val) u) (by rw [hu])
  refine ⟨t, al, hexec, hal, ?_, by rw [halarm, hraised], by rw [halarm, hqueue], fun h => by rw [halarm, hrelays h],
    hkeeps, hothers⟩
  obtain ⟨rel', v', hstored, henabled, -⟩ := writeWatch_watches (n := n) (ws := r.words.drop 3) (s := s)
  have hsame := henabled hon'
  rw [← hw, hfound] at hsame
  obtain ⟨rfl, rfl⟩ := Prod.mk.inj hsame
  rw [hwatches, hstored, hu, ← hw]
  exact (setWatch_watches ..).symm

end Served

theorem enabled_of_first {w : Watch} {r : Request} (hon : (r.word 3).toNat = 1) :
    (w.withWords (r.words.drop 3)).enabled = true := by
  simp only [Watch.withWords, fieldBool, fieldNat, getD_image]
  exact decide_eq_true hon

theorem watchAreaOk_true {w : Watch} {ws : List Word} {s : State}
    (hmode : s.park.areas[(w.withWords ws).area].mode = .latest) : s.watchAreaOk ws = true := by
  unfold State.watchAreaOk
  rw [Bool.or_eq_true]
  exact .inr (beq_iff_eq.mpr hmode)

/-- Settles O48, by what an evaluation finds and what the judgement of a watch reports. -/
theorem staleCopiesAreUnknown : Obligations.StaleCopiesAreUnknown := by
  unfold Obligations.StaleCopiesAreUnknown
  refine ⟨fun n a s ha hon hmode hreadable hlimit hold => watchStale_unknown ha hon hmode hreadable hlimit hold, ?_⟩
  rintro n ws w rel v u r rest s hs hcode hcount hsubject hfirst hlen rfl hok hon hw hmode hin hrel hv hu
  have hone : WritesOne watchTable r rest s :=
    ⟨hs, hcode, hcount, by rw [hfirst]; exact n.isLt, hlen, hok, watchAreaOk_true (hw ▸ hmode)⟩
  have hfound : s.relation w = (rel, v) := by rw [hrel, hv, relation_eq fun b hb => hin b hb]
  obtain ⟨t, al, hexec, hal, hwatches, hraised, hqueue, hrelays, hkeeps, hothers⟩ :=
    writeWatches_judges hone hsubject hfirst hw (hw ▸ enabled_of_first hon) hfound hu
  have hsame (c : Fin 64) (m : Nat) : u.isRaised c m = s.isRaised c m := by rw [hu]; rfl
  refine ⟨t, al, hexec, hal, hwatches, fun hclear hmask => ?_, fun hset hmask hfar => ?_, fun hclear hmask => ?_,
    fun hset hstay => ?_, fun c m hcm hm => ?_, hkeeps, hothers⟩
  · rw [hclear, judgeWatch_raises hmask] at hrelays
    have halarm := hrelays (by
      rw [raiseCond_of_not_raised ((hsame ..).trans hclear)]
      exact judgeRelays_relaysOk _)
    exact ⟨(isRaised_of_alarm halarm ..).trans (isRaised_raised ..), halarm⟩
  · rw [hset, judgeWatch_clears hmask (by rwa [distance_eq])] at hrelays
    have halarm := hrelays (by
      rw [clearCond_of_raised ((hsame ..).trans hset)]
      exact judgeRelays_relaysOk _)
    exact ⟨(isRaised_of_alarm halarm ..).trans (isRaised_cleared ..), halarm⟩
  · rw [hraised, hqueue, hclear, judgeWatch_quiet hmask, hu]
    exact ⟨rfl, rfl⟩
  · rw [hraised, hqueue, hset, judgeWatch_stays (by rwa [distance_eq]), hu]
    exact ⟨rfl, rfl⟩
  · have hpairs : t.isRaised c m =
        (judgeWatch n w rel v (s.isRaised causeWatch n.val) u).isRaised c m := by
      unfold State.isRaised
      rw [hraised]
      rfl
    rw [hpairs, judgeWatch_isRaised_ne hm hcm, hsame]

end Sys2Proof.Machine
end

section
/-! PROOFS. Waiting parcels: their resolution and their service, which only fill queues (R28, R33, R34, R36). -/

namespace Sys2Proof.Machine

/-! ## Operations that empty no egress (R46) -/

/-- No slot changes its state and no egress becomes empty; the management unit gains replies alone. -/
structure Fills (s t : State) : Prop where
  phase : ∀ j, (t.slot j).ctl.phase = (s.slot j).ctl.phase
  bare : ∀ j, (t.slot j).egr.bare → (s.slot j).egr.bare
  grow : RepliesGrow s t

section Fills

variable {ps : List Part} {i : Slot} {s t u : State}

theorem Fills.refl (s : State) : Fills s s := ⟨fun _ => rfl, fun _ h => h, .refl s⟩

theorem Fills.trans (h : Fills s t) (g : Fills t u) : Fills s u :=
  ⟨fun j => (g.phase j).trans (h.phase j), fun j hb => h.bare j (g.bare j hb), h.grow.trans g.grow⟩

theorem Leaves.fills (h : Leaves ps s t) (hc : Part.ctl ∉ ps := by decide) (he : Part.egr ∉ ps := by decide) : Fills s t :=
  ⟨fun j => by rw [h.keeps.ctl hc], fun j hb => by rwa [h.keeps.egr he] at hb, h.grow⟩

theorem Fills.ite {c : Prop} [Decidable c] (ht : Fills s t) (hu : Fills s u) : Fills s (if c then t else u) := by
  split
  · exact ht
  · exact hu

theorem Fills.settles (h : Fills s t) (hs : s.settled) : settleDrains t = t := by
  refine settleDrains_of_settled (drained_none_of_before hs (fun j hphase hempty => ⟨(h.phase j) ▸ hphase, ?_⟩))
  obtain ⟨l, hmgmt⟩ := h.grow
  have hslot : t.mgmtSlot = s.mgmtSlot := mgmtSlot_of_msel (by rw [hmgmt])
  rw [egressEmpty_iff] at hempty ⊢
  obtain ⟨hbare, hreplies⟩ := hempty
  rw [hslot, hmgmt] at hreplies
  exact ⟨h.bare j hbare, fun hj => ⟨(List.append_eq_nil_iff.mp (hreplies hj).1).1, (hreplies hj).2⟩⟩

/-- A wake changes the port and the sub-mode. -/
theorem wakeReport_fills (i : Slot) (s : State) : Fills s (wakeReport i s) :=
  ⟨fun j => (wakeReport_slot i j s).2, fun j hb => by rwa [(wakeReport_touches s i).egr] at hb, (wakeReport_touches s i).grow⟩

theorem queue_nil_of_bare {e : Egress} (h : e.bare) (c : Cls) : e.queue c = [] := by
  obtain ⟨-, hstream, hcontrol, hbulk, -⟩ := h
  cases c
  · exact hstream
  · exact hcontrol
  · exact hbulk

/-- A parcel that joins a queue. -/
def joinQueue (i : Slot) (c : Cls) (pid : Nat) (s : State) : State :=
  s.modEgr i (fun e => (e.setQueue c (e.queue c ++ [pid])).occasion)

theorem joined_queue (e : Egress) (c : Cls) (pid : Nat) :
    ((e.setQueue c (e.queue c ++ [pid])).occasion).queue c = e.queue c ++ [pid] := by cases c <;> rfl

theorem joinQueue_fills (i : Slot) (c : Cls) (pid : Nat) (s : State) : Fills s (joinQueue i c pid s) := by
  have hmod : Touches [.egr] i s (joinQueue i c pid s) := modEgr_touches ..
  refine ⟨fun j => by rw [hmod.ctl], fun j hb => ?_, hmod.grow⟩
  by_cases hj : j = i
  · subst hj
    rw [joinQueue, modEgr_egr_self] at hb
    have hqueue := queue_nil_of_bare hb c
    rw [joined_queue] at hqueue
    exact absurd hqueue (by simp)
  · rwa [hmod.others j hj] at hb

theorem enqueueRef_eq (i : Slot) (c : Cls) (pid : Nat) (s : State) : enqueueRef i c pid s =
    wakeReport i (modStored pid (fun p => { p with refs := p.refs + 1 }) (joinQueue i c pid s)) := rfl

theorem enqueueRef_touches (i : Slot) (c : Cls) (pid : Nat) (s : State) :
    Touches [.egr, .pool, .port, .ctl] i s (enqueueRef i c pid s) := by
  rw [enqueueRef_eq]
  exact ((modEgr_touches i s _).then (modStored_touches i _ pid _) (rs := [.egr, .pool])).then (wakeReport_touches _ i)

theorem enqueueRef_fills (i : Slot) (c : Cls) (pid : Nat) (s : State) : Fills s (enqueueRef i c pid s) := by
  rw [enqueueRef_eq]
  exact ((joinQueue_fills i c pid s).trans (modStored_touches i _ pid _).leaves.fills).trans (wakeReport_fills ..)

end Fills

/-! ## The end of a wait, resolution and service (R33, R34, R36) -/

section Waits

variable {i j : Slot} {s : State}

theorem settleAs_leaves (o : LogOutcome) (pid : Nat) (hd : Option LogHandle) (enq disc : SlotSet) (s : State) :
    Leaves [.pool, .log, .alarm, .mgmt] s (settleAs o pid hd enq disc s) :=
  (releaseHold_touches 0 s pid).leaves.then (handOver_touches 0 ..).leaves

theorem waitEnd_leaves (j : Slot) (w : Waiting) (s : State) :
    Leaves [.ing, .port, .pool, .log, .alarm, .mgmt] s (waitEnd j w s) :=
  ((modIng_touches j s _).then (modPort_touches ..) (rs := [.ing, .port])).leaves.then (settleAs_leaves ..)

theorem putWaiting_leaves (j : Slot) (w : Waiting) (s : State) :
    Leaves [.ing, .port, .pool, .log, .alarm, .mgmt] s (putWaiting j w s) := by
  unfold putWaiting
  split
  · exact waitEnd_leaves ..
  · exact (modIng_touches j s _).leaves.mono

theorem reresolveIn_leaves (i j : Slot) (s : State) :
    Leaves [.ing, .port, .pool, .log, .alarm, .mgmt] s (reresolveIn i j s) := by
  unfold reresolveIn
  split
  · exact .refl ..
  · split
    · split
      · exact .refl ..
      · exact putWaiting_leaves ..
      · exact putWaiting_leaves ..
    · exact .refl ..

theorem reresolve_leaves (i : Slot) (s : State) : Leaves [.ing, .port, .pool, .log, .alarm, .mgmt] s (reresolve i s) :=
  eachSlot_leaves (fun j t => reresolveIn_leaves i j t) s

theorem serveWaiter_fills (d : Slot) (c : Cls) (j : Slot) (w : Waiting) (s : State) : Fills s (serveWaiter d c j w s) :=
  (enqueueRef_fills d c w.pid s).trans (putWaiting_leaves ..).fills

theorem servePending_fills (d : Slot) (c : Cls) (n : Nat) (s : State) : Fills s (servePending d c n s) := by
  induction n generalizing s with
  | zero => exact .refl s
  | succ n ih =>
    unfold servePending
    split
    · exact .refl s
    · split
      · exact .refl s
      · exact .ite ((serveWaiter_fills ..).trans (ih _)) (.refl s)

theorem serveWaiter_keepsBut (d : Slot) (c : Cls) (j : Slot) (w : Waiting) (s : State) :
    KeepsBut [.ing, .egr, .port, .ctl, .pool, .log, .alarm, .mgmt] s (serveWaiter d c j w s) :=
  (enqueueRef_touches d c w.pid s).keeps.then (putWaiting_leaves ..).keeps

theorem servePending_keepsBut (d : Slot) (c : Cls) (n : Nat) (s : State) :
    KeepsBut [.ing, .egr, .port, .ctl, .pool, .log, .alarm, .mgmt] s (servePending d c n s) := by
  induction n generalizing s with
  | zero => exact .refl ..
  | succ n ih =>
    unfold servePending
    split
    · exact .refl ..
    · split
      · exact .refl ..
      · exact keepsBut_ite ((serveWaiter_keepsBut ..).then (ih _)) (.refl ..)

/-! ## Where nothing waits -/

theorem foldl_slots_id {f : State → Slot → State} (h : ∀ j, f s j = s) (l : List Slot) : l.foldl f s = s := by
  induction l with
  | nil => rfl
  | cons j l ih => rw [List.foldl_cons, h, ih]

theorem reresolve_of_noneWaits (h : NoneWaits s) : reresolve i s = s := by
  have hin (j : Slot) : reresolveIn i j s = s := by
    unfold reresolveIn
    rw [h j]
  unfold reresolve State.eachSlot
  exact foldl_slots_id (f := fun t j => reresolveIn i j t) hin allSlots

theorem waiters_of_noneWaits (h : NoneWaits s) (c : Cls) : s.waiters i c = [] := by
  unfold State.waiters State.waitsOn
  rw [List.filter_eq_nil_iff]
  intro j _
  rw [h j]
  exact Bool.false_ne_true

theorem servePending_of_noneWaits (h : NoneWaits s) (c : Cls) (n : Nat) : servePending i c n s = s := by
  cases n with
  | zero => rfl
  | succ n =>
    unfold servePending State.oldestWaiter
    rw [waiters_of_noneWaits h]

theorem noneWaits_of_ing {t : State} (h : NoneWaits s) (hing : ∀ j, (t.slot j).ing = (s.slot j).ing) : NoneWaits t :=
  fun j => by rw [hing j]; exact h j

end Waits

end Sys2Proof.Machine
end

section
/-! PROOFS. Obligation O54, its end: writes of the global, timing and slot settings (R41, R89, R94, R125, R176). -/

namespace Sys2Proof.Machine

/-! ## Global settings (R176) -/

section Globals

variable {r : Request} {rest : List Request} {s : State}

theorem setGlob_touches (i : Slot) (g : GlobalSettings) (s : State) : Touches [.glob] i s { s with glob := g } :=
  ⟨⟨fun p hp => by cases p <;> simp_all [Part.Same], rfl⟩, .of_eq rfl, otherSlots_of_slots fun _ => rfl⟩

theorem judgePolarity_touches (i : Slot) (old : GlobalSettings) (n : Fin 8) (s : State) :
    Touches [.alarm] i s (judgePolarity old n s) := touches_ite (.refl ..) (modAlarm_touches ..)

theorem judgePolarities_touches (i : Slot) (old : GlobalSettings) (l : List (Fin 8)) (s : State) :
    Touches [.alarm] i s (l.foldl (fun t n => judgePolarity old n t) s) := by
  induction l generalizing s with
  | nil => exact .refl ..
  | cons n l ih => exact (judgePolarity_touches i old n s).then (ih _)

theorem leaves_ite {p : Prop} [Decidable p] {ps : List Part} {s t u : State} (ht : Leaves ps s t) (hu : Leaves ps s u) :
    Leaves ps s (if p then t else u) := by
  split
  · exact ht
  · exact hu

/-- The first effect of a write of the global settings: POOL-LOW is judged by changed marks. -/
def marksWritten (g : GlobalSettings) (s : State) : State :=
  let u : State :=
    { s with glob := { s.glob with alarmUnknown := g.alarmUnknown, lowMark := g.lowMark, clearMark := g.clearMark } }
  if g.lowMark ≠ s.glob.lowMark ∨ g.clearMark ≠ s.glob.clearMark then poolJudge u else u

/-- The second: a changed size empties the log. -/
def sizeWritten (old g : GlobalSettings) (s : State) : State :=
  let u : State := { s with glob := { g with alarmReporting := old.alarmReporting, polarity := old.polarity } }
  if g.logSize ≠ old.logSize then emptyLog u else u

/-- The third: a changed edge has the schedules made again. -/
def edgeWritten (old g : GlobalSettings) (s : State) : State :=
  if g.edgePeriod ≠ old.edgePeriod ∨ g.edgeLead ≠ old.edgeLead then reschedule s else s

/-- The last: the inputs are judged by changed polarities. -/
def polarityWritten (old g : GlobalSettings) (s : State) : State :=
  allInputs.foldl (fun t n => judgePolarity old n t) { s with glob := g }

theorem writeGlobal_eq (g : GlobalSettings) (s : State) : writeGlobal g s =
    polarityWritten s.glob g (edgeWritten s.glob g (sizeWritten s.glob g (marksWritten g s))) := rfl

theorem marksWritten_leaves (g : GlobalSettings) (s : State) :
    Leaves [.glob, .alarm, .mgmt] s (marksWritten g s) :=
  leaves_ite ((setGlob_touches 0 _ s).then (poolJudge_touches ..)).leaves (setGlob_touches 0 _ s).leaves.mono

theorem sizeWritten_leaves (old g : GlobalSettings) (s : State) : Leaves [.glob, .log] s (sizeWritten old g s) :=
  leaves_ite ((setGlob_touches 0 _ s).then (emptyLog_touches ..)).leaves (setGlob_touches 0 _ s).leaves.mono

theorem edgeWritten_leaves (old g : GlobalSettings) (s : State) : Leaves [.nextEdge, .edges] s (edgeWritten old g s) :=
  leaves_ite (reschedule_leaves s) (.refl ..)

theorem polarityWritten_leaves (old g : GlobalSettings) (s : State) :
    Leaves [.glob, .alarm] s (polarityWritten old g s) :=
  ((setGlob_touches 0 g s).then (judgePolarities_touches ..)).leaves

theorem polarityWritten_glob (old g : GlobalSettings) (s : State) : (polarityWritten old g s).glob = g :=
  (judgePolarities_touches 0 old allInputs { s with glob := g }).glob

theorem writeGlobal_leaves (g : GlobalSettings) (s : State) :
    Leaves [.glob, .log, .nextEdge, .edges, .alarm, .mgmt] s (writeGlobal g s) := by
  rw [writeGlobal_eq]
  exact (((marksWritten_leaves g s).then (sizeWritten_leaves ..) (rs := [.glob, .alarm, .mgmt, .log])).then
    (edgeWritten_leaves ..) (rs := [.glob, .alarm, .mgmt, .log, .nextEdge, .edges])).then (polarityWritten_leaves ..)

theorem writeGlobal_glob (g : GlobalSettings) (s : State) : (writeGlobal g s).glob = g := by
  rw [writeGlobal_eq, polarityWritten_glob]

theorem writeGlobals_stores (h : WritesOne globalTable r rest s) (hsubject : r.subject = 7) :
    ∃ t al, exec .writeGlobalSettings s = .next t ∧ AnsweredAfter al r rest .done [] s t ∧
      t.glob = GlobalSettings.ofWords (r.words.drop 3) ∧
      KeepsBut [.glob, .log, .nextEdge, .edges, .alarm, .mgmt, .port, .ctl] s t := by
  have hu := writeGlobal_leaves (GlobalSettings.ofWords (r.words.drop 3)) (takeRequest rest s)
  have hput : globalTable.put r.first (r.words.drop 3) (takeRequest rest s) =
      writeGlobal (GlobalSettings.ofWords (r.words.drop 3)) (takeRequest rest s) := by
    simp only [globalTable]
  obtain ⟨t, hexec, hreplied, al, hal⟩ := h.done (c := .writeGlobalSettings) (by simp [writeRows]) hsubject hput hu
    (fun j => by rw [hu.keeps.ctl])
  exact ⟨t, al, hexec, hal, hreplied.keeps.glob.trans (writeGlobal_glob ..), hreplied.keepsBut hu.keeps⟩

end Globals

/-! ## Timing settings (R89, R94) -/

section Timings

variable {r : Request} {rest : List Request} {s : State}

theorem writeLoop_touches (i : Slot) (c : LoopSettings) (s : State) :
    Touches [.timing, .alarm, .mgmt] i s (writeLoop c s) := by
  have hset := (modTiming_touches i s (fun t => { t with cfg := c })).mono (rs := [.timing, .alarm, .mgmt])
  have hjudged : Touches [.timing, .alarm, .mgmt] i s (loopJudged c s) :=
    touches_ite (hset.then (judgeSelection_touches ..)) hset
  have hclamped : Touches [.timing, .alarm, .mgmt] i s (loopClamped c s.timing.cfg.fmax (loopJudged c s)) :=
    hjudged.then (touches_ite ((setFreq_touches i _ _ _).then (postEvent_touches ..) (rs := [.timing, .alarm, .mgmt]))
      (.refl ..))
  rw [writeLoop_eq]
  exact touches_ite (hclamped.then (setFreq_touches ..)) hclamped

theorem writeLoop_cfg (c : LoopSettings) (s : State) : (writeLoop c s).timing.cfg = c := by
  have hjudged : (loopJudged c s).timing.cfg = c := (loopJudged_timeKept 0 c s).cfg
  have hclamped : (loopClamped c s.timing.cfg.fmax (loopJudged c s)).timing.cfg = c := by
    unfold loopClamped
    split
    · dsimp only
      rw [(postEvent_touches (i := 0) ..).timing]
      exact hjudged
    · exact hjudged
  rw [writeLoop_eq]
  dsimp only
  split
  · exact hclamped
  · exact hclamped

theorem writeRef_touches (i : Slot) (x : RefId) (c : RefSettings) (s : State) :
    Touches [.timing, .alarm, .mgmt] i s (writeRef x c s) :=
  touches_ite ((modRef_touches ..).then (judgeSelection_touches ..)) (modRef_touches ..).mono

theorem ref_of_refs {t u : Timing} (ha : u.refA = t.refA) (hb : u.refB = t.refB) (x : RefId) : u.ref x = t.ref x := by
  cases x
  · exact ha
  · exact hb

theorem modRef_ref_self (x : RefId) (f : Reference → Reference) (s : State) :
    (modRef x f s).timing.ref x = f (s.timing.ref x) := by cases x <;> rfl

theorem writeRef_cfg (x : RefId) (c : RefSettings) (s : State) :
    ((writeRef x c s).timing.ref x).cfg = c ∧ (writeRef x c s).timing.cfg = s.timing.cfg := by
  refine ⟨?_, (writeRef_timeKept (.refl 0 s)).cfg⟩
  unfold writeRef
  dsimp only
  split
  · obtain ⟨-, ha, hb⟩ := judgeSelection_timing (modRef x (fun _ => Reference.fresh c) s)
    rw [ref_of_refs ha hb, modRef_ref_self]
    rfl
  · rw [modRef_ref_self]

theorem writeTiming_touches (i : Slot) (k : Nat) (ws : List Word) (s : State) :
    Touches [.timing, .alarm, .mgmt] i s (timingTable.put k ws s) := by
  unfold timingTable
  dsimp only
  split
  · exact writeLoop_touches ..
  · exact writeRef_touches ..
  · exact writeRef_touches ..

theorem writeTimings_stores (h : WritesOne timingTable r rest s) (hsubject : r.subject = 8) :
    ∃ t al, exec .writeTimingSettings s = .next t ∧ AnsweredAfter al r rest .done [] s t ∧
      t.timing = (timingTable.put r.first (r.words.drop 3) (takeRequest rest s)).timing ∧
      KeepsBut [.timing, .alarm, .mgmt, .port, .ctl] s t := by
  have hu := writeTiming_touches s.mgmtSlot r.first (r.words.drop 3) (takeRequest rest s)
  obtain ⟨t, hexec, hreplied, ⟨al, hal⟩, -⟩ := h.touches (c := .writeTimingSettings) (by simp [writeRows]) hsubject rfl hu
  exact ⟨t, al, hexec, hal, hreplied.keeps.timing, hreplied.keepsBut hu.keeps⟩

end Timings

/-! ## Slot settings (R41, R114, R125) -/

section Slots

variable {i : Slot} {c : SlotSettings} {r : Request} {rest : List Request} {s : State}

theorem setCfg_touches (i : Slot) (c : SlotSettings) (s : State) : Touches [.cfg] i s (s.setCfg i c) :=
  ⟨setCfg_keepsBut .., .of_eq (by simp), setCfg_otherSlots s i c⟩

theorem offerRaised_fills (i : Slot) (c : Cls) (old new : Nat) (s : State) : Fills s (offerRaised i c old new s) :=
  .ite (servePending_fills ..) (.refl s)

theorem offerRaised_keepsBut (i : Slot) (c : Cls) (old new : Nat) (s : State) :
    KeepsBut [.ing, .egr, .port, .ctl, .pool, .log, .alarm, .mgmt] s (offerRaised i c old new s) :=
  keepsBut_ite (servePending_keepsBut ..) (.refl ..)

theorem makeSchedules_touches (i : Slot) (s : State) : Touches [.edges] i s (makeSchedules i s) := by
  unfold makeSchedules
  exact modEdges_touches ..

theorem writeSlot_fills (i : Slot) (c : SlotSettings) (s : State) : Fills s (writeSlot i c s) := by
  have hset := (setCfg_touches i c s).leaves.fills
  have hresolved (p : Prop) [Decidable p] (t : State) : Fills t (if p then reresolve i t else t) :=
    .ite (reresolve_leaves i t).fills (.refl t)
  have hschedules (p : Prop) [Decidable p] (t : State) : Fills t (if p then makeSchedules i t else t) :=
    .ite (makeSchedules_touches i t).leaves.fills (.refl t)
  exact (hset.trans ((hresolved _ _).trans ((offerRaised_fills ..).trans (offerRaised_fills ..)))).trans (hschedules _ _)

theorem writeSlot_keepsBut (i : Slot) (c : SlotSettings) (s : State) :
    KeepsBut [.cfg, .edges, .ing, .egr, .port, .ctl, .pool, .log, .alarm, .mgmt] s (writeSlot i c s) := by
  have hset := setCfg_keepsBut s i c
  have hresolved (p : Prop) [Decidable p] (t : State) : KeepsBut [.ing, .port, .pool, .log, .alarm, .mgmt] t
      (if p then reresolve i t else t) := keepsBut_ite (reresolve_leaves i t).keeps (.refl ..)
  have hschedules (p : Prop) [Decidable p] (t : State) : KeepsBut [.edges] t (if p then makeSchedules i t else t) :=
    keepsBut_ite (makeSchedules_touches i t).keeps (.refl ..)
  have hoffered := (offerRaised_keepsBut i .control (s.slot i).cfg.controlLimit c.controlLimit
    (if c.manualHold ≠ (s.slot i).cfg.manualHold ∨ c.policy ≠ (s.slot i).cfg.policy then reresolve i (s.setCfg i c)
      else s.setCfg i c)).trans (offerRaised_keepsBut i .bulk (s.slot i).cfg.bulkLimit c.bulkLimit _)
  exact (hset.then ((hresolved _ _).then hoffered (rs := [.ing, .egr, .port, .ctl, .pool, .log, .alarm, .mgmt]))
    (rs := [.cfg, .ing, .egr, .port, .ctl, .pool, .log, .alarm, .mgmt])).then (hschedules _ _)

theorem writeSlot_cfg (i : Slot) (c : SlotSettings) (s : State) (j : Slot) :
    ((writeSlot i c s).slot j).cfg = if j = i then c else (s.slot j).cfg := by
  have hset : ((s.setCfg i c).slot j).cfg = if j = i then c else (s.slot j).cfg := by
    split
    · next h => rw [h]; simp
    · next h => rw [setCfg_otherSlots s i c j h]
  unfold writeSlot
  dsimp only
  rw [← hset]
  split_ifs <;> simp

/-- With nothing waiting a write of slot settings makes schedules alone. -/
theorem writeSlot_of_noneWaits (h : NoneWaits s) : writeSlot i c s =
    (if c.edgeEnrol ≠ (s.slot i).cfg.edgeEnrol ∨ c.strobeAdvance ≠ (s.slot i).cfg.strobeAdvance then
      makeSchedules i (s.setCfg i c) else s.setCfg i c) := by
  have hset : NoneWaits (s.setCfg i c) := noneWaits_of_ing h (by simp)
  unfold writeSlot offerRaised
  simp only [reresolve_of_noneWaits hset, servePending_of_noneWaits hset, ite_self]

theorem writeSlots_stores (h : WritesOne slotTable r rest s) (hsubject : r.subject = 1) (hfirst : r.first = i.val)
    (hc : c = SlotSettings.ofWords (r.words.drop 3)) :
    ∃ t al, exec .writeSlotSettings s = .next t ∧ AnsweredAfter al r rest .done [] s t ∧
      (∀ j, (t.slot j).cfg = (if j = i then c else (s.slot j).cfg)) ∧
      KeepsBut [.cfg, .edges, .port, .ctl, .ing, .egr, .pool, .log, .alarm, .mgmt] s t ∧
      (NoneWaits s → al = [] ∧ KeepsBut [.cfg, .edges, .mgmt, .port, .ctl] s t) := by
  have hu := writeSlot_fills i c (takeRequest rest s)
  obtain ⟨t, hexec, hreplied, al, hal⟩ := h.answers (c := .writeSlotSettings) (by simp [writeRows]) hsubject
    (by rw [hfirst, hc]; simp only [slotTable, Fin.ofNat_val_eq_self]) (hu.settles (settled_takeRequest h.served)) hu.grow
    hu.phase
  refine ⟨t, al, hexec, hal, fun j => ?_, (hreplied.keepsBut (writeSlot_keepsBut ..)), fun hnone => ?_⟩
  · rw [hreplied.keeps.cfg, writeSlot_cfg, takeRequest_slot]
  · have hnone' : NoneWaits (takeRequest rest s) := noneWaits_of_ing hnone fun j => by rw [takeRequest_slot]
    have hset := setCfg_touches i c (takeRequest rest s)
    have htouch : Touches [.cfg, .edges] i (takeRequest rest s) (writeSlot i c (takeRequest rest s)) := by
      rw [writeSlot_of_noneWaits hnone']
      exact touches_ite (hset.then (makeSchedules_touches ..)) hset.mono
    have hanswered := hreplied.answered h.served htouch.mgmt
    refine ⟨?_, hreplied.keepsBut htouch.keeps⟩
    have hreplies := congrArg Mgmt.replies (hal.symm.trans hanswered)
    simpa using hreplies

end Slots

/-! ## Obligation O54 -/

theorem linesOk_true {i : Slot} {ws : List Word} {s : State} (h0 : (SlotSettings.ofWords ws).fn0 = (s.slot i).cfg.fn0)
    (h1 : (SlotSettings.ofWords ws).fn1 = (s.slot i).cfg.fn1) : s.linesOk i.val ws = true := by
  unfold State.linesOk
  simp [h0, h1]

theorem enabled_eq {w : Watch} {r : Request} :
    (w.withWords (r.words.drop 3)).enabled = decide ((r.word 3).toNat = 1) := by
  simp only [Watch.withWords, fieldBool, fieldNat, getD_image]

/-- Settles O54, table by table. -/
theorem writesAreStored : Obligations.WritesAreStored := by
  unfold Obligations.WritesAreStored
  refine ⟨fun r rest s hs hcode hcount => ⟨fun hsubject hfirst hlen hok => ?_,
    fun n hsubject hfirst hlen hok => ?_, fun n hsubject hfirst hlen hok => ?_⟩, ?_⟩
  · exact writeFlow_stores ⟨hs, hcode, hcount, hfirst, hlen, hok, rfl⟩ hsubject
  · obtain ⟨t, al, hexec, hal, hpark, hkeeps⟩ :=
      writeAreas_stores ⟨hs, hcode, hcount, by rw [hfirst]; exact n.isLt, hlen, hok, rfl⟩ hsubject hfirst
    refine ⟨t, al, hexec, hal, by rw [hpark], ?_, hkeeps⟩
    rw [hpark, ← Area.ofWords_image]
  · exact writeDescriptors_stores ⟨hs, hcode, hcount, by rw [hfirst]; exact n.isLt, hlen, hok, rfl⟩ hsubject hfirst
  · rintro ws r rest s hs hcode hcount rfl
    refine ⟨fun i hsubject hfirst hlen hok h0 h1 => ?_, fun n hsubject hfirst hlen hok harea => ?_,
      fun c hsubject hfirst hlen hok _ => ?_, fun hsubject hfirst hlen hok => ?_, fun hsubject hfirst hlen hok => ?_,
      fun x hsubject hfirst hlen hok => ?_⟩
    · exact writeSlots_stores ⟨hs, hcode, hcount, by rw [hfirst]; exact i.isLt, hlen, hok,
        by rw [hfirst]; exact linesOk_true h0 h1⟩ hsubject hfirst rfl
    · obtain ⟨t, al, hexec, hal, hwatches, halarm, hkeeps, hothers⟩ :=
        writeWatches_done ⟨hs, hcode, hcount, by rw [hfirst]; exact n.isLt, hlen, hok, harea⟩ hsubject hfirst
      obtain ⟨rel, v, hstored, -, hoff⟩ := writeWatch_watches (n := n) (ws := r.words.drop 3) (s := s)
      refine ⟨t, al, rel, v, hexec, hal, hwatches.trans hstored, fun hzero => ?_, hkeeps, hothers⟩
      obtain ⟨hrel, hval, hraised⟩ := hoff (by rw [enabled_eq, hzero]; rfl)
      exact ⟨hrel, hval, (isRaised_of_alarm halarm ..).trans hraised⟩
    · exact writeCauses_stores ⟨hs, hcode, hcount, by rw [hfirst]; exact c.isLt, hlen, hok, rfl⟩ hsubject hfirst
    · exact writeGlobals_stores ⟨hs, hcode, hcount, by rw [hfirst]; exact Nat.one_pos, hlen, hok, rfl⟩ hsubject
    · obtain ⟨t, al, hexec, hal, htiming, hkeeps⟩ := writeTimings_stores ⟨hs, hcode, hcount,
        by rw [hfirst]; exact Nat.succ_pos 2, by rw [hfirst]; exact hlen, by rw [hfirst]; exact hok, rfl⟩ hsubject
      refine ⟨t, al, hexec, hal, ?_, hkeeps⟩
      rw [htiming, hfirst]
      exact writeLoop_cfg ..
    · have hput : timingTable.put r.first (r.words.drop 3) (takeRequest rest s) =
          writeRef x (RefSettings.ofWords (r.words.drop 3)) (takeRequest rest s) := by
        rw [hfirst]
        cases x <;> rfl
      have hin : r.first < timingTable.entries := by rw [hfirst]; cases x <;> decide
      have hsize : timingTable.size r.first = 3 := by rw [hfirst]; cases x <;> rfl
      have hvalid : timingTable.ok r.first (r.words.drop 3) = true := by rw [hfirst]; cases x <;> exact hok
      obtain ⟨t, al, hexec, hal, htiming, hkeeps⟩ :=
        writeTimings_stores ⟨hs, hcode, hcount, hin, by rw [hsize, hlen], hvalid, rfl⟩ hsubject
      obtain ⟨href, hcfg⟩ := writeRef_cfg x (RefSettings.ofWords (r.words.drop 3)) (takeRequest rest s)
      refine ⟨t, al, hexec, hal, ?_, ?_, hkeeps⟩
      · rw [htiming, hput, href]
      · rw [htiming, hput, hcfg, (takeRequest_keepsBut rest s).timing]

end Sys2Proof.Machine
end

section
/-! PROOFS. Obligation O47: sideband lines and cabinet inputs, with their debounce (R127, R128, R134, R165). -/

namespace Sys2Proof.Machine

/-! ## Sideband lines (R127, R128, R134) -/

section Lines

variable {i : Slot} {s : State}

theorem lineFollowed_eq (f : LineFn) (d : Debounce) (lev : Bool) (now : Uptime) :
    lineFollowed f d lev now = if f == .alarmIn then d.follow lev now else d := by
  unfold lineFollowed Debounce.follow
  by_cases hf : f = .alarmIn
  · rw [if_pos hf, if_pos (beq_iff_eq.mpr hf)]
    split <;> rfl
  · rw [if_neg hf, if_neg (fun h => hf (beq_iff_eq.mp h))]

theorem lineExpired_eq (f : LineFn) (d : Debounce) (now : Uptime) :
    lineExpired f d now = if f == .alarmIn then d.expire now else d := by
  unfold lineExpired Debounce.expire
  cases hrun : d.run with
  | none => exact (ite_self _).symm
  | some u =>
    by_cases hf : f = .alarmIn
    · simp only [hf, true_and, BEq.rfl, if_true]
      rfl
    · simp [hf]

/-- The controls of a slot whose debouncers follow its lines. -/
def SlotState.followed (x : SlotState) (now : Uptime) : Ctl :=
  { x.ctl with
    deb0 := lineFollowed x.cfg.fn0 x.ctl.deb0 x.ctl.lev0 now, deb1 := lineFollowed x.cfg.fn1 x.ctl.deb1 x.ctl.lev1 now }

theorem followLines_touches (i : Slot) (s : State) : Touches [.ctl] i s (followLines i s) := by
  unfold followLines
  exact modCtl_touches ..

theorem followLines_ctl (h : (s.slot i).ctl.inputsEn = true) :
    ((followLines i s).slot i).ctl = (s.slot i).followed s.timing.uptime := by
  unfold followLines SlotState.followed
  dsimp only
  rw [modCtl_ctl_self, lineFollowed_eq, lineFollowed_eq, h, Bool.true_and, Bool.true_and]
  rfl

/-- With the inputs not enabled no debouncer follows. -/
theorem followLines_off (h : (s.slot i).ctl.inputsEn = false) : ((followLines i s).slot i).ctl = (s.slot i).ctl := by
  have hoff (b : Bool) : ((s.slot i).ctl.inputsEn && b) = false := by rw [h, Bool.false_and]
  unfold followLines
  dsimp only
  rw [modCtl_ctl_self]
  simp only [hoff]
  rfl

theorem applyWake_idle (h : ¬((s.slot i).ctl.phase = .admitted ∧ (s.slot i).ctl.sub = .resting)) : applyWake i s = s :=
  if_neg h

theorem applyWake_withdraws (h : (s.slot i).ctl.phase = .admitted ∧ (s.slot i).ctl.sub = .resting)
    (hreq : (s.slot i).ctl.restReq = true) :
    applyWake i s = s.modCtl i (fun c => { c with restReq := false, sub := .awake }) := by
  unfold applyWake
  rw [if_pos h, if_pos hreq]

theorem applyWake_asks (h : (s.slot i).ctl.phase = .admitted ∧ (s.slot i).ctl.sub = .resting)
    (hreq : (s.slot i).ctl.restReq = false) :
    ((applyWake i s).slot i).ctl =
      { (s.slot i).ctl with sub := .waking, timer := some { kind := .wake, start := s.timing.uptime } } ∧
    ((applyWake i s).slot i).port = { (s.slot i).port with wakeAsked := true } := by
  unfold applyWake
  rw [if_pos h, if_neg (by rw [hreq]; decide)]
  constructor
  · rw [modCtl_ctl_self]
    simp only [modPort_slots]
    rfl
  · simp

theorem lineChange_acts {l : Line} {lev : Bool} {c : Ctl} (hlev : (s.slot i).ctl.level l ≠ lev)
    (hc : c = (s.slot i).ctl.setLevel l lev) :
    ∃ t, exec (.sidebandInputChange i l lev) s = .next t ∧ KeepsBut [.ctl, .port] s t ∧ OtherSlots i s t ∧
      (c.inputsEn = false → (t.slot i).ctl = c ∧ (t.slot i).port = (s.slot i).port) ∧
      (c.inputsEn = true → ∀ d, d = { c with
          deb0 := lineFollowed (s.slot i).cfg.fn0 c.deb0 c.lev0 s.timing.uptime,
          deb1 := lineFollowed (s.slot i).cfg.fn1 c.deb1 c.lev1 s.timing.uptime } →
        if (s.slot i).cfg.fn l = .wakeIn ∧ lev = true ∧ c.phase = .admitted ∧ c.sub = .resting then
          (c.restReq = false →
            (t.slot i).ctl = { d with
              sub := .waking, timer := some { kind := .wake, start := s.timing.uptime } } ∧
            (t.slot i).port = { (s.slot i).port with wakeAsked := true }) ∧
          (c.restReq = true →
            (t.slot i).ctl = { d with sub := .awake, restReq := false } ∧ (t.slot i).port = (s.slot i).port)
        else (t.slot i).ctl = d ∧ (t.slot i).port = (s.slot i).port) := by
  have hset := modCtl_touches i s (fun c => c.setLevel l lev)
  have hctl : ((s.modCtl i (fun c => c.setLevel l lev)).slot i).ctl = c := by rw [modCtl_ctl_self, hc]
  obtain ⟨u, hu⟩ : ∃ u, u = followLines i (s.modCtl i (fun c => c.setLevel l lev)) := ⟨_, rfl⟩
  have hfollow : Touches [.ctl] i s u := hu ▸ hset.then (followLines_touches ..)
  have hen : (s.slot i).ctl.inputsEn = c.inputsEn := by rw [hc]; cases l <;> rfl
  have hexec : exec (.sidebandInputChange i l lev) s =
      .next (if c.inputsEn && (s.slot i).cfg.fn l == .wakeIn && lev then applyWake i u else u) := by
    rw [hu, ← hen]
    exact congrArg Host.Outcome.next (if_neg hlev)
  have hall : Touches [.ctl, .port] i s
      (if c.inputsEn && (s.slot i).cfg.fn l == .wakeIn && lev then applyWake i u else u) :=
    touches_ite (hfollow.then (applyWake_touches ..)) hfollow.mono
  refine ⟨_, hexec, hall.keeps, hall.others, fun hoff => ?_, fun hon d hd => ?_⟩
  · rw [hoff, Bool.false_and, Bool.false_and, if_neg Bool.false_ne_true, hfollow.port, hu,
      followLines_off (by rw [hctl, hoff]), hctl]
    exact ⟨rfl, rfl⟩
  · have hud : (u.slot i).ctl = d := by
      rw [hu, followLines_ctl (by rw [hctl, hon]), SlotState.followed, hctl, hset.cfg, hset.timing, hd]
    have hphase : d.phase = c.phase ∧ d.sub = c.sub ∧ d.restReq = c.restReq := by rw [hd]; exact ⟨rfl, rfl, rfl⟩
    obtain ⟨hphase, hsub, hreq⟩ := hphase
    rw [hon, Bool.true_and]
    by_cases hline : (s.slot i).cfg.fn l = .wakeIn ∧ lev = true
    · obtain ⟨hfn, rfl⟩ := hline
      rw [hfn]
      by_cases hrest : c.phase = .admitted ∧ c.sub = .resting
      · have hrest' : (u.slot i).ctl.phase = .admitted ∧ (u.slot i).ctl.sub = .resting := by
          rw [hud, hphase, hsub]; exact hrest
        rw [if_pos ⟨rfl, rfl, hrest⟩]
        refine ⟨fun hsent => ?_, fun hasked => ?_⟩
        · obtain ⟨hctl', hport⟩ := applyWake_asks hrest' (by rw [hud, hreq, hsent])
          rw [if_pos (by rfl), hctl', hport, hud, hfollow.timing, hfollow.port]
          exact ⟨rfl, rfl⟩
        · rw [if_pos (by rfl), applyWake_withdraws hrest' (by rw [hud, hreq, hasked]), modCtl_ctl_self, hud]
          exact ⟨rfl, by simp [hfollow.port]⟩
      · rw [if_neg (fun h => hrest ⟨h.2.2.1, h.2.2.2⟩), if_pos (by rfl),
          applyWake_idle (by rw [hud, hphase, hsub]; exact hrest), hud, hfollow.port]
        exact ⟨rfl, rfl⟩
    · rw [if_neg (fun h => hline ⟨h.1, h.2.1⟩), if_neg (by simpa using hline), hud, hfollow.port]
      exact ⟨rfl, rfl⟩

end Lines

/-! ## The debounce of a card's alarm lines (R128) -/

section Debounced

variable {i : Slot} {s : State}

theorem alarmActive_eq (x : SlotState) :
    x.alarmActive = (lineAlarms x.cfg.fn0 x.ctl.deb0 || lineAlarms x.cfg.fn1 x.ctl.deb1) := rfl

/-- The debouncers of a slot's lines once those whose 20 ms have passed have turned over. -/
def expireLines (i : Slot) (s : State) : State :=
  s.modCtl i (fun c =>
    { c with deb0 := lineExpired (s.slot i).cfg.fn0 c.deb0 s.timing.uptime,
             deb1 := lineExpired (s.slot i).cfg.fn1 c.deb1 s.timing.uptime })

theorem exec_cardAlarmDebounce (hon : (s.slot i).ctl.inputsEn = true) :
    exec (.cardAlarmDebounceExpiry i) s =
      .next (judgeCardAlarm i (s.slot i).alarmActive (expireLines i s)) := by
  unfold expireLines
  simp only [lineExpired_eq]
  exact congrArg Host.Outcome.next (if_pos hon)

theorem cardAlarm_expires {was now : Bool} {d0 d1 : Debounce} {x : SlotState} (hx : x = s.slot i)
    (hon : x.ctl.inputsEn = true) (hd0 : d0 = lineExpired x.cfg.fn0 x.ctl.deb0 s.timing.uptime)
    (hd1 : d1 = lineExpired x.cfg.fn1 x.ctl.deb1 s.timing.uptime)
    (hwas : was = (lineAlarms x.cfg.fn0 x.ctl.deb0 || lineAlarms x.cfg.fn1 x.ctl.deb1))
    (hnow : now = (lineAlarms x.cfg.fn0 d0 || lineAlarms x.cfg.fn1 d1)) :
    ∃ t, exec (.cardAlarmDebounceExpiry i) s = .next t ∧ (t.slot i).ctl = { x.ctl with deb0 := d0, deb1 := d1 } ∧
      t.alarm = (if was = false ∧ now = true then
          raiseCond causeCardAlarm i.val (if lineAlarms x.cfg.fn0 d0 = true then 0 else 1) s
        else if was = true ∧ now = false then clearCond causeCardAlarm i.val 0 s else s).alarm ∧
      (was ≠ now → t.isRaised causeCardAlarm i.val = now) ∧
      KeepsBut [.ctl, .alarm, .mgmt] s t ∧ OnlyReplies s t ∧ OtherSlots i s t := by
  subst hx
  have htouch : Touches [.ctl] i s (expireLines i s) := modCtl_touches ..
  have hctl : ((expireLines i s).slot i).ctl = { (s.slot i).ctl with deb0 := d0, deb1 := d1 } := by
    rw [expireLines, modCtl_ctl_self, hd0, hd1]
  have hsame : SameReporting s (expireLines i s) := ⟨htouch.alarm, htouch.watches, htouch.timing⟩
  have hactive : ((expireLines i s).slot i).alarmActive = now := by
    rw [alarmActive_eq, hctl, htouch.cfg, hnow]
  have hfirst : (((expireLines i s).slot i).cfg.fn0 == .alarmIn && ((expireLines i s).slot i).ctl.deb0.active) =
      lineAlarms (s.slot i).cfg.fn0 d0 := by
    rw [hctl, htouch.cfg]
    rfl
  have hjudge : judgeCardAlarm i (s.slot i).alarmActive (expireLines i s) =
      if was = false ∧ now = true then
        raiseCond causeCardAlarm i.val (if lineAlarms (s.slot i).cfg.fn0 d0 = true then 0 else 1) (expireLines i s)
      else if was = true ∧ now = false then clearCond causeCardAlarm i.val 0 (expireLines i s)
      else expireLines i s := by
    unfold judgeCardAlarm
    dsimp only
    rw [hactive, hfirst, alarmActive_eq, ← hwas]
    cases was <;> cases now <;> rfl
  refine ⟨_, exec_cardAlarmDebounce hon, ?_⟩
  rw [hjudge]
  have hall : Touches [.ctl, .alarm, .mgmt] i s (if was = false ∧ now = true then
        raiseCond causeCardAlarm i.val (if lineAlarms (s.slot i).cfg.fn0 d0 = true then 0 else 1) (expireLines i s)
      else if was = true ∧ now = false then clearCond causeCardAlarm i.val 0 (expireLines i s)
      else expireLines i s) :=
    touches_ite (htouch.then (raiseCond_touches ..)) (touches_ite (htouch.then (clearCond_touches ..)) htouch.mono)
  refine ⟨?_, ?_, fun hne => ?_, hall.keeps, hall.replies, hall.others⟩
  · rw [← hctl]
    split
    · rw [(raiseCond_touches i ..).ctl]
    · split
      · rw [(clearCond_touches i ..).ctl]
      · rfl
  · split
    · exact raiseCond_alarm_congr hsame ..
    · split
      · exact clearCond_alarm_congr hsame ..
      · exact htouch.alarm
  · cases was <;> cases now
    · exact absurd rfl hne
    · exact isRaised_raised ..
    · exact isRaised_cleared ..
    · exact absurd rfl hne

end Debounced

/-! ## Cabinet inputs (R165) -/

section Inputs

variable {n : Fin 8} {s : State}

theorem setInput_touches (i : Slot) (n : Fin 8) (x : CabInput) (s : State) : Touches [.alarm] i s (s.setInput n x) :=
  modAlarm_touches ..

theorem setInput_alarm (n : Fin 8) (x : CabInput) (s : State) :
    (s.setInput n x).alarm = { s.alarm with inputs := s.alarm.inputs.set n x } := rfl

theorem setInput_isRaised (n : Fin 8) (x : CabInput) (c : Fin 64) (m : Nat) (s : State) :
    (s.setInput n x).isRaised c m = s.isRaised c m := rfl

theorem cabinetInput_changes (lev : Bool) : ∃ t, exec (.cabinetInputChange n lev) s = .next t ∧
    t.alarm = { s.alarm with
      inputs := s.alarm.inputs.set n
        { level := lev, active := s.alarm.inputs[n].active,
          run := if (lev != s.glob.polarity[n]) = s.alarm.inputs[n].active then none
            else some (s.alarm.inputs[n].run.getD s.timing.uptime) } } ∧
    KeepsBut [.alarm] s t := by
  refine ⟨_, rfl, ?_, (setInput_touches 0 ..).keeps⟩
  rw [setInput_alarm]
  unfold CabInput.follow
  dsimp only
  split <;> rfl

theorem cabinetInput_expires {u : Uptime} (hrun : s.alarm.inputs[n].run = some u)
    (hdue : s.glob.debounce[n] ≤ (s.timing.uptime - u).toNat) :
    ∃ t, exec (.cabinetInputDebounceExpiry n) s = .next t ∧
      t.alarm.inputs = s.alarm.inputs.set n
        { level := s.alarm.inputs[n].level, active := !s.alarm.inputs[n].active, run := none } ∧
      t.isRaised causeCabinetInput n.val = !s.alarm.inputs[n].active ∧
      (∀ c m, c ≠ causeCabinetInput → m < 64 → t.isRaised c m = s.isRaised c m) ∧
      KeepsBut [.alarm, .mgmt] s t ∧ OnlyReplies s t := by
  obtain ⟨x, hx⟩ : ∃ x : CabInput, x = { s.alarm.inputs[n] with active := !s.alarm.inputs[n].active, run := none } :=
    ⟨_, rfl⟩
  have hn : n.val < 64 := Nat.lt_trans n.isLt (by decide)
  have hset := setInput_touches 0 n x s
  have hexec : exec (.cabinetInputDebounceExpiry n) s = .next (if s.alarm.inputs[n].active then
      clearCond causeCabinetInput n.val 0 (s.setInput n x) else raiseCond causeCabinetInput n.val 0 (s.setInput n x)) := by
    have hpast : s.glob.debounce[n] ≤ elapsed s.uptime u := hdue
    show execCabinetInputDebounceExpiry n s = _
    unfold execCabinetInputDebounceExpiry
    dsimp only
    rw [hrun]
    dsimp only
    rw [if_pos hpast, hx]
  refine ⟨_, hexec, ?_⟩
  cases hactive : s.alarm.inputs[n].active with
  | true =>
    rw [if_pos rfl]
    have hall := hset.then (clearCond_touches 0 _ causeCabinetInput n.val 0) (rs := [.alarm, .mgmt])
    refine ⟨?_, isRaised_cleared .., fun c m hc hm => ?_, hall.keeps, hall.replies⟩
    · rw [clearCond_inputs, setInput_alarm, hx, hactive]
    · rw [isRaised_clearCond_ne hn hm (.inl hc), setInput_isRaised]
  | false =>
    rw [if_neg Bool.false_ne_true]
    have hall := hset.then (raiseCond_touches 0 _ causeCabinetInput n.val 0) (rs := [.alarm, .mgmt])
    refine ⟨?_, isRaised_raised .., fun c m hc hm => ?_, hall.keeps, hall.replies⟩
    · rw [raiseCond_inputs, setInput_alarm, hx, hactive]
    · rw [isRaised_raiseCond_ne hn hm (.inl hc), setInput_isRaised]

end Inputs

/-- Settles O47, by the lines, their debounce and the cabinet inputs. -/
theorem inputsActAndDebounce : Obligations.InputsActAndDebounce := by
  unfold Obligations.InputsActAndDebounce
  refine ⟨fun i l lev c s hlev hc => lineChange_acts hlev hc, ?_, fun n s => ⟨cabinetInput_changes, ?_⟩⟩
  · intro i was now d0 d1 x s hx hon hd0 hd1 hwas hnow
    exact cardAlarm_expires hx hon hd0 hd1 hwas hnow
  · intro u hrun hdue
    exact cabinetInput_expires hrun hdue

end Sys2Proof.Machine
end

section
/-! PROOFS. Changes of a slot's state: what they leave of the other slots and of the slot itself (R6, R45, R46, R123 to
R142). -/

namespace Sys2Proof.Machine

/-! ## Changes of one slot's state -/

/-- A change of a slot's state: the other slots keep their egress and their controls, and, where nothing waits, all else
too; the management unit gains replies alone where the slot is not the management slot. -/
structure Shuts (ps : List Part) (i : Slot) (s t : State) : Prop where
  keeps : KeepsBut ps s t
  msel : t.mgmt.msel = s.mgmt.msel
  grow : i ≠ s.mgmtSlot → RepliesGrow s t
  egrs : ∀ j, j ≠ i → (t.slot j).egr = (s.slot j).egr
  ctls : ∀ j, j ≠ i → (t.slot j).ctl = (s.slot j).ctl
  alone : NoneWaits s → OtherSlots i s t ∧ NoneWaits t

section Shuts

variable {ps qs rs : List Part} {i : Slot} {s t u : State}

theorem Shuts.refl (ps : List Part) (i : Slot) (s : State) : Shuts ps i s s :=
  ⟨.refl .., rfl, fun _ => .refl s, fun _ _ => rfl, fun _ _ => rfl, fun h => ⟨.refl i s, h⟩⟩

theorem Shuts.then (h : Shuts ps i s t) (g : Shuts qs i t u) (hp : ps ⊆ rs := by decide) (hq : qs ⊆ rs := by decide) :
    Shuts rs i s u where
  keeps := h.keeps.then g.keeps hp hq
  msel := g.msel.trans h.msel
  grow hi := (h.grow hi).trans (g.grow (by rwa [mgmtSlot_of_msel h.msel]))
  egrs j hj := (g.egrs j hj).trans (h.egrs j hj)
  ctls j hj := (g.ctls j hj).trans (h.ctls j hj)
  alone hn := by
    obtain ⟨hothers, hnone⟩ := h.alone hn
    obtain ⟨gothers, gnone⟩ := g.alone hnone
    exact ⟨fun j hj => (gothers j hj).trans (hothers j hj), gnone⟩

theorem Shuts.mono (h : Shuts ps i s t) (hp : ps ⊆ rs := by decide) : Shuts rs i s t :=
  ⟨h.keeps.mono hp, h.msel, h.grow, h.egrs, h.ctls, h.alone⟩

theorem RepliesGrow.msel (h : RepliesGrow s t) : t.mgmt.msel = s.mgmt.msel := by
  obtain ⟨l, h⟩ := h
  rw [h]

theorem Touches.shuts (h : Touches ps i s t) (hi : Part.ing ∉ ps := by decide) : Shuts ps i s t :=
  ⟨h.keeps, h.grow.msel, fun _ => h.grow, fun j hj => by rw [h.others j hj], fun j hj => by rw [h.others j hj],
    fun hn => ⟨h.others, noneWaits_of_ing hn (h.ing hi)⟩⟩

theorem shuts_ite {c : Prop} [Decidable c] (ht : Shuts ps i s t) (hu : Shuts ps i s u) :
    Shuts ps i s (if c then t else u) := by
  split
  · exact ht
  · exact hu

/-- Nothing is left to report after a change that does not leave the slot DRAINING with an empty egress. -/
theorem Shuts.settles_unless (h : Shuts ps i s t) (hs : s.settled)
    (hi : (t.slot i).ctl.phase = .draining → ¬(t.slot i).egr.bare) : settleDrains t = t := by
  refine settleDrains_of_settled (drained_none_of_before hs (fun j hphase hempty => ?_))
  have hj : j ≠ i := fun hj => hi (hj ▸ hphase) (hj ▸ (egressEmpty_iff.mp hempty).1)
  have hslot : t.mgmtSlot = s.mgmtSlot := mgmtSlot_of_msel h.msel
  refine ⟨h.ctls j hj ▸ hphase, ?_⟩
  rw [egressEmpty_iff] at hempty ⊢
  obtain ⟨hbare, hreplies⟩ := hempty
  refine ⟨h.egrs j hj ▸ hbare, fun hm => ?_⟩
  obtain ⟨l, hmgmt⟩ := h.grow (fun hi => hj (hm.trans hi.symm))
  rw [hmgmt] at hreplies
  exact ⟨(List.append_eq_nil_iff.mp (hreplies (hm.trans hslot.symm)).1).1, (hreplies (hm.trans hslot.symm)).2⟩

theorem Shuts.settles (h : Shuts ps i s t) (hs : s.settled) (hi : (t.slot i).ctl.phase ≠ .draining) :
    settleDrains t = t := h.settles_unless hs (fun hphase => absurd hphase hi)

theorem Shuts.settles_nonempty (h : Shuts ps i s t) (hs : s.settled) (hi : ¬(t.slot i).egr.bare) :
    settleDrains t = t := h.settles_unless hs (fun _ => hi)

end Shuts

/-! ## Power lines, chains and phases (R119, R127, R128, R130, R151) -/

section Phases

variable {i : Slot} {s : State}

/-- The controls of a slot whose PWR-EN goes off. -/
def Ctl.poweredOff (c : Ctl) : Ctl :=
  { c with pwrEn := false, inputsEn := false, resetOut := false, pulse0 := none, pulse1 := none,
           deb0 := Debounce.rest, deb1 := Debounce.rest }

/-- The controls of a slot that enters a state. -/
def Ctl.entering (ph : Phase) (c : Ctl) : Ctl :=
  { c with phase := ph, sub := .awake, restReq := false, timer := none, train := Training.none, reason := none }

theorem powerOffLines_ctl : ((powerOffLines i s).slot i).ctl = (s.slot i).ctl.poweredOff := by
  unfold powerOffLines
  rw [(clearCond_touches i ..).ctl, modCtl_ctl_self]
  rfl

theorem reresolve_shuts (i : Slot) (s : State) : Shuts [.ing, .port, .pool, .log, .alarm, .mgmt] i s (reresolve i s) where
  keeps := (reresolve_leaves i s).keeps
  msel := (reresolve_leaves i s).grow.msel
  grow _ := (reresolve_leaves i s).grow
  egrs j _ := (reresolve_leaves i s).keeps.egr (by decide) j
  ctls j _ := (reresolve_leaves i s).keeps.ctl (by decide) j
  alone hn := by
    rw [reresolve_of_noneWaits hn]
    exact ⟨.refl i s, hn⟩

theorem setPhase_shuts (i : Slot) (ph : Phase) (s : State) :
    Shuts [.ctl, .ing, .port, .pool, .log, .alarm, .mgmt] i s (setPhase i ph s) :=
  (modCtl_touches i s (Ctl.entering ph)).shuts.then (reresolve_shuts i _)

theorem setPhase_ctl (ph : Phase) : ((setPhase i ph s).slot i).ctl = (s.slot i).ctl.entering ph := by
  unfold setPhase
  rw [(reresolve_leaves i _).keeps.ctl, modCtl_ctl_self]
  rfl

theorem setPhase_of_noneWaits (h : NoneWaits s) (ph : Phase) : setPhase i ph s = s.modCtl i (Ctl.entering ph) := by
  have hset : NoneWaits (s.modCtl i (Ctl.entering ph)) := noneWaits_of_ing h (by simp)
  exact reresolve_of_noneWaits hset

/-! ## Ports under a resolution -/

/-- A resolution of waiting parcels changes hold requests alone of the ports. -/
def HoldsOnly (s t : State) : Prop := ∀ j, (t.slot j).port = { (s.slot j).port with holdReq := (t.slot j).port.holdReq }

theorem HoldsOnly.refl (s : State) : HoldsOnly s s := fun _ => rfl

theorem HoldsOnly.trans {t u : State} (h : HoldsOnly s t) (g : HoldsOnly t u) : HoldsOnly s u := by
  intro j
  rw [g j, h j]

theorem holdsOnly_of_port {t : State} (h : ∀ j, (t.slot j).port = (s.slot j).port) : HoldsOnly s t := by
  intro j
  rw [h j]

theorem waitEnd_holdsOnly (j : Slot) (w : Waiting) (s : State) : HoldsOnly s (waitEnd j w s) := by
  obtain ⟨u, hu⟩ : ∃ u, u = (s.modIng j (fun g => { g with waiting := none })).modPort j
    (fun p => { p with holdReq := false }) := ⟨_, rfl⟩
  have hport : HoldsOnly s u := by
    intro k
    by_cases hk : k = j
    · subst hk
      rw [hu, modPort_port_self]
      simp
    · rw [hu, modPort_otherSlots _ _ _ k hk]
      simp
  unfold waitEnd settle
  rw [← hu]
  exact hport.trans (holdsOnly_of_port ((settleAs_leaves ..).keeps.port (by decide)))

theorem putWaiting_holdsOnly (j : Slot) (w : Waiting) (s : State) : HoldsOnly s (putWaiting j w s) := by
  unfold putWaiting
  split
  · exact waitEnd_holdsOnly j w s
  · exact holdsOnly_of_port (modIng_touches j s _).port

theorem reresolveIn_holdsOnly (i j : Slot) (s : State) : HoldsOnly s (reresolveIn i j s) := by
  unfold reresolveIn
  split
  · exact .refl s
  · split
    · split
      · exact .refl s
      · exact putWaiting_holdsOnly _ _ _
      · exact putWaiting_holdsOnly _ _ _
    · exact .refl s

theorem reresolve_holdsOnly (i : Slot) (s : State) : HoldsOnly s (reresolve i s) := by
  unfold reresolve State.eachSlot
  generalize allSlots = l
  induction l generalizing s with
  | nil => exact .refl s
  | cons j l ih => exact (reresolveIn_holdsOnly i j s).trans (ih _)

theorem setPhase_holdsOnly (i : Slot) (ph : Phase) (s : State) : HoldsOnly s (setPhase i ph s) :=
  (holdsOnly_of_port (modCtl_touches i s (Ctl.entering ph)).port).trans (reresolve_holdsOnly i _)

end Phases

/-! ## Queues emptied (R45, R46, R179) -/

section Queues

variable {i : Slot} {s : State}

theorem modMgmt_shuts (f : Mgmt → Mgmt) (hi : i = s.mgmtSlot) (hmsel : (f s.mgmt).msel = s.mgmt.msel) :
    Shuts [.mgmt] i s (s.modMgmt f) :=
  ⟨modMgmt_keepsBut .., hmsel, fun h => absurd hi h, fun _ _ => by simp, fun _ _ => by simp,
    fun hn => ⟨otherSlots_of_slots (by simp), noneWaits_of_ing hn (by simp)⟩⟩

theorem emptyMgmt_shuts (i : Slot) (s : State) : Shuts [.mgmt] i s (emptyMgmt i s) := by
  unfold emptyMgmt
  split
  · next hi => exact modMgmt_shuts _ hi rfl
  · exact .refl ..

theorem emptySwitchQueues_shuts (i : Slot) (s : State) : Shuts [.egr, .mgmt] i s (emptySwitchQueues i s) := by
  unfold emptySwitchQueues
  dsimp only
  refine (modEgr_touches i s (fun e => { e with express := [] })).shuts.then (qs := [.mgmt]) ?_
  split
  · next hi => exact modMgmt_shuts _ hi rfl
  · exact .refl ..

theorem emptySwitchQueues_egr : ((emptySwitchQueues i s).slot i).egr = { (s.slot i).egr with express := [] } := by
  unfold emptySwitchQueues
  dsimp only
  split <;> simp

theorem releaseAll_touches (i : Slot) (l : List Nat) (s : State) :
    Touches [.pool, .alarm, .mgmt] i s (l.foldl (fun t pid => releaseHold pid t) s) := by
  induction l generalizing s with
  | nil => exact .refl ..
  | cons pid l ih => exact (releaseHold_touches i s pid).then (ih _)

theorem flushSlot_shuts (i : Slot) (s : State) : Shuts [.egr, .pool, .alarm, .mgmt] i s (flushSlot i s) :=
  ((modEgr_touches i s _).then (releaseAll_touches i _ _) (rs := [.egr, .pool, .alarm, .mgmt])).shuts.then
    (emptySwitchQueues_shuts i _)

/-- An egress whose queues are empty. -/
def Egress.noQueues (e : Egress) : Egress := { e with stream := [], control := [], bulk := [], express := [] }

theorem flushSlot_egr : ((flushSlot i s).slot i).egr = (s.slot i).egr.noQueues := by
  unfold flushSlot
  dsimp only
  rw [emptySwitchQueues_egr, (releaseAll_touches i ..).egr, modEgr_egr_self]
  rfl

theorem enterOut_shuts (i : Slot) (ph : Phase) (s : State) :
    Shuts [.ctl, .egr, .ing, .port, .pool, .log, .alarm, .mgmt] i s (enterOut i ph s) :=
  ((setPhase_shuts i ph s).then (emptySwitchQueues_shuts i _)
    (rs := [.ctl, .egr, .ing, .port, .pool, .log, .alarm, .mgmt])).then (emptyMgmt_shuts i _)

theorem enterOut_ctl (ph : Phase) : ((enterOut i ph s).slot i).ctl = (s.slot i).ctl.entering ph := by
  unfold enterOut
  rw [(emptyMgmt_keepsBut ..).ctl, (emptySwitchQueues_keepsBut ..).ctl, setPhase_ctl]

theorem enterOut_egr (ph : Phase) : ((enterOut i ph s).slot i).egr = { (s.slot i).egr with express := [] } := by
  unfold enterOut
  rw [(emptyMgmt_keepsBut ..).egr, emptySwitchQueues_egr, (setPhase_keepsBut ..).egr]

theorem enterOut_holdsOnly (i : Slot) (ph : Phase) (s : State) : HoldsOnly s (enterOut i ph s) := by
  have hrest : KeepsBut [.egr, .mgmt] (setPhase i ph s) (enterOut i ph s) :=
    (emptySwitchQueues_keepsBut ..).then (emptyMgmt_keepsBut ..)
  exact (setPhase_holdsOnly i ph s).trans (holdsOnly_of_port hrest.port)

/-- With nothing waiting an entry changes the controls and empties queues. -/
theorem enterOut_of_noneWaits (h : NoneWaits s) (ph : Phase) : Shuts [.ctl, .egr, .mgmt] i s (enterOut i ph s) := by
  unfold enterOut
  rw [setPhase_of_noneWaits h]
  exact ((modCtl_touches i s _).shuts.then (emptySwitchQueues_shuts i _) (rs := [.ctl, .egr, .mgmt])).then
    (emptyMgmt_shuts i _)

end Queues

/-! ## Links (R6, R15, R54) -/

section Links

variable {i : Slot} {dst : LinkState} {s : State}

/-- Whether a change of the link state leaves UP and RESTING (R6). -/
def LinkState.leavesFrames (was dst : LinkState) : Bool := was.frames && !dst.frames

/-- The port of a link in a state. -/
def Port.withLink (p : Port) (dst : LinkState) : Port :=
  { p with link := dst, trainReq := if dst = .training then p.trainReq else none }

/-- What the port forgets when its link leaves UP and RESTING. -/
def Port.unframed (p : Port) : Port :=
  { p with rx := .awaitHeader, announcedHeld := false, cardHold := false, holdTimer := none, wakeAsked := false }

/-- The effects of R6 on a link that leaves UP and RESTING. -/
def unframe (i : Slot) (s : State) : State :=
  clearCond causeLinkHeld i.val 0 ((abandonTx i (abortReception i s)).modPort i
    (fun p => { p with announcedHeld := false, cardHold := false, holdTimer := none, wakeAsked := false }))

theorem setLink_eq (i : Slot) (dst : LinkState) (s : State) : setLink i dst s =
    if (s.slot i).port.link.leavesFrames dst then unframe i (s.modPort i (·.withLink dst))
    else s.modPort i (·.withLink dst) := rfl

theorem setLink_plain (h : (s.slot i).port.link.leavesFrames dst = false) :
    setLink i dst s = s.modPort i (·.withLink dst) := by
  rw [setLink_eq, h]
  rfl

theorem setLink_unframes (h : (s.slot i).port.link.leavesFrames dst = true) :
    setLink i dst s = unframe i (s.modPort i (·.withLink dst)) := by
  rw [setLink_eq, h]
  rfl

theorem abortReception_idle (hrec : (s.slot i).ing.reception = none) :
    abortReception i s = s.modPort i (fun p => { p with rx := .awaitHeader }) := by
  unfold abortReception
  rw [parcelEnd_idle i s hrec]

/-- With no parcel in reception, a link that leaves UP and RESTING abandons the transmission and clears LINK-HELD. -/
theorem setLink_leaves (hrec : (s.slot i).ing.reception = none) (h : (s.slot i).port.link.leavesFrames dst = true) :
    setLink i dst s = clearCond causeLinkHeld i.val 0
      ((abandonTx i ((s.modPort i (·.withLink dst)).modPort i (fun p => { p with rx := .awaitHeader }))).modPort i
        (fun p => { p with announcedHeld := false, cardHold := false, holdTimer := none, wakeAsked := false })) := by
  rw [setLink_unframes h, unframe, abortReception_idle (by simp [hrec])]

theorem setLink_touches (hrec : (s.slot i).ing.reception = none) :
    Touches [.port, .egr, .pool, .alarm, .mgmt] i s (setLink i dst s) := by
  cases h : (s.slot i).port.link.leavesFrames dst with
  | false =>
    rw [setLink_plain h]
    exact (modPort_touches ..).mono
  | true =>
    rw [setLink_leaves hrec h]
    exact ((((modPort_touches i s _).then (modPort_touches i _ _) (rs := [.port])).then (abandonTx_touches i _)
      (rs := [.port, .egr, .pool, .alarm, .mgmt])).then (modPort_touches i _ _)
      (rs := [.port, .egr, .pool, .alarm, .mgmt])).then (clearCond_touches ..)

theorem unframe_port : ((unframe i s).slot i).port = (s.slot i).port.unframed := by
  unfold unframe abortReception
  rw [(clearCond_touches i ..).port, modPort_port_self, (abandonTx_touches i _).port, modPort_port_self,
    (parcelEnd_aborted_keepsBut i s).port]
  rfl

theorem setLink_port : ((setLink i dst s).slot i).port =
    if (s.slot i).port.link.leavesFrames dst then ((s.slot i).port.withLink dst).unframed
    else (s.slot i).port.withLink dst := by
  rw [setLink_eq]
  split
  · rw [unframe_port, modPort_port_self]
  · rw [modPort_port_self]

theorem setLink_link : ((setLink i dst s).slot i).port.link = dst := by
  rw [setLink_port]
  split <;> rfl

theorem abandonTx_idle (h : (s.slot i).egr.tx = .idle) : abandonTx i s = s := by
  have hself : s.modEgr i (fun e => { e with tx := .idle }) = s := by
    refine modEgr_self ?_
    cases he : (s.slot i).egr
    simp_all
  unfold abandonTx
  dsimp only
  rw [h, hself]
  rfl

/-- With nothing handed over or in transmission the queues stay, and only LINK-HELD may be reported. -/
theorem setLink_calm (hrec : (s.slot i).ing.reception = none) (htx : (s.slot i).egr.tx = .idle) :
    Touches [.port, .alarm, .mgmt] i s (setLink i dst s) := by
  cases h : (s.slot i).port.link.leavesFrames dst with
  | false =>
    rw [setLink_plain h]
    exact (modPort_touches ..).mono
  | true =>
    rw [setLink_leaves hrec h, abandonTx_idle (by simp [htx])]
    exact (((modPort_touches i s _).then (modPort_touches i _ _) (rs := [.port])).then (modPort_touches i _ _)
      (rs := [.port])).then (clearCond_touches ..)

theorem clearCond_of_absent {c : Fin 64} {n : Nat} {p : Word} {s : State} (h : s.isRaised c n = false) :
    clearCond c n p s = s := clearCond_of_not_raised h p

end Links

end Sys2Proof.Machine
end

section
/-! PROOFS. Slots taken down: faults, removals and POWER-OFF (R129, R139 to R141). Obligation O44. -/

namespace Sys2Proof.Machine

/-! ## What a slot taken down is left with (R139 to R141) -/

/-- The parts that taking a slot down may touch. -/
abbrev downParts : List Part := [.pool, .log, .alarm, .mgmt, .port, .ing, .egr, .ctl, .cursor]

/-- A slot is taken down: its link is DOWN, its queues are empty, its chain is stopped, and its controls are given. -/
structure TakenDown (i : Slot) (c : Ctl) (s t : State) : Prop where
  shuts : Shuts downParts i s t
  ctl : (t.slot i).ctl = c
  link : (t.slot i).port.link = .down
  queues : (t.slot i).egr.stream = [] ∧ (t.slot i).egr.control = [] ∧ (t.slot i).egr.bulk = [] ∧
    (t.slot i).egr.express = []
  chain : (t.slot i).cursor.state = .idle

section Down

variable {i : Slot} {ph : Phase} {r : FaultReason} {s t u : State} {ps : List Part} {c : Ctl}

/-- A further change that leaves the port, the queues and the chain of the slot. -/
theorem TakenDown.then (h : TakenDown i c s t) (g : Touches ps i t u) (hps : ps ⊆ [.ctl, .alarm, .mgmt]) :
    TakenDown i (u.slot i).ctl s u := by
  have hall := g.mono hps
  exact ⟨h.shuts.then (rs := downParts) hall.shuts, rfl, by rw [hall.port, h.link], by rw [hall.egr]; exact h.queues,
    by rw [hall.cursor, h.chain]⟩

theorem takeDown_down (ph : Phase) (hrec : (s.slot i).ing.reception = none) :
    TakenDown i ((s.slot i).ctl.poweredOff.entering ph) s (takeDown i ph s) := by
  obtain ⟨v, hv⟩ : ∃ v, v = abortChain i .slotLeft (powerOffLines i s) := ⟨_, rfl⟩
  have hoff := powerOffLines_touches i s
  have hchain := abortChain_touches i (powerOffLines i s) .slotLeft
  have hstopped : Touches [.ctl, .cursor, .alarm, .mgmt] i s v := hv ▸ hoff.then hchain
  have hrec' : (v.slot i).ing.reception = none := by rw [hstopped.ing, hrec]
  have hlink := setLink_touches (i := i) (dst := .down) hrec'
  have hflush := flushSlot_shuts i (setLink i .down v)
  have hout := enterOut_shuts i ph (flushSlot i (setLink i .down v))
  have heq : takeDown i ph s = enterOut i ph (flushSlot i (setLink i .down v)) := by rw [hv]; rfl
  rw [heq]
  refine ⟨((hstopped.shuts.then hlink.shuts (rs := downParts)).then hflush (rs := downParts)).then hout, ?_, ?_, ?_, ?_⟩
  · rw [enterOut_ctl, hflush.keeps.ctl, hlink.ctl, hv, hchain.ctl, powerOffLines_ctl]
  · rw [enterOut_holdsOnly i ph _ i, hflush.keeps.port]
    exact setLink_link
  · rw [enterOut_egr, flushSlot_egr]
    exact ⟨rfl, rfl, rfl, rfl⟩
  · rw [hout.keeps.cursor, hflush.keeps.cursor, hlink.cursor, hv]
    exact abortChain_idle ..

theorem fault_down (r : FaultReason) (hrec : (s.slot i).ing.reception = none) :
    TakenDown i { (s.slot i).ctl.poweredOff.entering .faulted with reason := some r } s (fault i r s) ∧
    (fault i r s).isRaised causeSlotFault i.val = true := by
  have htaken := takeDown_down .faulted hrec
  have hset := modCtl_touches i (takeDown i .faulted s) (fun c => { c with reason := some r })
  have hraise := raiseCond_touches i ((takeDown i .faulted s).modCtl i (fun c => { c with reason := some r }))
    causeSlotFault i.val (wordOf r.code)
  have hctl : ((fault i r s).slot i).ctl = { (s.slot i).ctl.poweredOff.entering .faulted with reason := some r } := by
    unfold fault
    rw [hraise.ctl, modCtl_ctl_self, htaken.ctl]
  have hdown := htaken.then (hset.then hraise (rs := [.ctl, .alarm, .mgmt])) (List.Subset.refl _)
  exact ⟨hctl ▸ hdown, isRaised_raised ..⟩

/-- A fault settles at once: the slot is not DRAINING. -/
theorem settle_fault (hrec : (s.slot i).ing.reception = none) (hs : s.settled) :
    settleDrains (fault i r s) = fault i r s := by
  obtain ⟨hdown, -⟩ := fault_down r hrec
  exact hdown.shuts.settles hs (by rw [hdown.ctl]; exact Phase.noConfusion)

end Down

/-! ## Obligation O44 -/

section Faults

variable {i : Slot} {r : FaultReason} {s : State}

/-- The whole of R141's shutdown, where the controls before differ in PWR-GOOD at most. -/
theorem fault_shuts {b : Bool} {u : State} (hu : u = s ∨ u = s.modCtl i (fun c => { c with pwrGood := b }))
    (hrec : (s.slot i).ing.reception = none) {t : State} (ht : t = fault i r u) :
    t.isRaised causeSlotFault i.val = true ∧
      (t.slot i).ctl.phase = .faulted ∧ (t.slot i).ctl.reason = some r ∧ (t.slot i).ctl.pwrEn = false ∧
      (t.slot i).ctl.inputsEn = false ∧ (t.slot i).ctl.resetOut = false ∧ (t.slot i).ctl.timer = none ∧
      (t.slot i).port.link = .down ∧ (t.slot i).egr.stream = [] ∧ (t.slot i).egr.control = [] ∧
      (t.slot i).egr.bulk = [] ∧ (t.slot i).egr.express = [] ∧ (t.slot i).cursor.state = .idle ∧
      KeepsBut [.pool, .log, .alarm, .mgmt, .port, .ing, .egr, .ctl, .cursor] s t := by
  have hbefore : Touches [.ctl] i s u := by
    rcases hu with rfl | rfl
    · exact .refl ..
    · exact modCtl_touches ..
  obtain ⟨hdown, hraised⟩ := fault_down (s := u) r (by rw [hbefore.ing, hrec])
  obtain ⟨hstream, hcontrol, hbulk, hexpress⟩ := hdown.queues
  rw [ht]
  refine ⟨hraised, ?_, ?_, ?_, ?_, ?_, ?_, hdown.link, hstream, hcontrol, hbulk, hexpress, hdown.chain,
    hbefore.keeps.then hdown.shuts.keeps⟩
  all_goals simp only [hdown.ctl, Ctl.entering, Ctl.poweredOff]

theorem timerDue_of {k : TimerKind} {u : Uptime} {limit : Nat} (h : (s.slot i).ctl.timer = some { kind := k, start := u })
    (hdue : limit ≤ (s.timing.uptime - u).toNat) : s.timerDue i k limit = true := by
  unfold State.timerDue
  rw [h]
  simp only [BEq.rfl, Bool.true_and]
  exact decide_eq_true hdue

end Faults

/-- Settles O44, by what a fault leaves of a slot. -/
theorem powerFaults : Obligations.PowerFaults := by
  unfold Obligations.PowerFaults
  refine fun i s hs hrec => ⟨fun u hphase htimer hdue => ?_, fun hgood hjudges => ?_⟩
  · have hexec : exec (.powerTimerExpiry i) s = .next (fault i .powerTimeout s) := by
      rw [← settle_fault hrec hs]
      exact congrArg Host.Outcome.next (if_pos ⟨hphase, timerDue_of htimer hdue⟩)
    exact ⟨_, hexec, fault_shuts (b := false) (.inl rfl) hrec rfl⟩
  · obtain ⟨u, hu⟩ : ∃ u, u = s.modCtl i (fun c => { c with pwrGood := false }) := ⟨_, rfl⟩
    have hset : Touches [.ctl] i s u := hu ▸ modCtl_touches ..
    have hsettled : settleDrains (fault i .powerLost u) = fault i .powerLost u := by
      obtain ⟨hdown, -⟩ := fault_down (s := u) .powerLost (by rw [hset.ing, hrec])
      exact (hset.shuts.then hdown.shuts (rs := downParts)).settles hs (by rw [hdown.ctl]; exact Phase.noConfusion)
    have hexec : exec (.pwrGoodLost i) s = .next (fault i .powerLost u) := by
      rw [← hsettled, hu]
      show execPwrGoodLost i s = _
      unfold execPwrGoodLost
      dsimp only
      rw [if_pos hgood, if_pos hjudges]
    exact ⟨_, hexec, fault_shuts (.inr hu) hrec rfl⟩

end Sys2Proof.Machine
end

section
/-! PROOFS. Obligation O45 refuted: a card leaves while a parcel is in reception (R4, R43, R140). -/

namespace Sys2Proof.Machine

/-- A stored parcel of one block that its reception alone holds. -/
def lastParcel : Stored :=
  { hdr := { kind := 0, chan := 0, len := 3, tag := 9 }, cls := .control, egress := 20, owner := 2, nBlocks := 1,
    blocks := [7], words := [], isOpen := false, refs := 1 }

/-- The reception of that parcel. -/
def lastReception : Reception :=
  { hdr := { kind := 0, chan := 0, len := 3, tag := 9 }, stamp := { sec := 0, ns := 0 }, entry := FlowEntry.zero,
    log := none, fate := .passed 0, enq := 0, disc := 0 }

/-- Slot 2 ADMITTED with an empty egress, auto-power-off and a running chain, and with a parcel in reception whose one
block keeps the free blocks below the clear mark: POOL-LOW is raised. -/
def departing : State :=
  ((((State.reset.modCtl 2 (fun c =>
      { c with phase := .admitted, pwrEn := true, presL := true, presS := true })).modPort 2 (fun p =>
      { p with link := .up, rx := .inParcel lastReception.hdr 3 0 })).modIng 2 (fun g =>
      { g with reception := some lastReception })).setCursor 2 { Cursor.idle with state := .running }).setCfg 2
      { State.reset.slot 2 |>.cfg with autoPowerOff := true }
    |>.modPool (fun q => { q with
      parcels := [(0, lastParcel)], nextId := 1, freeCount := State.reset.glob.clearMark - 1 })
    |>.modAlarm (fun a => { a with raised := [(pairKey causePoolLow 0, 0)] })

theorem departing_meets : NoneWaits departing ∧ departing.settled ∧ (departing.slot 2).ctl.phase = .admitted ∧
    (departing.slot 2).ctl.presS = true ∧ (departing.slot 2).cursor.state ≠ .idle ∧ departing.egressEmpty 2 = true ∧
    (departing.slot 2).cfg.autoPowerOff = true ∧ departing.isRaised causeLinkHeld 2 = false := by
  unfold NoneWaits State.settled
  decide

set_option maxRecDepth 4000 in
/-- The reception ends as ABORTED when the link leaves UP; its block comes back and POOL-LOW is cleared. -/
theorem departing_clears : (match exec (.contactLost 2 .short) departing with
    | .next t => t.isRaised causePoolLow 0
    | _ => true) = false := by
  decide

/-- Refutes O45: a parcel in reception of the slot returns its blocks there, so that the alarm unit may take the clear of
POOL-LOW besides the clear of CARD-ALARM and CHAIN-ABORTED. -/
theorem not_contactsLost : ¬ Obligations.ContactsLost := by
  unfold Obligations.ContactsLost
  rintro ⟨-, hchain, -⟩
  obtain ⟨hnone, hsettled, hphase, hshort, hrunning, hempty, hauto, hheld⟩ := departing_meets
  obtain ⟨t, hexec, -, -, -, halarm⟩ := hchain 2 departing hnone hsettled hphase hshort hrunning hempty hauto hheld
  have hcleared : t.isRaised causePoolLow 0 = false := by
    have h := departing_clears
    rwa [hexec] at h
  have hraised : departing.isRaised causePoolLow 0 = true := by decide
  rw [isRaised_of_alarm halarm, isRaised_postEvent, isRaised_clearCond_other (by decide) (by decide) (by decide),
    hraised] at hcleared
  exact Bool.noConfusion hcleared

end Sys2Proof.Machine
end

section
/-! PROOFS. Obligation O43: cards are seated and powered, and training begins (R123, R126 to R131). -/

namespace Sys2Proof.Machine

/-! ## Training begins (R131) -/

section Training

variable {i : Slot} {s : State} {ps : List Part}

/-- The first request of the first attempt. -/
def Training.first : Training := { attempt := 1, exchange := 0, step := .request, samples := [] }

theorem askTrain_touches (i : Slot) (x : Training) (s : State) : Touches [.ctl, .port] i s (askTrain i x s) :=
  (modCtl_touches i s _).then (modPort_touches ..)

theorem askTrain_ctl (x : Training) :
    ((askTrain i x s).slot i).ctl = { (s.slot i).ctl with train := { x with step := .request } } := by
  unfold askTrain
  rw [(modPort_touches i ..).ctl, modCtl_ctl_self]

theorem askTrain_port (x : Training) :
    ((askTrain i x s).slot i).port = { (s.slot i).port with trainReq := some x.exchange } := by
  unfold askTrain
  rw [modPort_port_self, (modCtl_touches i ..).port]

/-- With no chain and nothing waiting, a slot that trains again has its link TRAINING and asks for the first request. -/
structure Trains (i : Slot) (u t : State) : Prop where
  touches : Touches [.ctl, .port] i u t
  ctl : (t.slot i).ctl = { (u.slot i).ctl.entering .training with train := Training.first }
  port : (t.slot i).port = { (u.slot i).port with trainReq := some 0 }

theorem enterTraining_trains (hnone : NoneWaits s) (hidle : (s.slot i).cursor.state = .idle)
    (hlink : Touches ps i s (setLink i .training s)) (hi : Part.ing ∉ ps := by decide) :
    Trains i (setLink i .training s) (enterTraining i s) := by
  have hnone' : NoneWaits (setLink i .training s) := noneWaits_of_ing hnone (hlink.ing hi)
  have heq : enterTraining i s = askTrain i Training.first
      ((setLink i .training s).modCtl i (Ctl.entering .training)) := by
    rw [← setPhase_of_noneWaits hnone']
    unfold enterTraining
    rw [abortChain_of_idle _ hidle]
    rfl
  have hmod := modCtl_touches i (setLink i .training s) (Ctl.entering .training)
  rw [heq]
  refine ⟨hmod.then (askTrain_touches ..), ?_, ?_⟩
  · rw [askTrain_ctl, modCtl_ctl_self]
    rfl
  · rw [askTrain_port, hmod.port]
    rfl

end Training

/-! ## Contacts and the seat timer (R126) -/

section Seating

variable {i : Slot} {s : State}

theorem startTimer_touches (i : Slot) (k : TimerKind) (s : State) : Touches [.ctl] i s (startTimer i k s) :=
  modCtl_touches ..

theorem startTimer_ctl (k : TimerKind) : ((startTimer i k s).slot i).ctl =
    { (s.slot i).ctl with timer := some { kind := k, start := s.timing.uptime } } := modCtl_ctl_self ..

theorem seatDebounce_touches (i : Slot) (s : State) : Touches [.ctl] i s (seatDebounce i s) :=
  touches_ite (startTimer_touches ..) (.refl ..)

theorem seatDebounce_ctl : ((seatDebounce i s).slot i).ctl =
    if (s.slot i).ctl.phase = .empty ∧ (s.slot i).ctl.presL = true ∧ (s.slot i).ctl.presS = true
    then { (s.slot i).ctl with timer := some { kind := .seat, start := s.timing.uptime } } else (s.slot i).ctl := by
  unfold seatDebounce
  dsimp only
  split
  · exact startTimer_ctl _
  · rfl

theorem contactMade_sets {k : Contact} (hk : (s.slot i).ctl.made k = false) :
    ∃ t, exec (.contactMade i k) s = .next t ∧
      (t.slot i).ctl =
        (if (s.slot i).ctl.phase = .empty ∧ ((s.slot i).ctl.setMade k true).presL = true ∧
            ((s.slot i).ctl.setMade k true).presS = true
          then { (s.slot i).ctl.setMade k true with timer := some { kind := .seat, start := s.timing.uptime } }
          else (s.slot i).ctl.setMade k true) ∧
      KeepsBut [.ctl] s t ∧ OtherSlots i s t := by
  have hset := modCtl_touches i s (fun c => c.setMade k true)
  have hall := hset.then (seatDebounce_touches i _) (rs := [.ctl])
  have hphase : ((s.slot i).ctl.setMade k true).phase = (s.slot i).ctl.phase := by cases k <;> rfl
  refine ⟨_, congrArg Host.Outcome.next (if_neg (by rw [hk]; decide)), ?_, hall.keeps, hall.others⟩
  rw [seatDebounce_ctl, modCtl_ctl_self, hphase, hset.timing]

/-- The controls of a slot that enters POWERING with PWR-GOOD not seen. -/
def Ctl.powering (c : Ctl) (now : Uptime) : Ctl :=
  { c.entering .powering with pwrEn := true, resetOut := true, timer := some { kind := .power, start := now } }

theorem goodSeen_touches (i : Slot) (s : State) : Touches [.ctl] i s (goodSeen i s) :=
  (modCtl_touches i s _).then (followLines_touches ..)

/-- What seeing PWR-GOOD changes beside the debouncers. -/
theorem goodSeen_ctl : ∃ d0 d1, ((goodSeen i s).slot i).ctl = { (s.slot i).ctl with
    inputsEn := true, timer := some { kind := .release, start := s.timing.uptime }, deb0 := d0, deb1 := d1 } := by
  unfold goodSeen
  rw [followLines_ctl (by rw [modCtl_ctl_self]), SlotState.followed, modCtl_ctl_self]
  exact ⟨_, _, rfl⟩

/-- The controls of a slot that enters POWERING, before PWR-GOOD is looked at. -/
def startPowering (i : Slot) (s : State) : State :=
  startTimer i .power ((setPhase i .powering s).modCtl i (fun c => { c with pwrEn := true, resetOut := true }))

theorem startPowering_of_noneWaits (h : NoneWaits s) : Touches [.ctl] i s (startPowering i s) ∧
    ((startPowering i s).slot i).ctl = (s.slot i).ctl.powering s.timing.uptime := by
  have hon := (modCtl_touches i s (Ctl.entering .powering)).then
    (modCtl_touches i _ (fun c => { c with pwrEn := true, resetOut := true })) (rs := [.ctl])
  unfold startPowering
  rw [setPhase_of_noneWaits h]
  refine ⟨hon.then (startTimer_touches ..), ?_⟩
  rw [startTimer_ctl, modCtl_ctl_self, modCtl_ctl_self, hon.timing]
  rfl

theorem enterPowering_eq (i : Slot) (s : State) : enterPowering i s =
    if (s.slot i).ctl.pwrGood then goodSeen i (startPowering i s) else startPowering i s := rfl

/-- With nothing waiting an entry to POWERING changes the controls alone. -/
theorem enterPowering_touches (h : NoneWaits s) : Touches [.ctl] i s (enterPowering i s) := by
  obtain ⟨hstart, -⟩ := startPowering_of_noneWaits (i := i) h
  rw [enterPowering_eq]
  exact touches_ite (hstart.then (goodSeen_touches ..)) hstart

theorem enterPowering_unseen (h : NoneWaits s) (hgood : (s.slot i).ctl.pwrGood = false) :
    ((enterPowering i s).slot i).ctl = (s.slot i).ctl.powering s.timing.uptime := by
  obtain ⟨-, hctl⟩ := startPowering_of_noneWaits (i := i) h
  rw [enterPowering_eq, hgood, if_neg Bool.false_ne_true, hctl]

theorem enterPowering_ctl (h : NoneWaits s) : ((enterPowering i s).slot i).ctl.phase = .powering ∧
    ((enterPowering i s).slot i).ctl.pwrEn = true ∧ ((enterPowering i s).slot i).ctl.resetOut = true ∧
    ((enterPowering i s).slot i).ctl.reason = none ∧
    ((enterPowering i s).slot i).ctl.timer =
      some { kind := if (s.slot i).ctl.pwrGood then .release else .power, start := s.timing.uptime } := by
  obtain ⟨hstart, hctl⟩ := startPowering_of_noneWaits (i := i) h
  rw [enterPowering_eq]
  cases (s.slot i).ctl.pwrGood with
  | false =>
    rw [if_neg Bool.false_ne_true, if_neg Bool.false_ne_true, hctl]
    exact ⟨rfl, rfl, rfl, rfl, rfl⟩
  | true =>
    obtain ⟨d0, d1, hseen⟩ := goodSeen_ctl (i := i) (s := startPowering i s)
    rw [if_pos rfl, if_pos rfl, hseen, hctl, hstart.timing]
    exact ⟨rfl, rfl, rfl, rfl, rfl⟩

theorem enterOut_noneWaits (h : NoneWaits s) (ph : Phase) : NoneWaits (enterOut i ph s) :=
  ((enterOut_shuts i ph s).alone h).2

theorem seatTimer_seats {u : Uptime} (hnone : NoneWaits s) (hphase : (s.slot i).ctl.phase = .empty)
    (htimer : (s.slot i).ctl.timer = some { kind := .seat, start := u })
    (hdue : s.glob.seatTime ≤ (s.timing.uptime - u).toNat) :
    ∃ t, exec (.seatTimerExpiry i) s = .next t ∧ (t.slot i).egr = { (s.slot i).egr with express := [] } ∧
      ((s.slot i).cfg.autoPower = false →
        (t.slot i).ctl = { (s.slot i).ctl with
          phase := .seated, sub := .awake, restReq := false, timer := none, train := Training.none, reason := none }) ∧
      ((s.slot i).cfg.autoPower = true → (s.slot i).ctl.pwrGood = false →
        (t.slot i).ctl = { (s.slot i).ctl with
          phase := .powering, sub := .awake, restReq := false, train := Training.none, reason := none,
          pwrEn := true, resetOut := true, timer := some { kind := .power, start := s.timing.uptime } }) ∧
      KeepsBut [.ctl, .egr, .mgmt] s t ∧ OtherSlots i s t := by
  have hexec : exec (.seatTimerExpiry i) s = .next (enterSeated i s) :=
    congrArg Host.Outcome.next (if_pos ⟨hphase, timerDue_of htimer hdue⟩)
  have hout := enterOut_of_noneWaits (i := i) hnone .seated
  obtain ⟨hothers, hnone'⟩ := hout.alone hnone
  refine ⟨_, hexec, ?_⟩
  unfold enterSeated
  dsimp only
  cases hauto : (s.slot i).cfg.autoPower with
  | false =>
    rw [if_neg Bool.false_ne_true]
    exact ⟨enterOut_egr _, fun _ => enterOut_ctl _, nofun, hout.keeps, hothers⟩
  | true =>
    rw [if_pos rfl]
    have hpower := enterPowering_touches (i := i) hnone'
    have hall := hout.then hpower.shuts (rs := [.ctl, .egr, .mgmt])
    refine ⟨?_, nofun, fun _ hgood => ?_, hall.keeps, (hall.alone hnone).1⟩
    · rw [hpower.egr, enterOut_egr]
    · rw [enterPowering_unseen hnone' (by rw [enterOut_ctl]; exact hgood), enterOut_ctl, hout.keeps.timing]
      rfl

theorem pwrGood_seen {u : Uptime} (hphase : (s.slot i).ctl.phase = .powering)
    (htimer : (s.slot i).ctl.timer = some { kind := .power, start := u }) (hgood : (s.slot i).ctl.pwrGood = false) :
    ∃ t, exec (.pwrGoodActive i) s = .next t ∧ (t.slot i).ctl.phase = .powering ∧ (t.slot i).ctl.pwrGood = true ∧
      (t.slot i).ctl.inputsEn = true ∧
      (t.slot i).ctl.timer = some { kind := .release, start := s.timing.uptime } ∧
      KeepsBut [.ctl] s t ∧ OtherSlots i s t := by
  obtain ⟨v, hv⟩ : ∃ v, v = s.modCtl i (fun c => { c with pwrGood := true }) := ⟨_, rfl⟩
  have hset : Touches [.ctl] i s v := hv ▸ modCtl_touches ..
  have hctl : (v.slot i).ctl = { (s.slot i).ctl with pwrGood := true } := by rw [hv, modCtl_ctl_self]
  have hruns : (s.slot i).ctl.runs .power = true := by
    unfold Ctl.runs
    rw [htimer]
    rfl
  have hexec : exec (.pwrGoodActive i) s = .next (goodSeen i v) := by
    show execPwrGoodActive i s = _
    unfold execPwrGoodActive
    dsimp only
    rw [if_neg (by rw [hgood]; decide), if_pos ⟨hphase, hruns⟩, hv]
  have hall := hset.then (goodSeen_touches i v) (rs := [.ctl])
  obtain ⟨d0, d1, hseen⟩ := goodSeen_ctl (i := i) (s := v)
  refine ⟨_, hexec, ?_⟩
  rw [hseen, hctl, hset.timing]
  exact ⟨hphase, rfl, rfl, rfl, hall.keeps, hall.others⟩

theorem release_trains {u : Uptime} (hnone : NoneWaits s) (hs : s.settled) (hphase : (s.slot i).ctl.phase = .powering)
    (hframes : s.framing i = false) (hidle : (s.slot i).cursor.state = .idle)
    (htimer : (s.slot i).ctl.timer = some { kind := .release, start := u })
    (hdue : (s.slot i).cfg.releaseTime ≤ (s.timing.uptime - u).toNat) :
    ∃ t, exec (.releaseTimerExpiry i) s = .next t ∧
      (t.slot i).ctl = { (s.slot i).ctl with
        phase := .training, sub := .awake, restReq := false, timer := none, reason := none, resetOut := false,
        train := { attempt := 1, exchange := 0, step := .request, samples := [] } } ∧
      (t.slot i).port = { (s.slot i).port with link := .training, trainReq := some 0 } ∧
      KeepsBut [.ctl, .port] s t ∧ OtherSlots i s t := by
  obtain ⟨v, hv⟩ : ∃ v, v = s.modCtl i (fun c => { c with resetOut := false }) := ⟨_, rfl⟩
  have hset : Touches [.ctl] i s v := hv ▸ modCtl_touches ..
  have hctl : (v.slot i).ctl = { (s.slot i).ctl with resetOut := false } := by rw [hv, modCtl_ctl_self]
  have hplain : setLink i .training v = v.modPort i (·.withLink .training) := by
    refine setLink_plain ?_
    rw [hset.port]
    exact Bool.and_eq_false_imp.mpr fun h => absurd (hframes.symm.trans h) Bool.false_ne_true
  have hlink : Touches [.port] i v (setLink i .training v) := hplain ▸ modPort_touches ..
  have htrains := enterTraining_trains (noneWaits_of_ing hnone hset.ing) (by rw [hset.cursor, hidle]) hlink
  have hall : Touches [.ctl, .port] i s (enterTraining i v) := (hset.then hlink (rs := [.ctl, .port])).then htrains.touches
  have hctl' : ((enterTraining i v).slot i).ctl = { (s.slot i).ctl with
      phase := .training, sub := .awake, restReq := false, timer := none, reason := none, resetOut := false,
      train := { attempt := 1, exchange := 0, step := .request, samples := [] } } := by
    rw [htrains.ctl, hlink.ctl, hctl]
    rfl
  have hexec : exec (.releaseTimerExpiry i) s = .next (enterTraining i v) := by
    rw [← hall.settles hs (by rw [hctl']; exact Phase.noConfusion), hv]
    exact congrArg Host.Outcome.next (if_pos ⟨hphase, timerDue_of htimer hdue⟩)
  refine ⟨_, hexec, hctl', ?_, hall.keeps, hall.others⟩
  rw [htrains.port, hplain, modPort_port_self, hset.port]
  rfl

end Seating

/-- Settles O43, command by command. -/
theorem cardsAreSeatedAndPowered : Obligations.CardsAreSeatedAndPowered :=
  ⟨fun _ _ _ hk => contactMade_sets hk, fun _ _ _ hnone hphase htimer hdue => seatTimer_seats hnone hphase htimer hdue,
    fun _ _ _ hphase htimer hgood => pwrGood_seen hphase htimer hgood,
    fun _ _ _ hnone hs hphase hframes hidle htimer hdue => release_trains hnone hs hphase hframes hidle htimer hdue⟩

end Sys2Proof.Machine
end

section
/-! PROOFS. What the quiescing of one slot leaves of another (R46, R138). -/

namespace Sys2Proof.Machine

/-! ## A slot set aside -/

/-- An event at another slot: this slot keeps its controls, its link and an egress with no STREAM parcel, and where it is
a management slot out of ADMITTED it is offered no reply. -/
structure Aside (i : Slot) (s t : State) : Prop where
  msel : t.mgmt.msel = s.mgmt.msel
  ctl : (t.slot i).ctl = (s.slot i).ctl
  link : (t.slot i).port.link = (s.slot i).port.link
  egr : (s.slot i).egr.stream = [] → (t.slot i).egr = (s.slot i).egr
  quiet : i = s.mgmtSlot → (s.slot i).ctl.phase ≠ .admitted →
    t.mgmt.replies = s.mgmt.replies ∧ t.mgmt.claim = s.mgmt.claim

section Aside

variable {ps : List Part} {i j : Slot} {s t u : State}

theorem Aside.refl (i : Slot) (s : State) : Aside i s s := ⟨rfl, rfl, rfl, fun _ => rfl, fun _ _ => ⟨rfl, rfl⟩⟩

theorem Aside.trans (h : Aside i s t) (g : Aside i t u) : Aside i s u where
  msel := g.msel.trans h.msel
  ctl := g.ctl.trans h.ctl
  link := g.link.trans h.link
  egr he := (g.egr (by rw [h.egr he]; exact he)).trans (h.egr he)
  quiet hi hp := by
    obtain ⟨hreplies, hclaim⟩ := h.quiet hi hp
    obtain ⟨greplies, gclaim⟩ := g.quiet (hi.trans (mgmtSlot_of_msel h.msel).symm) (by rwa [h.ctl])
    exact ⟨greplies.trans hreplies, gclaim.trans hclaim⟩

theorem aside_ite {p : Prop} [Decidable p] (ht : Aside i s t) (hu : Aside i s u) : Aside i s (if p then t else u) := by
  split
  · exact ht
  · exact hu

/-- An effect on another slot that leaves the management unit alone. -/
theorem Touches.aside (h : Touches ps j s t) (hij : i ≠ j) (hm : Part.mgmt ∉ ps := by decide) : Aside i s t := by
  have hslot := h.others i hij
  have hmgmt := h.mgmt hm
  exact ⟨by rw [hmgmt], by rw [hslot], by rw [hslot], fun _ => by rw [hslot], fun _ _ => by rw [hmgmt]; exact ⟨rfl, rfl⟩⟩

/-- An effect on no slot and not on the management unit. -/
theorem aside_of_keeps (h : KeepsBut ps s t) (hm : Part.mgmt ∉ ps := by decide) (hc : Part.ctl ∉ ps := by decide)
    (hp : Part.port ∉ ps := by decide) (he : Part.egr ∉ ps := by decide) : Aside i s t :=
  ⟨by rw [h.mgmt hm], h.ctl hc i, by rw [h.port hp], fun _ => h.egr he i, fun _ _ => by rw [h.mgmt hm]; exact ⟨rfl, rfl⟩⟩

end Aside

/-! ## Reports while the management slot is not ADMITTED (R163) -/

section Reports

variable {i : Slot} {c : Fin 64} {n : Nat} {w : Word} {s : State}

theorem offerAlarmParcel_out (e : AlarmEntry) (h : (s.slot s.mgmtSlot).ctl.phase ≠ .admitted) :
    (offerAlarmParcel e s).mgmt = s.mgmt := by
  have hawake : s.isAwake s.mgmtSlot = false := by
    unfold State.isAwake
    simp [h]
  unfold offerAlarmParcel
  rw [hawake]
  simp

theorem writeEntry_out (e : AlarmEntry) (h : (s.slot s.mgmtSlot).ctl.phase ≠ .admitted) :
    (writeEntry e s).mgmt = s.mgmt := offerAlarmParcel_out e h

theorem mgmtSlot_phase_of {t : State} (hm : t.mgmt.msel = s.mgmt.msel)
    (hc : ∀ j, (t.slot j).ctl.phase = (s.slot j).ctl.phase) (h : (s.slot s.mgmtSlot).ctl.phase ≠ .admitted) :
    (t.slot t.mgmtSlot).ctl.phase ≠ .admitted := by
  rwa [mgmtSlot_of_msel hm, hc]

theorem postEntry_out (a : AlarmAction) (k : Nat) (h : (s.slot s.mgmtSlot).ctl.phase ≠ .admitted) :
    (postEntry c n a k w s).mgmt = s.mgmt := by
  have hfirst := writeEntry_out (makeEntry c n a k w s) h
  have hphase := mgmtSlot_phase_of (t := writeEntry (makeEntry c n a k w s) s) (by simp) (by simp) h
  unfold postEntry judgeWrap
  split
  · simp only [trackPosted, modAlarm_fields]
    rw [writeEntry_out _ hphase, hfirst]
  · exact hfirst

theorem judgeRelays_mgmt (s : State) : (judgeRelays s).mgmt = s.mgmt := by simp

theorem clearCond_out (h : (s.slot s.mgmtSlot).ctl.phase ≠ .admitted) : (clearCond c n w s).mgmt = s.mgmt := by
  unfold clearCond
  dsimp only
  split
  · rw [judgeRelays_mgmt]
    split
    · exact postEntry_out _ _ h
    · rfl
  · rfl

theorem raiseCond_out (h : (s.slot s.mgmtSlot).ctl.phase ≠ .admitted) : (raiseCond c n w s).mgmt = s.mgmt := by
  unfold raiseCond
  dsimp only
  split
  · rfl
  · rw [judgeRelays_mgmt]
    split
    · exact postEntry_out _ _ h
    · rfl

/-- A report sets every slot aside. -/
theorem aside_of_report {t : State} (h : KeepsBut [.alarm, .mgmt] s t) (hmsel : t.mgmt.msel = s.mgmt.msel)
    (hout : (s.slot s.mgmtSlot).ctl.phase ≠ .admitted → t.mgmt = s.mgmt) : Aside i s t :=
  ⟨hmsel, h.ctl (by decide) i, by rw [h.port], fun _ => h.egr (by decide) i, fun hi hp => by
    rw [hout (hi ▸ hp)]
    exact ⟨rfl, rfl⟩⟩

theorem clearCond_aside : Aside i s (clearCond c n w s) :=
  aside_of_report (clearCond_keepsBut ..) (by simp) clearCond_out

theorem raiseCond_aside : Aside i s (raiseCond c n w s) :=
  aside_of_report (raiseCond_keepsBut ..) (by simp) raiseCond_out

theorem poolJudge_aside : Aside i s (poolJudge s) := by
  unfold poolJudge
  split
  · exact aside_ite clearCond_aside (.refl i s)
  · exact aside_ite raiseCond_aside (.refl i s)

theorem releaseHold_aside (pid : Nat) : Aside i s (releaseHold pid s) := by
  unfold releaseHold
  split
  · exact .refl i s
  · exact aside_ite ((aside_of_keeps (modPool_touches i s _).keeps).trans poolJudge_aside)
      (aside_of_keeps (modStored_touches i s pid _).keeps)

end Reports

/-! ## The end of a reception, and a link that leaves UP -/

section Ends

variable {i j : Slot} {s : State}

/-- A change of an egress concerns no other slot, and of its own slot the egress alone. -/
theorem modEgr_aside (h : i = j → (s.slot i).egr.stream ≠ []) (f : Egress → Egress) : Aside i s (s.modEgr j f) := by
  by_cases hij : i = j
  · exact ⟨by simp, by simp, by simp, fun hempty => absurd hempty (h hij), fun _ _ => by simp⟩
  · exact (modEgr_touches j s f).aside hij

theorem removeRef_aside (h : i = j → (s.slot i).egr.stream ≠ []) (c : Cls) (pid : Nat) :
    Aside i s (removeRef j c pid s) := (modEgr_aside h _).trans (releaseHold_aside pid)

/-- The failure of an open parcel does not concern a slot with no STREAM parcel. -/
theorem failAt_aside (pid : Nat) (j : Slot) (s : State) : Aside i s (failAt pid j s) := by
  unfold failAt
  dsimp only
  split
  · next hholds =>
    have hsome : i = j → (s.slot i).egr.stream ≠ [] := by
      rintro rfl hempty
      rw [hempty] at hholds
      exact Bool.noConfusion hholds
    exact aside_ite (modEgr_aside hsome _) (removeRef_aside hsome ..)
  · exact .refl i s

theorem foldl_aside {β : Type} {f : State → β → State} (hf : ∀ b t, Aside i t (f t b)) (l : List β) (s : State) :
    Aside i s (l.foldl f s) := by
  induction l generalizing s with
  | nil => exact .refl i s
  | cons b l ih => exact (hf b s).trans (ih _)

theorem handOver_aside (hd : Option LogHandle) (h : HandOver) : Aside i s (handOver hd h s) :=
  aside_of_keeps (handOver_touches 0 s hd h).keeps

theorem passedFail_aborted_aside (r : Reception) (pid : Nat) (isOpen : Bool) :
    Aside i s (passedFail j r pid isOpen false s) := by
  have hopen : Aside i s (if isOpen then s.eachSlot (failAt pid) else s) :=
    aside_ite (foldl_aside (fun k t => failAt_aside pid k t) allSlots s) (.refl i s)
  exact (hopen.trans (releaseHold_aside pid)).trans (handOver_aside ..)

theorem modMgmt_store_aside (s : State) : Aside i s (s.modMgmt (fun m => { m with store := [] })) :=
  ⟨by simp, by simp, by simp, fun _ => by simp, fun _ _ => by simp⟩

theorem parcelEnd_aborted_aside (hij : i ≠ j) : Aside i s (parcelEnd j .aborted s) := by
  have hclose := (closeReception_touches j s).aside hij
  unfold parcelEnd
  split
  · exact .refl i s
  · dsimp only
    split
    · exact hclose.trans (modMgmt_store_aside _)
    · exact hclose.trans ((modIng_touches j _ _).aside hij)
    · exact hclose
    · exact hclose
    · exact hclose.trans ((parkEnd_aborted_touches j _ _).aside hij)
    · exact hclose.trans (passedFail_aborted_aside ..)

theorem abandonTx_aside (hij : i ≠ j) : Aside i s (abandonTx j s) := by
  have hidle := (modEgr_touches j s (fun e => { e with tx := .idle })).aside hij
  unfold abandonTx
  dsimp only
  split
  · exact hidle
  · split
    · exact aside_ite (hidle.trans (removeRef_aside (fun h => absurd h hij) ..)) hidle
    · exact hidle

theorem modPort_aside (hij : i ≠ j) (f : Port → Port) (s : State) : Aside i s (s.modPort j f) :=
  (modPort_touches j s f).aside hij

theorem setLink_aside (hij : i ≠ j) (dst : LinkState) : Aside i s (setLink j dst s) := by
  have habort (u : State) : Aside i u (abortReception j u) := (parcelEnd_aborted_aside hij).trans (modPort_aside hij ..)
  rw [setLink_eq]
  exact aside_ite ((modPort_aside hij _ s).trans
    ((((habort _).trans (abandonTx_aside hij)).trans (modPort_aside hij ..)).trans clearCond_aside)) (modPort_aside hij ..)

theorem powerOffLines_aside (hij : i ≠ j) : Aside i s (powerOffLines j s) :=
  ((modCtl_touches j s _).aside hij).trans clearCond_aside

end Ends

/-! ## Resolution and the entry to QUIESCED -/

section Quiesced

variable {i j : Slot} {s : State}

theorem modIng_aside (k : Slot) (f : Ingress → Ingress) (s : State) : Aside i s (s.modIng k f) :=
  ⟨by simp, by simp, by simp, fun _ => by simp, fun _ _ => by simp⟩

theorem modPort_holdReq_aside (k : Slot) (b : Bool) (s : State) :
    Aside i s (s.modPort k (fun p => { p with holdReq := b })) := by
  by_cases hik : i = k
  · subst hik
    exact ⟨by simp, by simp, by rw [modPort_port_self], fun _ => by simp, fun _ _ => by simp⟩
  · exact modPort_aside hik ..

theorem waitEnd_aside (k : Slot) (w : Waiting) (s : State) : Aside i s (waitEnd k w s) :=
  ((modIng_aside k _ s).trans (modPort_holdReq_aside k false _)).trans
    ((releaseHold_aside _).trans (handOver_aside ..))

theorem putWaiting_aside (k : Slot) (w : Waiting) (s : State) : Aside i s (putWaiting k w s) :=
  aside_ite (waitEnd_aside ..) (modIng_aside ..)

theorem reresolveIn_aside (d k : Slot) (s : State) : Aside i s (reresolveIn d k s) := by
  unfold reresolveIn
  split
  · exact .refl i s
  · split
    · split
      · exact .refl i s
      · exact putWaiting_aside ..
      · exact putWaiting_aside ..
    · exact .refl i s

theorem setPhase_aside (hij : i ≠ j) (ph : Phase) : Aside i s (setPhase j ph s) :=
  ((modCtl_touches j s (Ctl.entering ph)).aside hij).trans
    (foldl_aside (fun k t => reresolveIn_aside j k t) allSlots _)

theorem emptyMgmt_aside (hij : i ≠ j) : Aside i s (emptyMgmt j s) := by
  unfold emptyMgmt
  split
  · next hj => exact ⟨by simp, by simp, by simp, fun _ => by simp, fun hi => absurd (hi.trans hj.symm) hij⟩
  · exact .refl i s

theorem emptySwitchQueues_aside (hij : i ≠ j) : Aside i s (emptySwitchQueues j s) := by
  have hmod := (modEgr_touches j s (fun e => { e with express := [] })).aside hij
  unfold emptySwitchQueues
  dsimp only
  split
  · next hj =>
    refine hmod.trans ⟨by simp, by simp, by simp, fun _ => by simp, fun hi => absurd (hi.trans hj.symm) hij⟩
  · exact hmod

theorem quiesce_aside (hij : i ≠ j) : Aside i s (quiesce j s) := by
  have hoff : Aside i s (if (s.slot j).cfg.autoPowerOff then powerOffLines j s else s) :=
    aside_ite (powerOffLines_aside hij) (.refl i s)
  exact (hoff.trans (setLink_aside hij .down)).trans
    (((setPhase_aside hij .quiesced).trans (emptySwitchQueues_aside hij)).trans (emptyMgmt_aside hij))

theorem setLink_ctl (dst : LinkState) (k : Slot) : ((setLink j dst s).slot k).ctl = (s.slot k).ctl :=
  (setLink_keepsBut j s dst).ctl (by decide) k

/-- Where a slot is QUIESCED at the end of its egress. -/
theorem quiesce_ctl : ((quiesce j s).slot j).ctl =
    (if (s.slot j).cfg.autoPowerOff then (s.slot j).ctl.poweredOff else (s.slot j).ctl).entering .quiesced := by
  unfold quiesce
  dsimp only
  rw [enterOut_ctl, setLink_ctl]
  split
  · rw [powerOffLines_ctl]
  · rfl

theorem quiesce_link : ((quiesce j s).slot j).port.link = .down := by
  unfold quiesce
  dsimp only
  rw [enterOut_holdsOnly j .quiesced _ j]
  exact setLink_link

end Quiesced

end Sys2Proof.Machine
end

section
/-! PROOFS. Obligation O46: the drain timer and the wake timer (R45, R46, R50, R135, R138). -/

namespace Sys2Proof.Machine

/-! ## The egress-empty reports reach every empty DRAINING slot (R46, R138) -/

section Rounds

variable {i j : Slot} {n : Nat} {s : State}

theorem drained_some (h : s.drained = some j) : (s.slot j).ctl.phase = .draining ∧ s.egressEmpty j = true := by
  have hfound := List.find?_some h
  rw [Bool.and_eq_true, beq_iff_eq] at hfound
  exact hfound

theorem drained_isSome (hphase : (s.slot i).ctl.phase = .draining) (hempty : s.egressEmpty i = true) :
    ∃ j, s.drained = some j := by
  rw [← Option.isSome_iff_exists]
  unfold State.drained
  rw [List.find?_isSome]
  exact ⟨i, mem_allSlots_all i, by rw [hphase, hempty]; rfl⟩

/-- A slot that is not DRAINING is set aside by the reports. -/
theorem settleRounds_aside (h : (s.slot i).ctl.phase ≠ .draining) : Aside i s (settleRounds n s) := by
  induction n generalizing s with
  | zero => exact .refl i s
  | succ n ih =>
    unfold settleRounds
    split
    · exact .refl i s
    · next j hj =>
      have hij : i ≠ j := fun hij => h (hij ▸ (drained_some hj).1)
      have hquiet : Aside i s (quiesce j s) := quiesce_aside hij
      exact hquiet.trans (ih (by rwa [hquiet.ctl]))

/-- The slots that are DRAINING. -/
def drainingSlots (s : State) : Finset Slot := Finset.univ.filter (fun j => (s.slot j).ctl.phase = .draining)

theorem drainingSlots_quiesce (h : (s.slot j).ctl.phase = .draining) :
    (drainingSlots (quiesce j s)).card + 1 ≤ (drainingSlots s).card := by
  have hmem : j ∈ drainingSlots s := Finset.mem_filter.mpr ⟨Finset.mem_univ j, h⟩
  have hsub : drainingSlots (quiesce j s) ⊆ (drainingSlots s).erase j := by
    intro k hk
    have hphase := (Finset.mem_filter.mp hk).2
    have hkj : k ≠ j := by
      rintro rfl
      rw [quiesce_ctl] at hphase
      exact Phase.noConfusion hphase
    rw [(quiesce_aside hkj).ctl] at hphase
    exact Finset.mem_erase.mpr ⟨hkj, Finset.mem_filter.mpr ⟨Finset.mem_univ k, hphase⟩⟩
  have hcard := Finset.card_le_card hsub
  rw [Finset.card_erase_of_mem hmem] at hcard
  have hpos := Finset.card_pos.mpr ⟨j, hmem⟩
  omega

theorem Aside.egressEmpty {t : State} (h : Aside i s t) (hphase : (s.slot i).ctl.phase ≠ .admitted)
    (hempty : s.egressEmpty i = true) : t.egressEmpty i = true := by
  rw [egressEmpty_iff] at hempty ⊢
  obtain ⟨hbare, hreplies⟩ := hempty
  refine ⟨by rwa [h.egr hbare.2.1], fun hi => ?_⟩
  have hi' : i = s.mgmtSlot := hi.trans (mgmtSlot_of_msel h.msel)
  obtain ⟨hr, hc⟩ := h.quiet hi' hphase
  rw [hr, hc]
  exact hreplies hi'

/-- A DRAINING slot with an empty egress has its turn, and what comes after sets it aside. -/
theorem settleRounds_reaches (hphase : (s.slot i).ctl.phase = .draining) (hempty : s.egressEmpty i = true)
    (hn : (drainingSlots s).card ≤ n) :
    ∃ u, Aside i s u ∧ Aside i (quiesce i u) (settleRounds n s) := by
  induction n generalizing s with
  | zero =>
    have hpos := Finset.card_pos.mpr ⟨i, show i ∈ drainingSlots s from
      Finset.mem_filter.mpr ⟨Finset.mem_univ i, hphase⟩⟩
    omega
  | succ n ih =>
    obtain ⟨j, hj⟩ := drained_isSome hphase hempty
    have hround : settleRounds (n + 1) s = settleRounds n (quiesce j s) := by
      rw [settleRounds, hj]
    rw [hround]
    by_cases hij : i = j
    · subst hij
      exact ⟨s, .refl i s, settleRounds_aside (by rw [quiesce_ctl]; exact Phase.noConfusion)⟩
    · have hquiet : Aside i s (quiesce j s) := quiesce_aside hij
      have hcount := drainingSlots_quiesce (drained_some hj).1
      obtain ⟨u, hu, hrest⟩ := ih (by rw [hquiet.ctl, hphase])
        (hquiet.egressEmpty (by rw [hphase]; exact Phase.noConfusion) hempty) (by omega)
      exact ⟨u, hquiet.trans hu, hrest⟩

/-! ## What a quiesced slot is left with -/

theorem parcelEnd_aborted_egr (h : (s.slot i).egr.stream = []) :
    ((parcelEnd i .aborted s).slot i).egr = (s.slot i).egr := by
  have hclose := closeReception_touches i s
  have hkept : ((closeReception i s).slot i).egr = (s.slot i).egr := hclose.egr (by decide) i
  unfold parcelEnd
  split
  · rfl
  · dsimp only
    split
    · simp
    · simp
    · exact hkept
    · exact hkept
    · exact ((parkEnd_aborted_touches i _ _).egr (by decide) i).trans hkept
    · exact ((passedFail_aborted_aside _ _ _).egr (by rw [← h]; exact congrArg Egress.stream hkept)).trans hkept

theorem setLink_egr_of_bare (dst : LinkState) (h : (s.slot i).egr.bare) :
    ((setLink i dst s).slot i).egr = (s.slot i).egr := by
  obtain ⟨htx, hstream, -⟩ := h
  have hport := modPort_touches i s (·.withLink dst)
  rw [setLink_eq]
  split
  · have habort : ((abortReception i (s.modPort i (·.withLink dst))).slot i).egr = (s.slot i).egr := by
      unfold abortReception
      rw [(modPort_touches i ..).egr, parcelEnd_aborted_egr (by rw [hport.egr, hstream]), hport.egr]
    unfold unframe
    rw [(clearCond_touches i ..).egr, (modPort_touches i ..).egr, abandonTx_idle (by rw [habort, htx]), habort]
  · exact hport.egr (by decide) i

theorem quiesce_egr (h : (s.slot i).egr.bare) : ((quiesce i s).slot i).egr = (s.slot i).egr := by
  have hoff : ((if (s.slot i).cfg.autoPowerOff then powerOffLines i s else s).slot i).egr = (s.slot i).egr := by
    split
    · exact (powerOffLines_touches i s).egr (by decide) i
    · rfl
  unfold quiesce
  dsimp only
  rw [enterOut_egr, setLink_egr_of_bare _ (by rwa [hoff]), hoff]
  obtain ⟨-, -, -, -, hexpress⟩ := h
  cases he : (s.slot i).egr
  simp_all

/-- A DRAINING slot with an empty egress is QUIESCED in the same event. -/
theorem settleDrains_quiesces (hphase : (s.slot i).ctl.phase = .draining) (hempty : s.egressEmpty i = true) :
    ((settleDrains s).slot i).ctl.phase = .quiesced ∧ ((settleDrains s).slot i).port.link = .down ∧
    ((settleDrains s).slot i).egr.bare := by
  have hcard : (drainingSlots s).card ≤ 16 := (Finset.card_le_univ _).trans (Fintype.card_fin 16).le
  obtain ⟨u, hu, hrest⟩ := settleRounds_reaches hphase hempty hcard
  have hbare : (u.slot i).egr.bare := by
    have hbefore := (egressEmpty_iff.mp hempty).1
    rwa [hu.egr hbefore.2.1]
  have hquiet := quiesce_egr hbare
  refine ⟨?_, ?_, ?_⟩
  · rw [settleDrains, hrest.ctl, quiesce_ctl]
    rfl
  · rw [settleDrains, hrest.link, quiesce_link]
  · rw [settleDrains, hrest.egr (by rw [hquiet]; exact hbare.2.1), hquiet]
    exact hbare

end Rounds

/-! ## The drop of what waits (R45) -/

section Drop

variable {i : Slot} {s : State}

/-- An egress that keeps what is in transmission alone. -/
def Egress.dropped (e : Egress) : Egress :=
  { e with
    tx := e.tx.withdraw, stream := e.stream.filter e.tx.withdraw.started,
    control := e.control.filter e.tx.withdraw.started, bulk := e.bulk.filter e.tx.withdraw.started,
    express := keepHead (e.tx.withdraw.holdsHead .express) e.express }

/-- The drop, up to the reply queue: what waits leaves the egress, and its holds are released. -/
def dropParcels (i : Slot) (s : State) : State :=
  let s0 := s.modEgr i (fun e => { e with tx := e.tx.withdraw })
  let e := (s0.slot i).egr
  let gone (q : List Nat) : List Nat := q.filter (fun v => !e.tx.started v)
  let s1 := s0.modEgr i (fun e =>
    { e with
      stream := e.stream.filter e.tx.started, control := e.control.filter e.tx.started,
      bulk := e.bulk.filter e.tx.started, express := keepHead (e.tx.holdsHead .express) e.express })
  (gone e.stream ++ gone e.control ++ gone e.bulk).foldl (fun t pid => releaseHold pid t) s1

/-- The end of the drop: on the management slot the replies that wait go too. -/
def dropReplies (i : Slot) (s : State) : State :=
  if i = s.mgmtSlot then
    s.modMgmt (fun m => { m with replies := keepHead ((s.slot i).egr.tx.holdsHead .reply) m.replies })
  else s

theorem dropWaiting_eq (i : Slot) (s : State) : dropWaiting i s = dropReplies i (dropParcels i s) := rfl

theorem dropParcels_touches (i : Slot) (s : State) : Touches [.egr, .pool, .alarm, .mgmt] i s (dropParcels i s) :=
  ((modEgr_touches i s _).then (modEgr_touches i _ _) (rs := [.egr])).then (releaseAll_touches i _ _)

theorem dropParcels_egr : ((dropParcels i s).slot i).egr = (s.slot i).egr.dropped := by
  unfold dropParcels
  dsimp only
  rw [(releaseAll_touches i ..).egr, modEgr_egr_self, modEgr_egr_self]
  rfl

theorem dropReplies_shuts (i : Slot) (s : State) : Shuts [.mgmt] i s (dropReplies i s) := by
  unfold dropReplies
  split
  · next hi => exact modMgmt_shuts _ hi rfl
  · exact .refl ..

theorem dropReplies_slot (j : Slot) : (dropReplies i s).slot j = s.slot j := by
  unfold dropReplies
  split <;> simp

theorem dropReplies_claim : (dropReplies i s).mgmt.claim = s.mgmt.claim := by
  unfold dropReplies
  split <;> simp

theorem dropReplies_empty (hi : i = s.mgmtSlot) (htx : (s.slot i).egr.tx = .idle) :
    (dropReplies i s).mgmt.replies = [] := by
  unfold dropReplies
  rw [if_pos hi, htx]
  simp [keepHead, Tx.holdsHead]

theorem dropWaiting_egr : ((dropWaiting i s).slot i).egr = (s.slot i).egr.dropped := by
  rw [dropWaiting_eq, dropReplies_slot, dropParcels_egr]

theorem dropWaiting_shuts (i : Slot) (s : State) : Shuts [.egr, .pool, .alarm, .mgmt] i s (dropWaiting i s) :=
  (dropParcels_touches i s).shuts.then (dropReplies_shuts i _)

theorem dropped_bare {e : Egress} (h : e.tx.withdraw = .idle) : e.dropped.bare := by
  unfold Egress.dropped
  rw [h]
  simp [Egress.bare, Tx.started, Tx.main, Tx.holdsHead, keepHead]

theorem dropWaiting_empties (hclaim : s.mgmt.claim = false) (h : (s.slot i).egr.tx.withdraw = .idle) :
    (dropWaiting i s).egressEmpty i = true := by
  have hdrop := dropParcels_touches i s
  rw [egressEmpty_iff, dropWaiting_egr]
  refine ⟨dropped_bare h, fun hi => ?_⟩
  rw [dropWaiting_eq] at hi ⊢
  have hi' : i = (dropParcels i s).mgmtSlot := hi.trans (mgmtSlot_of_msel (dropReplies_shuts i _).msel)
  refine ⟨dropReplies_empty hi' ?_, ?_⟩
  · rw [dropParcels_egr]
    exact h
  · obtain ⟨l, hmgmt⟩ := hdrop.grow
    rw [dropReplies_claim, hmgmt, hclaim]

theorem withdraw_sending {q : TxParcel} (h : q.notLeft = false) : (Tx.sending q).withdraw = .sending q := by
  have hleft : ¬q.notLeft = true := by
    rw [h]
    decide
  exact if_neg hleft

end Drop

/-! ## Obligation O46 -/

section Timers

variable {i : Slot} {u : Uptime} {s : State}

theorem drainTimer_expires (hphase : (s.slot i).ctl.phase = .draining) (hclaim : s.mgmt.claim = false)
    (htimer : (s.slot i).ctl.timer = some { kind := .drain, start := u })
    (hdue : (s.slot i).cfg.drainTime ≤ (s.timing.uptime - u).toNat) :
    ∃ t, exec (.drainTimerExpiry i) s = .next t ∧
      ((s.slot i).egr.tx.withdraw = .idle → (t.slot i).ctl.phase = .quiesced ∧ (t.slot i).port.link = .down ∧
        (t.slot i).egr.stream = [] ∧ (t.slot i).egr.control = [] ∧ (t.slot i).egr.bulk = [] ∧
        (t.slot i).egr.express = []) ∧
      (∀ q, s.settled → (s.slot i).egr.tx = .sending q → q.notLeft = false →
        (t.slot i).ctl = { (s.slot i).ctl with timer := none } ∧ (t.slot i).egr.tx = .sending q ∧
        (t.slot i).egr.stream = (s.slot i).egr.stream.filter ((s.slot i).egr.tx.started ·) ∧
        (t.slot i).egr.control = (s.slot i).egr.control.filter ((s.slot i).egr.tx.started ·) ∧
        (t.slot i).egr.bulk = (s.slot i).egr.bulk.filter ((s.slot i).egr.tx.started ·) ∧
        (t.slot i).egr.express = (if q.attached = true ∧ q.origin = .express
          then (s.slot i).egr.express.take 1 else []) ∧
        KeepsBut [.ctl, .egr, .pool, .alarm, .mgmt] s t ∧ OtherSlots i s t) := by
  obtain ⟨v, hv⟩ : ∃ v, v = s.modCtl i (fun c => { c with timer := none }) := ⟨_, rfl⟩
  have hset : Touches [.ctl] i s v := hv ▸ modCtl_touches ..
  have hctl : (v.slot i).ctl = { (s.slot i).ctl with timer := none } := by rw [hv, modCtl_ctl_self]
  have hexec : exec (.drainTimerExpiry i) s = .next (settleDrains (dropWaiting i v)) := by
    rw [hv]
    exact congrArg Host.Outcome.next (if_pos ⟨hphase, timerDue_of htimer hdue⟩)
  have hdrop := dropWaiting_shuts i v
  have hegr : ((dropWaiting i v).slot i).egr = (s.slot i).egr.dropped := by rw [dropWaiting_egr, hset.egr]
  refine ⟨_, hexec, fun hidle => ?_, fun q hs htx hleft => ?_⟩
  · obtain ⟨hquiesced, hlink, -, hstream, hcontrol, hbulk, hexpress⟩ := settleDrains_quiesces (s := dropWaiting i v)
      (by rw [hdrop.keeps.ctl, hctl]; exact hphase)
      (dropWaiting_empties (by rw [hset.mgmt, hclaim]) (by rw [hset.egr, hidle]))
    exact ⟨hquiesced, hlink, hstream, hcontrol, hbulk, hexpress⟩
  · have hwithdraw : (s.slot i).egr.tx.withdraw = .sending q := by rw [htx, withdraw_sending hleft]
    have hall := hset.shuts.then hdrop (rs := [.ctl, .egr, .pool, .alarm, .mgmt])
    have hnonempty : ¬((dropWaiting i v).slot i).egr.bare := by
      rintro ⟨htx', -⟩
      rw [hegr] at htx'
      exact Tx.noConfusion (hwithdraw.symm.trans htx')
    rw [hall.settles_nonempty hs hnonempty, hegr, hdrop.keeps.ctl, hctl, htx, ← hwithdraw]
    refine ⟨rfl, rfl, rfl, rfl, rfl, ?_, hall.keeps, fun j hj => ?_⟩
    · show keepHead ((s.slot i).egr.tx.withdraw.holdsHead .express) (s.slot i).egr.express = _
      rw [hwithdraw]
      simp [keepHead, Tx.holdsHead]
    · rw [dropWaiting_eq, dropReplies_slot, (dropParcels_touches i v).others j hj, hset.others j hj]

theorem wakeTimer_retrains (hnone : NoneWaits s) (hs : s.settled) (hphase : (s.slot i).ctl.phase = .admitted)
    (hidle : (s.slot i).cursor.state = .idle) (hrec : (s.slot i).ing.reception = none)
    (htx : (s.slot i).egr.tx = .idle) (htimer : (s.slot i).ctl.timer = some { kind := .wake, start := u })
    (hdue : (s.slot i).cfg.wakeTime ≤ (s.timing.uptime - u).toNat) :
    ∃ t, exec (.wakeTimerExpiry i) s = .next t ∧
      (t.slot i).ctl = { (s.slot i).ctl with
        phase := .training, sub := .awake, restReq := false, timer := none, reason := none,
        train := { attempt := 1, exchange := 0, step := .request, samples := [] } } ∧
      (t.slot i).port.link = .training ∧ (t.slot i).port.trainReq = some 0 ∧ (t.slot i).egr = (s.slot i).egr ∧
      KeepsBut [.ctl, .port, .alarm, .mgmt] s t ∧ OnlyReplies s t ∧ OtherSlots i s t := by
  have hlink := setLink_calm (dst := .training) hrec htx
  have htrains := enterTraining_trains hnone hidle hlink
  have hall : Touches [.ctl, .port, .alarm, .mgmt] i s (enterTraining i s) := hlink.then htrains.touches
  have hctl : ((enterTraining i s).slot i).ctl = { (s.slot i).ctl with
      phase := .training, sub := .awake, restReq := false, timer := none, reason := none,
      train := { attempt := 1, exchange := 0, step := .request, samples := [] } } := by
    rw [htrains.ctl, hlink.ctl]
    rfl
  have hexec : exec (.wakeTimerExpiry i) s = .next (enterTraining i s) := by
    rw [← hall.settles hs (by rw [hctl]; exact Phase.noConfusion)]
    exact congrArg Host.Outcome.next (if_pos ⟨hphase, timerDue_of htimer hdue⟩)
  refine ⟨_, hexec, hctl, ?_, ?_, hall.egr (by decide) i, hall.keeps, hall.replies, hall.others⟩
  · rw [htrains.port]
    exact setLink_link
  · rw [htrains.port]

end Timers

/-- Settles O46, by the drop of what waits and by the training that a lost wake begins. -/
theorem drainAndWakeTimersExpire : Obligations.DrainAndWakeTimersExpire :=
  ⟨fun _ _ _ hphase hclaim htimer hdue => drainTimer_expires hphase hclaim htimer hdue,
    fun _ _ _ hnone hs hphase hidle hrec htx htimer hdue =>
      wakeTimer_retrains hnone hs hphase hidle hrec htx htimer hdue⟩

end Sys2Proof.Machine
end

section
/-! PROOFS. Obligation O28: training goes on, ends in an admission, a gap or a fault (R131 to R133, R141). -/

namespace Sys2Proof.Machine

/-! ## Exchanges and gaps (R131, R132) -/

section Exchanges

variable {i : Slot} {s : State}

/-- An exchange asked for leaves the slot in TRAINING, so there is nothing to settle. -/
theorem askTrain_settles {u : State} {x : Training} (hset : Touches [.ctl] i s u) (hs : s.settled)
    (hphase : (u.slot i).ctl.phase = .training) : settleDrains (askTrain i x u) = askTrain i x u := by
  refine (hset.then (askTrain_touches i x u) (rs := [.ctl, .port])).settles hs ?_
  rw [askTrain_ctl, hphase]
  exact Phase.noConfusion

theorem nextExchange_asks (h : (s.slot i).ctl.train.exchange < 7) : nextExchange i s =
    askTrain i { (s.slot i).ctl.train with exchange := (s.slot i).ctl.train.exchange + 1 } s := by
  unfold nextExchange
  exact if_pos h

theorem nextExchange_ends (h : (s.slot i).ctl.train.exchange = 7) : nextExchange i s = attemptEnd i s := by
  unfold nextExchange
  exact if_neg (by omega)

theorem trainEcho_answers {turn : BitVec 16} {dep : CabTime} {since : Nat}
    (hlink : (s.slot i).port.link = .training) (hphase : (s.slot i).ctl.phase = .training) (hs : s.settled)
    (hstep : (s.slot i).ctl.train.step = .wait dep since false) (hwait : s.timing.core - since ≤ 12500)
    (hexchange : (s.slot i).ctl.train.exchange < 7) (htrip : (turn.toNat : Int) ≤ roundTrip s.timing.time dep) :
    ∃ t, exec (.trainEcho i (BitVec.ofNat 3 (s.slot i).ctl.train.exchange) turn) s = .next t ∧
      (t.slot i).ctl.train =
        { (s.slot i).ctl.train with
          exchange := (s.slot i).ctl.train.exchange + 1, step := .request,
          samples := (s.slot i).ctl.train.samples ++ [(roundTrip s.timing.time dep - turn.toNat).toNat] } ∧
      (t.slot i).port = { (s.slot i).port with trainReq := some ((s.slot i).ctl.train.exchange + 1) } ∧
      KeepsBut [.port, .ctl] s t ∧ OtherSlots i s t := by
  obtain ⟨u, hu⟩ : ∃ u, u = addSample i (roundTrip s.timing.time dep - turn.toNat).toNat s := ⟨_, rfl⟩
  have hset : Touches [.ctl] i s u := hu ▸ modCtl_touches ..
  have hctl : (u.slot i).ctl = { (s.slot i).ctl with train := { (s.slot i).ctl.train with
      samples := (s.slot i).ctl.train.samples ++ [(roundTrip s.timing.time dep - turn.toNat).toNat] } } := by
    rw [hu, addSample, modCtl_ctl_self]
  have hnumber : (BitVec.ofNat 3 (s.slot i).ctl.train.exchange).toNat = (s.slot i).ctl.train.exchange := by
    rw [BitVec.toNat_ofNat]
    omega
  have hanswer : trainAnswer i (s.slot i).ctl.train.exchange turn.toNat s = nextExchange i u := by
    unfold trainAnswer
    simp only [hstep, hlink, hphase]
    rw [if_pos ⟨trivial, trivial, trivial, rfl, hwait⟩, hu]
    exact if_neg (Int.not_lt.mpr htrip)
  have hasks := nextExchange_asks (i := i) (s := u) (by rw [hctl]; exact hexchange)
  have hexec : exec (.trainEcho i (BitVec.ofNat 3 (s.slot i).ctl.train.exchange) turn) s = .next (askTrain i
      { (u.slot i).ctl.train with exchange := (u.slot i).ctl.train.exchange + 1 } u) := by
    show execTrainEcho i _ turn s = _
    unfold execTrainEcho
    rw [hnumber, hanswer, hasks, askTrain_settles hset hs (by rw [hctl]; exact hphase)]
  have hall := hset.then (askTrain_touches i
    { (u.slot i).ctl.train with exchange := (u.slot i).ctl.train.exchange + 1 } u) (rs := [.port, .ctl])
  refine ⟨_, hexec, ?_, ?_, hall.keeps, hall.others⟩
  · rw [askTrain_ctl, hctl]
  · rw [askTrain_port, hset.port, hctl]

theorem exchangeDue_of {dep : CabTime} {since : Nat} {void : Bool}
    (hstep : (s.slot i).ctl.train.step = .wait dep since void) (hdue : 12500 ≤ s.timing.core - since) :
    s.exchangeDue i = true := by
  unfold State.exchangeDue
  rw [hstep]
  exact decide_eq_true hdue

theorem exchangeWait_asks {dep : CabTime} {since : Nat} {void : Bool} (hphase : (s.slot i).ctl.phase = .training)
    (hs : s.settled) (hstep : (s.slot i).ctl.train.step = .wait dep since void)
    (hdue : 12500 ≤ s.timing.core - since) (hexchange : (s.slot i).ctl.train.exchange < 7) :
    ∃ t, exec (.exchangeWaitExpiry i) s = .next t ∧
      (t.slot i).ctl.train =
        { (s.slot i).ctl.train with exchange := (s.slot i).ctl.train.exchange + 1, step := .request } ∧
      (t.slot i).port = { (s.slot i).port with trainReq := some ((s.slot i).ctl.train.exchange + 1) } ∧
      KeepsBut [.port, .ctl] s t ∧ OtherSlots i s t := by
  have hexec : exec (.exchangeWaitExpiry i) s = .next (askTrain i
      { (s.slot i).ctl.train with exchange := (s.slot i).ctl.train.exchange + 1 } s) := by
    show execExchangeWaitExpiry i s = _
    unfold execExchangeWaitExpiry
    rw [if_pos ⟨hphase, exchangeDue_of hstep hdue⟩, nextExchange_asks hexchange,
      askTrain_settles (.refl [.ctl] i s) hs hphase]
  have hall := (askTrain_touches i
    { (s.slot i).ctl.train with exchange := (s.slot i).ctl.train.exchange + 1 } s).mono (rs := [.port, .ctl])
  refine ⟨_, hexec, ?_, askTrain_port _, hall.keeps, hall.others⟩
  rw [askTrain_ctl]

theorem trainingGap_asks {u : Uptime} (hphase : (s.slot i).ctl.phase = .training)
    (htimer : (s.slot i).ctl.timer = some { kind := .gap, start := u }) (hdue : 10 ≤ (s.timing.uptime - u).toNat) :
    ∃ t, exec (.trainingGapExpiry i) s = .next t ∧
      (t.slot i).ctl = { (s.slot i).ctl with
        timer := none,
        train := { attempt := (s.slot i).ctl.train.attempt + 1, exchange := 0, step := .request, samples := [] } } ∧
      (t.slot i).port = { (s.slot i).port with trainReq := some 0 } ∧
      KeepsBut [.port, .ctl] s t ∧ OtherSlots i s t := by
  have hset := modCtl_touches i s (fun c => { c with timer := none })
  have hall := hset.then (askTrain_touches i
    { attempt := (s.slot i).ctl.train.attempt + 1, exchange := 0, step := .request, samples := [] } _)
    (rs := [.port, .ctl])
  refine ⟨_, congrArg Host.Outcome.next (if_pos ⟨hphase, timerDue_of htimer hdue⟩), ?_, ?_, hall.keeps, hall.others⟩
  · rw [askTrain_ctl, modCtl_ctl_self]
  · rw [askTrain_port, hset.port]

end Exchanges

/-! ## The end of an attempt (R132, R133) -/

section Attempts

variable {i : Slot} {s : State}

theorem smallest_le : ∀ (l : List Nat) (x : Nat), x ∈ l → smallest l ≤ x
  | [], _, h => absurd h List.not_mem_nil
  | [y], x, h => by rw [List.mem_singleton.mp h]; exact Nat.le_refl _
  | y :: z :: r, x, h => by
    show Nat.min y (smallest (z :: r)) ≤ x
    rcases List.mem_cons.mp h with rfl | hrest
    · exact Nat.min_le_left ..
    · exact Nat.le_trans (Nat.min_le_right ..) (smallest_le (z :: r) x hrest)

theorem smallest_mem : ∀ l : List Nat, l ≠ [] → smallest l ∈ l
  | [], h => absurd rfl h
  | [_], _ => List.mem_singleton.mpr rfl
  | y :: z :: r, _ => by
    show Nat.min y (smallest (z :: r)) ∈ y :: z :: r
    rcases Nat.le_total y (smallest (z :: r)) with hle | hle
    · rw [show Nat.min y (smallest (z :: r)) = y from Nat.min_eq_left hle]
      exact List.mem_cons_self
    · rw [show Nat.min y (smallest (z :: r)) = smallest (z :: r) from Nat.min_eq_right hle]
      exact List.mem_cons_of_mem _ (smallest_mem (z :: r) (List.cons_ne_nil z r))

theorem smallest_eq {l : List Nat} {m : Nat} (hmem : m ∈ l) (hle : ∀ x, x ∈ l → m ≤ x) : smallest l = m :=
  Nat.le_antisymm (smallest_le l m hmem) (hle _ (smallest_mem l (List.ne_nil_of_mem hmem)))

theorem setDelay_touches (i : Slot) (d : Nat) (s : State) : Touches [.ctl, .edges] i s (setDelay i d s) :=
  touches_ite (.refl ..) ((modCtl_touches i s _).then (makeSchedules_touches ..))

theorem setDelay_ctl (d : Nat) : ((setDelay i d s).slot i).ctl = { (s.slot i).ctl with delay := d } := by
  unfold setDelay
  split
  next h => rw [← h]
  next => rw [(makeSchedules_touches ..).ctl, modCtl_ctl_self]

theorem autoStart_manual (h : (s.slot i).cfg.chainAuto = false) : autoStart i s = s := by
  unfold autoStart
  dsimp only
  rw [h]
  split
  · exact if_neg Bool.false_ne_true
  · rfl

/-- The state in which an admission is reported: the slot ADMITTED with its delay, its link UP. -/
def admitted (i : Slot) (d : Nat) (s : State) : State := setLink i .up (setPhase i .admitted (setDelay i d s))

theorem admitSlot_manual {d : Nat} (hauto : ((admitted i d s).slot i).cfg.chainAuto = false) :
    admitSlot i d s = postEvent causeSlotAdmitted i.val (wordOf d) (admitted i d s) := by
  have hreport := postEvent_touches i (admitted i d s) causeSlotAdmitted i.val (wordOf d)
  show autoStart i (postEvent causeSlotAdmitted i.val (wordOf d) (admitted i d s)) = _
  exact autoStart_manual (by rw [hreport.cfg, hauto])

/-- With nothing waiting and a link that frames no words, an admission changes the port, the controls and the
schedules of the slot. -/
theorem admitted_of_noneWaits {d : Nat} (hnone : NoneWaits s) (hlink : (s.slot i).port.link = .training) :
    Touches [.ctl, .edges, .port] i s (admitted i d s) ∧
    ((admitted i d s).slot i).ctl = { (s.slot i).ctl with
      phase := .admitted, sub := .awake, restReq := false, timer := none, train := Training.none, reason := none,
      delay := d } ∧
    ((admitted i d s).slot i).port = { (s.slot i).port with link := .up, trainReq := none } := by
  obtain ⟨u, hu⟩ : ∃ u, u = (setDelay i d s).modCtl i (Ctl.entering .admitted) := ⟨_, rfl⟩
  have hdelay := setDelay_touches i d s
  have hset : Touches [.ctl, .edges] i s u := hu ▸ hdelay.then (modCtl_touches ..)
  have hctl : (u.slot i).ctl = { (s.slot i).ctl with
      phase := .admitted, sub := .awake, restReq := false, timer := none, train := Training.none, reason := none,
      delay := d } := by
    rw [hu, modCtl_ctl_self, setDelay_ctl]
    rfl
  have heq : admitted i d s = u.modPort i (·.withLink .up) := by
    unfold admitted
    rw [setPhase_of_noneWaits (noneWaits_of_ing hnone hdelay.ing), ← hu]
    exact setLink_plain (by rw [hset.port, hlink]; rfl)
  have hport := modPort_touches i u (·.withLink .up)
  rw [heq]
  refine ⟨hset.then hport, by rw [hport.ctl, hctl], ?_⟩
  rw [modPort_port_self, hset.port]
  rfl

/-- The state in which the end of an attempt is judged. -/
def answersKept (i : Slot) (s : State) : State :=
  s.modCtl i (fun c => { c with lastAnswers := (s.slot i).ctl.train.samples.length })

theorem answersKept_touches (i : Slot) (s : State) : Touches [.ctl] i s (answersKept i s) := modCtl_touches ..

theorem answersKept_ctl : ((answersKept i s).slot i).ctl =
    { (s.slot i).ctl with lastAnswers := (s.slot i).ctl.train.samples.length } := modCtl_ctl_self ..

theorem attemptEnd_eq (i : Slot) (s : State) : attemptEnd i s =
    if 4 ≤ (s.slot i).ctl.train.samples.length then
      if 10000 < smallest (s.slot i).ctl.train.samples / 2
      then fault i .delayRange (setDelay i (smallest (s.slot i).ctl.train.samples / 2) (answersKept i s))
      else admitSlot i (smallest (s.slot i).ctl.train.samples / 2) (answersKept i s)
    else if (s.slot i).ctl.train.attempt < 3
    then startTimer i .gap
      ((answersKept i s).modCtl i (fun c => { c with train := { (s.slot i).ctl.train with step := .gap } }))
    else fault i .trainingFailed (answersKept i s) := rfl

/-- What the end of an attempt leaves, when it needs no settling, is what the expiry of the last wait leaves. -/
theorem lastWait_ends {dep : CabTime} {since : Nat} {void : Bool} (hphase : (s.slot i).ctl.phase = .training)
    (hstep : (s.slot i).ctl.train.step = .wait dep since void) (hdue : 12500 ≤ s.timing.core - since)
    (hexchange : (s.slot i).ctl.train.exchange = 7) :
    exec (.exchangeWaitExpiry i) s = .next (settleDrains (attemptEnd i s)) := by
  show execExchangeWaitExpiry i s = _
  unfold execExchangeWaitExpiry
  rw [if_pos ⟨hphase, exchangeDue_of hstep hdue⟩, nextExchange_ends hexchange]

theorem attemptEnd_admits {m : Nat} (hnone : NoneWaits s) (hs : s.settled)
    (hlink : (s.slot i).port.link = .training) (hmin : smallest (s.slot i).ctl.train.samples = m)
    (hfour : 4 ≤ (s.slot i).ctl.train.samples.length) (hrange : m / 2 ≤ 10000)
    (hauto : (s.slot i).cfg.chainAuto = false) :
    ∃ t, settleDrains (attemptEnd i s) = t ∧
      (t.slot i).ctl = { (s.slot i).ctl with
        phase := .admitted, sub := .awake, restReq := false, timer := none, train := Training.none, reason := none,
        delay := m / 2, lastAnswers := (s.slot i).ctl.train.samples.length } ∧
      (t.slot i).port = { (s.slot i).port with link := .up, trainReq := none } ∧
      t.alarm = (postEvent causeSlotAdmitted i.val (wordOf (m / 2)) s).alarm ∧
      KeepsBut [.port, .ctl, .edges, .alarm, .mgmt] s t ∧ OnlyReplies s t ∧ OtherSlots i s t := by
  have hkept := answersKept_touches i s
  obtain ⟨hset, hctl, hport⟩ := admitted_of_noneWaits (i := i) (d := m / 2) (noneWaits_of_ing hnone hkept.ing)
    (by rw [hkept.port, hlink])
  have hbefore := hkept.then hset (rs := [.port, .ctl, .edges])
  have hreport := postEvent_touches i (admitted i (m / 2) (answersKept i s)) causeSlotAdmitted i.val (wordOf (m / 2))
  have hall := hbefore.then hreport (rs := [.port, .ctl, .edges, .alarm, .mgmt])
  have hend : attemptEnd i s =
      postEvent causeSlotAdmitted i.val (wordOf (m / 2)) (admitted i (m / 2) (answersKept i s)) := by
    rw [attemptEnd_eq, hmin, if_pos hfour, if_neg (Nat.not_lt.mpr hrange)]
    exact admitSlot_manual (by rw [hbefore.cfg, hauto])
  rw [answersKept_ctl] at hctl
  rw [hkept.port] at hport
  rw [hend]
  refine ⟨_, hall.settles hs (by rw [hreport.ctl, hctl]; exact Phase.noConfusion), ?_, ?_, ?_, hall.keeps, hall.replies,
    hall.others⟩
  · rw [hreport.ctl, hctl]
  · rw [hreport.port, hport]
  · exact postEvent_alarm_congr ⟨hbefore.alarm, hbefore.watches, hbefore.timing⟩ ..

/-- A fault at the end of an attempt, judged in a state with other controls. -/
theorem attemptEnd_faults {r : FaultReason} {u : State} (hset : Touches [.ctl, .edges] i s u) (hs : s.settled)
    (hrec : (s.slot i).ing.reception = none) (hend : attemptEnd i s = fault i r u) :
    ∃ t, settleDrains (attemptEnd i s) = t ∧ (t.slot i).ctl.phase = .faulted ∧ (t.slot i).ctl.reason = some r ∧
      (t.slot i).ctl.pwrEn = false ∧ (t.slot i).port.link = .down ∧ t.isRaised causeSlotFault i.val = true := by
  obtain ⟨hdown, hraised⟩ := fault_down (s := u) r (by rw [hset.ing, hrec])
  have hall := hset.shuts.then hdown.shuts (rs := .edges :: downParts)
  rw [hend]
  refine ⟨_, hall.settles hs (by rw [hdown.ctl]; exact Phase.noConfusion), ?_, ?_, ?_, hdown.link, hraised⟩
  all_goals simp only [hdown.ctl, Ctl.entering, Ctl.poweredOff]

theorem attemptEnd_waits (hs : s.settled) (hphase : (s.slot i).ctl.phase = .training)
    (hfew : (s.slot i).ctl.train.samples.length < 4) (hattempt : (s.slot i).ctl.train.attempt < 3) :
    ∃ t, settleDrains (attemptEnd i s) = t ∧
      (t.slot i).ctl = { (s.slot i).ctl with
        lastAnswers := (s.slot i).ctl.train.samples.length,
        train := { (s.slot i).ctl.train with step := .gap },
        timer := some { kind := .gap, start := s.timing.uptime } } ∧
      KeepsBut [.ctl] s t ∧ OtherSlots i s t := by
  obtain ⟨u, hu⟩ : ∃ u, u = (answersKept i s).modCtl i
    (fun c => { c with train := { (s.slot i).ctl.train with step := .gap } }) := ⟨_, rfl⟩
  have hset : Touches [.ctl] i s u := hu ▸ (answersKept_touches i s).then (modCtl_touches ..)
  have hall := hset.then (startTimer_touches i .gap u) (rs := [.ctl])
  have hctl : ((startTimer i .gap u).slot i).ctl = { (s.slot i).ctl with
      lastAnswers := (s.slot i).ctl.train.samples.length,
      train := { (s.slot i).ctl.train with step := .gap },
      timer := some { kind := .gap, start := s.timing.uptime } } := by
    rw [startTimer_ctl, hset.timing, hu, modCtl_ctl_self, answersKept_ctl]
  have hend : attemptEnd i s = startTimer i .gap u := by
    rw [attemptEnd_eq, if_neg (Nat.not_le.mpr hfew), if_pos hattempt, hu]
  rw [hend]
  exact ⟨_, hall.settles hs (by rw [hctl, hphase]; exact Phase.noConfusion), hctl, hall.keeps, hall.others⟩

end Attempts

/-- Settles O28, by the steps of an exchange and the ends of an attempt. -/
theorem trainingGoesOn : Obligations.TrainingGoesOn := by
  refine ⟨fun _ _ _ _ _ hlink hphase hs hstep hwait hexchange htrip =>
      trainEcho_answers hlink hphase hs hstep hwait hexchange htrip,
    fun _ _ _ _ _ hphase hs hstep hdue hexchange => exchangeWait_asks hphase hs hstep hdue hexchange,
    fun _ _ _ hphase htimer hdue => trainingGap_asks hphase htimer hdue,
    fun i dep since void s hnone hs hphase hlink hrec hstep hdue hexchange => ?_⟩
  rw [lastWait_ends hphase hstep hdue hexchange]
  refine ⟨fun m hmem hle hfour => ⟨fun hrange hauto => ?_, fun hrange => ?_⟩, fun hfew => ⟨fun hattempt => ?_,
    fun hattempt => ?_⟩⟩
  · obtain ⟨t, ht, hrest⟩ := attemptEnd_admits hnone hs hlink (smallest_eq hmem hle) hfour hrange hauto
    exact ⟨t, congrArg _ ht, hrest⟩
  · have hset := (answersKept_touches i s).then (setDelay_touches i (m / 2) _) (rs := [.ctl, .edges])
    obtain ⟨t, ht, hrest⟩ := attemptEnd_faults (r := .delayRange) hset hs hrec (by
      rw [attemptEnd_eq, smallest_eq hmem hle, if_pos hfour, if_pos hrange])
    exact ⟨t, congrArg _ ht, hrest⟩
  · obtain ⟨t, ht, hrest⟩ := attemptEnd_waits hs hphase hfew hattempt
    exact ⟨t, congrArg _ ht, hrest⟩
  · obtain ⟨t, ht, hrest⟩ := attemptEnd_faults (r := .trainingFailed) ((answersKept_touches i s).mono) hs hrec (by
      rw [attemptEnd_eq, if_neg (Nat.not_le.mpr hfew), if_neg (Nat.not_lt.mpr hattempt)])
    exact ⟨t, congrArg _ ht, hrest⟩

end Sys2Proof.Machine
end

section
/-! PROOFS. Obligation O20: link errors, counted and acted on (R4, R7, R9, R10, R26, R141). -/

namespace Sys2Proof.Machine

/-! ## The bad end of a passed parcel (R26) -/

section BadEnd

variable {i : Slot} {pid : Nat} {p : Stored} {r : Reception} {c : BitVec 6} {s t u : State}

/-- Blocks that return while POOL-LOW neither stands nor is due are reported to nobody. -/
theorem poolJudge_quiet (hlow : s.isRaised causePoolLow 0 = false) (hmark : s.glob.lowMark ≤ s.pool.freeCount) :
    poolJudge s = s := by
  unfold poolJudge
  rw [hlow, if_neg Bool.false_ne_true, if_neg (Nat.not_lt.mpr hmark)]

theorem releaseHold_last_quiet (i : Slot) (hp : s.parcel pid = some p) (hrefs : p.refs ≤ 1)
    (hlow : s.isRaised causePoolLow 0 = false) (hmark : s.glob.lowMark ≤ s.pool.freeCount) :
    Touches [.pool] i s (releaseHold pid s) := by
  obtain ⟨v, hv⟩ : ∃ v, v = s.modPool (fun q =>
      { q with
        freeCount := q.freeCount + p.nBlocks, free := p.blocks.foldl (fun f b => insertNum b f) q.free,
        parcels := assocDel q.parcels pid }) := ⟨_, rfl⟩
  have hpool : Touches [.pool] i s v := hv ▸ modPool_touches ..
  have heq : releaseHold pid s = poolJudge v := by simp [releaseHold, hp, hrefs, hv]
  have hcount : v.pool.freeCount = s.pool.freeCount + p.nBlocks := by simp [hv]
  have hlow' : v.isRaised causePoolLow 0 = false := by
    rw [isRaised_congr ⟨hpool.alarm, hpool.watches, hpool.timing⟩, hlow]
  rw [heq, poolJudge_quiet hlow' (by rw [hpool.glob, hcount]; exact Nat.le_add_right_of_le hmark)]
  exact hpool

theorem releaseHold_freeCount_last (hp : s.parcel pid = some p) (hrefs : p.refs ≤ 1) :
    (releaseHold pid s).pool.freeCount = s.pool.freeCount + p.nBlocks := by rw [releaseHold_pool_last hp hrefs]

/-- A bad end is told by the pool and the alarm unit. -/
theorem endsBad_congr (h : EndsBad i c pid p s t) (hpool : u.pool = t.pool) (halarm : u.alarm = t.alarm) :
    EndsBad i c pid p s u := by
  unfold EndsBad State.parcel at *
  rw [hpool, halarm]
  exact h

/-- A hold released and CHECK-FAIL posted are a bad end, whatever the receptions were before. -/
theorem endsBad_of_release {v : State} (hset : Touches [.ing] i s v) (hp : s.parcel pid = some p) :
    EndsBad i c pid p s (postCheckFail i c (releaseHold pid v)) := by
  have hpost := postEvent_touches i (releaseHold pid v) causeCheckFail i.val (wordOf c.toNat)
  have hp' : v.parcel pid = some p := by rw [State.parcel, hset.pool]; exact hp
  have halarm (hpool : Touches [.pool] i v (releaseHold pid v)) : (postCheckFail i c (releaseHold pid v)).alarm =
      (postEvent causeCheckFail i.val (wordOf c.toNat) s).alarm := by
    have hboth := hset.then hpool (rs := [.ing, .pool])
    exact postEvent_alarm_congr ⟨hboth.alarm, hboth.watches, hboth.timing⟩ ..
  have hpool : (postCheckFail i c (releaseHold pid v)).pool = (releaseHold pid v).pool := hpost.pool
  constructor
  · intro hheld
    refine ⟨?_, ?_, halarm (releaseHold_held_touches i hp' hheld)⟩
    · rw [State.parcel, hpool]
      exact (releaseHold_parcel_held hp' hheld pid).trans (if_pos rfl)
    · rw [hpool, releaseHold_freeCount_held hp' hheld, hset.pool]
  · intro hlast
    have hone : p.refs ≤ 1 := Nat.le_of_eq hlast
    refine ⟨?_, ?_, fun hlow hmark => halarm (releaseHold_last_quiet i hp' hone ?_ ?_)⟩
    · rw [State.parcel, hpool]
      exact (releaseHold_parcel_last hp' hone pid).trans (if_pos rfl)
    · rw [hpool, releaseHold_freeCount_last hp' hone, hset.pool]
    · rw [isRaised_congr ⟨hset.alarm, hset.watches, hset.timing⟩, hlow]
    · rw [hset.glob, hset.pool]
      exact hmark

theorem parcelEnd_passed {e : PEnd} (hr : (s.slot i).ing.reception = some r) (hfate : r.fate = .passed pid) :
    parcelEnd i e s = passedEnd i r pid e (closeReception i s) := by
  unfold parcelEnd
  rw [hr]
  dsimp only
  rw [hfate]
  rfl

theorem passedEnd_bad {v : State} (hp : v.parcel pid = some p) (hopen : p.isOpen = false) (hlog : r.log = none) :
    passedEnd i r pid .bad v = postCheckFail i r.hdr.chan (releaseHold pid v) := by
  unfold passedEnd passedFail handOver
  rw [hp, hlog]
  simp only [Option.map_some, Option.getD_some, hopen, Bool.false_eq_true, if_false, if_true]

/-- A closed passed parcel with no log record ends with a bad check. -/
theorem parcelEnd_bad (hr : (s.slot i).ing.reception = some r) (hfate : r.fate = .passed pid) (hlog : r.log = none)
    (hp : s.parcel pid = some p) (hopen : p.isOpen = false) :
    Touches [.ing, .pool, .alarm, .mgmt] i s (parcelEnd i .bad s) ∧
    ((parcelEnd i .bad s).slot i).ing = { (s.slot i).ing with reception := none } ∧
    EndsBad i r.hdr.chan pid p s (parcelEnd i .bad s) := by
  have hclose := closeReception_touches i s
  have hrelease := releaseHold_touches i (closeReception i s) pid
  have hpost := postEvent_touches i (releaseHold pid (closeReception i s)) causeCheckFail i.val (wordOf r.hdr.chan.toNat)
  have hlater := hrelease.then hpost (rs := [.pool, .alarm, .mgmt])
  have heq : parcelEnd i .bad s = postCheckFail i r.hdr.chan (releaseHold pid (closeReception i s)) := by
    rw [parcelEnd_passed hr hfate, passedEnd_bad (by rw [State.parcel, hclose.pool]; exact hp) hopen hlog]
  rw [heq]
  refine ⟨hclose.then hlater, ?_, endsBad_of_release hclose hp⟩
  rw [← closeReception_ing]
  exact hlater.ing (by decide) i

end BadEnd

/-! ## Link errors with no parcel in reception (R4, R7, R9) -/

section Errors

variable {i : Slot} {w : Word} {s : State}

/-- The port after one more link error. -/
def Port.erred (p : Port) : Port :=
  { p with windowErrs := p.windowErrs + 1, errTotal := Nat.min 65535 (p.errTotal + 1) }

theorem linkError_counts (h : (s.slot i).port.windowErrs < 7) : linkError i s = s.modPort i Port.erred := by
  unfold linkError
  have hbelow : ¬8 ≤ (s.slot i).port.windowErrs + 1 := by omega
  exact if_neg hbelow

theorem linkError_faults (h : (s.slot i).port.windowErrs = 7) :
    linkError i s = fault i .linkLost (s.modPort i Port.erred) := by
  unfold linkError
  have hat : 8 ≤ (s.slot i).port.windowErrs + 1 := by omega
  exact if_pos hat

/-- SKIP, with one more link error. -/
def Port.skipped (p : Port) : Port := { p.erred with rx := .skip }

theorem skip_counts (h : (s.slot i).port.windowErrs < 7) :
    Touches [.port] i s (linkError i (s.setRx i .skip)) ∧
    ((linkError i (s.setRx i .skip)).slot i).port = (s.slot i).port.skipped := by
  have hset := modPort_touches i s (fun p => { p with rx := .skip })
  rw [linkError_counts (by rw [setRx_port]; exact h)]
  refine ⟨hset.then (modPort_touches ..), ?_⟩
  rw [modPort_port_self, setRx_port]
  rfl

theorem endDamaged_none (hrx : ∀ h n c, (s.slot i).port.rx ≠ .inParcel h n c) : endDamaged i s = s := by
  unfold endDamaged
  split
  next h n c heq => exact absurd heq (hrx h n c)
  next => rfl

theorem exec_undecodable (hframes : s.framing i = true) :
    exec (.undecodableWord i) s = .next (settleDrains (linkError i ((endDamaged i s).setRx i .skip))) :=
  congrArg Host.Outcome.next (if_pos hframes)

/-- A mark whose code is a link error has no row of its own. -/
theorem exec_badMark (hframes : s.framing i = true) (hbad : badMark (markCode w) = true) :
    exec (.markWord i w) s = .next (settleDrains (rxBadMark i s)) := by
  have hnot (n : Nat) (hn : [0, 1, 2, 6, 9].contains n = true) : markCode w ≠ n := by
    rintro rfl
    rw [badMark, hn] at hbad
    exact Bool.false_ne_true hbad
  show Host.Outcome.next (settleDrains (rxMark i w s)) = _
  unfold rxMark
  dsimp only
  rw [if_neg (hnot codeHoldOff rfl), if_neg (hnot codeResume rfl), if_neg (hnot codeTrainEcho rfl),
    if_neg (hnot codeAwake rfl), hframes, hbad, Bool.and_self, if_pos rfl]

theorem exec_body (hframes : s.framing i = true) : exec (.bodyWord i w) s = .next (settleDrains (rxBody i w s)) :=
  congrArg Host.Outcome.next (if_pos hframes)

theorem errors_counted (hframes : s.framing i = true) (hs : s.settled)
    (hrx : ∀ h n c, (s.slot i).port.rx ≠ .inParcel h n c) (hfew : (s.slot i).port.windowErrs < 7) :
    (∃ t, exec (.undecodableWord i) s = .next t ∧ (t.slot i).port = (s.slot i).port.skipped ∧
      KeepsBut [.port] s t ∧ OtherSlots i s t) ∧
    (badMark (markCode w) = true →
      ∃ t, exec (.markWord i w) s = .next t ∧ (t.slot i).port = (s.slot i).port.erred ∧
        KeepsBut [.port] s t ∧ OtherSlots i s t) ∧
    ((s.slot i).port.rx = .awaitHeader →
      ∃ t, exec (.bodyWord i w) s = .next t ∧ (t.slot i).port = (s.slot i).port.skipped ∧
        KeepsBut [.port] s t ∧ OtherSlots i s t) := by
  obtain ⟨hskip, hport⟩ := skip_counts hfew
  refine ⟨?_, fun hbad => ?_, fun hawait => ?_⟩
  · rw [exec_undecodable hframes, endDamaged_none hrx, hskip.settleDrains hs]
    exact ⟨_, rfl, hport, hskip.keeps, hskip.others⟩
  · have hcount := modPort_touches i s Port.erred
    have hmark : rxBadMark i s = s.modPort i Port.erred := by
      unfold rxBadMark
      split
      next h n c heq => exact absurd heq (hrx h n c)
      next => exact linkError_counts hfew
    rw [exec_badMark hframes hbad, hmark, hcount.settleDrains hs]
    exact ⟨_, rfl, modPort_port_self .., hcount.keeps, hcount.others⟩
  · have hbody : rxBody i w s = linkError i (s.setRx i .skip) := by
      unfold rxBody
      rw [hawait]
    rw [exec_body hframes, hbody, hskip.settleDrains hs]
    exact ⟨_, rfl, hport, hskip.keeps, hskip.others⟩

/-- A fault leaves the count of link errors. -/
theorem fault_errTotal (r : FaultReason) :
    ((fault i r s).slot i).port.errTotal = (s.slot i).port.errTotal := by
  have hstopped : Touches [.ctl, .cursor, .alarm, .mgmt] i s (abortChain i .slotLeft (powerOffLines i s)) :=
    (powerOffLines_touches i s).then (abortChain_touches ..)
  obtain ⟨v, hv⟩ : ∃ v, v = abortChain i .slotLeft (powerOffLines i s) := ⟨_, rfl⟩
  have hdown : ((setLink i .down v).slot i).port.errTotal = (v.slot i).port.errTotal := by
    rw [setLink_port]
    split <;> rfl
  have htaken : ((takeDown i .faulted s).slot i).port.errTotal = (s.slot i).port.errTotal := by
    have heq : takeDown i .faulted s = enterOut i .faulted (flushSlot i (setLink i .down v)) := by rw [hv]; rfl
    rw [heq, enterOut_holdsOnly i .faulted _ i, (flushSlot_shuts i _).keeps.port]
    exact hdown.trans (by rw [hv, hstopped.port])
  unfold fault
  rw [(raiseCond_touches i _ causeSlotFault i.val (wordOf r.code)).port, (modCtl_touches i _ _).port, htaken]

theorem eighthError_faults (hframes : s.framing i = true) (hs : s.settled)
    (hrx : ∀ h n c, (s.slot i).port.rx ≠ .inParcel h n c) (hseven : (s.slot i).port.windowErrs = 7)
    (hrec : (s.slot i).ing.reception = none) :
    ∃ t, exec (.undecodableWord i) s = .next t ∧ (t.slot i).port.link = .down ∧
      (t.slot i).port.errTotal = Nat.min 65535 ((s.slot i).port.errTotal + 1) ∧
      (t.slot i).ctl.phase = .faulted ∧ (t.slot i).ctl.reason = some .linkLost ∧ (t.slot i).ctl.pwrEn = false ∧
      (t.slot i).ctl.timer = none ∧ t.isRaised causeSlotFault i.val = true ∧ (t.slot i).egr.stream = [] ∧
      (t.slot i).egr.control = [] ∧ (t.slot i).egr.bulk = [] ∧ (t.slot i).egr.express = [] ∧
      (t.slot i).cursor.state = .idle ∧
      KeepsBut [.pool, .log, .alarm, .mgmt, .port, .ing, .egr, .ctl, .cursor] s t := by
  obtain ⟨v, hv⟩ : ∃ v, v = (s.setRx i .skip).modPort i Port.erred := ⟨_, rfl⟩
  have hskip := modPort_touches i s (fun p => { p with rx := .skip })
  have hset : Touches [.port] i s v := hv ▸ hskip.then (modPort_touches ..)
  have hport : (v.slot i).port = (s.slot i).port.skipped := by
    rw [hv, modPort_port_self, setRx_port]
    rfl
  obtain ⟨hdown, hraised⟩ := fault_down (s := v) .linkLost (by rw [hset.ing, hrec])
  have hall := hset.shuts.then hdown.shuts (rs := downParts)
  have hsettle := hall.settles hs (by rw [hdown.ctl]; exact Phase.noConfusion)
  have herror : linkError i (s.setRx i .skip) = fault i .linkLost v := by
    rw [linkError_faults (by rw [setRx_port]; exact hseven), hv]
  obtain ⟨hstream, hcontrol, hbulk, hexpress⟩ := hdown.queues
  rw [exec_undecodable hframes, endDamaged_none hrx, herror, hsettle]
  refine ⟨_, rfl, hdown.link, ?_, ?_, ?_, ?_, ?_, hraised, hstream, hcontrol, hbulk, hexpress, hdown.chain, hall.keeps⟩
  · rw [fault_errTotal, hport]
    rfl
  all_goals simp only [hdown.ctl, Ctl.entering, Ctl.poweredOff]

end Errors

/-! ## Link errors that end a parcel (R4, R26) -/

section Damage

variable {i : Slot} {w crc : Word} {hw : Header} {m pid : Nat} {r : Reception} {p : Stored} {s : State}

/-- A closed passed parcel in reception ended with a bad check by a link error that is not the eighth. -/
def damaged (i : Slot) (s : State) : State := linkError i ((parcelEnd i .bad s).setRx i .skip)

/-- What such an error leaves. -/
structure Damaged (i : Slot) (c : BitVec 6) (pid : Nat) (p : Stored) (s t : State) : Prop where
  touches : Touches [.port, .ing, .pool, .alarm, .mgmt] i s t
  port : (t.slot i).port = (s.slot i).port.skipped
  ing : (t.slot i).ing = { (s.slot i).ing with reception := none }
  ends : EndsBad i c pid p s t

theorem damaged_spec (hfew : (s.slot i).port.windowErrs < 7) (hr : (s.slot i).ing.reception = some r)
    (hfate : r.fate = .passed pid) (hlog : r.log = none) (hp : s.parcel pid = some p) (hopen : p.isOpen = false) :
    Damaged i r.hdr.chan pid p s (damaged i s) := by
  obtain ⟨hend, hing, hbad⟩ := parcelEnd_bad hr hfate hlog hp hopen
  obtain ⟨hskip, hport⟩ := skip_counts (i := i) (s := parcelEnd i .bad s) (by rw [hend.port]; exact hfew)
  exact ⟨hend.then hskip, hport.trans (by rw [hend.port]), (hskip.ing (by decide) i).trans hing,
    endsBad_congr hbad hskip.pool hskip.alarm⟩

theorem Damaged.settles {c : BitVec 6} {t : State} (h : Damaged i c pid p s t) (hs : s.settled) : settleDrains t = t :=
  h.touches.settleDrains hs

/-- HEADER_WORD of a parcel refused without a report changes the receive state and the reception alone. -/
theorem header_refused {h : Header} {t : State} (hh : h = Header.ofWord w) (hlook : t.looksUp i h)
    (hinvalid : (t.entryAt i h).valid = false) (hquiet : t.glob.alarmUnknown = false) :
    beginParcel i w t = received i w .refused t := by
  have hlook' : (t.setRx i (headerRx w)).looksUp i h := by
    unfold State.looksUp State.isMgmtParcel State.isTodParcel State.mgmtSlot at hlook ⊢
    simpa using hlook
  have hunlogged : (t.setRx i (headerRx w)).unlogged i h := by
    unfold State.unlogged
    rw [entryAt_setRx, hinvalid]
    rfl
  have hrefuse : ((t.setRx i (headerRx w)).entryCopy i h).refusal h.kind = some 1 := by
    rw [entryCopy_setRx]
    exact refusal_invalid hinvalid
  have hlookup := lookupHeader_refused hunlogged hrefuse
  rw [entryCopy_setRx, now_setRx, hh, ← received] at hlookup
  unfold reportRefusal at hlookup
  have hglob : (received i w .refused t).glob = t.glob := (received_touches i w .refused t).glob
  rw [if_pos rfl, hglob, hquiet, if_neg Bool.false_ne_true] at hlookup
  unfold beginParcel
  rw [← hlookup, ← hh, ← parcelHeader_looksUp hlook', hh]
  rfl

end Damage

/-- Settles O20, by the errors with no parcel in reception, the eighth of a window, and those that end a parcel. -/
theorem linkErrorIsCounted : Obligations.LinkErrorIsCounted := by
  refine ⟨fun i w s hframes hs hrx => ⟨errors_counted hframes hs hrx, fun hskip => ?_,
    fun hseven hrec => eighthError_faults hframes hs hrx hseven hrec⟩, ?_⟩
  · have hbody : rxBody i w s = s := by
      unfold rxBody
      rw [hskip]
    rw [exec_body hframes, hbody, settleDrains_of_settled hs]
  intro i w crc hw m pid r p port s hframes hs hrx hfew hr hfate hlog hp hopen _ hport
  have hspec := damaged_spec hfew hr hfate hlog hp hopen
  have hport' : (s.slot i).port.skipped = port := hport.symm
  have hsettle := hspec.settles hs
  refine ⟨?_, fun hbad => ?_, fun h hh hmgmt htod hinvalid hquiet => ?_⟩
  · have hend : endDamaged i s = parcelEnd i .bad s := by
      unfold endDamaged
      rw [hrx]
    rw [exec_undecodable hframes, hend]
    exact ⟨damaged i s, congrArg _ hsettle, hspec.port.trans hport', hspec.ing, hspec.ends, hspec.touches.keeps,
      hspec.touches.replies, hspec.touches.others⟩
  · have hmark : rxBadMark i s = damaged i s := by
      unfold rxBadMark
      rw [hrx]
      rfl
    rw [exec_badMark hframes hbad, hmark]
    exact ⟨damaged i s, congrArg _ hsettle, hspec.port.trans hport', hspec.ing, hspec.ends, hspec.touches.keeps,
      hspec.touches.replies, hspec.touches.others⟩
  · have htouch := hspec.touches
    have hframes' : (damaged i s).framing i = true := by
      unfold State.framing at hframes ⊢
      rw [hspec.port]
      exact hframes
    have hheader : rxHeader i w s = beginParcel i w (damaged i s) := by
      unfold rxHeader
      rw [hrx]
      exact if_pos hframes'
    have hmsel : (damaged i s).mgmtSlot = s.mgmtSlot := mgmtSlot_of_msel htouch.grow.msel
    have hlook : (damaged i s).looksUp i h := by
      unfold State.looksUp State.isMgmtParcel State.isTodParcel at *
      rw [hmsel, htouch.timing]
      exact ⟨hmgmt, htod⟩
    have hinvalid' : ((damaged i s).entryAt i h).valid = false := by
      unfold State.entryAt State.flowAt at *
      rw [htouch.flow]
      exact hinvalid
    have hrefused := header_refused hh hlook hinvalid' (by rw [htouch.glob]; exact hquiet)
    have hnew := received_touches i w .refused (damaged i s)
    have hall := htouch.then hnew (rs := [.port, .ing, .pool, .alarm, .mgmt])
    have hexec : exec (.headerWord i w) s = .next (received i w .refused (damaged i s)) := by
      show Host.Outcome.next (if s.framing i then settleDrains (rxHeader i w s) else s) = _
      rw [if_pos hframes, hheader, hrefused,
        hall.settleDrains hs]
    refine ⟨_, hexec, ?_, ⟨arrival i w .refused (damaged i s), ?_, hh.symm, rfl⟩,
      endsBad_congr hspec.ends hnew.pool hnew.alarm, hall.keeps, hall.replies, hall.others⟩
    · rw [received_port, hspec.port, hport', hh]
      rfl
    · rw [received_ing, hspec.ing]

end Sys2Proof.Machine
end

section
/-! PROOFS. Actions on a slot that is not the management slot. Obligation O55: POWER-ON, POWER-OFF and CLEAR (R139,
R142). -/

namespace Sys2Proof.Machine

/-! ## An action on another slot, and its reply (R173, R178) -/

section Acts

variable {i : Slot} {code : Nat} {ps : List Part} {f : Slot → State → Served} {r : Request} {rest : List Request}
  {s u : State}

theorem noneWaits_takeRequest (h : NoneWaits s) (rest : List Request) : NoneWaits (takeRequest rest s) := fun j => by
  rw [takeRequest_slot, h j]

theorem takeRequest_mgmtSlot (rest : List Request) (s : State) : (takeRequest rest s).mgmtSlot = s.mgmtSlot :=
  mgmtSlot_of_msel (takeRequest_msel rest s)

/-- What an action leaves whose effect on the state without its request is `u`, where the slot named is not the
management slot. -/
structure ActsAside (i : Slot) (r : Request) (s u t : State) : Prop where
  replied : Replied s.mgmtSlot (replyTo r .done []) u t
  slot : t.slot i = u.slot i

theorem slotAction_acts (hs : Servable s r rest) (hr : SlotRequest code i r) (hcode : actionCodes.contains code = true)
    (hf : f i (takeRequest rest s) = doneWith u) (hnone : NoneWaits s) (hi : i ≠ s.mgmtSlot)
    (hshut : Shuts ps i (takeRequest rest s) u) (hsettle : settleDrains u = u) :
    ActsAside i r s u (serve (.action code) (slotAction f) s) := by
  obtain ⟨hothers, -⟩ := hshut.alone (noneWaits_takeRequest hnone rest)
  have hreplied := serve_replied (u := u) (st := .done) (data := []) hs (row_of_slotRequest hr hcode)
    ((slotAction_of hr).trans hf) hsettle (hshut.msel.trans (takeRequest_msel rest s))
    (by rw [hothers _ (Ne.symm hi), takeRequest_slot])
  exact ⟨hreplied, hreplied.others i hi⟩

/-- The management unit gains replies alone. -/
theorem Shuts.growTaken (hshut : Shuts ps i (takeRequest rest s) u) (hi : i ≠ s.mgmtSlot) :
    RepliesGrow (takeRequest rest s) u := hshut.grow (by rwa [takeRequest_mgmtSlot])

theorem slotAction_refuses {c : Instr} {st : Status} (hs : Servable s r rest)
    (hexec : exec c s = .next (serve (.action code) (slotAction f) s)) (hr : SlotRequest code i r)
    (hcode : actionCodes.contains code = true)
    (hf : f i (takeRequest rest s) = { status := st, data := [], state := takeRequest rest s }) :
    ∃ t, exec c s = .next t ∧ OnlyAnswered r rest st [] s t :=
  answers_only hexec hs (row_of_slotRequest hr hcode) ((slotAction_of hr).trans hf)

end Acts

/-! ## Entries to EMPTY and SEATED (R126, R142) -/

section Entries

variable {i : Slot} {s : State}

theorem enterSeated_shuts (hnone : NoneWaits s) : Shuts [.ctl, .egr, .mgmt] i s (enterSeated i s) := by
  have hout := enterOut_of_noneWaits (i := i) hnone .seated
  exact shuts_ite (hout.then (enterPowering_touches (enterOut_noneWaits hnone .seated)).shuts) hout

theorem enterSeated_ctl (hnone : NoneWaits s) :
    ((enterSeated i s).slot i).ctl.reason = none ∧
    if (s.slot i).cfg.autoPower = true
    then ((enterSeated i s).slot i).ctl.phase = .powering ∧ ((enterSeated i s).slot i).ctl.pwrEn = true ∧
      ((enterSeated i s).slot i).ctl.resetOut = true
    else ((enterSeated i s).slot i).ctl.phase = .seated ∧ ((enterSeated i s).slot i).ctl.timer = none := by
  unfold enterSeated
  dsimp only
  cases (s.slot i).cfg.autoPower with
  | false =>
    rw [if_neg Bool.false_ne_true, if_neg Bool.false_ne_true, enterOut_ctl]
    exact ⟨rfl, rfl, rfl⟩
  | true =>
    obtain ⟨hphase, hpwr, hreset, hreason, -⟩ := enterPowering_ctl (i := i) (enterOut_noneWaits (i := i) hnone .seated)
    rw [if_pos rfl, if_pos rfl]
    exact ⟨hreason, hphase, hpwr, hreset⟩

theorem enterEmpty_shuts (hnone : NoneWaits s) : Shuts [.ctl, .egr, .mgmt] i s (enterEmpty i s) :=
  (enterOut_of_noneWaits hnone .empty).then (seatDebounce_touches ..).shuts

/-- With a contact missing no seat timer runs. -/
theorem enterEmpty_ctl (hpres : ¬((s.slot i).ctl.presL && (s.slot i).ctl.presS) = true) :
    ((enterEmpty i s).slot i).ctl = (s.slot i).ctl.entering .empty := by
  unfold enterEmpty
  rw [seatDebounce_ctl, enterOut_ctl]
  exact if_neg fun ⟨_, hl, hshort⟩ => hpres (Bool.and_eq_true_iff.mpr ⟨hl, hshort⟩)

end Entries

/-! ## Obligation O55 -/

section Power

variable {i : Slot} {r : Request} {rest : List Request} {s : State}

/-- The state that CLEAR leaves before its reply. -/
def cleared (i : Slot) (s : State) : State :=
  if (s.slot i).ctl.presL && (s.slot i).ctl.presS then enterSeated i (clearCond causeSlotFault i.val 0 s)
  else enterEmpty i (clearCond causeSlotFault i.val 0 s)

theorem cleared_shuts (hnone : NoneWaits s) : Shuts [.alarm, .egr, .mgmt, .ctl] i s (cleared i s) ∧
    (cleared i s).alarm = (clearCond causeSlotFault i.val 0 s).alarm := by
  have hclear := clearCond_touches i s causeSlotFault i.val 0
  have hnone' : NoneWaits (clearCond causeSlotFault i.val 0 s) := noneWaits_of_ing hnone hclear.ing
  have hseated := enterSeated_shuts (i := i) hnone'
  have hempty := enterEmpty_shuts (i := i) hnone'
  unfold cleared
  split
  · exact ⟨hclear.shuts.then hseated, hseated.keeps.alarm⟩
  · exact ⟨hclear.shuts.then hempty, hempty.keeps.alarm⟩

theorem cleared_ctl (hnone : NoneWaits s) : ((cleared i s).slot i).ctl.reason = none ∧
    if ((s.slot i).ctl.presL && (s.slot i).ctl.presS) = true then
      if (s.slot i).cfg.autoPower = true
      then ((cleared i s).slot i).ctl.phase = .powering ∧ ((cleared i s).slot i).ctl.pwrEn = true ∧
        ((cleared i s).slot i).ctl.resetOut = true
      else ((cleared i s).slot i).ctl.phase = .seated ∧ ((cleared i s).slot i).ctl.timer = none
    else ((cleared i s).slot i).ctl.phase = .empty ∧ ((cleared i s).slot i).ctl.timer = none := by
  have hclear := clearCond_touches i s causeSlotFault i.val 0
  unfold cleared
  by_cases hpres : ((s.slot i).ctl.presL && (s.slot i).ctl.presS) = true
  · rw [if_pos hpres, if_pos hpres]
    have hseated := enterSeated_ctl (i := i) (noneWaits_of_ing hnone hclear.ing)
    rwa [hclear.cfg] at hseated
  · rw [if_neg hpres, if_neg hpres, enterEmpty_ctl (by rw [hclear.ctl]; exact hpres)]
    exact ⟨rfl, rfl, rfl⟩

theorem cleared_phase (hnone : NoneWaits s) : ((cleared i s).slot i).ctl.phase ≠ .draining := by
  obtain ⟨-, hctl⟩ := cleared_ctl (i := i) hnone
  split at hctl
  · split at hctl
    all_goals rw [hctl.1]; exact Phase.noConfusion
  · rw [hctl.1]
    exact Phase.noConfusion

/-- POWER-OFF takes a slot down from POWERING to DRAINING. -/
theorem actPowerOff_takesDown (hphase : (s.slot i).ctl.phase ∈ [Phase.powering, .training, .admitted, .draining]) :
    actPowerOff i s = doneWith (takeDown i .quiesced s) := by
  have hcases : (s.slot i).ctl.phase = .powering ∨ (s.slot i).ctl.phase = .training ∨
      (s.slot i).ctl.phase = .admitted ∨ (s.slot i).ctl.phase = .draining := by simpa using hphase
  unfold actPowerOff
  rcases hcases with h | h | h | h
  all_goals rw [h]

variable (hs : Servable s r rest) (hnone : NoneWaits s) (hi : i ≠ s.mgmtSlot)

include hs

include hnone hi in
theorem powerOn_powers (hr : SlotRequest 1 i r) (hphase : (s.slot i).ctl.phase = .seated ∨
      ((s.slot i).ctl.phase = .quiesced ∧ (s.slot i).ctl.presL = true ∧ (s.slot i).ctl.presS = true)) :
    ∃ t, exec .powerOn s = .next t ∧ Answered r rest .done [] s t ∧
      (t.slot i).ctl.phase = .powering ∧ (t.slot i).ctl.pwrEn = true ∧ (t.slot i).ctl.resetOut = true ∧
      (t.slot i).ctl.timer = some
        { kind := if (s.slot i).ctl.pwrGood then .release else .power, start := s.timing.uptime } ∧
      KeepsBut [.mgmt, .port, .ctl] s t := by
  have hnone' := noneWaits_takeRequest hnone rest
  have htouch := enterPowering_touches (i := i) hnone'
  obtain ⟨hpowering, hpwr, hreset, -, htimer⟩ := enterPowering_ctl (i := i) hnone'
  have hf : actPowerOn i (takeRequest rest s) = doneWith (enterPowering i (takeRequest rest s)) :=
    if_pos (by rw [takeRequest_slot]; exact hphase)
  have hacts := slotAction_acts hs hr (by decide) hf hnone hi htouch.shuts
    (htouch.shuts.settles (settled_takeRequest hs) (by rw [hpowering]; exact Phase.noConfusion))
  refine ⟨_, rfl, hacts.replied.answered hs htouch.mgmt, ?_⟩
  rw [hacts.slot]
  refine ⟨hpowering, hpwr, hreset, ?_, hacts.replied.keepsBut htouch.keeps⟩
  rw [htimer, takeRequest_slot, (takeRequest_keepsBut rest s).timing]

theorem powerOn_wrongState (hr : SlotRequest 1 i r) (hphase : ¬((s.slot i).ctl.phase = .seated ∨
      ((s.slot i).ctl.phase = .quiesced ∧ (s.slot i).ctl.presL = true ∧ (s.slot i).ctl.presS = true))) :
    ∃ t, exec .powerOn s = .next t ∧ OnlyAnswered r rest .wrongState [] s t :=
  slotAction_refuses hs rfl hr (by decide) (if_neg (by rw [takeRequest_slot]; exact hphase))

include hnone hi in
theorem powerOff_takesDown (hr : SlotRequest 2 i r) (hrec : (s.slot i).ing.reception = none)
    (hphase : (s.slot i).ctl.phase ∈ [Phase.powering, .training, .admitted, .draining]) :
    ∃ t al, exec .powerOff s = .next t ∧ AnsweredAfter al r rest .done [] s t ∧
      (t.slot i).ctl.phase = .quiesced ∧ (t.slot i).ctl.pwrEn = false ∧ (t.slot i).ctl.timer = none ∧
      (t.slot i).port.link = .down ∧ (t.slot i).egr.stream = [] ∧ (t.slot i).egr.control = [] ∧
      (t.slot i).egr.bulk = [] ∧ (t.slot i).egr.express = [] ∧ (t.slot i).cursor.state = .idle := by
  have hdown := takeDown_down (i := i) (s := takeRequest rest s) .quiesced (by rw [takeRequest_slot, hrec])
  have hf : actPowerOff i (takeRequest rest s) = doneWith (takeDown i .quiesced (takeRequest rest s)) :=
    actPowerOff_takesDown (by rwa [takeRequest_phase])
  have hacts := slotAction_acts hs hr (by decide) hf hnone hi hdown.shuts
    (hdown.shuts.settles (settled_takeRequest hs) (by rw [hdown.ctl]; exact Phase.noConfusion))
  obtain ⟨al, hal⟩ := hacts.replied.answeredGrow hs (hdown.shuts.growTaken hi)
  obtain ⟨hstream, hcontrol, hbulk, hexpress⟩ := hdown.queues
  refine ⟨_, al, rfl, hal, ?_⟩
  rw [hacts.slot]
  refine ⟨?_, ?_, ?_, hdown.link, hstream, hcontrol, hbulk, hexpress, hdown.chain⟩
  all_goals simp only [hdown.ctl, Ctl.entering, Ctl.poweredOff]

theorem powerOff_idle (hr : SlotRequest 2 i r) (hphase : (s.slot i).ctl.phase ∈ [Phase.empty, .seated, .faulted]) :
    ∃ t, exec .powerOff s = .next t ∧ OnlyAnswered r rest .done [] s t := by
  refine slotAction_refuses hs rfl hr (by decide) ?_
  have hcases : (s.slot i).ctl.phase = .empty ∨ (s.slot i).ctl.phase = .seated ∨ (s.slot i).ctl.phase = .faulted := by
    simpa using hphase
  unfold actPowerOff
  rw [takeRequest_phase]
  rcases hcases with h | h | h
  all_goals rw [h]; rfl

include hnone hi in
theorem powerOff_quiesced (hr : SlotRequest 2 i r) (hphase : (s.slot i).ctl.phase = .quiesced) :
    ∃ t al, exec .powerOff s = .next t ∧ AnsweredAfter al r rest .done [] s t ∧ (t.slot i).ctl.phase = .quiesced ∧
      (t.slot i).ctl.pwrEn = false ∧ KeepsBut [.alarm, .mgmt, .port, .ctl] s t := by
  obtain ⟨u, hu⟩ : ∃ u, u = if ((takeRequest rest s).slot i).ctl.pwrEn = true
    then powerOffLines i (takeRequest rest s) else takeRequest rest s := ⟨_, rfl⟩
  have hf : actPowerOff i (takeRequest rest s) = doneWith u := by
    unfold actPowerOff
    rw [takeRequest_phase, hphase, hu]
  have htouch : Touches [.ctl, .alarm, .mgmt] i (takeRequest rest s) u :=
    hu ▸ touches_ite (powerOffLines_touches ..) (.refl ..)
  have hctl : (u.slot i).ctl.phase = .quiesced ∧ (u.slot i).ctl.pwrEn = false := by
    rw [hu]
    split
    next =>
      rw [powerOffLines_ctl]
      exact ⟨takeRequest_phase.trans hphase, rfl⟩
    next h => exact ⟨takeRequest_phase.trans hphase, Bool.eq_false_iff.mpr h⟩
  have hacts := slotAction_acts hs hr (by decide) hf hnone hi htouch.shuts
    (htouch.shuts.settles (settled_takeRequest hs) (by rw [hctl.1]; exact Phase.noConfusion))
  obtain ⟨al, hal⟩ := hacts.replied.answeredGrow hs htouch.grow
  refine ⟨_, al, rfl, hal, ?_⟩
  rw [hacts.slot]
  exact ⟨hctl.1, hctl.2, hacts.replied.keepsBut htouch.keeps⟩

include hnone hi in
theorem clear_clears (hr : SlotRequest 6 i r) (hphase : (s.slot i).ctl.phase = .faulted) :
    ∃ t al, exec .clear s = .next t ∧ AnsweredAfter al r rest .done [] s t ∧
      t.isRaised causeSlotFault i.val = false ∧ (t.slot i).ctl.reason = none ∧
      (∀ c m, c ≠ causeSlotFault → m < 64 → t.isRaised c m = s.isRaised c m) ∧
      (if ((s.slot i).ctl.presL && (s.slot i).ctl.presS) = true then
        if (s.slot i).cfg.autoPower = true
        then (t.slot i).ctl.phase = .powering ∧ (t.slot i).ctl.pwrEn = true ∧ (t.slot i).ctl.resetOut = true
        else (t.slot i).ctl.phase = .seated ∧ (t.slot i).ctl.timer = none
      else (t.slot i).ctl.phase = .empty ∧ (t.slot i).ctl.timer = none) ∧
      KeepsBut [.alarm, .egr, .mgmt, .port, .ctl] s t := by
  have hnone' := noneWaits_takeRequest hnone rest
  obtain ⟨hshut, halarm⟩ := cleared_shuts (i := i) hnone'
  have hf : actClear i (takeRequest rest s) = doneWith (cleared i (takeRequest rest s)) :=
    if_pos (takeRequest_phase.trans hphase)
  have hacts := slotAction_acts hs hr (by decide) hf hnone hi hshut
    (hshut.settles (settled_takeRequest hs) (cleared_phase hnone'))
  obtain ⟨al, hal⟩ := hacts.replied.answeredGrow hs (hshut.growTaken hi)
  have hraised (c : Fin 64) (m : Nat) : (serve (.action 6) (slotAction actClear) s).isRaised c m =
      (clearCond causeSlotFault i.val 0 (takeRequest rest s)).isRaised c m :=
    isRaised_of_alarm (hacts.replied.keeps.alarm.trans halarm) c m
  obtain ⟨hreason, hctl⟩ := cleared_ctl (i := i) hnone'
  rw [takeRequest_slot] at hctl
  refine ⟨_, al, rfl, hal, ?_, ?_, fun c m hc hm => ?_, ?_, hacts.replied.keepsBut hshut.keeps⟩
  · rw [hraised]
    exact isRaised_cleared ..
  · rw [hacts.slot]
    exact hreason
  · rw [hraised, isRaised_clearCond_ne (slot_lt i) hm (.inl hc)]
    exact isRaised_of_alarm (takeRequest_keepsBut rest s).alarm c m
  · rw [hacts.slot]
    exact hctl

theorem clear_wrongState (hr : SlotRequest 6 i r) (hphase : (s.slot i).ctl.phase ≠ .faulted) :
    ∃ t, exec .clear s = .next t ∧ OnlyAnswered r rest .wrongState [] s t :=
  slotAction_refuses hs rfl hr (by decide) (if_neg (by rwa [takeRequest_phase]))

end Power

/-- Settles O55, by the states of the slot. -/
theorem powerAndClearActions : Obligations.PowerAndClearActions := by
  intro i r rest s hs hnone hi
  exact ⟨fun hr => ⟨powerOn_powers hs hnone hi hr, powerOn_wrongState hs hr⟩,
    fun hr => ⟨powerOff_takesDown hs hnone hi hr, powerOff_idle hs hr, powerOff_quiesced hs hnone hi hr⟩,
    fun hr => ⟨clear_clears hs hnone hi hr, clear_wrongState hs hr⟩⟩

end Sys2Proof.Machine
end

section
/-! PROOFS. Obligation O56: DRAIN, REST, WAKE and RETRAIN (R134 to R137). -/

namespace Sys2Proof.Machine

/-! ## What the four actions do to a slot -/

section Effects

variable {i : Slot} {s : State}

/-- The state that a DRAIN leaves where the chain is idle and something keeps the egress from being empty. -/
def draining (i : Slot) (s : State) : State := startTimer i .drain (s.modCtl i (Ctl.entering .draining))

theorem draining_touches (i : Slot) (s : State) : Touches [.ctl] i s (draining i s) :=
  (modCtl_touches ..).then (startTimer_touches ..)

theorem draining_ctl : ((draining i s).slot i).ctl = { (s.slot i).ctl with
    phase := .draining, sub := .awake, restReq := false, train := Training.none, reason := none,
    timer := some { kind := .drain, start := s.timing.uptime } } := by
  unfold draining
  rw [startTimer_ctl, modCtl_ctl_self, (modCtl_touches i s _).timing]
  rfl

theorem enterDraining_eq (hnone : NoneWaits s) (hidle : (s.slot i).cursor.state = .idle)
    (hfull : s.egressEmpty i = false) : enterDraining i s =
    if (s.slot i).ctl.sub = .resting ∧ (!(s.slot i).ctl.restReq) = true
    then (draining i s).modPort i (fun p => { p with wakeAsked := true }) else draining i s := by
  have hset := modCtl_touches i s (Ctl.entering .draining)
  have hfull' : (s.modCtl i (Ctl.entering .draining)).egressEmpty i = false := by
    rw [egressEmpty_of_egr (hset.egr (by decide) i) hset.mgmt, hfull]
  have hoff : powerOffAtOnce i (s.modCtl i (Ctl.entering .draining)) = s.modCtl i (Ctl.entering .draining) := by
    unfold powerOffAtOnce
    rw [hfull', Bool.false_and, if_neg Bool.false_ne_true]
  unfold enterDraining
  rw [setPhase_of_noneWaits hnone, hoff, abortChain_of_idle _ (by rw [hset.cursor, hidle])]
  rfl

/-- What a DRAIN leaves then. -/
theorem enterDraining_drains (hnone : NoneWaits s) (hidle : (s.slot i).cursor.state = .idle)
    (hfull : s.egressEmpty i = false) : Touches [.ctl, .port] i s (enterDraining i s) ∧
    ((enterDraining i s).slot i).ctl = { (s.slot i).ctl with
      phase := .draining, sub := .awake, restReq := false, train := Training.none, reason := none,
      timer := some { kind := .drain, start := s.timing.uptime } } ∧
    ((enterDraining i s).slot i).port = { (s.slot i).port with
      wakeAsked := (s.slot i).port.wakeAsked || ((s.slot i).ctl.sub == .resting && !(s.slot i).ctl.restReq) } := by
  have hset := draining_touches i s
  have hask := modPort_touches i (draining i s) (fun p => { p with wakeAsked := true })
  rw [enterDraining_eq hnone hidle hfull]
  split
  next h =>
    obtain ⟨hsub, hreq⟩ := h
    refine ⟨hset.then hask, by rw [hask.ctl, draining_ctl], ?_⟩
    rw [modPort_port_self, hset.port, hsub, hreq, BEq.rfl, Bool.and_self, Bool.or_true]
  next h =>
    refine ⟨hset.mono, draining_ctl, ?_⟩
    have hnot : ((s.slot i).ctl.sub == SubMode.resting && !(s.slot i).ctl.restReq) = false := by
      simpa only [Bool.and_eq_true, beq_iff_eq, ← Bool.not_eq_true] using h
    rw [hset.port, hnot, Bool.or_false]

/-- The state that a REST leaves. -/
def rested (i : Slot) (s : State) : State :=
  (s.modCtl i (fun c => { c with sub := .resting, restReq := true })).modEgr i Egress.occasion

theorem rested_spec (i : Slot) (s : State) : Touches [.ctl, .egr] i s (rested i s) ∧
    ((rested i s).slot i).ctl = { (s.slot i).ctl with sub := .resting, restReq := true } ∧
    ((rested i s).slot i).egr = (s.slot i).egr.occasion := by
  have hset := modCtl_touches i s (fun c => { c with sub := .resting, restReq := true })
  have hback := modEgr_touches i (s.modCtl i (fun c => { c with sub := .resting, restReq := true })) Egress.occasion
  exact ⟨hset.then hback, by rw [rested, hback.ctl, modCtl_ctl_self], by rw [rested, modEgr_egr_self, hset.egr]⟩

theorem isAwake_iff : s.isAwake i = true ↔ (s.slot i).ctl.phase = .admitted ∧ (s.slot i).ctl.sub = .awake := by
  unfold State.isAwake
  rw [Bool.and_eq_true, beq_iff_eq, beq_iff_eq]

/-- What a WAKE leaves of a RESTING slot. -/
theorem applyWake_spec (h : (s.slot i).ctl.phase = .admitted ∧ (s.slot i).ctl.sub = .resting) :
    ((applyWake i s).slot i).ctl = (if (s.slot i).ctl.restReq = true
      then { (s.slot i).ctl with restReq := false, sub := .awake }
      else { (s.slot i).ctl with sub := .waking, timer := some { kind := .wake, start := s.timing.uptime } }) ∧
    ((applyWake i s).slot i).port.wakeAsked = ((s.slot i).port.wakeAsked || !(s.slot i).ctl.restReq) := by
  cases hreq : (s.slot i).ctl.restReq with
  | true =>
    rw [applyWake_withdraws h hreq, if_pos rfl, modCtl_ctl_self, (modCtl_touches i s _).port]
    exact ⟨rfl, (Bool.or_false _).symm⟩
  | false =>
    obtain ⟨hctl, hport⟩ := applyWake_asks h hreq
    rw [hctl, hport, if_neg Bool.false_ne_true]
    exact ⟨rfl, (Bool.or_true _).symm⟩

/-- What a RETRAIN leaves of a slot whose chain is idle and whose egress sends nothing. -/
theorem enterTraining_calm (hnone : NoneWaits s) (hidle : (s.slot i).cursor.state = .idle)
    (hrec : (s.slot i).ing.reception = none) (htx : (s.slot i).egr.tx = .idle) :
    Touches [.ctl, .port, .alarm, .mgmt] i s (enterTraining i s) ∧
    ((enterTraining i s).slot i).ctl.phase = .training ∧ ((enterTraining i s).slot i).ctl.timer = none ∧
    ((enterTraining i s).slot i).ctl.train = { attempt := 1, exchange := 0, step := .request, samples := [] } ∧
    ((enterTraining i s).slot i).port.link = .training ∧ ((enterTraining i s).slot i).port.trainReq = some 0 := by
  have hlink := setLink_calm (i := i) (dst := .training) hrec htx
  have htrains := enterTraining_trains hnone hidle hlink
  refine ⟨hlink.then htrains.touches, ?_⟩
  rw [htrains.ctl, htrains.port]
  exact ⟨rfl, rfl, rfl, setLink_link, rfl⟩

end Effects

/-! ## Obligation O56 -/

section Traffic

variable {i : Slot} {r : Request} {rest : List Request} {s : State}
theorem isAwake_takeRequest : (takeRequest rest s).isAwake i = s.isAwake i := by
  unfold State.isAwake
  rw [takeRequest_slot]

variable (hs : Servable s r rest) (hnone : NoneWaits s) (hi : i ≠ s.mgmtSlot) (hidle : (s.slot i).cursor.state = .idle)

include hs

include hnone hi hidle in
theorem drain_drains (hr : SlotRequest 3 i r) (hphase : (s.slot i).ctl.phase = .admitted)
    (hfull : s.egressEmpty i = false) :
    ∃ t, exec .drain s = .next t ∧ Answered r rest .done [] s t ∧
      (t.slot i).ctl.phase = .draining ∧ (t.slot i).ctl.sub = .awake ∧ (t.slot i).ctl.restReq = false ∧
      (t.slot i).ctl.timer = some { kind := .drain, start := s.timing.uptime } ∧
      KeepsBut [.mgmt, .port, .ctl] s t := by
  have hslot : (takeRequest rest s).mgmtSlot = s.mgmtSlot := takeRequest_mgmtSlot ..
  have hbare : ¬((takeRequest rest s).slot i).egr.bare := by
    rw [takeRequest_slot]
    intro hbare
    exact Bool.false_ne_true (hfull.symm.trans (egressEmpty_iff.mpr ⟨hbare, fun h => absurd h hi⟩))
  have hfull' : (takeRequest rest s).egressEmpty i = false := by
    rw [← Bool.not_eq_true, egressEmpty_iff]
    exact fun h => hbare h.1
  obtain ⟨htouch, hctl, -⟩ := enterDraining_drains (noneWaits_takeRequest hnone rest) (by rw [takeRequest_slot, hidle]) hfull'
  have hf : actDrain i (takeRequest rest s) = doneWith (enterDraining i (takeRequest rest s)) :=
    if_pos (takeRequest_phase.trans hphase)
  have hacts := slotAction_acts hs hr (by decide) hf hnone hi htouch.shuts
    (htouch.shuts.settles_nonempty (settled_takeRequest hs) (by rw [htouch.egr]; exact hbare))
  refine ⟨_, rfl, hacts.replied.answered hs htouch.mgmt, ?_⟩
  rw [hacts.slot, hctl, (takeRequest_keepsBut rest s).timing]
  exact ⟨rfl, rfl, rfl, rfl, hacts.replied.keepsBut htouch.keeps⟩

theorem drain_wrongState (hr : SlotRequest 3 i r) (hphase : (s.slot i).ctl.phase ≠ .admitted) :
    ∃ t, exec .drain s = .next t ∧ OnlyAnswered r rest .wrongState [] s t :=
  slotAction_refuses hs rfl hr (by decide) (if_neg (by rwa [takeRequest_phase]))

include hnone hi in
theorem rest_rests (hr : SlotRequest 4 i r) (hawake : s.isAwake i = true) :
    ∃ t, exec .rest s = .next t ∧ Answered r rest .done [] s t ∧
      (t.slot i).ctl = { (s.slot i).ctl with sub := .resting, restReq := true } ∧
      (t.slot i).port = (s.slot i).port ∧ (t.slot i).egr = (s.slot i).egr.occasion ∧
      KeepsBut [.mgmt, .port, .ctl, .egr] s t := by
  obtain ⟨htouch, hctl, hegr⟩ := rested_spec i (takeRequest rest s)
  rw [takeRequest_slot] at hctl hegr
  have hf : actRest i (takeRequest rest s) = doneWith (rested i (takeRequest rest s)) :=
    if_pos (isAwake_takeRequest.trans hawake)
  have hacts := slotAction_acts hs hr (by decide) hf hnone hi htouch.shuts
    (htouch.settles (settled_takeRequest hs) (by rw [hctl, (isAwake_iff.mp hawake).1]; exact Phase.noConfusion))
  refine ⟨_, rfl, hacts.replied.answered hs htouch.mgmt, ?_⟩
  rw [hacts.slot, htouch.port, takeRequest_slot]
  exact ⟨hctl, rfl, hegr, hacts.replied.keepsBut htouch.keeps⟩

theorem rest_wrongState (hr : SlotRequest 4 i r) (hawake : s.isAwake i = false) :
    ∃ t, exec .rest s = .next t ∧ OnlyAnswered r rest .wrongState [] s t :=
  slotAction_refuses hs rfl hr (by decide) (if_neg (by rw [isAwake_takeRequest, hawake]; exact Bool.false_ne_true))

include hnone hi in
theorem wake_wakes (hr : SlotRequest 5 i r) (hphase : (s.slot i).ctl.phase = .admitted)
    (hsub : (s.slot i).ctl.sub = .resting) :
    ∃ t, exec .wake s = .next t ∧ Answered r rest .done [] s t ∧
      (t.slot i).ctl = (if (s.slot i).ctl.restReq = true
        then { (s.slot i).ctl with restReq := false, sub := .awake }
        else { (s.slot i).ctl with
          sub := .waking, timer := some { kind := .wake, start := s.timing.uptime } }) ∧
      (t.slot i).port.wakeAsked = ((s.slot i).port.wakeAsked || !(s.slot i).ctl.restReq) ∧
      KeepsBut [.mgmt, .port, .ctl] s t := by
  have hresting : ((takeRequest rest s).slot i).ctl.phase = .admitted ∧
      ((takeRequest rest s).slot i).ctl.sub = .resting := by rw [takeRequest_slot]; exact ⟨hphase, hsub⟩
  have htouch := applyWake_touches (takeRequest rest s) i
  obtain ⟨hctl, hport⟩ := applyWake_spec hresting
  rw [takeRequest_slot, (takeRequest_keepsBut rest s).timing] at hctl
  rw [takeRequest_slot] at hport
  have hstays : ((applyWake i (takeRequest rest s)).slot i).ctl.phase ≠ .draining := by
    rw [hctl]
    split
    all_goals rw [hphase]; exact Phase.noConfusion
  have hf : actWake i (takeRequest rest s) = doneWith (applyWake i (takeRequest rest s)) := if_pos hresting
  have hacts := slotAction_acts hs hr (by decide) hf hnone hi htouch.shuts
    (htouch.shuts.settles (settled_takeRequest hs) hstays)
  refine ⟨_, rfl, hacts.replied.answered hs htouch.mgmt, ?_⟩
  rw [hacts.slot]
  exact ⟨hctl, hport, hacts.replied.keepsBut htouch.keeps⟩

theorem wake_wrongState (hr : SlotRequest 5 i r)
    (hnot : ¬((s.slot i).ctl.phase = .admitted ∧ (s.slot i).ctl.sub = .resting)) :
    ∃ t, exec .wake s = .next t ∧ OnlyAnswered r rest .wrongState [] s t :=
  slotAction_refuses hs rfl hr (by decide) (if_neg (by rwa [takeRequest_slot]))

include hnone hi hidle in
theorem retrain_trains (hr : SlotRequest 7 i r) (hrec : (s.slot i).ing.reception = none)
    (hphase : (s.slot i).ctl.phase = .admitted) (htx : (s.slot i).egr.tx = .idle) :
    ∃ t al, exec .retrain s = .next t ∧ AnsweredAfter al r rest .done [] s t ∧
      (t.slot i).ctl.phase = .training ∧ (t.slot i).ctl.timer = none ∧ (t.slot i).ctl.train =
        { attempt := 1, exchange := 0, step := .request, samples := [] } ∧
      (t.slot i).port.link = .training ∧ (t.slot i).port.trainReq = some 0 ∧
      (t.slot i).egr = (s.slot i).egr ∧ KeepsBut [.alarm, .mgmt, .port, .ctl] s t := by
  obtain ⟨htouch, htraining, htimer, htrain, hlink, hreq⟩ := enterTraining_calm (i := i)
    (noneWaits_takeRequest hnone rest) (by rw [takeRequest_slot, hidle]) (by rw [takeRequest_slot, hrec])
    (by rw [takeRequest_slot, htx])
  have hf : actRetrain i (takeRequest rest s) = doneWith (enterTraining i (takeRequest rest s)) :=
    if_pos (takeRequest_phase.trans hphase)
  have hacts := slotAction_acts hs hr (by decide) hf hnone hi htouch.shuts
    (htouch.shuts.settles (settled_takeRequest hs) (by rw [htraining]; exact Phase.noConfusion))
  obtain ⟨al, hal⟩ := hacts.replied.answeredGrow hs htouch.grow
  refine ⟨_, al, rfl, hal, ?_⟩
  rw [hacts.slot, htouch.egr, takeRequest_slot]
  exact ⟨htraining, htimer, htrain, hlink, hreq, rfl, hacts.replied.keepsBut htouch.keeps⟩

theorem retrain_wrongState (hr : SlotRequest 7 i r) (hphase : (s.slot i).ctl.phase ≠ .admitted) :
    ∃ t, exec .retrain s = .next t ∧ OnlyAnswered r rest .wrongState [] s t :=
  slotAction_refuses hs rfl hr (by decide) (if_neg (by rwa [takeRequest_phase]))

end Traffic

/-- Settles O56, by the states and sub-modes of the slot. -/
theorem trafficActions : Obligations.TrafficActions := by
  intro i r rest s hs hnone hi hrec hidle
  exact ⟨fun hr => ⟨drain_drains hs hnone hi hidle hr, drain_wrongState hs hr⟩,
    fun hr => ⟨rest_rests hs hnone hi hr, rest_wrongState hs hr⟩,
    fun hr => ⟨wake_wakes hs hnone hi hr, wake_wrongState hs hr⟩,
    fun hr => ⟨retrain_trains hs hnone hi hidle hr hrec, retrain_wrongState hs hr⟩⟩

end Sys2Proof.Machine
end

section
/-! PROOFS. Obligation O57: slot actions aimed at the management slot (R134 to R139, R142, R173, R178, R179). -/

namespace Sys2Proof.Machine

/-! ## An action on the management slot, and its reply -/

section Acts

variable {i : Slot} {code : Nat} {ps : List Part} {f : Slot → State → Served} {r : Request} {rest : List Request}
  {s t u : State}

/-- The states in which the management slot is given replies. -/
abbrev repliedPhases : List Phase := [.powering, .training, .admitted, .draining]

theorem mgmtOut_eq_false (hi : i = u.mgmtSlot) : u.mgmtOut = false ↔ (u.slot i).ctl.phase ∈ repliedPhases := by
  unfold State.mgmtOut
  rw [← hi]
  cases (u.slot i).ctl.phase <;> decide

theorem slotAction_served (hs : Servable s r rest) (hr : SlotRequest code i r)
    (hcode : actionCodes.contains code = true) (hf : f i (takeRequest rest s) = doneWith u)
    (hsettle : settleDrains u = u) : serve (.action code) (slotAction f) s = giveReply (replyTo r .done []) u := by
  rw [serve_of_servable _ hs (row_of_slotRequest hr hcode), slotAction_of hr, hf]
  exact congrArg (giveReply (replyTo r .done [])) hsettle

theorem slotAction_replies (hi : i = s.mgmtSlot) (hs : Servable s r rest) (hr : SlotRequest code i r)
    (hcode : actionCodes.contains code = true) (hf : f i (takeRequest rest s) = doneWith u)
    (hsettle : settleDrains u = u) (hmsel : u.mgmt.msel = s.mgmt.msel) (hphase : (u.slot i).ctl.phase ∈ repliedPhases) :
    Replied s.mgmtSlot (replyTo r .done []) u (serve (.action code) (slotAction f) s) := by
  have hslot : i = u.mgmtSlot := hi.trans (mgmtSlot_of_msel hmsel).symm
  have hreplied := giveReply_replied (replyTo r .done []) ((mgmtOut_eq_false hslot).mpr hphase)
  rwa [slotAction_served hs hr hcode hf hsettle, ← hi, hslot]

/-- A slot that is not RESTING in ADMITTED is woken by nothing. -/
theorem wakeReport_idle (h : ¬((u.slot i).ctl.phase = .admitted ∧ (u.slot i).ctl.sub = .resting)) :
    wakeReport i u = u := by
  unfold wakeReport
  rw [applyWake_idle h, ite_self]

theorem Replied.slot_idle {m : Slot} {p : ReplyParcel} (h : Replied m p u t) (hi : i = m)
    (hidle : ¬((u.slot i).ctl.phase = .admitted ∧ (u.slot i).ctl.sub = .resting)) (j : Slot) : t.slot j = u.slot j := by
  rw [h.slots, ← hi, wakeReport_idle hidle]

theorem Replied.othersTaken {m : Slot} {p : ReplyParcel} (h : Replied m p u t) (hi : i = m)
    (hu : OtherSlots i (takeRequest rest s) u) : OtherSlots i s t :=
  fun j hj => by rw [h.others j (hi ▸ hj), hu j hj, takeRequest_slot]

/-- While a reply is still to be placed, the egress of the management slot is not empty. -/
theorem taken_full (hi : i = s.mgmtSlot) : (takeRequest rest s).egressEmpty i = false := by
  rw [← Bool.not_eq_true, egressEmpty_iff]
  intro h
  obtain ⟨-, hclaim⟩ := h.2 (by rw [takeRequest_mgmtSlot, hi])
  simp [takeRequest] at hclaim

/-- An effect on the management slot that leaves the claim has nothing to report. -/
theorem Shuts.settles_claimed (h : Shuts ps i s t) (hs : s.settled) (hi : i = s.mgmtSlot) (hclaim : t.mgmt.claim = true) :
    settleDrains t = t := by
  have hslot : t.mgmtSlot = s.mgmtSlot := mgmtSlot_of_msel h.msel
  refine settleDrains_of_settled (drained_none_of_before hs (fun j hphase hempty => ?_))
  rw [egressEmpty_iff] at hempty
  obtain ⟨hbare, hreplies⟩ := hempty
  have hj : j ≠ i := fun hj => by
    obtain ⟨-, hnone⟩ := hreplies (by rw [hj, hslot, hi])
    exact Bool.false_ne_true (hnone.symm.trans hclaim)
  exact ⟨h.ctls j hj ▸ hphase, egressEmpty_iff.mpr ⟨h.egrs j hj ▸ hbare, fun hm => absurd (hm.trans hi.symm) hj⟩⟩

/-- A part that a change leaves may be taken from the list of those it touches. -/
theorem KeepsBut.drop {qs : List Part} {p : Part} (h : KeepsBut ps s t) (hp : p.Same s t)
    (hps : ∀ q ∈ ps, q = p ∨ q ∈ qs := by decide) : KeepsBut qs s t :=
  ⟨fun q hq => by
    by_cases hqp : q = p
    · exact hqp ▸ hp
    · exact h.1 q (fun hmem => (hps q hmem).elim hqp hq), h.2⟩

end Acts

/-! ## The management slot taken down (R46, R139, R179) -/

section Down

variable {i : Slot} {s t u : State}

theorem emptySwitchQueues_replies : OnlyReplies s (emptySwitchQueues i s) := by
  unfold emptySwitchQueues OnlyReplies
  dsimp only
  split <;> simp

theorem flushSlot_replies : OnlyReplies s (flushSlot i s) := by
  have hbefore := (modEgr_touches i s (fun e => { e with stream := [], control := [], bulk := [] })).then
    (releaseAll_touches i ((s.slot i).egr.stream ++ (s.slot i).egr.control ++ (s.slot i).egr.bulk) _)
    (rs := [.egr, .pool, .alarm, .mgmt])
  exact hbefore.replies.then emptySwitchQueues_replies

theorem emptyMgmt_mgmt (hi : i = s.mgmtSlot) :
    (emptyMgmt i s).mgmt = { s.mgmt with queue := [], store := [], replies := [] } := by
  unfold emptyMgmt
  rw [if_pos hi]
  simp

/-- The state of a slot taken down whose chain is idle, before it enters its new state. -/
def flushed (i : Slot) (s : State) : State := flushSlot i (setLink i .down (powerOffLines i s))

theorem takeDown_idle (ph : Phase) (hidle : (s.slot i).cursor.state = .idle) :
    takeDown i ph s = enterOut i ph (flushed i s) := by
  unfold takeDown flushed
  rw [abortChain_of_idle _ (by rw [(powerOffLines_touches i s).cursor, hidle])]

theorem flushed_shuts (hrec : (s.slot i).ing.reception = none) :
    Shuts [.ctl, .port, .egr, .pool, .alarm, .mgmt] i s (flushed i s) ∧ OnlyReplies s (flushed i s) := by
  have hoff := powerOffLines_touches i s
  have hlink := setLink_touches (i := i) (dst := .down) (s := powerOffLines i s) (by rw [hoff.ing, hrec])
  have hdown := hoff.then hlink (rs := [.ctl, .port, .egr, .pool, .alarm, .mgmt])
  exact ⟨hdown.shuts.then (flushSlot_shuts ..), hdown.replies.then flushSlot_replies⟩

/-- Where nothing waits, taking the management slot down leaves of the management unit no request and no reply. -/
theorem takeDown_mgmt (ph : Phase) (hnone : NoneWaits s) (hidle : (s.slot i).cursor.state = .idle)
    (hrec : (s.slot i).ing.reception = none) (hi : i = s.mgmtSlot) :
    Shuts [.pool, .alarm, .mgmt, .port, .egr, .ctl] i s (takeDown i ph s) ∧
    (takeDown i ph s).mgmt = { s.mgmt with queue := [], store := [], replies := [] } := by
  obtain ⟨hflushed, hreplies⟩ := flushed_shuts hrec
  obtain ⟨-, hnone'⟩ := hflushed.alone hnone
  have hout := enterOut_of_noneWaits (i := i) hnone' ph
  have hset := modCtl_touches i (flushed i s) (Ctl.entering ph)
  have hempty := emptySwitchQueues_shuts i ((flushed i s).modCtl i (Ctl.entering ph))
  have hmgmt : OnlyReplies s (emptySwitchQueues i ((flushed i s).modCtl i (Ctl.entering ph))) :=
    (hreplies.then hset.replies).then emptySwitchQueues_replies
  rw [takeDown_idle ph hidle]
  refine ⟨hflushed.then hout, ?_⟩
  unfold enterOut
  rw [setPhase_of_noneWaits hnone', emptyMgmt_mgmt, hmgmt]
  rw [mgmtSlot_of_msel (hempty.msel.trans (hset.grow.msel.trans hflushed.msel)), hi]

end Down

/-! ## Obligation O57 -/

section Actions

variable {i : Slot} {r : Request} {rest : List Request} {s : State}
variable (hi : i = s.mgmtSlot) (hs : Servable s r rest) (hnone : NoneWaits s) (hidle : (s.slot i).cursor.state = .idle)

include hi hs

theorem mgmt_phase : (s.slot i).ctl.phase ∈ repliedPhases := by
  obtain ⟨-, -, -, hout, -⟩ := hs
  exact (mgmtOut_eq_false hi).mp hout

theorem mgmt_powerOn (hr : SlotRequest 1 i r) :
    ∃ t, exec .powerOn s = .next t ∧ OnlyAnswered r rest .wrongState [] s t := by
  refine powerOn_wrongState hs hr fun h => ?_
  have hphase := mgmt_phase hi hs
  rcases h with h | ⟨h, -⟩
  all_goals rw [h] at hphase; exact absurd hphase (by decide)

theorem mgmt_clear (hr : SlotRequest 6 i r) :
    ∃ t, exec .clear s = .next t ∧ OnlyAnswered r rest .wrongState [] s t := by
  refine clear_wrongState hs hr fun h => ?_
  have hphase := mgmt_phase hi hs
  rw [h] at hphase
  exact absurd hphase (by decide)

include hnone hidle in
theorem mgmt_powerOff (hrec : (s.slot i).ing.reception = none) (hr : SlotRequest 2 i r) :
    ∃ t, exec .powerOff s = .next t ∧ t.mgmt = { s.mgmt with queue := [], store := [], replies := [] } ∧
      (t.slot i).ctl.phase = .quiesced ∧ (t.slot i).ctl.pwrEn = false ∧ (t.slot i).ctl.timer = none ∧
      (t.slot i).port.link = .down ∧ (t.slot i).egr.stream = [] ∧ (t.slot i).egr.control = [] ∧
      (t.slot i).egr.bulk = [] ∧ (t.slot i).egr.express = [] ∧
      KeepsBut [.pool, .log, .alarm, .mgmt, .port, .ing, .egr, .ctl] s t ∧ OtherSlots i s t := by
  have hnone' := noneWaits_takeRequest hnone rest
  have hrec' : ((takeRequest rest s).slot i).ing.reception = none := by rw [takeRequest_slot, hrec]
  have htake := takeRequest_keepsBut rest s
  obtain ⟨hshut, hmgmt⟩ := takeDown_mgmt .quiesced hnone' (by rw [takeRequest_slot, hidle]) hrec'
    (hi.trans (takeRequest_mgmtSlot rest s).symm)
  have hdown := takeDown_down .quiesced hrec'
  obtain ⟨u, hu⟩ : ∃ u, u = takeDown i .quiesced (takeRequest rest s) := ⟨_, rfl⟩
  rw [← hu] at hshut hmgmt hdown
  have hf : actPowerOff i (takeRequest rest s) = doneWith u :=
    hu ▸ actPowerOff_takesDown (by rw [takeRequest_phase]; exact mgmt_phase hi hs)
  have hsettle := hshut.settles (settled_takeRequest hs) (by rw [hdown.ctl]; exact Phase.noConfusion)
  obtain ⟨v, hv⟩ : ∃ v, v = u.modMgmt (fun m => { m with claim := false }) := ⟨_, rfl⟩
  have hslots (j : Slot) : v.slot j = u.slot j := by rw [hv]; simp
  have hout : v.mgmtOut = true := by
    have hslot : v.mgmtSlot = i :=
      (mgmtSlot_of_msel (by rw [hv]; simp)).trans
        ((mgmtSlot_of_msel (hshut.msel.trans (takeRequest_msel rest s))).trans hi.symm)
    unfold State.mgmtOut
    rw [hslot, hslots, hdown.ctl]
    rfl
  have hgive : giveReply (replyTo r .done []) u = v := by
    unfold giveReply
    rw [← hv]
    exact if_pos hout
  have hexec : exec .powerOff s = .next v :=
    congrArg Host.Outcome.next ((slotAction_served hs hr (by decide) hf hsettle).trans hgive)
  obtain ⟨hstream, hcontrol, hbulk, hexpress⟩ := hdown.queues
  obtain ⟨-, -, hclaim, -, -⟩ := hs
  refine ⟨v, hexec, ?_, ?_⟩
  · rw [hv, State.modMgmt]
    dsimp only
    rw [hmgmt]
    simp [takeRequest, hclaim]
  rw [hslots]
  refine ⟨?_, ?_, ?_, hdown.link, hstream, hcontrol, hbulk, hexpress, ?_, fun j hj => ?_⟩
  · simp only [hdown.ctl, Ctl.entering]
  · simp only [hdown.ctl, Ctl.entering, Ctl.poweredOff]
  · simp only [hdown.ctl, Ctl.entering]
  · have hlast : KeepsBut [.mgmt] u v := hv ▸ modMgmt_keepsBut ..
    exact (htake.then hshut.keeps (rs := [.pool, .alarm, .mgmt, .port, .egr, .ctl])).then hlast
  · rw [hslots, (hshut.alone hnone').1 j hj, takeRequest_slot]

include hnone hidle in
theorem mgmt_drain (hr : SlotRequest 3 i r) (hphase : (s.slot i).ctl.phase = .admitted) :
    ∃ t, exec .drain s = .next t ∧ Answered r rest .done [] s t ∧
      (t.slot i).ctl = { (s.slot i).ctl with
        phase := .draining, sub := .awake, restReq := false, train := Training.none, reason := none,
        timer := some { kind := .drain, start := s.timing.uptime } } ∧
      (t.slot i).port = { (s.slot i).port with
        wakeAsked := (s.slot i).port.wakeAsked ||
          ((s.slot i).ctl.sub == .resting && !(s.slot i).ctl.restReq) } ∧
      KeepsBut [.mgmt, .port, .ctl] s t ∧ OtherSlots i s t := by
  obtain ⟨htouch, hctl, hport⟩ := enterDraining_drains (noneWaits_takeRequest hnone rest)
    (by rw [takeRequest_slot, hidle]) (taken_full (rest := rest) hi)
  have hf : actDrain i (takeRequest rest s) = doneWith (enterDraining i (takeRequest rest s)) :=
    if_pos (takeRequest_phase.trans hphase)
  have hsettle := htouch.shuts.settles_claimed (settled_takeRequest hs) (hi.trans (takeRequest_mgmtSlot rest s).symm)
    (by rw [htouch.mgmt]; simp [takeRequest])
  have hreplied := slotAction_replies hi hs hr (by decide) hf hsettle (by rw [htouch.mgmt, takeRequest_msel])
    (by rw [hctl]; simp)
  have hslot := hreplied.slot_idle hi (by rw [hctl]; simp) i
  have hothers := hreplied.othersTaken hi htouch.others
  refine ⟨_, rfl, hreplied.answered hs htouch.mgmt, ?_, ?_, hreplied.keepsBut htouch.keeps, hothers⟩
  · rw [hslot, hctl, takeRequest_slot, (takeRequest_keepsBut rest s).timing]
  · rw [hslot, hport, takeRequest_slot]

theorem mgmt_rest (hr : SlotRequest 4 i r) (hawake : s.isAwake i = true) :
    ∃ t, exec .rest s = .next t ∧ Answered r rest .done [] s t ∧
      (t.slot i).ctl = (if (s.slot i).cfg.wakeOnTraffic = true
        then { (s.slot i).ctl with sub := .awake, restReq := false }
        else { (s.slot i).ctl with sub := .resting, restReq := true }) ∧
      (t.slot i).port = (s.slot i).port ∧ (t.slot i).egr = (s.slot i).egr.occasion ∧
      KeepsBut [.mgmt, .ctl, .egr] s t ∧ OtherSlots i s t := by
  obtain ⟨hphase, -⟩ := isAwake_iff.mp hawake
  obtain ⟨u, hu⟩ : ∃ u, u = rested i (takeRequest rest s) := ⟨_, rfl⟩
  obtain ⟨htouch, hctl, hegr⟩ := rested_spec i (takeRequest rest s)
  rw [takeRequest_slot] at hctl hegr
  rw [← hu] at htouch hctl hegr
  have hf : actRest i (takeRequest rest s) = doneWith u := hu ▸ if_pos (isAwake_takeRequest.trans hawake)
  have hsettle := htouch.settles (settled_takeRequest hs) (by rw [hctl, hphase]; exact Phase.noConfusion)
  have hreplied := slotAction_replies hi hs hr (by decide) hf hsettle (by rw [htouch.mgmt, takeRequest_msel])
    (by rw [hctl, hphase]; decide)
  have hothers := hreplied.othersTaken hi htouch.others
  have hslot := hreplied.slots i
  rw [← hi] at hslot
  have hresting : (u.slot i).ctl.phase = .admitted ∧ (u.slot i).ctl.sub = .resting := by
    rw [hctl]
    exact ⟨hphase, rfl⟩
  have hcfg : (u.slot i).cfg = (s.slot i).cfg := by rw [htouch.cfg, takeRequest_slot]
  have hwoken : (wakeReport i u).slot i = if (s.slot i).cfg.wakeOnTraffic = true
      then { u.slot i with ctl := { (s.slot i).ctl with sub := .awake, restReq := false } } else u.slot i := by
    unfold wakeReport
    rw [hcfg]
    split
    next => rw [applyWake_withdraws hresting (by rw [hctl]), State.modCtl, slot_setSlot_self, hctl]
    next => rfl
  rw [hwoken] at hslot
  have hport : ((serve (.action 4) (slotAction actRest) s).slot i).port = (s.slot i).port := by
    rw [hslot]
    split
    all_goals exact (htouch.port (by decide) i).trans (by rw [takeRequest_slot])
  have hports (j : Slot) : ((serve (.action 4) (slotAction actRest) s).slot j).port = (s.slot j).port := by
    by_cases hj : j = i
    · rw [hj, hport]
    · rw [hothers j hj]
  refine ⟨_, rfl, hreplied.answered hs htouch.mgmt, ?_, hport, ?_,
    (hreplied.keepsBut htouch.keeps (rs := [.mgmt, .port, .ctl, .egr])).drop (p := .port) hports, hothers⟩
  · rw [hslot]
    split
    · rfl
    · exact hctl
  · rw [hreplied.keeps.egr, hegr]

theorem mgmt_wake (hr : SlotRequest 5 i r) (hphase : (s.slot i).ctl.phase = .admitted)
    (hsub : (s.slot i).ctl.sub = .resting) :
    ∃ t, exec .wake s = .next t ∧ Answered r rest .done [] s t ∧
      (t.slot i).ctl = (if (s.slot i).ctl.restReq = true
        then { (s.slot i).ctl with restReq := false, sub := .awake }
        else { (s.slot i).ctl with
          sub := .waking, timer := some { kind := .wake, start := s.timing.uptime } }) ∧
      (t.slot i).port.wakeAsked = ((s.slot i).port.wakeAsked || !(s.slot i).ctl.restReq) ∧
      KeepsBut [.mgmt, .port, .ctl] s t ∧ OtherSlots i s t := by
  have hresting : ((takeRequest rest s).slot i).ctl.phase = .admitted ∧
      ((takeRequest rest s).slot i).ctl.sub = .resting := by rw [takeRequest_slot]; exact ⟨hphase, hsub⟩
  have htouch := applyWake_touches (takeRequest rest s) i
  obtain ⟨hctl, hport⟩ := applyWake_spec hresting
  rw [takeRequest_slot, (takeRequest_keepsBut rest s).timing] at hctl
  rw [takeRequest_slot] at hport
  have hwoken : ((applyWake i (takeRequest rest s)).slot i).ctl.phase = .admitted ∧
      ((applyWake i (takeRequest rest s)).slot i).ctl.sub ≠ .resting := by
    rw [hctl]
    split
    all_goals exact ⟨hphase, SubMode.noConfusion⟩
  obtain ⟨hstays, hawake⟩ := hwoken
  have hf : actWake i (takeRequest rest s) = doneWith (applyWake i (takeRequest rest s)) := if_pos hresting
  have hsettle := htouch.settles (settled_takeRequest hs) (by rw [hstays]; exact Phase.noConfusion)
  have hreplied := slotAction_replies hi hs hr (by decide) hf hsettle (by rw [htouch.mgmt, takeRequest_msel])
    (by rw [hstays]; decide)
  have hslot := hreplied.slot_idle hi (fun h => hawake h.2) i
  have hothers := hreplied.othersTaken hi htouch.others
  refine ⟨_, rfl, hreplied.answered hs htouch.mgmt, ?_, ?_, hreplied.keepsBut htouch.keeps, hothers⟩
  · rw [hslot, hctl]
  · rw [hslot, hport]

include hnone hidle in
theorem mgmt_retrain (hrec : (s.slot i).ing.reception = none) (hr : SlotRequest 7 i r)
    (hphase : (s.slot i).ctl.phase = .admitted) (htx : (s.slot i).egr.tx = .idle) :
    ∃ t al, exec .retrain s = .next t ∧ AnsweredAfter al r rest .done [] s t ∧
      (t.slot i).ctl.phase = .training ∧ (t.slot i).ctl.timer = none ∧ (t.slot i).ctl.train =
        { attempt := 1, exchange := 0, step := .request, samples := [] } ∧
      (t.slot i).port.link = .training ∧ (t.slot i).port.trainReq = some 0 ∧
      (t.slot i).egr = (s.slot i).egr ∧ KeepsBut [.alarm, .mgmt, .port, .ctl] s t ∧ OtherSlots i s t := by
  obtain ⟨u, hu⟩ : ∃ u, u = enterTraining i (takeRequest rest s) := ⟨_, rfl⟩
  obtain ⟨htouch, htraining, htimer, htrain, hlink, hreq⟩ := enterTraining_calm (i := i)
    (noneWaits_takeRequest hnone rest) (by rw [takeRequest_slot, hidle]) (by rw [takeRequest_slot, hrec])
    (by rw [takeRequest_slot, htx])
  rw [← hu] at htouch htraining htimer htrain hlink hreq
  have hf : actRetrain i (takeRequest rest s) = doneWith u := hu ▸ if_pos (takeRequest_phase.trans hphase)
  have hsettle := htouch.settles (settled_takeRequest hs) (by rw [htraining]; exact Phase.noConfusion)
  have hreplied := slotAction_replies hi hs hr (by decide) hf hsettle
    (htouch.grow.msel.trans (takeRequest_msel rest s)) (by rw [htraining]; decide)
  have hslot := hreplied.slot_idle hi (by rw [htraining]; simp) i
  have hothers := hreplied.othersTaken hi htouch.others
  obtain ⟨al, hal⟩ := hreplied.answeredGrow hs htouch.grow
  refine ⟨_, al, rfl, hal, ?_⟩
  rw [hslot, htouch.egr, takeRequest_slot]
  exact ⟨htraining, htimer, htrain, hlink, hreq, rfl, hreplied.keepsBut htouch.keeps, hothers⟩

end Actions

/-- Settles O57, action by action. -/
theorem managementSlotActions : Obligations.ManagementSlotActions := by
  intro i r rest s hi hs hnone hrec hidle
  exact ⟨mgmt_powerOn hi hs, mgmt_powerOff hi hs hnone hidle hrec,
    fun hr => ⟨mgmt_drain hi hs hnone hidle hr, drain_wrongState hs hr⟩,
    fun hr => ⟨mgmt_rest hi hs hr, rest_wrongState hs hr⟩,
    fun hr => ⟨mgmt_wake hi hs hr, wake_wrongState hs hr⟩, mgmt_clear hi hs,
    fun hr => ⟨mgmt_retrain hi hs hnone hidle hrec hr, retrain_wrongState hs hr⟩⟩

end Sys2Proof.Machine
end

section
/-! PROOFS. Obligation O15: what POWER-ON and PIN reset leave (R16, R37, R57, R144, R170, R180, R181). -/

namespace Sys2Proof.Machine

/-! ## A slot with nothing queued goes out of service silently -/

section Bare

variable {i : Slot} {r : FaultReason} {s : State}

theorem modCtl_modCtl (f g : Ctl → Ctl) : (s.modCtl i f).modCtl i g = s.modCtl i (fun c => g (f c)) := by
  simp [State.modCtl, setSlot_setSlot]

/-- Nothing waits, is queued, is received or is raised at a slot, and the management unit holds nothing. -/
structure Unused (i : Slot) (s : State) : Prop where
  none : NoneWaits s
  idle : (s.slot i).cursor.state = .idle
  egr : (s.slot i).egr = Egress.reset
  port : (s.slot i).port = Port.reset
  mgmt : s.mgmt.queue = [] ∧ s.mgmt.store = [] ∧ s.mgmt.replies = []
  cardAlarm : s.isRaised causeCardAlarm i.val = false

theorem powerOffLines_unused (h : Unused i s) : powerOffLines i s = s.modCtl i Ctl.poweredOff := by
  have hset := modCtl_touches i s Ctl.poweredOff
  have hnot : (s.modCtl i Ctl.poweredOff).isRaised causeCardAlarm i.val = false := by
    rw [isRaised_of_alarm hset.alarm, h.cardAlarm]
  exact clearCond_of_absent hnot

theorem setLink_down_unused (hport : (s.slot i).port = Port.reset) : setLink i .down s = s := by
  rw [setLink_plain (by rw [hport]; rfl)]
  exact modPort_self (by rw [hport]; rfl)

theorem modMgmt_self {f : Mgmt → Mgmt} (h : f s.mgmt = s.mgmt) : s.modMgmt f = s := by
  unfold State.modMgmt
  rw [h]

theorem emptySwitchQueues_unused (hegr : (s.slot i).egr = Egress.reset) (hreplies : s.mgmt.replies = []) :
    emptySwitchQueues i s = s := by
  have hself : s.modEgr i (fun e => { e with express := [] }) = s := modEgr_self (by rw [hegr]; rfl)
  unfold emptySwitchQueues
  dsimp only
  rw [hself, modMgmt_self (by rw [← hreplies]), ite_self]

theorem flushSlot_unused (hegr : (s.slot i).egr = Egress.reset) (hreplies : s.mgmt.replies = []) :
    flushSlot i s = s := by
  have hself : s.modEgr i (fun e => { e with stream := [], control := [], bulk := [] }) = s :=
    modEgr_self (by rw [hegr]; rfl)
  unfold flushSlot
  dsimp only
  rw [hself, hegr]
  exact emptySwitchQueues_unused hegr hreplies

theorem emptyMgmt_unused (hmgmt : s.mgmt.queue = [] ∧ s.mgmt.store = [] ∧ s.mgmt.replies = []) : emptyMgmt i s = s := by
  obtain ⟨hqueue, hstore, hreplies⟩ := hmgmt
  unfold emptyMgmt
  rw [modMgmt_self (by rw [← hqueue, ← hstore, ← hreplies]), ite_self]

/-- The controls of a slot that a fault leaves. -/
def Ctl.faulted (r : FaultReason) (c : Ctl) : Ctl := { c.poweredOff.entering .faulted with reason := some r }

/-- A fault of such a slot changes its controls and raises SLOT-FAULT. -/
theorem fault_unused (h : Unused i s) :
    fault i r s = raiseCond causeSlotFault i.val (wordOf r.code) (s.modCtl i (Ctl.faulted r)) := by
  obtain ⟨hqueue, hstore, hreplies⟩ := h.mgmt
  have hoff := modCtl_touches i s Ctl.poweredOff
  have henter := modCtl_touches i (s.modCtl i Ctl.poweredOff) (Ctl.entering .faulted)
  have hboth := hoff.then henter (rs := [.ctl])
  have hdown : takeDown i .faulted s = (s.modCtl i Ctl.poweredOff).modCtl i (Ctl.entering .faulted) := by
    unfold takeDown enterOut
    rw [powerOffLines_unused h, abortChain_of_idle _ (by rw [hoff.cursor, h.idle]),
      setLink_down_unused (by rw [hoff.port, h.port]),
      flushSlot_unused (by rw [hoff.egr, h.egr]) (by rw [hoff.mgmt, hreplies]),
      setPhase_of_noneWaits (noneWaits_of_ing h.none hoff.ing),
      emptySwitchQueues_unused (by rw [hboth.egr, h.egr]) (by rw [hboth.mgmt, hreplies]),
      emptyMgmt_unused (by rw [hboth.mgmt]; exact h.mgmt)]
  unfold fault
  rw [hdown, modCtl_modCtl, modCtl_modCtl]
  rfl

end Bare

/-! ## The judgement of the slots (R144, R181) -/

section Judging

variable {i : Slot} {s t u v : State}

/-- How far the slots have been judged: a slot is EMPTY, TRAINING or FAULTED, SLOT-FAULT stands for the FAULTED ones
and nothing else stands, and the alarm unit has heard of nothing but faults. -/
structure Starting (u t : State) : Prop where
  keeps : KeepsBut [.ctl, .port, .alarm] u t
  phases : ∀ j, (t.slot j).ctl.phase ≠ .admitted
  faults : ∀ j : Slot, t.isRaised causeSlotFault j.val = true ↔ (t.slot j).ctl.phase = .faulted
  quiet : ∀ c m, c ≠ causeSlotFault → m < 64 → t.isRaised c m = false
  silent : (∀ j, (t.slot j).ctl.phase ≠ .faulted) → t.alarm = u.alarm

/-- A slot judged without a fault. -/
theorem Starting.calm (h : Starting u t) (g : Touches [.ctl, .port] i t v) (hbefore : (t.slot i).ctl.phase ≠ .faulted)
    (hadmitted : (v.slot i).ctl.phase ≠ .admitted) (hfaulted : (v.slot i).ctl.phase ≠ .faulted) : Starting u v where
  keeps := h.keeps.then g.keeps
  phases j := by
    by_cases hj : j = i
    · exact hj ▸ hadmitted
    · exact g.others j hj ▸ h.phases j
  faults j := by
    rw [isRaised_of_alarm g.alarm, h.faults j]
    by_cases hj : j = i
    · subst hj
      exact iff_of_false hbefore hfaulted
    · rw [g.others j hj]
  quiet c m hc hm := by rw [isRaised_of_alarm g.alarm, h.quiet c m hc hm]
  silent hall := by
    rw [g.alarm]
    refine h.silent fun j => ?_
    by_cases hj : j = i
    · exact hj ▸ hbefore
    · exact g.others j hj ▸ hall j

/-- A slot judged FAULTED. -/
theorem Starting.fault (h : Starting u t) {w : Word} {f : Ctl → Ctl} (hf : (f (t.slot i).ctl).phase = .faulted)
    (hv : v = raiseCond causeSlotFault i.val w (t.modCtl i f)) :
    Starting u v ∧ OtherSlots i t v ∧ v.slot i = { t.slot i with ctl := f (t.slot i).ctl } := by
  have hset := modCtl_touches i t f
  have hslots (j : Slot) : v.slot j = (t.modCtl i f).slot j := by rw [hv, raiseCond_slot]
  have hself : v.slot i = { t.slot i with ctl := f (t.slot i).ctl } := by
    rw [hslots, State.modCtl, slot_setSlot_self]
  have hothers : OtherSlots i t v := fun j hj => by rw [hslots, hset.others j hj]
  have hphases : ∀ j, (t.modCtl i f).slot j = v.slot j := fun j => (hslots j).symm
  have hnot (j : Slot) : ((t.modCtl i f).slot j).ctl.phase ≠ .admitted := by
    rw [hphases]
    by_cases hj : j = i
    · rw [hj, hself, hf]
      exact Phase.noConfusion
    · rw [hothers j hj]
      exact h.phases j
  have hraise := raiseCond_touches i (t.modCtl i f) causeSlotFault i.val w
  have hmgmt : v.mgmt = t.mgmt := by rw [hv, raiseCond_out (hnot _), hset.mgmt]
  have hkeeps : KeepsBut [.ctl, .alarm, .mgmt] t v := hv ▸ (hset.then hraise (rs := [.ctl, .alarm, .mgmt])).keeps
  have hraised (c : Fin 64) (m : Nat) : v.isRaised c m =
      (decide (pairKey c m = pairKey causeSlotFault i.val) || t.isRaised c m) := by
    rw [hv, isRaised_raiseCond, isRaised_of_alarm hset.alarm]
  refine ⟨⟨h.keeps.then (hkeeps.drop (qs := [.ctl, .alarm]) (p := .mgmt) hmgmt), fun j => hphases j ▸ hnot j, fun j => ?_,
    fun c m hc hm => ?_, fun hall => absurd (hself ▸ hf) (hall i)⟩, hothers, hself⟩
  · rw [hraised, Bool.or_eq_true, decide_eq_true_iff, pairKey_inj (slot_lt j) (slot_lt i), h.faults j]
    by_cases hj : j = i
    · subst hj
      exact iff_of_true (.inl ⟨rfl, rfl⟩) (hself ▸ hf)
    · rw [hothers j hj]
      exact or_iff_right fun hboth => hj (Fin.ext hboth.2)
  · rw [hraised, h.quiet c m hc hm, Bool.or_false, decide_eq_false_iff_not, pairKey_inj hm (slot_lt i)]
    exact fun hboth => hc hboth.1

/-- A slot after its judgement, with the debouncers that following its lines leaves. -/
def SlotState.judged (d0 d1 : Debounce) (y : SlotState) : SlotState :=
  if y.ctl.pwrEn then
    if y.ctl.presL && y.ctl.presS then
      if y.ctl.pwrGood then
        { y with
          port := { y.port with link := .training, trainReq := some 0 },
          ctl := { y.ctl.entering .training with inputsEn := true, train := Training.first, deb0 := d0, deb1 := d1 } }
      else { y with ctl := y.ctl.faulted .powerLost }
    else { y with ctl := y.ctl.poweredOff }
  else y

theorem slot_eq_of_touches {qs : List Part} (h : KeepsBut qs s t) (hqs : qs ⊆ [.ctl, .port, .alarm, .mgmt])
    (j : Slot) : t.slot j = { s.slot j with port := (t.slot j).port, ctl := (t.slot j).ctl } := by
  have hkeeps : KeepsBut [.ctl, .port, .alarm, .mgmt] s t := h.mono hqs
  cases ht : t.slot j with
  | mk cfg port ing egr ctl edges cursor =>
    dsimp only
    rw [← hkeeps.cfg (by decide) j, ← hkeeps.ing (by decide) j, ← hkeeps.egr (by decide) j,
      ← hkeeps.1 .edges (by decide) j, ← hkeeps.cursor (by decide) j, ht]

/-- A slot whose power is kept and good trains with its inputs enabled. -/
theorem judge_trains (h : Unused i t) :
    ∃ d0 d1, Touches [.ctl, .port] i t
        (followLines i (enterTraining i (t.modCtl i (fun c => { c with inputsEn := true })))) ∧
      (followLines i (enterTraining i (t.modCtl i (fun c => { c with inputsEn := true })))).slot i =
        { t.slot i with
          port := { (t.slot i).port with link := .training, trainReq := some 0 },
          ctl := { (t.slot i).ctl.entering .training with
            inputsEn := true, train := Training.first, deb0 := d0, deb1 := d1 } } := by
  obtain ⟨v, hv⟩ : ∃ v, v = t.modCtl i (fun c => { c with inputsEn := true }) := ⟨_, rfl⟩
  have hset : Touches [.ctl] i t v := hv ▸ modCtl_touches ..
  have hctl : (v.slot i).ctl = { (t.slot i).ctl with inputsEn := true } := by rw [hv, modCtl_ctl_self]
  have hplain : setLink i .training v = v.modPort i (·.withLink .training) :=
    setLink_plain (by rw [hset.port, h.port]; rfl)
  have hlink : Touches [.port] i v (setLink i .training v) := hplain ▸ modPort_touches ..
  have htrains := enterTraining_trains (noneWaits_of_ing h.none hset.ing) (by rw [hset.cursor, h.idle]) hlink
  have hfollow := followLines_touches i (enterTraining i v)
  have hctl' : ((enterTraining i v).slot i).ctl =
      { (t.slot i).ctl.entering .training with inputsEn := true, train := Training.first } := by
    rw [htrains.ctl, hlink.ctl, hctl]
    rfl
  have hport : ((enterTraining i v).slot i).port =
      { (t.slot i).port with link := .training, trainReq := some 0 } := by
    rw [htrains.port, hplain, modPort_port_self, hset.port]
    rfl
  have hall : Touches [.ctl, .port] i t (followLines i (enterTraining i v)) :=
    ((hset.then hlink (rs := [.ctl, .port])).then htrains.touches (rs := [.ctl, .port])).then hfollow
  obtain ⟨x, hx⟩ : ∃ x, x = ((enterTraining i v).slot i).followed (enterTraining i v).timing.uptime := ⟨_, rfl⟩
  have hfollowed : ((followLines i (enterTraining i v)).slot i).ctl = x :=
    hx ▸ followLines_ctl (by rw [hctl'])
  have hdeb : x = { (t.slot i).ctl.entering .training with
      inputsEn := true, train := Training.first, deb0 := x.deb0, deb1 := x.deb1 } := by
    rw [hx, SlotState.followed, hctl']
  rw [← hv]
  refine ⟨x.deb0, x.deb1, hall, ?_⟩
  rw [slot_eq_of_touches hall.keeps (by decide), hfollowed, hfollow.port, hport, ← hdeb]

/-- The judgement of one slot that is as the reset left it. -/
theorem judgeRetained_spec (h : Starting u t) (hun : Unused i t) (h0 : (t.slot i).ctl.phase = .empty) :
    Starting u (judgeRetained i t) ∧ OtherSlots i t (judgeRetained i t) ∧
    ∃ d0 d1, (judgeRetained i t).slot i = (t.slot i).judged d0 d1 := by
  have hbefore : (t.slot i).ctl.phase ≠ .faulted := by rw [h0]; exact Phase.noConfusion
  unfold judgeRetained SlotState.judged
  dsimp only
  split
  · split
    · split
      · obtain ⟨d0, d1, htouch, hslot⟩ := judge_trains hun
        refine ⟨h.calm htouch hbefore ?_ ?_, htouch.others, d0, d1, hslot⟩
        all_goals rw [hslot]; exact Phase.noConfusion
      · obtain ⟨hstarts, hothers, hslot⟩ := h.fault (i := i) (f := Ctl.faulted .powerLost) rfl (fault_unused hun)
        exact ⟨hstarts, hothers, Debounce.rest, Debounce.rest, hslot⟩
    · have hoff := modCtl_touches i t Ctl.poweredOff
      have hctl : ((t.modCtl i Ctl.poweredOff).slot i).ctl.phase = .empty := by rw [modCtl_ctl_self]; exact h0
      rw [powerOffLines_unused hun]
      refine ⟨h.calm hoff.mono hbefore ?_ ?_, hoff.others, Debounce.rest, Debounce.rest, ?_⟩
      · rw [hctl]
        exact Phase.noConfusion
      · rw [hctl]
        exact Phase.noConfusion
      · rw [State.modCtl, slot_setSlot_self]
  · exact ⟨h, .refl i t, Debounce.rest, Debounce.rest, rfl⟩

end Judging

/-! ## The blocks after a reset (R180, R181) -/

section Blocks

variable {pin msel retain : Bool} {s : State}

/-- Setting every slot leaves each as it was set. -/
theorem foldl_set_get (g : Slot → SlotState) (l : List Slot) (v : Vector SlotState 16) (i : Slot) :
    (l.foldl (fun v (j : Slot) => v.set j (g j)) v)[i] = if i ∈ l then g i else v[i] := by
  induction l generalizing v with
  | nil => rfl
  | cons j l ih =>
    rw [List.foldl_cons, ih]
    by_cases hl : i ∈ l
    · rw [if_pos hl, if_pos (List.mem_cons_of_mem j hl)]
    · rw [if_neg hl]
      by_cases hj : i = j
      · subst hj
        rw [if_pos List.mem_cons_self]
        simp
      · rw [if_neg (by simp [hl, hj])]
        simp only [Fin.getElem_fin, Vector.getElem_set]
        exact if_neg fun h => hj (Fin.ext h.symm)

theorem resetBlocks_slot (i : Slot) : (resetBlocks pin msel retain s).slot i = s.resetSlot pin msel retain i := by
  unfold State.slot resetBlocks
  dsimp only
  rw [foldl_set_get, if_pos (mem_allSlots_all i)]

/-- What a reset leaves of every slot, before the judgement of the retained ones. -/
theorem resetSlot_fields (i : Slot) : (s.resetSlot pin msel retain i).ing = Ingress.reset ∧
    (s.resetSlot pin msel retain i).egr = Egress.reset ∧ (s.resetSlot pin msel retain i).port = Port.reset ∧
    (s.resetSlot pin msel retain i).cursor = Cursor.idle ∧ (s.resetSlot pin msel retain i).ctl.phase = .empty := by
  unfold State.resetSlot
  dsimp only
  split <;> exact ⟨rfl, rfl, rfl, rfl, rfl⟩

/-- The state in which the slots are judged: the blocks reset and RESTARTED posted. -/
def restarted (pin msel retain : Bool) (s : State) : State :=
  postRestarted (boolNat pin) (strapsNat msel retain) (resetBlocks pin msel retain s)

/-- With no slot ADMITTED an event is heard by the alarm unit alone. -/
theorem postEvent_unheard {u : State} (hphase : ∀ j, (u.slot j).ctl.phase ≠ .admitted) (c : Fin 64) (n : Nat) (w : Word) :
    KeepsBut [.alarm] u (postEvent c n w u) := by
  have htrack : KeepsBut [.alarm] u (trackPosted c n u) := modAlarm_keepsBut ..
  have hmgmt : (postEvent c n w u).mgmt = u.mgmt := by
    unfold postEvent
    split
    · split
      · simp [suppressEvent]
      · rw [postEntry_out _ _ (by rw [htrack.ctl]; exact hphase _), htrack.mgmt]
    · rfl
  exact (postEvent_keepsBut u c n w).drop (p := .mgmt) hmgmt

theorem restarted_keeps : KeepsBut [.alarm] (resetBlocks pin msel retain s) (restarted pin msel retain s) := by
  unfold restarted postRestarted
  refine postEvent_unheard (fun j => ?_) ..
  rw [resetBlocks_slot, (resetSlot_fields j).2.2.2.2]
  exact Phase.noConfusion

theorem restarted_slot (i : Slot) : (restarted pin msel retain s).slot i = s.resetSlot pin msel retain i := by
  rw [restarted, postRestarted, postEvent_slot, resetBlocks_slot]

theorem restarted_isRaised (c : Fin 64) (m : Nat) : (restarted pin msel retain s).isRaised c m = false := by
  rw [restarted, postRestarted, isRaised_postEvent]
  rfl

/-- The entry of a reset: RESTARTED with the straps, stamped at time 0. -/
def restartEntry (pin msel retain : Bool) : AlarmEntry :=
  { cause := 41, inst := boolNat pin, action := .event, severity := .warning, repeats := 0,
    param := wordOf (strapsNat msel retain), stamp := { sec := 0, ns := 0 } }

theorem restarted_alarm {a : Alarm} (ha : a = s.alarm.reset pin) (hidx : a.idx < 127) :
    (restarted pin msel retain s).alarm.idx = a.idx + 1 ∧ (restarted pin msel retain s).alarm.count = a.count + 1 ∧
    (restarted pin msel retain s).alarm.queue = assocPut a.queue a.idx (restartEntry pin msel retain) := by
  obtain ⟨u, hu⟩ : ∃ u, u = resetBlocks pin msel retain s := ⟨_, rfl⟩
  have halarm : u.alarm = a := by rw [hu, ha]; rfl
  have hcause : u.cause causeRestarted = CauseCfg.default 41 := by
    rw [State.cause, halarm, ha]
    rfl
  have htrack : u.alarm.track = [] := by rw [halarm, ha]; rfl
  have hentry : makeEntry causeRestarted (boolNat pin) .event 0 (wordOf (strapsNat msel retain)) u =
      restartEntry pin msel retain := by
    unfold makeEntry State.severityOf
    rw [hcause, State.now, hu]
    rfl
  have hposted : restarted pin msel retain s = postEntry causeRestarted (boolNat pin) .event 0
      (wordOf (strapsNat msel retain)) (trackPosted causeRestarted (boolNat pin) u) := by
    have hrepeats : u.pendingRepeats causeRestarted (boolNat pin) = 0 := by
      rw [State.pendingRepeats, htrack]
      rfl
    rw [restarted, postRestarted, ← hu, postEvent_of_posted (by rw [hcause]; rfl)
      (heldOff_of_not (fun x hx => by rw [htrack] at hx; cases hx)), hrepeats]
  have hsame : (trackPosted causeRestarted (boolNat pin) u).alarm.idx = a.idx ∧
      (trackPosted causeRestarted (boolNat pin) u).alarm.count = a.count ∧
      (trackPosted causeRestarted (boolNat pin) u).alarm.queue = a.queue := by
    rw [← halarm]
    exact ⟨rfl, rfl, rfl⟩
  obtain ⟨hsidx, hscount, hsqueue⟩ := hsame
  rw [hposted, postEntry_room_alarm _ _ (by rw [hsidx]; exact hidx), makeEntry_trackPosted, hentry, hsidx, hscount,
    hsqueue]
  exact ⟨rfl, rfl, rfl⟩

end Blocks

/-! ## The switch after a reset -/

section Started

variable {pin msel retain : Bool} {s : State}

/-- A slot whose seat timer starts where both contacts are made. -/
def SlotState.seatTimed (x : SlotState) : SlotState :=
  { x with
    ctl := if x.ctl.phase = .empty ∧ x.ctl.presL = true ∧ x.ctl.presS = true
      then { x.ctl with timer := some { kind := .seat, start := 0 } } else x.ctl }

/-- The switch after a reset. -/
def afterReset (pin msel retain : Bool) (s : State) : State :=
  ((restarted pin msel retain s).eachSlot judgeRetained).eachSlot seatDebounce

theorem starting_restarted : Starting (restarted pin msel retain s) (restarted pin msel retain s) where
  keeps := .refl ..
  phases j := by
    rw [restarted_slot, (resetSlot_fields j).2.2.2.2]
    exact Phase.noConfusion
  faults j := by
    rw [restarted_isRaised, restarted_slot, (resetSlot_fields j).2.2.2.2]
    exact iff_of_false Bool.false_ne_true Phase.noConfusion
  quiet c m _ _ := restarted_isRaised c m
  silent _ := rfl

theorem unused_restarted {t : State} {i : Slot} (h : Starting (restarted pin msel retain s) t)
    (hi : t.slot i = (restarted pin msel retain s).slot i) : Unused i t := by
  obtain ⟨-, hegr, hport, hcursor, -⟩ := resetSlot_fields (s := s) (pin := pin) (msel := msel) (retain := retain) i
  have hing (j : Slot) : (t.slot j).ing = Ingress.reset := by
    rw [h.keeps.ing, restarted_slot, (resetSlot_fields j).1]
  have hmgmt : t.mgmt = { store := [], queue := [], replies := [], claim := false, msel := msel, retain := retain } := by
    rw [h.keeps.mgmt, restarted_keeps.mgmt]
    rfl
  rw [restarted_slot] at hi
  exact ⟨fun j => by rw [hing]; rfl, by rw [hi, hcursor]; rfl, by rw [hi, hegr], by rw [hi, hport],
    by rw [hmgmt]; exact ⟨rfl, rfl, rfl⟩, h.quiet _ _ (by decide) (slot_lt i)⟩

theorem afterReset_judged : ∃ v : State, Starting (restarted pin msel retain s) v ∧
    (∀ j, ∃ d0 d1, v.slot j = (s.resetSlot pin msel retain j).judged d0 d1) ∧
    afterReset pin msel retain s = v.eachSlot seatDebounce := by
  obtain ⟨hstarts, hslots⟩ := eachSlot_at (P := Starting (restarted pin msel retain s)) (f := judgeRetained)
    starting_restarted (fun i t ht hi => by
      obtain ⟨hstarts, hothers, -⟩ := judgeRetained_spec ht (unused_restarted ht hi)
        (by rw [hi, restarted_slot, (resetSlot_fields i).2.2.2.2])
      exact ⟨hstarts, hothers⟩)
  refine ⟨_, hstarts, fun j => ?_, rfl⟩
  obtain ⟨t, ht, hj, hsame⟩ := hslots j
  obtain ⟨-, -, d0, d1, hjudged⟩ := judgeRetained_spec ht (unused_restarted ht hj)
    (by rw [hj, restarted_slot, (resetSlot_fields j).2.2.2.2])
  exact ⟨d0, d1, by rw [hsame, hjudged, hj, restarted_slot]⟩

theorem seatDebounce_seatTimed {t : State} (i : Slot) (h0 : t.timing.uptime = 0) :
    (seatDebounce i t).slot i = (t.slot i).seatTimed := by
  have htouch := seatDebounce_touches i t
  rw [slot_eq_of_touches htouch.keeps (by decide), htouch.port, seatDebounce_ctl, h0]
  rfl

/-- The judged slots with their seat timers, and what the units that exist once have of it. -/
theorem afterReset_spec : ∃ v : State, Starting (restarted pin msel retain s) v ∧
    KeepsBut [.ctl] v (afterReset pin msel retain s) ∧
    (∀ j, ∃ d0 d1, v.slot j = (s.resetSlot pin msel retain j).judged d0 d1) ∧
    ∀ j, (afterReset pin msel retain s).slot j = (v.slot j).seatTimed := by
  obtain ⟨v, hv, hjudged, heq⟩ := afterReset_judged (pin := pin) (msel := msel) (retain := retain) (s := s)
  have h0 : v.timing.uptime = 0 := by
    rw [hv.keeps.timing, restarted_keeps.timing]
    rfl
  obtain ⟨hkeeps, hslots⟩ := eachSlot_at (P := KeepsBut [.ctl] v) (f := seatDebounce) (s := v) (.refl ..)
    (fun i t ht _ => ⟨ht.trans (seatDebounce_touches i t).keeps, (seatDebounce_touches i t).others⟩)
  refine ⟨v, hv, heq ▸ hkeeps, hjudged, fun j => ?_⟩
  obtain ⟨t, ht, hj, hsame⟩ := hslots j
  rw [heq, hsame, seatDebounce_seatTimed j (by rw [ht.timing, h0]), hj]

end Started

end Sys2Proof.Machine
end

section
/-! PROOFS. Obligation O15, continued: the slots, the alarm unit and the rest after a reset. -/

namespace Sys2Proof.Machine

section Slots

variable {pin msel retain : Bool} {s : State} {d0 d1 : Debounce} {i : Slot}

theorem resetSlot_lost (h : KeepsPower pin retain s i = false) : s.resetSlot pin msel retain i =
    SlotState.reset (i.val == boolNat msel) (Ctl.reset (s.slot i).ctl.presL (s.slot i).ctl.presS (s.slot i).ctl.pwrGood
      (s.slot i).ctl.lev0 (s.slot i).ctl.lev1) := by
  have hno : s.retains pin retain i = false := h
  unfold State.resetSlot
  dsimp only
  rw [hno, if_neg Bool.false_ne_true]

theorem resetSlot_kept (h : KeepsPower pin retain s i = true) : s.resetSlot pin msel retain i =
    { SlotState.reset (i.val == boolNat msel) { Ctl.reset (s.slot i).ctl.presL (s.slot i).ctl.presS
        (s.slot i).ctl.pwrGood (s.slot i).ctl.lev0 (s.slot i).ctl.lev1 with pwrEn := true } with
      cfg := { SlotSettings.default (i.val == boolNat msel) with
        fn0 := (s.slot i).cfg.fn0, fn1 := (s.slot i).cfg.fn1 } } := by
  have hyes : s.retains pin retain i = true := h
  unfold State.resetSlot
  dsimp only
  rw [hyes, if_pos rfl]
  rfl

/-- A slot that kept no power is judged as it is, and its seat timer runs where both contacts are made. -/
theorem lost_started (h : KeepsPower pin retain s i = false) {x : SlotState}
    (hx : x = ((s.resetSlot pin msel retain i).judged d0 d1).seatTimed) :
    x.ctl.phase = .empty ∧ x.ctl.pwrEn = false ∧ x.port = Port.reset ∧
    x.cfg = SlotSettings.default (i.val == boolNat msel) ∧
    x.ctl.timer =
      (if (s.slot i).ctl.presL && (s.slot i).ctl.presS then some { kind := .seat, start := 0 } else none) ∧
    x.ctl.delay = 0 := by
  rw [hx, resetSlot_lost h]
  cases (s.slot i).ctl.presL <;> cases (s.slot i).ctl.presS <;> exact ⟨rfl, rfl, rfl, rfl, rfl, rfl⟩

/-- A slot that kept its power is judged by its contacts and PWR-GOOD. -/
theorem kept_started (h : KeepsPower pin retain s i = true) {x : SlotState}
    (hx : x = ((s.resetSlot pin msel retain i).judged d0 d1).seatTimed) :
    x.ctl.timer = none ∧
    x.cfg = { SlotSettings.default (i.val == boolNat msel) with
      fn0 := (s.slot i).cfg.fn0, fn1 := (s.slot i).cfg.fn1 } ∧
    (if ((s.slot i).ctl.presL && (s.slot i).ctl.presS) = true then
      if (s.slot i).ctl.pwrGood = true then
        x.ctl.phase = .training ∧ x.ctl.pwrEn = true ∧ x.ctl.inputsEn = true ∧ x.ctl.resetOut = false ∧
        x.ctl.train = { attempt := 1, exchange := 0, step := .request, samples := [] } ∧
        x.port = { Port.reset with link := .training, trainReq := some 0 }
      else
        x.ctl.phase = .faulted ∧ x.ctl.reason = some .powerLost ∧ x.ctl.pwrEn = false ∧ x.port = Port.reset
    else x.ctl.phase = .empty ∧ x.ctl.pwrEn = false ∧ x.port = Port.reset) ∧
    x.ctl.delay = 0 := by
  rw [hx, resetSlot_kept h]
  cases (s.slot i).ctl.presL
  · exact ⟨rfl, rfl, ⟨rfl, rfl, rfl⟩, rfl⟩
  · cases (s.slot i).ctl.presS
    · exact ⟨rfl, rfl, ⟨rfl, rfl, rfl⟩, rfl⟩
    · cases (s.slot i).ctl.pwrGood
      · exact ⟨rfl, rfl, ⟨rfl, rfl, rfl, rfl⟩, rfl⟩
      · exact ⟨rfl, rfl, ⟨rfl, rfl, rfl, rfl, rfl, rfl⟩, rfl⟩

/-- A slot is judged FAULTED exactly when it loses its power. -/
theorem judged_faulted : ((s.resetSlot pin msel retain i).judged d0 d1).ctl.phase = .faulted ↔
    LosesPower pin retain s i = true := by
  unfold LosesPower
  cases h : KeepsPower pin retain s i with
  | false =>
    rw [resetSlot_lost h]
    exact iff_of_false Phase.noConfusion Bool.false_ne_true
  | true =>
    rw [resetSlot_kept h]
    cases (s.slot i).ctl.presL <;> cases (s.slot i).ctl.presS <;> cases (s.slot i).ctl.pwrGood <;>
      simp [SlotState.judged, SlotState.reset, Ctl.reset, Ctl.faulted, Ctl.poweredOff, Ctl.entering]

theorem judged_rest (y : SlotState) : (y.judged d0 d1).ing = y.ing ∧ (y.judged d0 d1).egr = y.egr ∧
    (y.judged d0 d1).cursor = y.cursor := by
  unfold SlotState.judged
  split
  · split
    · split <;> exact ⟨rfl, rfl, rfl⟩
    · exact ⟨rfl, rfl, rfl⟩
  · exact ⟨rfl, rfl, rfl⟩

end Slots

/-- Settles O15, by the judgement of the slots one after another and the entry posted before it. -/
theorem resetsLeave : Obligations.ResetsLeave := by
  intro pin msel retain s
  obtain ⟨v, hv, hkeeps, hjudged, hslots⟩ := afterReset_spec (pin := pin) (msel := msel) (retain := retain) (s := s)
  obtain ⟨t, ht⟩ : ∃ t, t = afterReset pin msel retain s := ⟨_, rfl⟩
  rw [← ht] at hkeeps hslots
  have hexec : exec (if pin then .pinReset msel retain else .powerOnReset msel retain) s = .next t := by
    rw [ht]
    cases pin <;> rfl
  have hbefore : KeepsBut [.ctl, .port, .alarm] (resetBlocks pin msel retain s) t :=
    (restarted_keeps.then hv.keeps (rs := [.ctl, .port, .alarm])).then hkeeps
  have hfaulted (i : Slot) : (v.slot i).ctl.phase = .faulted ↔ LosesPower pin retain s i = true := by
    obtain ⟨d0, d1, hslot⟩ := hjudged i
    rw [hslot]
    exact judged_faulted
  have hquiet (hnone : ∀ i, LosesPower pin retain s i = false) : t.alarm = (restarted pin msel retain s).alarm := by
    rw [hkeeps.alarm]
    exact hv.silent fun j hj => Bool.false_ne_true ((hnone j).symm.trans ((hfaulted j).mp hj))
  refine ⟨t, hexec, ⟨hbefore.timing, hbefore.flow, hbefore.log, hbefore.glob, ?_, ?_, hbefore.watches, hbefore.chain,
    hbefore.mgmt, ?_, ?_, hbefore.2⟩, ⟨fun i => ?_, fun c m hc hm => ?_⟩, fun hpin => ?_, fun hpin hnone hidx => ?_,
    fun i => ?_⟩
  · rw [hbefore.park]
    rfl
  · rw [hbefore.park]
    rfl
  · rw [hbefore.pool]
    rfl
  · rw [hbefore.pool]
    rfl
  · rw [isRaised_of_alarm hkeeps.alarm, Bool.eq_iff_iff, hv.faults i, hfaulted]
  · rw [isRaised_of_alarm hkeeps.alarm, hv.quiet c m hc hm]
  · subst hpin
    obtain ⟨hidx, hcount, hqueue⟩ := restarted_alarm (msel := msel) (retain := retain) (s := s) rfl
      (show (s.alarm.reset false).idx < 127 from Nat.zero_lt_succ 126)
    rw [hquiet fun i => rfl, hidx, hcount, hqueue]
    exact ⟨rfl, rfl, assocGet_put_self ..⟩
  · subst hpin
    obtain ⟨hidx', hcount, hqueue⟩ := restarted_alarm (msel := msel) (retain := retain) (s := s) (pin := true) rfl hidx
    rw [hquiet hnone, hidx', hcount, hqueue]
    exact ⟨rfl, rfl, assocGet_put_self .., fun k hk => assocGet_put_ne _ _ hk⟩
  · obtain ⟨d0, d1, hslot⟩ := hjudged i
    have hstarted : t.slot i = ((s.resetSlot pin msel retain i).judged d0 d1).seatTimed := by rw [hslots, hslot]
    obtain ⟨hing, hegr, -, hcursor, -⟩ := resetSlot_fields (s := s) (pin := pin) (msel := msel) (retain := retain) i
    obtain ⟨jing, jegr, jcursor⟩ := judged_rest (d0 := d0) (d1 := d1) (s.resetSlot pin msel retain i)
    refine ⟨by rw [hstarted]; exact jing.trans hing, by rw [hstarted]; exact jegr.trans hegr,
      by rw [hstarted]; exact jcursor.trans hcursor, ?_, fun hlost => ?_, fun hkept => ?_⟩
    · cases h : KeepsPower pin retain s i with
      | false => exact (lost_started h hstarted).2.2.2.2.2
      | true => exact (kept_started h hstarted).2.2.2
    · obtain ⟨hphase, hpwr, hport, hcfg, htimer, -⟩ := lost_started hlost hstarted
      exact ⟨hphase, hpwr, hport, hcfg, htimer⟩
    · obtain ⟨htimer, hcfg, hcases, -⟩ := kept_started hkept hstarted
      exact ⟨htimer, hcfg, hcases⟩

end Sys2Proof.Machine
end

section
/-! PROOFS. Obligation O49: the chain engine makes a parcel and moves on (R147 to R152). -/

namespace Sys2Proof.Machine

/-! ## The walk after a block (R148, R150) -/

section Walk

variable {i : Slot} {k pid : Nat} {s : State}

theorem visit_touches (i : Slot) (d : Fin 64) (s : State) : Touches [.cursor] i s (visit i d s) := setCursor_touches ..

theorem visit_cursor (d : Fin 64) : ((visit i d s).slot i).cursor =
    { (s.slot i).cursor with
      cur := d, copy := s.chain.table[d], visits := (s.slot i).cursor.visits + 1, offset := 0 } :=
  setCursor_cursor_self ..

theorem chainMade_touches (i : Slot) (s : State) : Touches [.cursor, .alarm, .mgmt] i s (chainMade i s) := by
  unfold chainMade
  dsimp only
  split
  · exact completeChain_touches ..
  · exact touches_ite (setCursor_touches ..).mono (completeChain_touches ..)

theorem walk_touches (i : Slot) (k : Nat) (s : State) : Touches [.cursor, .alarm, .mgmt] i s (walk i k s) := by
  induction k generalizing s with
  | zero => exact .refl ..
  | succ k ih =>
    unfold walk
    exact touches_ite (.refl ..) (touches_ite (chainMade_touches ..)
      (touches_ite ((visit_touches i _ s).then (ih _)) (abortChain_touches i s _).mono))

theorem walk_within (h : (s.slot i).cursor.offset < (s.slot i).cursor.copy.len) : walk i (k + 1) s = s := by
  unfold walk
  exact if_pos h

theorem walk_ends (h : (s.slot i).cursor.copy.len ≤ (s.slot i).cursor.offset)
    (hend : (s.slot i).cursor.copy.endOfChain = true) : walk i (k + 1) s = chainMade i s := by
  unfold walk
  dsimp only
  rw [if_neg (Nat.not_lt.mpr h), if_pos hend]

theorem walk_visits (h : (s.slot i).cursor.copy.len ≤ (s.slot i).cursor.offset)
    (hend : (s.slot i).cursor.copy.endOfChain = false) (hvisits : (s.slot i).cursor.visits < 64) :
    walk i (k + 1) s = walk i k (visit i (s.slot i).cursor.copy.next s) := by
  conv_lhs => unfold walk
  dsimp only
  rw [if_neg (Nat.not_lt.mpr h), hend, if_neg Bool.false_ne_true, if_pos hvisits]

theorem walk_aborts (h : (s.slot i).cursor.copy.len ≤ (s.slot i).cursor.offset)
    (hend : (s.slot i).cursor.copy.endOfChain = false) (hvisits : ¬(s.slot i).cursor.visits < 64) :
    walk i (k + 1) s = abortChain i .tooLong s := by
  unfold walk
  dsimp only
  rw [if_neg (Nat.not_lt.mpr h), hend, if_neg Bool.false_ne_true, if_neg hvisits]

/-- A chain whose last parcel is still queued waits for its end. -/
theorem chainMade_finishing (hlast : (s.slot i).cursor.last = some pid) (hqueued : pid ∈ (s.slot i).egr.bulk) :
    chainMade i s = s.setCursor i { (s.slot i).cursor with state := .finishing } := by
  unfold chainMade
  dsimp only
  rw [hlast]
  exact if_pos (List.contains_iff_mem.mpr hqueued)

/-- Where the walk comes to a stop at once in the block it visits. -/
theorem walk_arrives (hlast : (s.slot i).cursor.last = some pid) (hqueued : pid ∈ (s.slot i).egr.bulk)
    (hrunning : (s.slot i).cursor.state = .running) (hstart : (s.slot i).cursor.offset = 0)
    (hstops : 0 < (s.slot i).cursor.copy.len ∨ (s.slot i).cursor.copy.endOfChain = true) :
    ((walk i (k + 1) s).slot i).cursor =
      { (s.slot i).cursor with state := if (s.slot i).cursor.copy.len = 0 then .finishing else .running } := by
  rcases Nat.eq_zero_or_pos (s.slot i).cursor.copy.len with hzero | hpos
  · have hend := hstops.resolve_left (by omega)
    rw [walk_ends (by omega) hend, chainMade_finishing hlast hqueued, setCursor_cursor_self, if_pos hzero]
  · rw [walk_within (by omega), if_neg (by omega), ← hrunning]

end Walk

/-! ## The parcel made (R149) -/

section Made

variable {i : Slot} {s : State}

/-- The chain's parcel has joined the BULK queue and its blocks are taken. -/
def chainJoined (i : Slot) (s : State) : State :=
  wakeReport i (allocStored (s.chainParcel i)
    (s.modEgr i (fun e => { e with bulk := e.bulk ++ [s.pool.nextId] }.occasion)))

/-- The state in which the walk after a parcel begins. -/
def chainMoved (i : Slot) (s : State) : State :=
  ((chainJoined i s).setCursor i
    { ((chainJoined i s).slot i).cursor with
      made := ((chainJoined i s).slot i).cursor.made + 1, last := some s.pool.nextId,
      offset := ((chainJoined i s).slot i).cursor.offset + (s.slot i).cursor.nextLen }).modChain
    (fun x => { x with rotation := i + 1, busy := some (s.timing.core, (s.slot i).cursor.nextLen + 1) })

theorem makeChainParcel_eq (i : Slot) (s : State) : makeChainParcel i s = walk i walkRounds (chainMoved i s) := rfl

theorem chainJoined_touches (i : Slot) (s : State) :
    Touches [.egr, .pool, .alarm, .mgmt, .port, .ctl] i s (chainJoined i s) :=
  ((modEgr_touches i s _).then (allocStored_touches i _ _) (rs := [.egr, .pool, .alarm, .mgmt])).then
    (wakeReport_touches _ i)

theorem chainJoined_egr : ((chainJoined i s).slot i).egr =
    { (s.slot i).egr with bulk := (s.slot i).egr.bulk ++ [s.pool.nextId] }.occasion := by
  unfold chainJoined
  rw [(wakeReport_touches _ i).egr, (allocStored_touches i _ _).egr, modEgr_egr_self]

theorem chainJoined_pool : (chainJoined i s).pool =
    (allocStored (s.chainParcel i)
      (s.modEgr i (fun e => { e with bulk := e.bulk ++ [s.pool.nextId] }.occasion))).pool :=
  (wakeReport_touches _ i).pool

/-- A ready chain leaves enough blocks free for POOL-LOW not to be due. -/
theorem chainJoined_alarm (hroom : s.glob.lowMark + (s.chainParcel i).nBlocks ≤ s.pool.freeCount)
    (hlow : s.isRaised causePoolLow 0 = false) : (chainJoined i s).alarm = s.alarm := by
  obtain ⟨u, hu⟩ : ∃ u, u = s.modEgr i (fun e => { e with bulk := e.bulk ++ [s.pool.nextId] }.occasion) := ⟨_, rfl⟩
  have hset : Touches [.egr] i s u := hu ▸ modEgr_touches ..
  have hcalm : (allocStored (s.chainParcel i) u).alarm = u.alarm := by
    unfold allocStored
    rw [poolJudge_quiet]
    · simp
    · rw [← hlow]
      exact (isRaised_of_alarm (by simp) ..).trans (isRaised_of_alarm hset.alarm ..)
    · have hmark : s.glob.lowMark ≤ s.pool.freeCount - (s.chainParcel i).nBlocks := Nat.le_sub_of_add_le hroom
      simpa [hset.glob, hset.pool] using hmark
  unfold chainJoined
  rw [(wakeReport_touches _ i).alarm, ← hu, hcalm, hset.alarm]

theorem chainMoved_touches (i : Slot) (s : State) :
    Touches [.chain, .cursor, .egr, .pool, .alarm, .mgmt, .port, .ctl] i s (chainMoved i s) :=
  ((chainJoined_touches i s).then (setCursor_touches i _ _)
    (rs := [.cursor, .egr, .pool, .alarm, .mgmt, .port, .ctl])).then (modChain_touches i _ _)

theorem chainMoved_rest (i : Slot) (s : State) : Touches [.chain, .cursor] i (chainJoined i s) (chainMoved i s) :=
  (setCursor_touches i _ _).then (modChain_touches i _ _)

theorem chainMoved_cursor : ((chainMoved i s).slot i).cursor =
    parcelMade (s.slot i).cursor s.pool.nextId (s.slot i).cursor.nextLen := by
  unfold chainMoved
  rw [(modChain_touches i _ _).cursor, setCursor_cursor_self, (chainJoined_touches i s).cursor]
  rfl

theorem chainMoved_chain : (chainMoved i s).chain =
    { s.chain with rotation := i + 1, busy := some (s.timing.core, (s.slot i).cursor.nextLen + 1) } := by
  have hchain : ((chainJoined i s).setCursor i
      { ((chainJoined i s).slot i).cursor with
        made := ((chainJoined i s).slot i).cursor.made + 1, last := some s.pool.nextId,
        offset := ((chainJoined i s).slot i).cursor.offset + (s.slot i).cursor.nextLen }).chain = s.chain :=
    ((setCursor_touches i _ _).chain).trans (chainJoined_touches i s).chain
  unfold chainMoved State.modChain
  dsimp only
  rw [hchain]

theorem chainMoved_egr : ((chainMoved i s).slot i).egr =
    { (s.slot i).egr with bulk := (s.slot i).egr.bulk ++ [s.pool.nextId] }.occasion := by
  rw [(chainMoved_rest i s).egr, chainJoined_egr]

/-- The cursor that has its turn is running and has room. -/
theorem chainTurn_ready (h : s.chainTurn = some i) : (s.slot i).cursor.state = .running ∧
    s.glob.lowMark + blocksFor (s.slot i).cursor.nextLen ≤ s.pool.freeCount := by
  have hready : s.chainReady i = true := List.find?_some h
  unfold State.chainReady State.chainRoom at hready
  simp only [Bool.and_eq_true, beq_iff_eq, decide_eq_true_eq] at hready
  exact ⟨hready.1, hready.2.2⟩

end Made

/-! ## Obligation O49 -/

section Engine

variable {i : Slot} {n : Nat} {c : Cursor} {s : State}

/-- The cursor and the alarm unit after the parcel of a block that is not the last. -/
theorem made_within (hn : n = c.nextLen) (hc : c = (s.slot i).cursor) (hmore : c.offset + n < c.copy.len) :
    makeChainParcel i s = chainMoved i s := by
  rw [makeChainParcel_eq]
  refine walk_within ?_
  rw [chainMoved_cursor, ← hc, ← hn]
  exact hmore

variable (hn : n = c.nextLen) (hc : c = (s.slot i).cursor) (hlast : c.copy.len ≤ c.offset + n)

include hn hc hlast

theorem made_finishing (hend : c.copy.endOfChain = true) :
    ((makeChainParcel i s).slot i).cursor = { parcelMade c s.pool.nextId n with state := .finishing } := by
  have hcursor : ((chainMoved i s).slot i).cursor = parcelMade c s.pool.nextId n := by
    rw [chainMoved_cursor, ← hc, ← hn]
  rw [makeChainParcel_eq, walkRounds, walk_ends (by rw [hcursor]; exact hlast) (by rw [hcursor]; exact hend),
    chainMade_finishing (pid := s.pool.nextId) (by rw [hcursor]; rfl)
      (by rw [chainMoved_egr]; exact List.mem_append_right _ (List.mem_singleton.mpr rfl)),
    setCursor_cursor_self, hcursor]

theorem made_visits {d : Descriptor} (hd : d = s.chain.table[c.copy.next]) (hend : c.copy.endOfChain = false)
    (hvisits : c.visits < 64) (hstops : 0 < d.len ∨ d.endOfChain = true) (hrunning : c.state = .running) :
    ((makeChainParcel i s).slot i).cursor = { parcelMade c s.pool.nextId n with
      cur := c.copy.next, copy := d, visits := c.visits + 1, offset := 0,
      state := if d.len = 0 then .finishing else .running } := by
  have hcursor : ((chainMoved i s).slot i).cursor = parcelMade c s.pool.nextId n := by
    rw [chainMoved_cursor, ← hc, ← hn]
  have hvisit := visit_touches i c.copy.next (chainMoved i s)
  have hvisited : ((visit i c.copy.next (chainMoved i s)).slot i).cursor = { parcelMade c s.pool.nextId n with
      cur := c.copy.next, copy := d, visits := c.visits + 1, offset := 0 } := by
    rw [visit_cursor, hcursor, chainMoved_chain, ← hd]
    rfl
  have hnext : ((chainMoved i s).slot i).cursor.copy.next = c.copy.next := by rw [hcursor]; rfl
  rw [makeChainParcel_eq, walkRounds, walk_visits (by rw [hcursor]; exact hlast) (by rw [hcursor]; exact hend)
    (by rw [hcursor]; exact hvisits), hnext, walk_arrives (pid := s.pool.nextId) (by rw [hvisited]; rfl) ?_
    (by rw [hvisited]; exact hrunning) (by rw [hvisited]) (by rw [hvisited]; exact hstops), hvisited]
  rw [hvisit.egr, chainMoved_egr]
  exact List.mem_append_right _ (List.mem_singleton.mpr rfl)

theorem made_aborts (hend : c.copy.endOfChain = false) (hvisits : c.visits = 64) (hrunning : c.state = .running) :
    ((makeChainParcel i s).slot i).cursor = Cursor.idle ∧ (makeChainParcel i s).alarm =
      (postEvent causeChainAborted i.val (wordOf (3 * 65536 + 64 * 256 + c.cur.val)) (chainMoved i s)).alarm := by
  have hcursor : ((chainMoved i s).slot i).cursor = parcelMade c s.pool.nextId n := by
    rw [chainMoved_cursor, ← hc, ← hn]
  have hset := setCursor_touches i (chainMoved i s) Cursor.idle
  have habort : makeChainParcel i s = postEvent causeChainAborted i.val (wordOf (3 * 65536 + 64 * 256 + c.cur.val))
      ((chainMoved i s).setCursor i Cursor.idle) := by
    rw [makeChainParcel_eq, walkRounds, walk_aborts (by rw [hcursor]; exact hlast) (by rw [hcursor]; exact hend)
      (by rw [hcursor]; exact Nat.not_lt.mpr (Nat.le_of_eq hvisits.symm)), abortChain, hcursor]
    have hnot : (parcelMade c s.pool.nextId n).state ≠ .idle := fun h =>
      CursorState.noConfusion (hrunning.symm.trans (h : c.state = .idle))
    have hcount : (parcelMade c s.pool.nextId n).visits = 64 := hvisits
    rw [if_neg hnot, hcount]
    rfl
  rw [habort]
  refine ⟨by rw [(postEvent_touches i ..).cursor, setCursor_cursor_self], ?_⟩
  exact postEvent_alarm_congr ⟨hset.alarm, hset.watches, hset.timing⟩ ..

end Engine

/-- Settles O49, by the walk after the parcel made. -/
theorem chainEngineMakesParcels : Obligations.ChainEngineMakesParcels := by
  refine ⟨fun i n c s hbusy hturn hc hn => ?_, fun u n s hbusy hdue => ?_⟩
  · have hlen : n = c.nextLen := hn
    have hnext : (s.slot i).cursor.nextLen = n := by rw [hlen, hc]
    obtain ⟨hrunning, hroom⟩ := chainTurn_ready hturn
    rw [← hc] at hrunning
    have hexec : exec .chainParcelMake s = .next (makeChainParcel i s) := by
      show execChainParcelMake s = _
      unfold execChainParcelMake
      rw [hbusy, hturn]
    have hmoved := chainMoved_touches i s
    have hjoined := chainMoved_rest i s
    have hwalk := walk_touches i walkRounds (chainMoved i s)
    rw [← makeChainParcel_eq] at hwalk
    have hall := hmoved.then hwalk (rs := [.chain, .cursor, .egr, .pool, .alarm, .mgmt, .port, .ctl])
    have hpool : (makeChainParcel i s).pool = (allocStored (s.chainParcel i)
        (s.modEgr i (fun e => { e with bulk := e.bulk ++ [s.pool.nextId] }.occasion))).pool := by
      rw [hwalk.pool, hjoined.pool, chainJoined_pool]
    have halarm (hlow : s.isRaised causePoolLow 0 = false) : (chainMoved i s).alarm = s.alarm := by
      rw [hjoined.alarm, chainJoined_alarm hroom hlow]
    have hset := modEgr_touches i s (fun e => { e with bulk := e.bulk ++ [s.pool.nextId] }.occasion)
    refine ⟨_, hexec, ?_, fun hmore => ?_, fun hlast => ⟨made_finishing hlen hc hlast, fun d hd hend hvisits hstops =>
      made_visits hlen hc hlast hd hend hvisits hstops hrunning, fun hend hvisits => ?_⟩, ?_, ?_, ?_, hall.keeps,
      hall.others⟩
    · rw [hwalk.chain, chainMoved_chain, hnext]
    · rw [made_within hlen hc hmore, chainMoved_cursor, hnext, ← hc]
      exact ⟨rfl, halarm⟩
    · obtain ⟨hcursor, habort⟩ := made_aborts hlen hc hlast hend hvisits hrunning
      refine ⟨hcursor, fun hlow => habort.trans ?_⟩
      exact postEvent_alarm_congr ⟨halarm hlow, hmoved.watches, hmoved.timing⟩ ..
    · rw [hwalk.egr, chainMoved_egr]
    · obtain ⟨b, hb⟩ : ∃ b, (makeChainParcel i s).parcel s.pool.nextId = some { s.chainParcel i with blocks := b } := by
        rw [State.parcel, hpool]
        exact ⟨_, (allocStored_parcel ..).trans (if_pos (by rw [hset.pool]))⟩
      refine ⟨_, hb, rfl, rfl, rfl, rfl, ?_, ?_, ?_, fun k hk => ?_⟩
      · rw [hc]
        rfl
      · rw [hn, hc]
        rfl
      · rw [← hnext]
        exact parkReadN_length ..
      · rw [hc]
        exact parkReadN_getD _ _ (by rw [← hnext] at hk; exact hk)
    · rw [hpool, allocStored_pool]
      dsimp only
      rw [hset.pool, State.chainParcel, hnext]
      rfl
  · have hexec : exec .chainEngineFree s = .next (s.modChain (fun x => { x with busy := none })) := by
      show execChainEngineFree s = _
      unfold execChainEngineFree
      rw [hbusy]
      exact congrArg Host.Outcome.next (if_pos hdue)
    exact ⟨_, hexec, rfl, modChain_keepsBut ..⟩

end Sys2Proof.Machine
end

section
/-! PROOFS. Parcels that join queues and parcels offered to destinations (R27, R28, R40, R49). -/

namespace Sys2Proof.Machine

/-! ## One parcel that joins one queue -/

section Join

variable {d : Slot} {c : Cls} {pid : Nat} {p : Stored} {s t : State}

/-- An egress where a parcel has joined a class queue, an occasion for a choice. -/
def Egress.joined (e : Egress) (c : Cls) (pid : Nat) : Egress := (e.setQueue c (e.queue c ++ [pid])).occasion

theorem enqueueRef_egr : ((enqueueRef d c pid s).slot d).egr = (s.slot d).egr.joined c pid := by
  rw [enqueueRef_eq, (wakeReport_touches _ d).egr, (modStored_touches d _ pid _).egr, joinQueue, modEgr_egr_self]
  rfl

/-- What a wake source does to the controls depends on them and the time alone. -/
theorem applyWake_ctl_congr (hctl : (t.slot d).ctl = (s.slot d).ctl) (htiming : t.timing = s.timing) :
    ((applyWake d t).slot d).ctl = ((applyWake d s).slot d).ctl := by
  by_cases h : (s.slot d).ctl.phase = .admitted ∧ (s.slot d).ctl.sub = .resting
  · have h' : (t.slot d).ctl.phase = .admitted ∧ (t.slot d).ctl.sub = .resting := by rw [hctl]; exact h
    cases hreq : (s.slot d).ctl.restReq with
    | true =>
      rw [applyWake_withdraws h hreq, applyWake_withdraws h' (by rw [hctl, hreq]), modCtl_ctl_self, modCtl_ctl_self, hctl]
    | false =>
      obtain ⟨hs, -⟩ := applyWake_asks h hreq
      obtain ⟨ht, -⟩ := applyWake_asks h' (by rw [hctl, hreq])
      rw [hs, ht, hctl, htiming]
  · rw [applyWake_idle h, applyWake_idle (by rwa [hctl]), hctl]

theorem enqueueRef_ctl : ((enqueueRef d c pid s).slot d).ctl =
    if (s.slot d).cfg.wakeOnTraffic = true then ((applyWake d s).slot d).ctl else (s.slot d).ctl := by
  have hjoin : Touches [.egr] d s (joinQueue d c pid s) := modEgr_touches ..
  have hset := hjoin.then (modStored_touches d _ pid (fun p => { p with refs := p.refs + 1 })) (rs := [.egr, .pool])
  rw [enqueueRef_eq]
  unfold wakeReport
  rw [hset.cfg]
  split
  · exact applyWake_ctl_congr (hset.ctl (by decide) d) hset.timing
  · rw [hset.ctl]

/-- A port that may have been asked for a WAKE. -/
def Port.wokenAs (p q : Port) : Prop := q = { p with wakeAsked := q.wakeAsked }

theorem applyWake_port : (s.slot d).port.wokenAs ((applyWake d s).slot d).port := by
  unfold applyWake Port.wokenAs
  split
  · split <;> simp
  · rfl

theorem enqueueRef_port : (s.slot d).port.wokenAs ((enqueueRef d c pid s).slot d).port := by
  have hjoin : Touches [.egr] d s (joinQueue d c pid s) := modEgr_touches ..
  have hset := hjoin.then (modStored_touches d _ pid (fun p => { p with refs := p.refs + 1 })) (rs := [.egr, .pool])
  have hport := hset.port (by decide) d
  rw [enqueueRef_eq]
  unfold wakeReport
  rw [← hport]
  split
  · exact applyWake_port
  · rfl

theorem enqueueRef_parcel (hp : s.parcel pid = some p) (v : Nat) : (enqueueRef d c pid s).parcel v =
    if v = pid then some { p with refs := p.refs + 1 } else s.parcel v := by
  have hjoin : Touches [.egr] d s (joinQueue d c pid s) := modEgr_touches ..
  have hp' : (joinQueue d c pid s).parcel pid = some p := by rw [State.parcel, hjoin.pool]; exact hp
  have hpool : (enqueueRef d c pid s).pool = (modStored pid (fun p => { p with refs := p.refs + 1 })
      (joinQueue d c pid s)).pool := (wakeReport_touches _ d).pool
  rw [State.parcel, hpool]
  refine (modStored_parcel hp' v).trans ?_
  rw [State.parcel, hjoin.pool]
  rfl

theorem modStored_freeCount (pid : Nat) (f : Stored → Stored) (s : State) :
    (modStored pid f s).pool.freeCount = s.pool.freeCount := by
  unfold modStored
  split <;> simp

theorem enqueueRef_freeCount : (enqueueRef d c pid s).pool.freeCount = s.pool.freeCount := by
  have hjoin : Touches [.egr] d s (joinQueue d c pid s) := modEgr_touches ..
  rw [enqueueRef_eq, (wakeReport_touches _ d).pool, modStored_freeCount, hjoin.pool]

/-- The blocks of the stored parcels are the same in two states. -/
def SameBlocks (s t : State) : Prop := ∀ v, t.blocksOf v = s.blocksOf v

theorem enqueueRef_sameBlocks (hp : s.parcel pid = some p) : SameBlocks s (enqueueRef d c pid s) := fun v => by
  unfold State.blocksOf
  rw [enqueueRef_parcel hp]
  split
  next h => rw [h, hp]; rfl
  next => rfl

end Join

/-! ## What the offer to one destination turns on (R27, R28, R40) -/

section Room

variable {d k : Slot} {c : Cls} {pid b : Nat} {p : Stored} {s t : State}

/-- The part of the state that decides what becomes of a parcel at a destination. -/
structure SameRoom (k : Slot) (s t : State) : Prop where
  phase : (t.slot k).ctl.phase = (s.slot k).ctl.phase
  cfg : (t.slot k).cfg = (s.slot k).cfg
  egr : (t.slot k).egr = (s.slot k).egr
  ing : ∀ j, (t.slot j).ing.waiting = (s.slot j).ing.waiting
  blocks : SameBlocks s t

theorem treatment_congr (h : SameRoom k s t) : t.treatment k = s.treatment k := by
  unfold State.treatment
  dsimp only
  rw [h.phase, h.cfg]

theorem anyWaits_congr (h : ∀ j, (t.slot j).ing.waiting = (s.slot j).ing.waiting) (k : Slot) (c : Cls) :
    t.anyWaits k c = s.anyWaits k c := by
  unfold State.anyWaits State.waitsOn
  simp only [h]

theorem occupancy_congr (h : SameBlocks s t) (hegr : (t.slot k).egr = (s.slot k).egr) (c : Cls) :
    t.occupancy k c = s.occupancy k c := by
  unfold State.occupancy
  rw [hegr]
  exact congrArg List.sum (List.map_congr_left fun v _ => h v)

theorem hasRoom_congr (h : SameRoom k s t) (c : Cls) (b : Nat) : t.hasRoom k c b = s.hasRoom k c b := by
  unfold State.hasRoom State.fits
  rw [occupancy_congr h.blocks h.egr, h.cfg, anyWaits_congr h.ing]

theorem enqueueRef_sameRoom (hp : s.parcel pid = some p) (hk : k ≠ d) : SameRoom k s (enqueueRef d c pid s) where
  phase := by rw [(enqueueRef_touches d c pid s).others k hk]
  cfg := by rw [(enqueueRef_touches d c pid s).others k hk]
  egr := by rw [(enqueueRef_touches d c pid s).others k hk]
  ing j := by rw [(enqueueRef_touches d c pid s).ing]
  blocks := enqueueRef_sameBlocks hp

/-- A destination that takes the parcel. -/
def State.takes (s : State) (c : Cls) (b : Nat) (k : Slot) : Bool := s.treatment k == .queued && s.hasRoom k c b

/-- A destination at which it is blocked. -/
def State.blocks (s : State) (c : Cls) (b : Nat) (k : Slot) : Bool := s.treatment k == .queued && !s.hasRoom k c b

/-- A destination that discards it. -/
def State.discards (s : State) (k : Slot) : Bool := s.treatment k == .discarded

theorem takes_congr (h : SameRoom k s t) : t.takes c b k = s.takes c b k := by
  rw [State.takes, State.takes, treatment_congr h, hasRoom_congr h]

theorem blocks_congr (h : SameRoom k s t) : t.blocks c b k = s.blocks c b k := by
  rw [State.blocks, State.blocks, treatment_congr h, hasRoom_congr h]

theorem discards_congr (h : SameRoom k s t) : t.discards k = s.discards k := by
  rw [State.discards, State.discards, treatment_congr h]

end Room

/-! ## A parcel offered to its destinations (R28) -/

section Offers

variable {c : Cls} {pid b : Nat} {p : Stored} {owner : Slot} {s t : State}

/-- The slots of a list that pass a test, added to a set. -/
def gather (f : Slot → Bool) (l : List Slot) (m : SlotSet) : SlotSet :=
  l.foldl (fun m k => if f k then addSlot m k else m) m

theorem gather_cons (f : Slot → Bool) (d : Slot) (l : List Slot) (m : SlotSet) :
    gather f (d :: l) m = gather f l (if f d then addSlot m d else m) := rfl

theorem gather_congr {f g : Slot → Bool} {l : List Slot} (h : ∀ k, k ∈ l → f k = g k) (m : SlotSet) :
    gather f l m = gather g l m := by
  induction l generalizing m with
  | nil => rfl
  | cons d l ih =>
    rw [gather_cons, gather_cons, h d List.mem_cons_self]
    exact ih (fun k hk => h k (List.mem_cons_of_mem d hk)) _

/-- The parcel joins the queue of each slot of a list. -/
def joinAll (c : Cls) (pid : Nat) (l : List Slot) (s : State) : State := l.foldl (fun t d => enqueueRef d c pid t) s

theorem offerOne_eq (hc : c ≠ .stream) (d : Slot) (o : Offered) (s : State) : offerOne pid c owner b d o s =
    ({ enq := if s.takes c b d then addSlot o.enq d else o.enq,
       disc := if s.discards d then addSlot o.disc d else o.disc,
       blocked := if s.blocks c b d then addSlot o.blocked d else o.blocked },
      if s.takes c b d then enqueueRef d c pid s else s) := by
  unfold offerOne State.takes State.blocks State.discards
  cases s.treatment d with
  | undeliverable => rfl
  | discarded => rfl
  | queued =>
    cases c with
    | stream => exact absurd rfl hc
    | control => cases h : s.hasRoom d .control b <;> rfl
    | bulk => cases h : s.hasRoom d .bulk b <;> rfl

/-- Every destination is offered the parcel as it found the state: a queue joined changes nothing for the others. -/
theorem offerEach_eq (hc : c ≠ .stream) (l : List Slot) (hl : l.Nodup) (o : Offered) (hp : ∃ p, s.parcel pid = some p) :
    offerEach pid c owner b l o s =
      ({ enq := gather (s.takes c b) l o.enq, disc := gather s.discards l o.disc,
         blocked := gather (s.blocks c b) l o.blocked }, joinAll c pid (l.filter (s.takes c b)) s) := by
  induction l generalizing o s with
  | nil => rfl
  | cons d l ih =>
    obtain ⟨hd, hl⟩ := List.nodup_cons.mp hl
    obtain ⟨p, hp⟩ := hp
    rw [offerEach, offerOne_eq hc]
    dsimp only
    rw [gather_cons, gather_cons, gather_cons, List.filter_cons]
    by_cases htakes : s.takes c b d = true
    · have hroom (k : Slot) (hk : k ∈ l) : SameRoom k s (enqueueRef d c pid s) :=
        enqueueRef_sameRoom hp (fun h => hd (h ▸ hk))
      rw [if_pos htakes, if_pos htakes, if_pos htakes]
      rw [ih hl _ ⟨_, (enqueueRef_parcel hp pid).trans (if_pos rfl)⟩,
        gather_congr (fun k hk => takes_congr (hroom k hk)), gather_congr (fun k hk => discards_congr (hroom k hk)),
        gather_congr (fun k hk => blocks_congr (hroom k hk)),
        List.filter_congr (fun k hk => takes_congr (c := c) (b := b) (hroom k hk))]
      rfl
    · rw [if_neg htakes, if_neg htakes, if_neg htakes, ih hl _ ⟨p, hp⟩]

/-- What parcels that have joined the queues of a list of slots leave. -/
structure Joins (c : Cls) (pid : Nat) (l : List Slot) (s t : State) : Prop where
  keeps : KeepsBut [.egr, .pool, .port, .ctl] s t
  egr : ∀ k, (t.slot k).egr = if k ∈ l then (s.slot k).egr.joined c pid else (s.slot k).egr
  ctl : ∀ k, (t.slot k).ctl =
    if k ∈ l ∧ (s.slot k).cfg.wakeOnTraffic = true then ((applyWake k s).slot k).ctl else (s.slot k).ctl
  port : ∀ k, (s.slot k).port.wokenAs (t.slot k).port
  parcel : ∀ p, s.parcel pid = some p → t.parcel pid = some { p with refs := p.refs + l.length }
  others : ∀ v, v ≠ pid → t.parcel v = s.parcel v
  free : t.pool.freeCount = s.pool.freeCount
  fills : Fills s t

theorem joinAll_pool (l : List Slot) (hp : s.parcel pid = some p) :
    (joinAll c pid l s).parcel pid = some { p with refs := p.refs + l.length } ∧
    (∀ v, v ≠ pid → (joinAll c pid l s).parcel v = s.parcel v) ∧
    (joinAll c pid l s).pool.freeCount = s.pool.freeCount := by
  induction l generalizing s p with
  | nil => exact ⟨hp, fun _ _ => rfl, rfl⟩
  | cons d l ih =>
    have hone (v : Nat) := enqueueRef_parcel (d := d) (c := c) hp v
    obtain ⟨hpid, hrest, hfree⟩ := ih ((hone pid).trans (if_pos rfl))
    refine ⟨hpid.trans ?_, fun v hv => (hrest v hv).trans ((hone v).trans (if_neg hv)),
      hfree.trans enqueueRef_freeCount⟩
    rw [List.length_cons, Nat.add_right_comm, Nat.add_assoc]

theorem joinAll_fills (l : List Slot) (s : State) : Fills s (joinAll c pid l s) := by
  induction l generalizing s with
  | nil => exact .refl s
  | cons d l ih => exact (enqueueRef_fills d c pid s).trans (ih _)

theorem joinAll_joins {l : List Slot} (hl : l.Nodup) (hp : s.parcel pid = some p) : Joins c pid l s (joinAll c pid l s) := by
  obtain ⟨hkeeps, hin, hout⟩ := foldSlots_at (P := KeepsBut [.egr, .pool, .port, .ctl] s)
    (f := fun d t => enqueueRef d c pid t) (s := s)
    (fun d t ht _ => ⟨ht.trans (enqueueRef_touches d c pid t).keeps, (enqueueRef_touches d c pid t).others⟩) l hl s
    (.refl ..) (fun _ _ => rfl)
  obtain ⟨hpid, hrest, hfree⟩ := joinAll_pool (c := c) l hp
  have hslot (k : Slot) : ((joinAll c pid l s).slot k).egr =
        (if k ∈ l then (s.slot k).egr.joined c pid else (s.slot k).egr) ∧
      ((joinAll c pid l s).slot k).ctl =
        (if k ∈ l ∧ (s.slot k).cfg.wakeOnTraffic = true then ((applyWake k s).slot k).ctl else (s.slot k).ctl) ∧
      (s.slot k).port.wokenAs ((joinAll c pid l s).slot k).port := by
    by_cases hk : k ∈ l
    · obtain ⟨t, ht, hsame, heq⟩ := hin k hk
      have heq' : (joinAll c pid l s).slot k = (enqueueRef k c pid t).slot k := heq
      rw [heq', enqueueRef_egr, enqueueRef_ctl, if_pos hk, hsame]
      refine ⟨rfl, ?_, hsame ▸ enqueueRef_port⟩
      simp only [hk, true_and]
      split
      · exact applyWake_ctl_congr (by rw [hsame]) ht.timing
      · rfl
    · have heq : (joinAll c pid l s).slot k = s.slot k := hout k hk
      rw [heq, if_neg hk, if_neg (fun h => hk h.1)]
      exact ⟨rfl, rfl, rfl⟩
  exact ⟨hkeeps, fun k => (hslot k).1, fun k => (hslot k).2.1, fun k => (hslot k).2.2,
    fun q hq => by rw [Option.some.inj (hq.symm.trans hp)]; exact hpid, hrest, hfree, joinAll_fills l s⟩

end Offers

end Sys2Proof.Machine
end

section
/-! PROOFS. Obligation O21: the check word of a stored CONTROL or BULK parcel (R26 to R28, R32, R39, R40). -/

namespace Sys2Proof.Machine

/-! ## Sets of slots -/

section Sets

variable {f : Slot → Bool} {m : SlotSet} {j k : Slot}

theorem hasSlot_slotBit (k j : Slot) : hasSlot (slotBit k) j = decide (j = k) := by
  revert k j
  decide

theorem hasSlot_addSlot (m : SlotSet) (k j : Slot) : hasSlot (addSlot m k) j = (hasSlot m j || decide (j = k)) := by
  rw [← hasSlot_slotBit]
  exact BitVec.getLsbD_or

theorem hasSlot_gather (l : List Slot) : hasSlot (gather f l m) j = (hasSlot m j || (decide (j ∈ l) && f j)) := by
  induction l generalizing m with
  | nil => simp [gather]
  | cons k l ih =>
    rw [gather_cons, ih, Bool.eq_iff_iff]
    by_cases hf : f k = true
    · rw [if_pos hf, hasSlot_addSlot]
      simp only [Bool.or_eq_true, Bool.and_eq_true, decide_eq_true_iff, List.mem_cons]
      constructor
      · rintro ((h | rfl) | h)
        · exact .inl h
        · exact .inr ⟨.inl rfl, hf⟩
        · exact .inr ⟨.inr h.1, h.2⟩
      · rintro (h | ⟨rfl | h, hj⟩)
        · exact .inl (.inl h)
        · exact .inl (.inr rfl)
        · exact .inr ⟨h, hj⟩
    · rw [if_neg hf]
      simp only [Bool.or_eq_true, Bool.and_eq_true, decide_eq_true_iff, List.mem_cons]
      refine or_congr_right ⟨fun h => ⟨.inr h.1, h.2⟩, fun ⟨h, hj⟩ => ⟨h.resolve_left fun h => hf (h ▸ hj), hj⟩⟩

theorem hasSlot_slotsThat (f : Slot → Bool) (j : Slot) : hasSlot (slotsThat f) j = f j := by
  show hasSlot (gather f allSlots 0) j = f j
  rw [hasSlot_gather]
  simp [hasSlot, mem_allSlots_all]

/-- The members of a set that pass a test, gathered. -/
theorem gather_slotsOf (f : Slot → Bool) (m : SlotSet) :
    gather f (slotsOf m) 0 = slotsThat (fun k => hasSlot m k && f k) := by
  show (allSlots.filter (hasSlot m)).foldl _ 0 = _
  rw [List.foldl_filter]
  unfold slotsThat
  congr 1
  funext a k
  by_cases h : hasSlot m k = true <;> simp [h]

theorem slotsOf_slotsThat (f : Slot → Bool) : slotsOf (slotsThat f) = allSlots.filter f :=
  List.filter_congr fun k _ => hasSlot_slotsThat f k

theorem slotsOf_nodup (m : SlotSet) : (slotsOf m).Nodup := allSlots_nodup.filter _

end Sets

/-! ## Holds released and stalls posted -/

section Release

variable {pid : Nat} {q : Stored} {i : Slot} {m : SlotSet} {s t : State}

/-- What the release of a hold leaves: the parcel with one holder fewer, or its blocks. -/
structure ReleasedOf (pid : Nat) (q : Stored) (s t : State) : Prop where
  held : 1 < q.refs → t.parcel pid = some { q with refs := q.refs - 1 } ∧ t.alarm = s.alarm ∧
    t.pool.freeCount = s.pool.freeCount
  last : q.refs ≤ 1 → t.parcel pid = none ∧ t.pool.freeCount = s.pool.freeCount + q.nBlocks ∧
    (s.isRaised causePoolLow 0 = false → s.glob.lowMark ≤ s.pool.freeCount → t.alarm = s.alarm)
  others : ∀ v, v ≠ pid → t.parcel v = s.parcel v

theorem releaseHold_spec (hp : s.parcel pid = some q) : ReleasedOf pid q s (releaseHold pid s) where
  held h := ⟨(releaseHold_parcel_held hp h pid).trans (if_pos rfl), (releaseHold_held_touches 0 hp h).alarm,
    releaseHold_freeCount_held hp h⟩
  last h := ⟨(releaseHold_parcel_last hp h pid).trans (if_pos rfl), releaseHold_freeCount_last hp h,
    fun hlow hmark => (releaseHold_last_quiet 0 hp h hlow hmark).alarm⟩
  others v hv := by
    rcases Nat.lt_or_ge 1 q.refs with h | h
    · exact (releaseHold_parcel_held hp h v).trans (if_neg hv)
    · exact (releaseHold_parcel_last hp h v).trans (if_neg hv)

theorem settle_unlogged (pid : Nat) (enq disc : SlotSet) (s : State) : settle pid none enq disc s = releaseHold pid s := rfl

theorem stallEntries_touches (j i : Slot) (m : SlotSet) (s : State) : Touches [.alarm, .mgmt] i s (stallEntries j m s) := by
  unfold stallEntries
  generalize slotsOf m = l
  induction l generalizing s with
  | nil => exact .refl ..
  | cons d l ih => exact (postEvent_touches i s ..).then (ih _)

theorem stallEntries_congr (h : SameReporting s t) (j : Slot) (m : SlotSet) :
    SameReporting (stallEntries j m s) (stallEntries j m t) := by
  unfold stallEntries
  generalize slotsOf m = l
  induction l generalizing s t with
  | nil => exact h
  | cons d l ih => exact ih (postEvent_sameReporting h ..)

theorem stallEntries_isRaised (j : Slot) (m : SlotSet) (c : Fin 64) (n : Nat) (s : State) :
    (stallEntries j m s).isRaised c n = s.isRaised c n := by
  unfold stallEntries
  generalize slotsOf m = l
  induction l generalizing s with
  | nil => rfl
  | cons d l ih => exact (ih _).trans (isRaised_postEvent ..)

end Release

/-! ## The good end (R26 to R28, R32) -/

section Good

variable {i k : Slot} {c : Cls} {pid b n : Nat} {p : Stored} {r : Reception} {dest : SlotSet} {s t u v : State}

theorem takes_iff (hc : c ≠ .stream) (k : Slot) : Takes s dest c b k = (hasSlot dest k && s.takes c b k) := by
  have hbeq : (c == .stream) = false := beq_eq_false_iff_ne.mpr hc
  unfold Takes State.takes State.hasRoom State.fits
  rw [hbeq, Bool.false_or, Bool.and_assoc]

theorem blocks_iff (hc : c ≠ .stream) (k : Slot) : Blocks s dest c b k = (hasSlot dest k && s.blocks c b k) := by
  have hbeq : (c == .stream) = false := beq_eq_false_iff_ne.mpr hc
  unfold Blocks State.blocks State.hasRoom State.fits
  rw [hbeq, Bool.false_or, Bool.and_assoc]

/-- What becomes of the destinations of a stored parcel, and the state its copies leave. -/
def offeredTo (dest : SlotSet) (c : Cls) (b : Nat) (s : State) : Offered :=
  { enq := slotsThat (Takes s dest c b), disc := slotsThat (fun k => hasSlot dest k && s.discards k),
    blocked := slotsThat (Blocks s dest c b) }

theorem offerAll_eq (hc : c ≠ .stream) (hp : s.parcel pid = some p) : offerAll pid c i dest s =
    (offeredTo dest c p.nBlocks s, joinAll c pid (allSlots.filter (Takes s dest c p.nBlocks)) s) := by
  have hblocks : s.blocksOf pid = p.nBlocks := by
    unfold State.blocksOf
    rw [hp]
    rfl
  have htakes : (fun k => hasSlot dest k && s.takes c p.nBlocks k) = Takes s dest c p.nBlocks :=
    funext fun k => (takes_iff hc k).symm
  have hblocked : (fun k => hasSlot dest k && s.blocks c p.nBlocks k) = Blocks s dest c p.nBlocks :=
    funext fun k => (blocks_iff hc k).symm
  have hfilter : (slotsOf dest).filter (s.takes c p.nBlocks) = allSlots.filter (Takes s dest c p.nBlocks) := by
    unfold slotsOf
    rw [List.filter_filter, ← htakes]
    exact List.filter_congr fun k _ => Bool.and_comm ..
  unfold offerAll offeredTo
  rw [hblocks, offerEach_eq hc _ (slotsOf_nodup dest) _ ⟨p, hp⟩, gather_slotsOf, gather_slotsOf, gather_slotsOf, htakes,
    hblocked, hfilter]

theorem passedEnd_good (hp : s.parcel pid = some p) (hopen : p.isOpen = false) (hlog : r.log = none)
    (hgovern : r.entry.govern = c) (hc : c ≠ .stream) {o : Offered} (ho : o = offeredTo r.entry.dest c p.nBlocks s)
    (hu : u = joinAll c pid (allSlots.filter (Takes s r.entry.dest c p.nBlocks)) s) :
    passedEnd i r pid .good s =
      if o.blocked = 0 then releaseHold pid u else enterWaiting i pid c none o u := by
  unfold passedEnd passedGood
  rw [hp, hlog, hgovern]
  simp only [Option.map_some, Option.getD_some, hopen, Bool.false_eq_true, if_false]
  rw [offerAll_eq hc hp, ← ho, ← hu, settle_unlogged]

theorem enterWaiting_taken {w : Waiting} {o : Offered} (hw : (s.slot i).ing.waiting = some w) :
    enterWaiting i pid c none o s = releaseHold pid (stallEntries i o.blocked s) := by
  unfold enterWaiting
  rw [hw]
  rfl

/-- The record of a parcel that enters a waiting place with no log record. -/
def waitingOf (c : Cls) (pid : Nat) (o : Offered) (since : Nat) : Waiting :=
  { pid := pid, cls := c, pending := o.blocked, enq := o.enq, disc := o.disc, since := since, log := none }

theorem enterWaiting_empty {o : Offered} (hw : (s.slot i).ing.waiting = none) : enterWaiting i pid c none o s =
    (s.modIng i (fun g => { g with waiting := some (waitingOf c pid o s.timing.core) })).modPort i
      (fun p => { p with holdReq := true }) := by
  unfold enterWaiting
  rw [hw]
  rfl

/-- The reception of a parcel at its good end is over. -/
def endedReception (i : Slot) (s : State) : State := closeReception i (s.setRx i .awaitHeader)

theorem endedReception_touches (i : Slot) (s : State) : Touches [.port, .ing] i s (endedReception i s) :=
  (setRx_touches i s _).then (closeReception_touches ..)

theorem endedReception_port : ((endedReception i s).slot i).port = { (s.slot i).port with rx := .awaitHeader } := by
  rw [endedReception, (closeReception_touches ..).port, setRx_port]

theorem endedReception_ing : ((endedReception i s).slot i).ing = { (s.slot i).ing with reception := none } := by
  rw [endedReception, closeReception_ing, (setRx_touches ..).ing]

theorem endedReception_sameRoom (i k : Slot) (s : State) : SameRoom k s (endedReception i s) := by
  have h := endedReception_touches i s
  refine ⟨by rw [h.ctl], h.cfg (by decide) k, h.egr (by decide) k, fun j => ?_, fun v => ?_⟩
  · by_cases hj : j = i
    · rw [hj, endedReception_ing]
    · rw [h.others j hj]
  · unfold State.blocksOf State.parcel
    rw [h.pool]

theorem parcelEnd_passed_setRx {e : PEnd} (hr : (s.slot i).ing.reception = some r) (hfate : r.fate = .passed pid) :
    parcelEnd i e (s.setRx i .awaitHeader) = passedEnd i r pid e (endedReception i s) :=
  parcelEnd_passed (by rw [(setRx_touches ..).ing, hr]) hfate

theorem takes_ended (hc : c ≠ .stream) : Takes (endedReception i s) dest c b = Takes s dest c b := by
  funext k
  rw [takes_iff hc, takes_iff hc, takes_congr (endedReception_sameRoom i k s)]

theorem offeredTo_ended (hc : c ≠ .stream) :
    offeredTo dest c b (endedReception i s) = offeredTo dest c b s := by
  have hblocks : Blocks (endedReception i s) dest c b = Blocks s dest c b := by
    funext k
    rw [blocks_iff hc, blocks_iff hc, blocks_congr (endedReception_sameRoom i k s)]
  have hdiscards (k : Slot) : (endedReception i s).discards k = s.discards k :=
    discards_congr (endedReception_sameRoom i k s)
  unfold offeredTo
  rw [takes_ended hc, hblocks]
  simp only [hdiscards]

end Good

end Sys2Proof.Machine
end

section
/-! PROOFS. Obligation O21, continued: the three ways a good end leaves the parcel, and the bad end. -/

namespace Sys2Proof.Machine

section Ends

variable {i : Slot} {c : Cls} {pid n : Nat} {p : Stored} {o : Offered} {L : List Slot} {s t u : State}

/-- What the good end of a stored parcel leaves at every slot: `L` the queues it joined. -/
structure EndsGood (i : Slot) (c : Cls) (pid : Nat) (L : List Slot) (s t : State) : Prop where
  rx : (t.slot i).port.rx = .awaitHeader
  reception : (t.slot i).ing.reception = none
  egr : ∀ k, (t.slot k).egr = if k ∈ L then (s.slot k).egr.joined c pid else (s.slot k).egr
  ctl : ∀ k, (t.slot k).ctl =
    if k ∈ L ∧ (s.slot k).cfg.wakeOnTraffic = true then ((applyWake k s).slot k).ctl else (s.slot k).ctl
  ings : ∀ k, k ≠ i → (t.slot k).ing = (s.slot k).ing
  parcels : ∀ v, v ≠ pid → t.parcel v = s.parcel v
  keeps : KeepsBut [.port, .ing, .egr, .ctl, .pool, .alarm, .mgmt] s t
  grow : RepliesGrow s t
  fills : Fills s t

/-- The state after the offers, before the parcel is settled. -/
structure AfterOffers (i : Slot) (c : Cls) (pid : Nat) (p : Stored) (L : List Slot) (s u : State) : Prop where
  ends : EndsGood i c pid L s u
  parcel : u.parcel pid = some { p with refs := p.refs + L.length }
  free : u.pool.freeCount = s.pool.freeCount
  reporting : SameReporting s u
  glob : u.glob = s.glob
  core : u.timing.core = s.timing.core
  waiting : (u.slot i).ing.waiting = (s.slot i).ing.waiting
  hold : (u.slot i).port.holdReq = (s.slot i).port.holdReq

theorem afterOffers (hL : L.Nodup) (hp : s.parcel pid = some p) (hu : u = joinAll c pid L (endedReception i s)) :
    AfterOffers i c pid p L s u := by
  have hset := endedReception_touches i s
  have hp' : (endedReception i s).parcel pid = some p := by rw [State.parcel, hset.pool]; exact hp
  have hjoins := joinAll_joins (c := c) hL hp'
  rw [← hu] at hjoins
  have hing (k : Slot) : (u.slot k).ing = ((endedReception i s).slot k).ing := hjoins.keeps.ing (by decide) k
  have hport := hjoins.port i
  unfold Port.wokenAs at hport
  rw [endedReception_port] at hport
  have hkeeps : KeepsBut [.port, .ing, .egr, .ctl, .pool] s u := hset.keeps.then hjoins.keeps
  have hctl (k : Slot) : ((endedReception i s).slot k).ctl = (s.slot k).ctl := hset.ctl (by decide) k
  refine ⟨⟨by rw [hport], by rw [hing, endedReception_ing], fun k => ?_, fun k => ?_, fun k hk => ?_, fun v hv => ?_,
    hkeeps.mono, .of_eq hkeeps.mgmt, hset.leaves.fills.trans hjoins.fills⟩, hjoins.parcel p hp',
    by rw [hjoins.free, hset.pool], ⟨hkeeps.alarm, hkeeps.watches, hkeeps.timing⟩, hkeeps.glob, by rw [hkeeps.timing],
    by rw [hing, endedReception_ing], by rw [hport]⟩
  · rw [hjoins.egr, hset.egr]
  · rw [hjoins.ctl, hctl, hset.cfg, applyWake_ctl_congr (hctl k) hset.timing]
  · rw [hing, hset.others k hk]
  · rw [hjoins.others v hv, State.parcel, hset.pool]
    rfl

/-- A settling that leaves queues, controls and receptions keeps what the good end leaves. -/
theorem EndsGood.then (h : EndsGood i c pid L s u) (g : Touches [.pool, .alarm, .mgmt] i u t)
    (hparcels : ∀ v, v ≠ pid → t.parcel v = u.parcel v) : EndsGood i c pid L s t where
  rx := by rw [g.port, h.rx]
  reception := by rw [g.ing, h.reception]
  egr k := by rw [g.egr, h.egr]
  ctl k := by rw [g.ctl, h.ctl]
  ings k hk := by rw [g.ing, h.ings k hk]
  parcels v hv := (hparcels v hv).trans (h.parcels v hv)
  keeps := h.keeps.then g.keeps
  grow := h.grow.trans g.grow
  fills := h.fills.trans g.leaves.fills

/-- The reception's hold is released after the offers and a report of the stalls `m`, if there are any. -/
theorem settled_after (h : AfterOffers i c pid p L s u) (m : SlotSet) {v : State} (hv : v = stallEntries i m u) :
    EndsGood i c pid L s (releaseHold pid v) ∧
    ((releaseHold pid v).slot i).ing.waiting = (s.slot i).ing.waiting ∧
    ((releaseHold pid v).slot i).port.holdReq = (s.slot i).port.holdReq ∧
    (1 < p.refs + L.length → (releaseHold pid v).parcel pid = some { p with refs := p.refs + L.length - 1 } ∧
      (releaseHold pid v).alarm = (stallEntries i m s).alarm ∧
      (releaseHold pid v).pool.freeCount = s.pool.freeCount) ∧
    (p.refs + L.length = 1 → (releaseHold pid v).parcel pid = none ∧
      (releaseHold pid v).pool.freeCount = s.pool.freeCount + p.nBlocks ∧
      (s.isRaised causePoolLow 0 = false → s.glob.lowMark ≤ s.pool.freeCount →
        (releaseHold pid v).alarm = (stallEntries i m s).alarm)) := by
  have hstalls : Touches [.alarm, .mgmt] i u v := hv ▸ stallEntries_touches ..
  have halarm : v.alarm = (stallEntries i m s).alarm := hv ▸ (stallEntries_congr h.reporting i m).1
  have hp : v.parcel pid = some { p with refs := p.refs + L.length } := by
    rw [State.parcel, hstalls.pool]
    exact h.parcel
  have hreleased := releaseHold_spec hp
  have hrelease := releaseHold_touches i v pid
  have hfree : v.pool.freeCount = s.pool.freeCount := by rw [hstalls.pool, h.free]
  have hboth : Touches [.pool, .alarm, .mgmt] i u (releaseHold pid v) := hstalls.then hrelease
  refine ⟨h.ends.then hboth fun w hw => (hreleased.others w hw).trans (by rw [State.parcel, hstalls.pool]; rfl),
    by rw [hboth.ing, h.waiting], by rw [hboth.port, h.hold], fun hmany => ?_, fun hone => ?_⟩
  · obtain ⟨hparcel, hsame, hcount⟩ := hreleased.held hmany
    exact ⟨hparcel, hsame.trans halarm, hcount.trans hfree⟩
  · obtain ⟨hparcel, hcount, hquiet⟩ := hreleased.last (Nat.le_of_eq hone)
    refine ⟨hparcel, by rw [hcount, hfree], fun hlow hmark => (hquiet ?_ ?_).trans halarm⟩
    · rw [hv, stallEntries_isRaised, isRaised_of_alarm h.reporting.1, hlow]
    · rw [hfree, hstalls.glob, h.glob]
      exact hmark

theorem stallEntries_none (i : Slot) (s : State) : stallEntries i 0 s = s := rfl

end Ends

/-! ## The treatment of destinations (R27) -/

theorem treatment_table (k : Slot) (s : State) : s.treatment k =
    (if (s.slot k).ctl.phase = .draining then .discarded
      else if (s.slot k).ctl.phase = .admitted then
        (if (s.slot k).cfg.manualHold = true ∧ (s.slot k).cfg.policy = .discard then .discarded else .queued)
      else if (s.slot k).ctl.phase = .powering ∨ (s.slot k).ctl.phase = .training then
        (if (s.slot k).cfg.manualHold = false then .undeliverable
          else if (s.slot k).cfg.policy = .queue then .queued else .discarded)
      else .undeliverable) := by
  have hheld : (if (s.slot k).cfg.manualHold = true
        then (if (s.slot k).cfg.policy = .queue then Treatment.queued else .discarded) else .undeliverable) =
      (if (s.slot k).cfg.manualHold = false then .undeliverable
        else if (s.slot k).cfg.policy = .queue then .queued else .discarded) := by
    cases (s.slot k).cfg.manualHold <;> rfl
  unfold State.treatment
  dsimp only
  cases (s.slot k).ctl.phase with
  | powering => exact hheld
  | training => exact hheld
  | empty | seated | admitted | draining | quiesced | faulted => rfl

/-! ## Obligation O21 -/

section CheckWord

variable {i : Slot} {w crc : Word} {hw : Header} {r : Reception} {pid : Nat} {c : Cls} {p : Stored} {n : Nat} {s : State}

/-- The check word of a stored parcel in reception, with no log record. -/
structure StoredEnd (i : Slot) (crc : Word) (hw : Header) (r : Reception) (pid : Nat) (c : Cls) (p : Stored) (s : State) :
    Prop where
  frames : s.framing i = true
  settled : s.settled
  rx : (s.slot i).port.rx = .inParcel hw 0 crc
  reception : (s.slot i).ing.reception = some r
  fate : r.fate = .passed pid
  log : r.log = none
  govern : r.entry.govern = c
  cls : c ≠ .stream
  parcel : s.parcel pid = some p
  isOpen : p.isOpen = false

/-- The slots that take a copy, in ascending order. -/
def takers (r : Reception) (c : Cls) (p : Stored) (s : State) : List Slot :=
  allSlots.filter (Takes s r.entry.dest c p.nBlocks)

theorem mem_takers (k : Slot) : k ∈ takers r c p s ↔ Takes s r.entry.dest c p.nBlocks k = true := by
  unfold takers
  rw [List.mem_filter]
  exact and_iff_right (mem_allSlots_all k)

theorem goodEnd_exec (h : StoredEnd i crc hw r pid c p s) {o : Offered} (ho : o = offeredTo r.entry.dest c p.nBlocks s)
    {t u : State} (hu : u = joinAll c pid (takers r c p s) (endedReception i s))
    (ht : t = if o.blocked = 0 then releaseHold pid u else enterWaiting i pid c none o u) (hfills : Fills s t) :
    exec (.bodyWord i (~~~crc)) s = .next t := by
  have hp : (endedReception i s).parcel pid = some p := by
    rw [State.parcel, (endedReception_touches i s).pool]
    exact h.parcel
  refine exec_checkWord h.frames h.rx ?_ (hfills.settles h.settled)
  rw [if_pos rfl, parcelEnd_passed_setRx h.reception h.fate,
    passedEnd_good (o := o) (u := u) hp h.isOpen h.log h.govern h.cls (by rw [offeredTo_ended h.cls, ho])
      (by rw [takes_ended h.cls]; exact hu), ht]

theorem goodEnd (h : StoredEnd i crc hw r pid c p s)
    (hn : n = (slotsOf (slotsThat (Takes s r.entry.dest c p.nBlocks))).length) :
    ∃ t, exec (.bodyWord i (~~~crc)) s = .next t ∧ EndsGood i c pid (takers r c p s) s t ∧
      (slotsThat (Blocks s r.entry.dest c p.nBlocks) = 0 →
        (t.slot i).ing.waiting = (s.slot i).ing.waiting ∧ (t.slot i).port.holdReq = (s.slot i).port.holdReq ∧
        (1 < p.refs + n → t.parcel pid = some { p with refs := p.refs + n - 1 } ∧ t.alarm = s.alarm ∧
          t.pool.freeCount = s.pool.freeCount) ∧
        (p.refs + n = 1 → t.parcel pid = none ∧ t.pool.freeCount = s.pool.freeCount + p.nBlocks ∧
          (s.isRaised causePoolLow 0 = false → s.glob.lowMark ≤ s.pool.freeCount → t.alarm = s.alarm))) ∧
      (slotsThat (Blocks s r.entry.dest c p.nBlocks) ≠ 0 → (s.slot i).ing.waiting = none →
        (t.slot i).ing.waiting = some
          { pid := pid, cls := c, pending := slotsThat (Blocks s r.entry.dest c p.nBlocks),
            enq := slotsThat (Takes s r.entry.dest c p.nBlocks),
            disc := slotsThat (fun k => hasSlot r.entry.dest k && s.treatment k == .discarded),
            since := s.timing.core, log := none } ∧
        (t.slot i).port.holdReq = true ∧ t.parcel pid = some { p with refs := p.refs + n } ∧ t.alarm = s.alarm ∧
        t.pool.freeCount = s.pool.freeCount) ∧
      (∀ v, slotsThat (Blocks s r.entry.dest c p.nBlocks) ≠ 0 → (s.slot i).ing.waiting = some v →
        (t.slot i).ing.waiting = some v ∧ (t.slot i).port.holdReq = (s.slot i).port.holdReq ∧
        (1 < p.refs + n → t.parcel pid = some { p with refs := p.refs + n - 1 } ∧
          t.alarm = (stallEntries i (slotsThat (Blocks s r.entry.dest c p.nBlocks)) s).alarm ∧
          t.pool.freeCount = s.pool.freeCount) ∧
        (p.refs + n = 1 → t.parcel pid = none ∧ t.pool.freeCount = s.pool.freeCount + p.nBlocks ∧
          (s.isRaised causePoolLow 0 = false → s.glob.lowMark ≤ s.pool.freeCount →
            t.alarm = (stallEntries i (slotsThat (Blocks s r.entry.dest c p.nBlocks)) s).alarm))) := by
  obtain ⟨u, hu⟩ : ∃ u, u = joinAll c pid (takers r c p s) (endedReception i s) := ⟨_, rfl⟩
  obtain ⟨o, ho⟩ : ∃ o, o = offeredTo r.entry.dest c p.nBlocks s := ⟨_, rfl⟩
  have hoffers : AfterOffers i c pid p (takers r c p s) s u := afterOffers (allSlots_nodup.filter _) h.parcel hu
  have hlength : (takers r c p s).length = n := by rw [hn, slotsOf_slotsThat]; rfl
  have hblocked : o.blocked = slotsThat (Blocks s r.entry.dest c p.nBlocks) := by rw [ho]; rfl
  rw [← hblocked]
  by_cases hclear : o.blocked = 0
  · obtain ⟨hends, hwaiting, hhold, hmany, hone⟩ := settled_after hoffers 0 (stallEntries_none i u).symm
    rw [hlength] at hmany hone
    rw [stallEntries_none] at hmany hone
    exact ⟨_, goodEnd_exec h ho hu (if_pos hclear).symm hends.fills, hends,
      fun _ => ⟨hwaiting, hhold, hmany, hone⟩, fun hne => absurd hclear hne, fun _ hne => absurd hclear hne⟩
  · cases hw' : (s.slot i).ing.waiting with
    | some v =>
      obtain ⟨hends, hwaiting, hhold, hmany, hone⟩ := settled_after hoffers o.blocked rfl
      rw [hlength] at hmany hone
      have htaken : enterWaiting i pid c none o u = releaseHold pid (stallEntries i o.blocked u) :=
        enterWaiting_taken (w := v) (by rw [hoffers.waiting, hw'])
      refine ⟨_, goodEnd_exec h ho hu (by rw [if_neg hclear, htaken]) hends.fills, hends, fun hz => absurd hz hclear,
        fun _ => nofun, fun x _ hx => ⟨?_, hhold, hmany, hone⟩⟩
      rw [hwaiting, hw', hx]
    | none =>
      have hempty : enterWaiting i pid c none o u =
          (u.modIng i (fun g => { g with waiting := some (waitingOf c pid o u.timing.core) })).modPort i
            (fun p => { p with holdReq := true }) := enterWaiting_empty (by rw [hoffers.waiting, hw'])
      obtain ⟨t, ht⟩ : ∃ t, t = enterWaiting i pid c none o u := ⟨_, rfl⟩
      have hset := modIng_touches i u (fun g => { g with waiting := some (waitingOf c pid o u.timing.core) })
      have hafter : Touches [.ing, .port] i u t := by
        rw [ht, hempty]
        exact hset.then (modPort_touches ..)
      have hing : (t.slot i).ing = { (u.slot i).ing with waiting := some (waitingOf c pid o u.timing.core) } := by
        rw [ht, hempty, (modPort_touches ..).ing, modIng_ing_self]
      have hport : (t.slot i).port = { (u.slot i).port with holdReq := true } := by
        rw [ht, hempty, modPort_port_self, hset.port]
      have hends : EndsGood i c pid (takers r c p s) s t :=
        { rx := by rw [hport]; exact hoffers.ends.rx
          reception := by rw [hing]; exact hoffers.ends.reception
          egr := fun k => by rw [hafter.egr, hoffers.ends.egr]
          ctl := fun k => by rw [hafter.ctl, hoffers.ends.ctl]
          ings := fun k hk => by rw [hafter.others k hk, hoffers.ends.ings k hk]
          parcels := fun v hv => by rw [State.parcel, hafter.pool]; exact hoffers.ends.parcels v hv
          keeps := hoffers.ends.keeps.then hafter.keeps
          grow := hoffers.ends.grow.trans hafter.grow
          fills := hoffers.ends.fills.trans hafter.leaves.fills }
      refine ⟨t, goodEnd_exec h ho hu (by rw [if_neg hclear, ht]) hends.fills, hends, fun hz => absurd hz hclear,
        fun _ _ => ⟨?_, by rw [hport], ?_, ?_, ?_⟩, fun _ _ => nofun⟩
      · rw [hing, hoffers.core, ho]
        rfl
      · rw [State.parcel, hafter.pool, ← hlength]
        exact hoffers.parcel
      · rw [hafter.alarm, hoffers.reporting.1]
      · rw [hafter.pool, hoffers.free]

theorem badEnd (h : StoredEnd i crc hw r pid c p s) (hbad : w ≠ ~~~crc) :
    ∃ t, exec (.bodyWord i w) s = .next t ∧ (t.slot i).port = { (s.slot i).port with rx := .awaitHeader } ∧
      (t.slot i).ing = { (s.slot i).ing with reception := none } ∧ EndsBad i r.hdr.chan pid p s t ∧
      KeepsBut [.port, .ing, .pool, .alarm, .mgmt] s t ∧ OnlyReplies s t ∧ OtherSlots i s t := by
  have hset := setRx_touches i s .awaitHeader
  obtain ⟨hend, hing, hbad'⟩ := parcelEnd_bad (i := i) (s := s.setRx i .awaitHeader) (by rw [hset.ing, h.reception])
    h.fate h.log (by rw [State.parcel, hset.pool]; exact h.parcel) h.isOpen
  have hall := hset.then hend (rs := [.port, .ing, .pool, .alarm, .mgmt])
  refine ⟨_, exec_checkWord h.frames h.rx (by rw [if_neg hbad]) (hall.settleDrains h.settled), ?_, ?_, ?_, hall.keeps,
    hall.replies, hall.others⟩
  · rw [hend.port, setRx_port]
  · rw [hing, hset.ing]
  · have hsame : SameReporting s (s.setRx i .awaitHeader) := ⟨hset.alarm, hset.watches, hset.timing⟩
    obtain ⟨hheld, hlast⟩ := hbad'
    rw [postEvent_alarm_congr hsame, hset.pool] at hheld hlast
    rw [isRaised_of_alarm hset.alarm, hset.glob] at hlast
    exact ⟨hheld, hlast⟩

end CheckWord

/-- Settles O21, by the treatment of destinations and the ends of the parcel. -/
theorem checkWordEndsStoredParcel : Obligations.CheckWordEndsStoredParcel := by
  refine ⟨treatment_table, fun i w crc hw r pid c p n s hframes hs hrx hr hfate hlog hgovern hc hp hopen _ => ?_⟩
  have h : StoredEnd i crc hw r pid c p s :=
    ⟨hframes, hs, hrx, hr, hfate, hlog, hgovern, hc, hp, hopen⟩
  refine ⟨fun hgood hn => ?_, badEnd h⟩
  obtain ⟨t, hexec, hends, hclear, hwaits, hstalls⟩ := goodEnd h hn
  have hmem (k : Slot) : (k ∈ takers r c p s) = (Takes s r.entry.dest c p.nBlocks k = true) := propext (mem_takers k)
  have hegr := hends.egr
  have hctl := hends.ctl
  simp only [hmem] at hegr hctl
  exact ⟨t, hgood ▸ hexec, hends.rx, hends.reception, hegr, hctl, hclear, hwaits, hstalls, hends.ings, hends.parcels,
    hends.keeps, onlyReplies_of_grow hends.grow⟩

end Sys2Proof.Machine
end

section
/-! PROOFS. Obligation O22: a STREAM parcel head-drops what is in its way (R27, R28, R30, R42). -/

namespace Sys2Proof.Machine

/-! ## Changes of one egress (R46) -/

/-- Nothing is left to report after a change of the egress of a slot that is not DRAINING. -/
theorem settles_of_egr {d : Slot} {s t : State} (hs : s.settled)
    (hphase : ∀ j, (t.slot j).ctl.phase = (s.slot j).ctl.phase) (hegr : ∀ j, j ≠ d → (t.slot j).egr = (s.slot j).egr)
    (hgrow : RepliesGrow s t) (hd : (s.slot d).ctl.phase ≠ .draining) : settleDrains t = t := by
  refine settleDrains_of_settled (drained_none_of_before hs fun j hj hempty => ?_)
  rw [hphase] at hj
  refine ⟨hj, ?_⟩
  have hjd : j ≠ d := fun h => hd (h ▸ hj)
  obtain ⟨l, hmgmt⟩ := hgrow
  rw [egressEmpty_iff, hegr j hjd, mgmtSlot_of_msel (show t.mgmt.msel = s.mgmt.msel by rw [hmgmt]), hmgmt] at hempty
  exact egressEmpty_iff.mpr ⟨hempty.1, fun hm => ⟨(List.append_eq_nil_iff.mp (hempty.2 hm).1).1, (hempty.2 hm).2⟩⟩

theorem phase_of_queued {d : Slot} {s : State} (h : s.treatment d = .queued) : (s.slot d).ctl.phase ≠ .draining := by
  intro hphase
  unfold State.treatment at h
  dsimp only at h
  rw [hphase] at h
  exact Treatment.noConfusion h

/-! ## Parcels dropped from the head of a STREAM queue (R42) -/

section Drop

variable {d : Slot} {v b k : Nat} {x : Stored} {l q rest : List Nat} {s t u : State}

/-- What the drop of the parcels `l`, oldest first, leaves of a STREAM queue `l ++ rest` of a slot that sends nothing. -/
structure Drops (d : Slot) (l rest : List Nat) (s t : State) : Prop where
  touches : Touches [.egr, .pool, .alarm, .mgmt] d s t
  egr : (t.slot d).egr = { (s.slot d).egr with stream := rest }
  dropped : ∀ v, v ∈ l → ∃ x, s.parcel v = some x ∧ t.parcel v = some { x with refs := x.refs - 1 }
  others : ∀ v, v ∉ l → t.parcel v = s.parcel v
  free : t.pool.freeCount = s.pool.freeCount
  alarm : t.alarm = (dropEntries d l s).alarm

theorem Drops.nil (hrest : (s.slot d).egr.stream = rest) : Drops d [] rest s s :=
  ⟨.refl .., by rw [← hrest], nofun, fun _ _ => rfl, rfl, rfl⟩

/-- A parcel that can be dropped without a return of blocks. -/
def Droppable (s : State) (v : Nat) : Prop := ∃ x, s.parcel v = some x ∧ 1 < x.refs ∧ x.isOpen = false

theorem headDropOne_drops (hstream : (s.slot d).egr.stream = v :: rest) (htx : (s.slot d).egr.tx = .idle)
    (hv : Droppable s v) : Drops d [v] rest s (headDropOne d v s) := by
  obtain ⟨x, hx, hrefs, hopen⟩ := hv
  obtain ⟨u, hu⟩ : ∃ u, u = s.modEgr d (fun e => e.without .stream v) := ⟨_, rfl⟩
  have hset : Touches [.egr] d s u := hu ▸ modEgr_touches ..
  have hx' : u.parcel v = some x := by rw [State.parcel, hset.pool]; exact hx
  have hrelease := releaseHold_held_touches d hx' hrefs
  have hpost := postEvent_touches d (releaseHold v u) causeStreamDrop d.val (wordOf x.owner.val)
  have hdrop : headDropOne d v s = postEvent causeStreamDrop d.val (wordOf x.owner.val) (releaseHold v u) := by
    unfold headDropOne removeRef
    rw [hx, hu]
    dsimp only
    rw [hopen]
    rfl
  have hsent := hset.then hrelease (rs := [.egr, .pool])
  have hparcel (k : Nat) : (headDropOne d v s).parcel k =
      if k = v then some { x with refs := x.refs - 1 } else s.parcel k := by
    rw [hdrop, State.parcel, hpost.pool]
    refine (releaseHold_parcel_held hx' hrefs k).trans ?_
    rw [State.parcel, hset.pool]
    rfl
  refine ⟨hdrop ▸ hsent.then hpost, ?_, fun w hw => ?_, fun w hw => ?_, ?_, ?_⟩
  · rw [hdrop, hpost.egr, hrelease.egr, hu, modEgr_egr_self]
    show { (s.slot d).egr with stream := (s.slot d).egr.stream.erase v, tx := (s.slot d).egr.tx.forget .stream v } = _
    rw [hstream, htx, List.erase_cons_head]
    cases h : (s.slot d).egr
    simp_all [Tx.forget]
  · rw [List.mem_singleton.mp hw]
    exact ⟨x, hx, (hparcel v).trans (if_pos rfl)⟩
  · exact (hparcel w).trans (if_neg fun h => hw (List.mem_singleton.mpr h))
  · rw [hdrop, hpost.pool, releaseHold_freeCount_held hx' hrefs, hset.pool]
  · have howner : ((s.parcel v).map (·.owner.val)).getD 0 = x.owner.val := by rw [hx]; rfl
    unfold dropEntries
    rw [List.foldl_cons, List.foldl_nil, howner, hdrop]
    exact postEvent_alarm_congr ⟨hsent.alarm, hsent.watches, hsent.timing⟩ ..

/-- The entries of drops from a state, with the parcels as another state holds them. -/
theorem dropEntries_congr (hparcel : ∀ v, v ∈ l → t.parcel v = s.parcel v) {a : State} (h : SameReporting a t) :
    SameReporting (l.foldl (fun u v =>
      postEvent causeStreamDrop d.val (wordOf (((s.parcel v).map (·.owner.val)).getD 0)) u) a) (dropEntries d l t) := by
  have hgen (l' : List Nat) (hl' : l' ⊆ l) (a b : State) (hab : SameReporting a b) :
      SameReporting
        (l'.foldl (fun u v => postEvent causeStreamDrop d.val (wordOf (((s.parcel v).map (·.owner.val)).getD 0)) u) a)
        (l'.foldl (fun u v => postEvent causeStreamDrop d.val (wordOf (((t.parcel v).map (·.owner.val)).getD 0)) u) b) := by
    induction l' generalizing a b with
    | nil => exact hab
    | cons v l' ih =>
      obtain ⟨hv, hl'⟩ := List.cons_subset.mp hl'
      rw [List.foldl_cons, List.foldl_cons, hparcel v hv]
      exact ih hl' _ _ (postEvent_sameReporting hab ..)
  exact hgen l (List.Subset.refl l) a t h

theorem dropEntries_cons (v : Nat) (l : List Nat) (s : State) : dropEntries d (v :: l) s =
    l.foldl (fun u v => postEvent causeStreamDrop d.val (wordOf (((s.parcel v).map (·.owner.val)).getD 0)) u)
      (dropEntries d [v] s) := rfl

/-- The drops of a list are those of its head and then of its rest. -/
theorem Drops.cons (h : Drops d [v] (l ++ rest) s u) (g : Drops d l rest u t) (hv : v ∉ l) : Drops d (v :: l) rest s t where
  touches := h.touches.then g.touches
  egr := by rw [g.egr, h.egr]
  dropped w hw := by
    rcases List.mem_cons.mp hw with rfl | hw
    · obtain ⟨x, hx, hx'⟩ := h.dropped w List.mem_cons_self
      exact ⟨x, hx, (g.others w hv).trans hx'⟩
    · obtain ⟨x, hx, hx'⟩ := g.dropped w hw
      have hne : w ∉ [v] := fun h => hv (List.mem_singleton.mp h ▸ hw)
      exact ⟨x, (h.others w hne).symm.trans hx, hx'⟩
  others w hw := by
    rw [List.mem_cons, not_or] at hw
    exact (g.others w hw.2).trans (h.others w fun h => hw.1 (List.mem_singleton.mp h))
  free := g.free.trans h.free
  alarm := by
    have hrest (w : Nat) (hw : w ∈ l) : u.parcel w = s.parcel w :=
      h.others w fun h => hv (List.mem_singleton.mp h ▸ hw)
    have hone : Touches [.alarm, .mgmt] d s (dropEntries d [v] s) := postEvent_touches ..
    have hsame : SameReporting (dropEntries d [v] s) u :=
      ⟨h.alarm, h.touches.watches.trans hone.watches.symm, h.touches.timing.trans hone.timing.symm⟩
    rw [g.alarm, dropEntries_cons]
    exact (dropEntries_congr hrest hsame).1

theorem Drops.sameBlocks (h : Drops d l rest s t) : SameBlocks s t := fun v => by
  unfold State.blocksOf
  by_cases hv : v ∈ l
  · obtain ⟨x, hx, hx'⟩ := h.dropped v hv
    rw [hx, hx']
    rfl
  · rw [h.others v hv]

/-- The blocks of a queue and of one more parcel fit under the STREAM limit. -/
theorem fits_stream (hstream : (s.slot d).egr.stream = q) :
    s.fits d .stream b = decide (blocksSum s q + b ≤ (s.slot d).cfg.streamLimit) := by
  unfold State.fits State.occupancy blocksSum
  rw [show (s.slot d).egr.queue .stream = q from hstream]
  rfl

theorem blocksSum_congr (h : SameBlocks s t) (q : List Nat) : blocksSum t q = blocksSum s q := by
  unfold blocksSum
  exact congrArg List.sum (List.map_congr_left fun v _ => h v)

/-- Head-drop stops as soon as the parcel fits, or with the queue empty. -/
theorem headDrop_drops (hq : (s.slot d).egr.stream = q) (htx : (s.slot d).egr.tx = .idle) (hnodup : q.Nodup)
    (hall : ∀ v, v ∈ q → Droppable s v) (hk : k ≤ q.length)
    (hfull : ∀ j, j < k → (s.slot d).cfg.streamLimit < blocksSum s (q.drop j) + b)
    (hstop : k = q.length ∨ blocksSum s (q.drop k) + b ≤ (s.slot d).cfg.streamLimit) :
    Drops d (q.take k) (q.drop k) s (headDrop d b q s) := by
  induction q generalizing s k with
  | nil =>
    rw [List.take_nil, List.drop_nil]
    exact .nil hq
  | cons v q ih =>
    cases k with
    | zero =>
      have hfits : s.fits d .stream b = true := by
        rw [fits_stream hq]
        exact decide_eq_true (hstop.resolve_left (by simp))
      have hdone : headDrop d b (v :: q) s = s := if_pos hfits
      rw [hdone]
      exact .nil hq
    | succ k =>
      obtain ⟨hv, hnodup⟩ := List.nodup_cons.mp hnodup
      have hnot : s.fits d .stream b = false := by
        rw [fits_stream hq]
        exact decide_eq_false (Nat.not_le.mpr (hfull 0 (Nat.succ_pos k)))
      have hstep : headDrop d b (v :: q) s = headDrop d b q (headDropOne d v s) :=
        if_neg (by rw [hnot]; exact Bool.false_ne_true)
      have hone := headDropOne_drops hq htx (hall v List.mem_cons_self)
      have hblocks := blocksSum_congr hone.sameBlocks
      have hcfg : ((headDropOne d v s).slot d).cfg = (s.slot d).cfg := hone.touches.cfg (by decide) d
      have hrest := ih (s := headDropOne d v s) (k := k) (by rw [hone.egr]) (by rw [hone.egr]; exact htx) hnodup
        (fun w hw => by
          unfold Droppable
          rw [hone.others w fun h => hv (List.mem_singleton.mp h ▸ hw)]
          exact hall w (List.mem_cons_of_mem v hw))
        (Nat.le_of_succ_le_succ hk)
        (fun j hj => by rw [hcfg, hblocks]; exact hfull (j + 1) (Nat.succ_lt_succ hj))
        (by rw [hcfg, hblocks]; exact hstop.imp (fun h => Nat.succ_injective h) id)
      rw [hstep, List.take_succ_cons, List.drop_succ_cons]
      refine Drops.cons ?_ hrest fun h => hv (List.mem_of_mem_take h)
      rw [List.take_append_drop]
      exact hone

end Drop

end Sys2Proof.Machine
end

section
/-! PROOFS. Obligation O22, continued: the STREAM parcel joins behind the drops or is dropped too (R28, R42). -/

namespace Sys2Proof.Machine

section Offer

variable {d i : Slot} {pid : Nat} {p : Stored} {r : Reception} {s u v : State}

theorem slotsOf_slotBit (d : Slot) : slotsOf (slotBit d) = [d] := by
  revert d
  decide

theorem addSlot_zero (d : Slot) : addSlot 0 d = slotBit d := by
  revert d
  decide

/-- A STREAM parcel offered to its one destination. -/
theorem offerAll_stream (hqueued : s.treatment d = .queued) : offerAll pid .stream i (slotBit d) s =
    (if (offerStream d pid i (s.blocksOf pid) s).1 = true then { enq := slotBit d, disc := 0, blocked := 0 }
      else { enq := 0, disc := slotBit d, blocked := 0 }, (offerStream d pid i (s.blocksOf pid) s).2) := by
  unfold offerAll
  rw [slotsOf_slotBit]
  unfold offerEach offerEach offerOne
  rw [hqueued]
  dsimp only
  split
  · rw [addSlot_zero]
  · rw [addSlot_zero]

/-- With nothing in transmission nothing of the queue is spared. -/
theorem offerStream_eq {b : Nat} (htx : (s.slot d).egr.tx = .idle)
    (hu : u = headDrop d b (s.slot d).egr.stream s) : offerStream d pid i b s =
    if u.fits d .stream b then (true, enqueueRef d .stream pid u)
    else (false, postEvent causeStreamDrop d.val (wordOf i.val) u) := by
  have hall : (s.slot d).egr.stream.filter (fun v => !(s.slot d).egr.tx.started v) = (s.slot d).egr.stream := by
    rw [htx]
    exact List.filter_eq_self.mpr fun _ _ => rfl
  unfold offerStream
  rw [hall, ← hu]

theorem passedEnd_stream (hp : s.parcel pid = some p) (hopen : p.isOpen = false) (hlog : r.log = none)
    (hgovern : r.entry.govern = .stream) (hdest : r.entry.dest = slotBit d) (hqueued : s.treatment d = .queued) :
    passedEnd i r pid .good s = releaseHold pid (offerStream d pid i p.nBlocks s).2 := by
  have hblocks : s.blocksOf pid = p.nBlocks := by
    unfold State.blocksOf
    rw [hp]
    rfl
  unfold passedEnd passedGood
  rw [hp, hlog, hgovern, hdest]
  simp only [Option.map_some, Option.getD_some, hopen, Bool.false_eq_true, if_false]
  rw [offerAll_stream hqueued, hblocks, if_pos, settle_unlogged]
  split <;> rfl

/-- A parcel that joined the egress of a slot that sends nothing. -/
theorem joined_stream {e : Egress} (h : e.tx = .idle) : e.joined .stream pid = { e with stream := e.stream ++ [pid] } := by
  cases e
  subst h
  rfl

end Offer

section HeadDrop

variable {i d : Slot} {w crc : Word} {hw : Header} {r : Reception} {pid k : Nat} {p : Stored} {q : List Nat} {s : State}

/-- The good check word of a STREAM parcel that was not opened, with one destination, which queues it and sends
nothing, its queue full of parcels that are held elsewhere. -/
structure StreamEnd (i d : Slot) (crc : Word) (hw : Header) (r : Reception) (pid : Nat) (p : Stored) (q : List Nat)
    (s : State) : Prop where
  frames : s.framing i = true
  settled : s.settled
  rx : (s.slot i).port.rx = .inParcel hw 0 crc
  reception : (s.slot i).ing.reception = some r
  fate : r.fate = .passed pid
  log : r.log = none
  govern : r.entry.govern = .stream
  dest : r.entry.dest = slotBit d
  parcel : s.parcel pid = some p
  isOpen : p.isOpen = false
  refs : p.refs = 1
  queued : s.treatment d = .queued
  idle : (s.slot d).egr.tx = .idle
  queue : (s.slot d).egr.stream = q
  nodup : q.Nodup
  fresh : pid ∉ q
  droppable : ∀ v, v ∈ q → Droppable s v

/-- The drops before the offer, from the state whose reception is over. -/
theorem StreamEnd.drops (h : StreamEnd i d crc hw r pid p q s) (hk : k ≤ q.length)
    (hfull : ∀ j, j < k → (s.slot d).cfg.streamLimit < blocksSum s (q.drop j) + p.nBlocks)
    (hstop : k = q.length ∨ blocksSum s (q.drop k) + p.nBlocks ≤ (s.slot d).cfg.streamLimit) :
    Drops d (q.take k) (q.drop k) (endedReception i s) (headDrop d p.nBlocks q (endedReception i s)) := by
  have hset := endedReception_touches i s
  have hroom := endedReception_sameRoom i d s
  have hparcel (v : Nat) : (endedReception i s).parcel v = s.parcel v := by rw [State.parcel, hset.pool]; rfl
  refine headDrop_drops (by rw [hset.egr, h.queue]) (by rw [hset.egr, h.idle]) h.nodup (fun v hv => ?_) hk
    (fun j hj => ?_) ?_
  · unfold Droppable
    rw [hparcel]
    exact h.droppable v hv
  · rw [hset.cfg, blocksSum_congr hroom.blocks]
    exact hfull j hj
  · rw [hset.cfg, blocksSum_congr hroom.blocks]
    exact hstop

/-- What is the same after a STREAM parcel was offered and its reception settled. -/
structure StreamLeaves (i d : Slot) (s t : State) : Prop where
  rx : (t.slot i).port.rx = .awaitHeader
  reception : (t.slot i).ing.reception = none
  phase : ∀ j, (t.slot j).ctl.phase = (s.slot j).ctl.phase
  egrs : ∀ j, j ≠ d → (t.slot j).egr = (s.slot j).egr
  keeps : KeepsBut [.port, .ing, .egr, .ctl, .pool, .alarm, .mgmt] s t
  grow : RepliesGrow s t

/-- The drops change the state whose reception is over in the queue of the destination alone. -/
theorem streamLeaves_of {t v : State} (g : Touches [.egr, .pool, .alarm, .mgmt, .port, .ctl] d (endedReception i s) t)
    (hphase : ∀ j, (t.slot j).ctl.phase = ((endedReception i s).slot j).ctl.phase)
    (hport : ∀ j, (((endedReception i s).slot j).port).wokenAs (t.slot j).port)
    (l : Touches [.pool, .alarm, .mgmt] d t v) : StreamLeaves i d s v := by
  have hset := endedReception_touches i s
  have hrx := hport i
  unfold Port.wokenAs at hrx
  rw [endedReception_port] at hrx
  refine ⟨by rw [l.port, hrx], by rw [l.ing, g.ing, endedReception_ing], fun j => ?_, fun j hj => ?_,
    (hset.keeps.then g.keeps (rs := [.port, .ing, .egr, .ctl, .pool, .alarm, .mgmt])).then l.keeps,
    (hset.grow.trans g.grow).trans l.grow⟩
  · rw [l.ctl, hphase, hset.ctl]
  · rw [l.egr, g.others j hj, hset.egr]

theorem foldl_postEvent_isRaised (k : Fin 64) (m : Nat) (f : Nat → Word) (l : List Nat) (c : Fin 64) (n : Nat)
    (s : State) : (l.foldl (fun u v => postEvent k m (f v) u) s).isRaised c n = s.isRaised c n := by
  induction l generalizing s with
  | nil => rfl
  | cons v l ih => exact (ih _).trans (isRaised_postEvent ..)

theorem foldl_touches {ps : List Part} (d : Slot) (f : State → Nat → State) (hf : ∀ s v, Touches ps d s (f s v))
    (l : List Nat) (s : State) : Touches ps d s (l.foldl f s) := by
  induction l generalizing s with
  | nil => exact .refl ..
  | cons v l ih => exact (hf s v).then (ih _) (hp := List.Subset.refl _) (hq := List.Subset.refl _)

theorem dropEntries_isRaised (d : Slot) (l : List Nat) (c : Fin 64) (n : Nat) (s : State) :
    (dropEntries d l s).isRaised c n = s.isRaised c n := by
  unfold dropEntries
  generalize (fun v => wordOf (((s.parcel v).map (·.owner.val)).getD 0)) = f
  exact foldl_postEvent_isRaised ..

theorem dropEntries_touches (d : Slot) (l : List Nat) (s : State) : Touches [.alarm, .mgmt] d s (dropEntries d l s) := by
  unfold dropEntries
  exact foldl_touches d _ (fun _ _ => postEvent_touches ..) l s

/-- The entries of drops are those of the state before the reception was over. -/
theorem dropEntries_ended (d : Slot) (l : List Nat) :
    (dropEntries d l (endedReception i s)).alarm = (dropEntries d l s).alarm := by
  have hset := endedReception_touches i s
  have hparcel (v : Nat) : (endedReception i s).parcel v = s.parcel v := by rw [State.parcel, hset.pool]; rfl
  exact (dropEntries_congr (l := l) (d := d) (s := s) (t := endedReception i s) (fun v _ => hparcel v)
    (a := s) ⟨hset.alarm, hset.watches, hset.timing⟩).1

theorem streamEnd_exec (h : StreamEnd i d crc hw r pid p q s) {t u : State}
    (hu : u = headDrop d p.nBlocks q (endedReception i s))
    (ht : t = releaseHold pid (if u.fits d .stream p.nBlocks then enqueueRef d .stream pid u
      else postEvent causeStreamDrop d.val (wordOf i.val) u)) (hleaves : StreamLeaves i d s t) :
    exec (.bodyWord i (~~~crc)) s = .next t := by
  have hset := endedReception_touches i s
  have hroom := endedReception_sameRoom i d s
  refine exec_checkWord h.frames h.rx ?_
    (settles_of_egr h.settled hleaves.phase hleaves.egrs hleaves.grow (phase_of_queued h.queued))
  rw [if_pos rfl, parcelEnd_passed_setRx h.reception h.fate,
    passedEnd_stream (by rw [State.parcel, hset.pool]; exact h.parcel) h.isOpen h.log h.govern h.dest
      (by rw [treatment_congr hroom, h.queued]),
    offerStream_eq (u := u) (by rw [hset.egr, h.idle]) (by rw [hset.egr, h.queue]; exact hu), ht]
  split <;> rfl

variable (h : StreamEnd i d crc hw r pid p q s) (hk : k ≤ q.length)
  (hfull : ∀ j, j < k → (s.slot d).cfg.streamLimit < blocksSum s (q.drop j) + p.nBlocks)

include h hk hfull

/-- The parcel fits behind the drops. -/
theorem headDrop_joins (hfits : blocksSum s (q.drop k) + p.nBlocks ≤ (s.slot d).cfg.streamLimit) :
    ∃ t, exec (.bodyWord i (~~~crc)) s = .next t ∧ StreamLeaves i d s t ∧
      (∀ v, v ∈ q.take k → ∃ x, s.parcel v = some x ∧ t.parcel v = some { x with refs := x.refs - 1 }) ∧
      (t.slot d).egr = { (s.slot d).egr with stream := q.drop k ++ [pid] } ∧ t.parcel pid = some p ∧
      t.alarm = (dropEntries d (q.take k) s).alarm ∧ t.pool.freeCount = s.pool.freeCount := by
  have hset := endedReception_touches i s
  have hroom := endedReception_sameRoom i d s
  have hparcel (v : Nat) : (endedReception i s).parcel v = s.parcel v := by rw [State.parcel, hset.pool]; rfl
  obtain ⟨u, hu⟩ : ∃ u, u = headDrop d p.nBlocks q (endedReception i s) := ⟨_, rfl⟩
  have hdrops := h.drops hk hfull (.inr hfits)
  rw [← hu] at hdrops
  have hpid : u.parcel pid = some p :=
    (hdrops.others pid fun hm => h.fresh (List.mem_of_mem_take hm)).trans ((hparcel pid).trans h.parcel)
  have hnow : u.fits d .stream p.nBlocks = true := by
    rw [fits_stream (q := q.drop k) (by rw [hdrops.egr]), blocksSum_congr hdrops.sameBlocks,
      blocksSum_congr hroom.blocks, hdrops.touches.cfg, hset.cfg]
    exact decide_eq_true hfits
  have hjoin := enqueueRef_touches d .stream pid u
  have hjoined (v : Nat) := enqueueRef_parcel (d := d) (c := .stream) hpid v
  have hpid' := (hjoined pid).trans (if_pos rfl)
  have hmany : 1 < p.refs + 1 := by rw [h.refs]; exact Nat.lt_succ_self 1
  have hrelease := releaseHold_held_touches d hpid' hmany
  have hreleased := releaseHold_spec hpid'
  obtain ⟨hlast, -, hcount⟩ := hreleased.held hmany
  have hport (j : Slot) : (((endedReception i s).slot j).port).wokenAs ((enqueueRef d .stream pid u).slot j).port := by
    have hsame := hdrops.touches.port (by decide) j
    by_cases hj : j = d
    · rw [hj] at hsame ⊢
      exact hsame ▸ enqueueRef_port
    · rw [hjoin.others j hj, hsame]
      rfl
  have hleaves := streamLeaves_of (hdrops.touches.then hjoin) (fun j => by
    rw [(enqueueRef_fills d .stream pid u).phase, hdrops.touches.ctl]) hport hrelease.mono
  refine ⟨_, streamEnd_exec h hu rfl (by rw [if_pos hnow]; exact hleaves), ?_⟩
  rw [if_pos hnow]
  refine ⟨hleaves, fun v hv => ?_, ?_, ?_, ?_, ?_⟩
  · obtain ⟨x, hx, hx'⟩ := hdrops.dropped v hv
    have hne : v ≠ pid := fun he => h.fresh (List.mem_of_mem_take (he ▸ hv))
    exact ⟨x, (hparcel v).symm.trans hx, (hreleased.others v hne).trans (((hjoined v).trans (if_neg hne)).trans hx')⟩
  · rw [hrelease.egr, enqueueRef_egr, joined_stream (by rw [hdrops.egr, hset.egr]; exact h.idle), hdrops.egr, hset.egr]
  · rw [hlast, Nat.add_sub_cancel]
  · rw [hrelease.alarm, hjoin.alarm, hdrops.alarm, dropEntries_ended]
  · rw [hcount, enqueueRef_freeCount, hdrops.free, hset.pool]

/-- The parcel does not fit in an empty queue: it is dropped with one more entry, and its blocks return. -/
theorem headDrop_drops_last (hempty : k = q.length) (hnot : (s.slot d).cfg.streamLimit < blocksSum s (q.drop k) + p.nBlocks) :
    ∃ t, exec (.bodyWord i (~~~crc)) s = .next t ∧ StreamLeaves i d s t ∧
      (∀ v, v ∈ q.take k → ∃ x, s.parcel v = some x ∧ t.parcel v = some { x with refs := x.refs - 1 }) ∧
      (t.slot d).egr = { (s.slot d).egr with stream := [] } ∧ t.parcel pid = none ∧
      t.pool.freeCount = s.pool.freeCount + p.nBlocks ∧
      (s.isRaised causePoolLow 0 = false → s.glob.lowMark ≤ s.pool.freeCount →
        t.alarm = (postEvent causeStreamDrop d.val (wordOf i.val) (dropEntries d q s)).alarm) := by
  have hset := endedReception_touches i s
  have hroom := endedReception_sameRoom i d s
  have hparcel (v : Nat) : (endedReception i s).parcel v = s.parcel v := by rw [State.parcel, hset.pool]; rfl
  obtain ⟨u, hu⟩ : ∃ u, u = headDrop d p.nBlocks q (endedReception i s) := ⟨_, rfl⟩
  have hdrops := h.drops hk hfull (.inl hempty)
  rw [← hu] at hdrops
  have hpid : u.parcel pid = some p :=
    (hdrops.others pid fun hm => h.fresh (List.mem_of_mem_take hm)).trans ((hparcel pid).trans h.parcel)
  have hnever : u.fits d .stream p.nBlocks = false := by
    rw [fits_stream (q := q.drop k) (by rw [hdrops.egr]), blocksSum_congr hdrops.sameBlocks,
      blocksSum_congr hroom.blocks, hdrops.touches.cfg, hset.cfg]
    exact decide_eq_false (Nat.not_le.mpr hnot)
  have hnotif : ¬u.fits d .stream p.nBlocks = true := by rw [hnever]; exact Bool.false_ne_true
  obtain ⟨v, hv⟩ : ∃ v, v = postEvent causeStreamDrop d.val (wordOf i.val) u := ⟨_, rfl⟩
  have hpost : Touches [.alarm, .mgmt] d u v := hv ▸ postEvent_touches ..
  have hpid' : v.parcel pid = some p := by rw [State.parcel, hpost.pool]; exact hpid
  have hrelease := releaseHold_touches d v pid
  have hreleased := releaseHold_spec hpid'
  obtain ⟨hgone, hcount, hquiet⟩ := hreleased.last (Nat.le_of_eq h.refs)
  have hleaves := streamLeaves_of (i := i) (s := s) (hdrops.touches.mono (rs := [.egr, .pool, .alarm, .mgmt, .port, .ctl]))
    (fun j => by rw [hdrops.touches.ctl]) (fun j => by rw [hdrops.touches.port]; rfl) (hpost.then hrelease)
  have hfree : v.pool.freeCount = s.pool.freeCount := by rw [hpost.pool, hdrops.free, hset.pool]
  refine ⟨releaseHold pid v, streamEnd_exec h hu (by rw [if_neg hnotif, hv]) hleaves, hleaves, fun w hw => ?_, ?_, hgone,
    by rw [hcount, hfree], fun hlow hmark => ?_⟩
  · obtain ⟨x, hx, hx'⟩ := hdrops.dropped w hw
    have hne : w ≠ pid := fun he => h.fresh (List.mem_of_mem_take (he ▸ hw))
    refine ⟨x, (hparcel w).symm.trans hx, (hreleased.others w hne).trans ?_⟩
    rw [State.parcel, hpost.pool]
    exact hx'
  · rw [hrelease.egr, hpost.egr, hdrops.egr, hset.egr, hempty, List.drop_length]
  · have hall : q.take k = q := by rw [hempty, List.take_length]
    have hsame : SameReporting (dropEntries d q s) u := by
      have hentries := dropEntries_touches d q s
      refine ⟨?_, ?_, ?_⟩
      · rw [hdrops.alarm, dropEntries_ended, hall]
      · rw [hdrops.touches.watches, hset.watches, hentries.watches]
      · rw [hdrops.touches.timing, hset.timing, hentries.timing]
    have hlow' : v.isRaised causePoolLow 0 = false := by
      rw [hv, isRaised_postEvent, isRaised_of_alarm hsame.1, dropEntries_isRaised, hlow]
    rw [hquiet hlow' (by rw [hfree, hpost.glob, hdrops.touches.glob, hset.glob]; exact hmark), hv]
    exact postEvent_alarm_congr hsame ..

end HeadDrop

/-- Settles O22, by the drops that make room and what then becomes of the parcel. -/
theorem streamHeadDropMakesRoom : Obligations.StreamHeadDropMakesRoom := by
  intro i d w crc hw r pid k p q s hframes hs hrx hgood hr hfate hlog hgovern hdest hp hopen hrefs hqueued htx hq hnodup
    hfresh hall hk hfull hstop
  have h : StreamEnd i d crc hw r pid p q s := ⟨hframes, hs, hrx, hr, hfate, hlog, hgovern, hdest, hp, hopen, hrefs,
    hqueued, htx, hq.symm, hnodup, hfresh, hall⟩
  rw [hgood]
  rcases Nat.lt_or_ge (s.slot d).cfg.streamLimit (blocksSum s (q.drop k) + p.nBlocks) with hnot | hfits
  · obtain ⟨t, hexec, hleaves, hdropped, hlast⟩ := headDrop_drops_last h hk hfull
      (hstop.resolve_right (Nat.not_le.mpr hnot)) hnot
    exact ⟨t, hexec, hleaves.rx, hleaves.reception, hdropped, fun hfits => absurd hnot (Nat.not_lt.mpr hfits),
      fun _ => hlast, hleaves.egrs, hleaves.keeps, onlyReplies_of_grow hleaves.grow⟩
  · obtain ⟨t, hexec, hleaves, hdropped, hjoined⟩ := headDrop_joins h hk hfull hfits
    exact ⟨t, hexec, hleaves.rx, hleaves.reception, hdropped, fun _ => hjoined,
      fun hnot => absurd hnot (Nat.not_lt.mpr hfits), hleaves.egrs, hleaves.keeps, onlyReplies_of_grow hleaves.grow⟩

end Sys2Proof.Machine
end

section
/-! PROOFS. Obligation O23: cut-through opens a STREAM parcel, and its ends close it (R5, R26, R30, R31). -/

namespace Sys2Proof.Machine

/-! ## The parcel opens (R30) -/

section Opens

variable {i d : Slot} {w crc : Word} {hw : Header} {r : Reception} {pid m : Nat} {p : Stored} {s : State}

theorem headDrop_of_fits {b : Nat} (hfits : s.fits d .stream b = true) (q : List Nat) : headDrop d b q s = s := by
  cases q with
  | nil => rfl
  | cons v q => exact if_pos hfits

/-- A STREAM parcel that fits joins its one destination with nothing dropped. -/
theorem offerAll_stream_fits (hqueued : s.treatment d = .queued) (hfits : s.fits d .stream (s.blocksOf pid) = true) :
    offerAll pid .stream i (slotBit d) s =
      ({ enq := slotBit d, disc := 0, blocked := 0 }, enqueueRef d .stream pid s) := by
  have hoffer : offerStream d pid i (s.blocksOf pid) s = (true, enqueueRef d .stream pid s) := by
    unfold offerStream
    rw [headDrop_of_fits hfits]
    exact if_pos hfits
  rw [offerAll_stream hqueued, hoffer]
  rfl

/-- The stored parcel with one more word, marked open. -/
def openStored (pid : Nat) (w : Word) (s : State) : State :=
  modStored pid (fun p => { p with isOpen := true }) (modStored pid (fun p => { p with words := p.words ++ [w] }) s)

theorem openStored_touches (i : Slot) (pid : Nat) (w : Word) (s : State) : Touches [.pool] i s (openStored pid w s) :=
  (modStored_touches i s pid (fun p => { p with words := p.words ++ [w] })).then (modStored_touches i _ pid _)

theorem openStored_parcel (hp : s.parcel pid = some p) (v : Nat) : (openStored pid w s).parcel v =
    if v = pid then some { p with words := p.words ++ [w], isOpen := true } else s.parcel v := by
  have hone := modStored_parcel (f := fun p => { p with words := p.words ++ [w] }) hp
  refine (modStored_parcel (f := fun p => { p with isOpen := true }) ((hone pid).trans (if_pos rfl)) v).trans ?_
  split
  next => rfl
  next h => exact (hone v).trans (if_neg h)

theorem openStored_sameBlocks (hp : s.parcel pid = some p) : SameBlocks s (openStored pid w s) := fun v => by
  unfold State.blocksOf
  rw [openStored_parcel hp]
  split
  next h => rw [h, hp]; rfl
  next => rfl

/-- The reception of a parcel that was offered keeps what became of its destinations. -/
def keepOffered (i : Slot) (x : Offered × State) : State :=
  x.2.modIng i (fun g => { g with reception := g.reception.map (fun q => { q with enq := x.1.enq, disc := x.1.disc }) })

theorem openParcel_eq : openParcel i r pid (modStored pid (fun p => { p with words := p.words ++ [w] }) s) =
    keepOffered i (offerAll pid .stream i r.entry.dest (openStored pid w s)) := rfl

/-- The T-th payload word opens the parcel. -/
theorem passedPayload_opens (hp : s.parcel pid = some p) (hgovern : r.entry.govern = .stream)
    (hcut : p.words.length + 1 = r.entry.cut.toNat) (hlen : r.entry.cut.toNat ≤ r.hdr.len.toNat)
    (hdest : r.entry.dest = slotBit d) (hqueued : (openStored pid w s).treatment d = .queued)
    (hfits : (openStored pid w s).fits d .stream ((openStored pid w s).blocksOf pid) = true) :
    passedPayload i r pid w s = (enqueueRef d .stream pid (openStored pid w s)).modIng i
      (fun g => { g with reception := g.reception.map (fun q => { q with enq := slotBit d, disc := 0 }) }) := by
  have hone : (modStored pid (fun p => { p with words := p.words ++ [w] }) s).parcel pid =
      some { p with words := p.words ++ [w] } := (modStored_parcel hp pid).trans (if_pos rfl)
  have hlength : (p.words ++ [w]).length = r.entry.cut.toNat := by rw [List.length_append]; exact hcut
  unfold passedPayload
  dsimp only
  rw [hone]
  dsimp only [Option.map_some, Option.getD_some]
  rw [if_pos ⟨hgovern, hcut ▸ Nat.succ_pos _, hlen, hlength⟩]
  rw [openParcel_eq, hdest, offerAll_stream_fits hqueued hfits]
  rfl

theorem cutThrough_opens (hframes : s.framing i = true) (hs : s.settled) (hr : (s.slot i).ing.reception = some r)
    (hfate : r.fate = .passed pid) (hgovern : r.entry.govern = .stream) (hp : s.parcel pid = some p)
    (hrx : (s.slot i).port.rx = .inParcel hw (m + 1) crc) (hdest : r.entry.dest = slotBit d)
    (hcut : p.words.length + 1 = r.entry.cut.toNat) (hlen : r.entry.cut.toNat ≤ r.hdr.len.toNat)
    (hqueued : s.treatment d = .queued) (hroom : s.occupancy d .stream + p.nBlocks ≤ (s.slot d).cfg.streamLimit) :
    ∃ t, exec (.bodyWord i w) s = .next t ∧
      t.parcel pid = some { p with words := p.words ++ [w], isOpen := true, refs := p.refs + 1 } ∧
      (t.slot d).egr = { (s.slot d).egr with stream := (s.slot d).egr.stream ++ [pid] }.occasion ∧
      (t.slot i).ing = { (s.slot i).ing with reception := some { r with enq := slotBit d, disc := 0 } } ∧
      (t.slot i).port.rx = .inParcel hw m (crcWord crc w) ∧ (∀ j, j ≠ d → (t.slot j).egr = (s.slot j).egr) ∧
      KeepsBut [.port, .ing, .egr, .ctl, .pool] s t := by
  obtain ⟨v, hv⟩ : ∃ v, v = s.setRx i (.inParcel hw m (crcWord crc w)) := ⟨_, rfl⟩
  have hset : Touches [.port] i s v := hv ▸ setRx_touches ..
  have hp' : v.parcel pid = some p := by rw [State.parcel, hset.pool]; exact hp
  have hopen := openStored_touches i pid w v
  have hboth : Touches [.port, .pool] i s (openStored pid w v) := hset.then hopen
  have hparcel := (openStored_parcel (w := w) hp' pid).trans (if_pos rfl)
  have hsameBlocks : SameBlocks s (openStored pid w v) := fun x => by
    rw [openStored_sameBlocks hp' x]
    unfold State.blocksOf State.parcel
    rw [hset.pool]
  have hsame : SameRoom d s (openStored pid w v) :=
    ⟨by rw [hboth.ctl], hboth.cfg (by decide) d, hboth.egr (by decide) d, fun j => by rw [hboth.ing], hsameBlocks⟩
  have hblocks : (openStored pid w v).blocksOf pid = p.nBlocks := by
    unfold State.blocksOf
    rw [hparcel]
    rfl
  have hfits : (openStored pid w v).fits d .stream ((openStored pid w v).blocksOf pid) = true := by
    rw [hblocks]
    unfold State.fits
    rw [occupancy_congr hsame.blocks hsame.egr, hsame.cfg]
    exact decide_eq_true hroom
  obtain ⟨u, hu⟩ : ∃ u, u = enqueueRef d .stream pid (openStored pid w v) := ⟨_, rfl⟩
  have hjoin : Touches [.egr, .pool, .port, .ctl] d (openStored pid w v) u := hu ▸ enqueueRef_touches ..
  have hport : ((openStored pid w v).slot i).port.wokenAs (u.slot i).port := by
    by_cases hid : i = d
    · rw [hu, hid]
      exact enqueueRef_port
    · rw [hjoin.others i hid]
      rfl
  unfold Port.wokenAs at hport
  obtain ⟨t, ht⟩ : ∃ t, t = u.modIng i
      (fun g => { g with reception := g.reception.map (fun q => { q with enq := slotBit d, disc := 0 }) }) := ⟨_, rfl⟩
  have hend : Touches [.ing] i u t := ht ▸ modIng_touches ..
  have hing : (u.slot i).ing = (s.slot i).ing := by rw [hjoin.ing, hboth.ing]
  have hfills : Fills s t := (hboth.leaves.fills.trans (hu ▸ enqueueRef_fills ..)).trans hend.leaves.fills
  refine ⟨t, exec_payload hframes hrx ?_ (hfills.settles hs), ?_, ?_, ?_, ?_, fun j hj => ?_,
    (hboth.keeps.then hjoin.keeps (rs := [.port, .pool, .egr, .ctl])).then hend.keeps⟩
  · rw [← hv, parcelPayload_passed (by rw [hset.ing, hr]) hfate,
      passedPayload_opens hp' hgovern hcut hlen hdest ((treatment_congr hsame).trans hqueued) hfits, ht, hu]
  · rw [State.parcel, hend.pool, hu]
    exact (enqueueRef_parcel hparcel pid).trans (if_pos rfl)
  · rw [hend.egr, hu, enqueueRef_egr, hboth.egr]
    rfl
  · rw [ht, modIng_ing_self, hing, hr]
    rfl
  · rw [hend.port, hport, hopen.port, hv, setRx_port]
  · rw [hend.egr, hjoin.others j hj, hboth.egr]

end Opens

/-! ## The good end of an open parcel -/

section Closes

variable {i d : Slot} {w crc : Word} {hw : Header} {r : Reception} {pid : Nat} {p : Stored} {rest : List Nat}
  {q : TxParcel} {s : State}

theorem passedEnd_open (hp : s.parcel pid = some p) (hopen : p.isOpen = true) (hlog : r.log = none) :
    passedEnd i r pid .good s = releaseHold pid (modStored pid (fun p => { p with isOpen := false }) s) := by
  unfold passedEnd passedGood
  rw [hp, hlog]
  simp only [Option.map_some, Option.getD_some, hopen, if_true]
  rw [settle_unlogged]

theorem cutThrough_closes (hframes : s.framing i = true) (hs : s.settled) (hr : (s.slot i).ing.reception = some r)
    (hfate : r.fate = .passed pid) (hlog : r.log = none) (hp : s.parcel pid = some p)
    (hrx : (s.slot i).port.rx = .inParcel hw 0 crc) (hopen : p.isOpen = true) (hrefs : 1 < p.refs) :
    ∃ t, exec (.bodyWord i (~~~crc)) s = .next t ∧
      t.parcel pid = some { p with isOpen := false, refs := p.refs - 1 } ∧
      (t.slot i).ing = { (s.slot i).ing with reception := none } ∧
      (t.slot i).port = { (s.slot i).port with rx := .awaitHeader } ∧
      KeepsBut [.port, .ing, .pool] s t ∧ OtherSlots i s t := by
  have hset := endedReception_touches i s
  have hp' : (endedReception i s).parcel pid = some p := by rw [State.parcel, hset.pool]; exact hp
  obtain ⟨u, hu⟩ : ∃ u, u = modStored pid (fun p => { p with isOpen := false }) (endedReception i s) := ⟨_, rfl⟩
  have hclosed : Touches [.pool] i (endedReception i s) u := hu ▸ modStored_touches ..
  have hparcel : u.parcel pid = some { p with isOpen := false } := by
    rw [hu]
    exact (modStored_parcel hp' pid).trans (if_pos rfl)
  have hrelease := releaseHold_held_touches i hparcel hrefs
  have hall : Touches [.port, .ing, .pool] i s (releaseHold pid u) :=
    hset.then (hclosed.then hrelease (rs := [.pool]))
  refine ⟨_, exec_checkWord hframes hrx ?_ (hall.settleDrains hs), ((releaseHold_spec hparcel).held hrefs).1, ?_, ?_,
    hall.keeps, hall.others⟩
  · rw [if_pos rfl, parcelEnd_passed_setRx hr hfate, passedEnd_open hp' hopen hlog, hu]
  · rw [hrelease.ing, hclosed.ing, endedReception_ing]
  · rw [hrelease.port, hclosed.port, endedReception_port]

/-! ## The bad end of an open parcel (R31) -/

/-- A pass over the slots in which one of them alone has something to do. -/
theorem foldSlots_one {f : Slot → State → State} (hnone : ∀ j, j ≠ d → f j s = s ∧ f j (f d s) = f d s) (l : List Slot)
    (hl : l.Nodup) : l.foldl (fun t i => f i t) s = (if d ∈ l then f d s else s) ∧
      (d ∉ l → l.foldl (fun t i => f i t) (f d s) = f d s) := by
  induction l with
  | nil => exact ⟨rfl, fun _ => rfl⟩
  | cons j l ih =>
    obtain ⟨hj, hl⟩ := List.nodup_cons.mp hl
    obtain ⟨hone, hafter⟩ := ih hl
    by_cases hjd : j = d
    · rw [hjd] at hj ⊢
      exact ⟨(hafter hj).trans (if_pos List.mem_cons_self).symm, fun h => absurd List.mem_cons_self h⟩
    · obtain ⟨hsame, hsame'⟩ := hnone j hjd
      refine ⟨?_, fun hd => ?_⟩
      · show l.foldl _ (f j s) = _
        rw [hsame, hone]
        simp only [List.mem_cons, Ne.symm hjd, false_or]
      · show l.foldl _ (f j (f d s)) = _
        rw [hsame']
        exact hafter fun h => hd (List.mem_cons_of_mem _ h)

theorem failAt_absent {j : Slot} {t : State} (h : (t.slot j).egr.stream.contains pid = false) : failAt pid j t = t := by
  unfold failAt
  dsimp only
  rw [h]
  rfl

/-- The failure of an open parcel that one queue alone holds. -/
theorem failOpen_one (hothers : ∀ j, j ≠ d → (s.slot j).egr.stream.contains pid = false) :
    s.eachSlot (failAt pid) = failAt pid d s := by
  have hfail := failAt_touches (i := d) (s := s) pid
  obtain ⟨hfold, -⟩ := foldSlots_one (d := d) (f := failAt pid) (s := s) (fun j hj =>
    ⟨failAt_absent (hothers j hj), failAt_absent (by rw [hfail.others j hj]; exact hothers j hj)⟩) allSlots allSlots_nodup
  exact hfold.trans (if_pos (mem_allSlots_all d))

theorem passedEnd_fails (hp : s.parcel pid = some p) (hopen : p.isOpen = true) (hlog : r.log = none)
    (hothers : ∀ j, j ≠ d → (s.slot j).egr.stream.contains pid = false) :
    passedEnd i r pid .bad s = postCheckFail i r.hdr.chan (releaseHold pid (failAt pid d s)) := by
  unfold passedEnd passedFail handOver
  rw [hp, hlog]
  simp only [Option.map_some, Option.getD_some, hopen, if_true]
  rw [failOpen_one hothers]

/-- An open parcel at the head of a STREAM queue, handed over. -/
structure OpenAtHead (d : Slot) (pid : Nat) (rest : List Nat) (q : TxParcel) (s : State) : Prop where
  stream : (s.slot d).egr.stream = pid :: rest
  tx : (s.slot d).egr.tx = .sending q
  attached : q.attached = true
  origin : q.origin = .cls .stream
  pid : q.pid = pid

theorem failAt_sent (h : OpenAtHead d pid rest q s) (hsent : q.headerSent = true) :
    failAt pid d s = s.modEgr d (fun x => { x with tx := x.tx.mapMain (fun p => { p with early := true }) }) := by
  have hstarted : (s.slot d).egr.tx.started pid = true := by
    simp [h.tx, Tx.started, Tx.main, h.attached, hsent, h.pid, h.origin]
  unfold failAt
  simp [h.stream, hstarted]

theorem failAt_notSent (h : OpenAtHead d pid rest q s) (hsent : q.headerSent = false) :
    failAt pid d s = releaseHold pid (s.modEgr d (fun e => e.without .stream pid)) ∧
      (s.slot d).egr.without .stream pid = { (s.slot d).egr with stream := rest, tx := .idle } := by
  have hstarted : (s.slot d).egr.tx.started pid = false := by
    simp [h.tx, Tx.started, Tx.main, hsent]
  refine ⟨?_, ?_⟩
  · unfold failAt removeRef
    simp [h.stream, hstarted]
  · have hq : (s.slot d).egr.queue .stream = pid :: rest := h.stream
    unfold Egress.without
    rw [hq, h.tx]
    simp [Tx.forget, TxParcel.notLeft, hsent, h.attached, h.origin, h.pid, Egress.setQueue]

/-- What the bad end of an open parcel leaves, whatever its queue does with it: `u` the state its queue leaves. -/
theorem openFails (hframes : s.framing i = true) (hs : s.settled) (hr : (s.slot i).ing.reception = some r)
    (hfate : r.fate = .passed pid) (hlog : r.log = none) (hp : s.parcel pid = some p)
    (hrx : (s.slot i).port.rx = .inParcel hw 0 crc) (hbad : w ≠ ~~~crc) (hopen : p.isOpen = true)
    (hphase : (s.slot d).ctl.phase = .admitted)
    (hothers : ∀ j, j ≠ d → (s.slot j).egr.stream.contains pid = false) {t u : State}
    (hu : u = failAt pid d (endedReception i s)) (ht : t = postCheckFail i r.hdr.chan (releaseHold pid u)) :
    exec (.bodyWord i w) s = .next t ∧ (t.slot i).ing = { (s.slot i).ing with reception := none } ∧
      (t.slot d).egr = (u.slot d).egr ∧ t.pool = (releaseHold pid u).pool ∧
      (SameReporting s (releaseHold pid u) →
        t.alarm = (postEvent causeCheckFail i.val (wordOf r.hdr.chan.toNat) s).alarm) ∧
      (∀ j, j ≠ d → (t.slot j).egr = (s.slot j).egr) ∧
      KeepsBut [.port, .ing, .egr, .pool, .alarm, .mgmt] s t ∧ OnlyReplies s t := by
  have hset := endedReception_touches i s
  have hp' : (endedReception i s).parcel pid = some p := by rw [State.parcel, hset.pool]; exact hp
  have hfail : Touches [.egr, .pool, .alarm, .mgmt] d (endedReception i s) u := hu ▸ failAt_touches ..
  have hrelease := releaseHold_touches d u pid
  have hpost : Touches [.alarm, .mgmt] d (releaseHold pid u) t := ht ▸ postEvent_touches ..
  have hlater : Touches [.egr, .pool, .alarm, .mgmt] d (endedReception i s) t :=
    (hfail.then hrelease (rs := [.egr, .pool, .alarm, .mgmt])).then hpost
  have hothers' (j : Slot) (hj : j ≠ d) : ((endedReception i s).slot j).egr.stream.contains pid = false := by
    rw [hset.egr]
    exact hothers j hj
  have hkeeps : KeepsBut [.port, .ing, .egr, .pool, .alarm, .mgmt] s t := hset.keeps.then hlater.keeps
  have hgrow := hset.grow.trans hlater.grow
  have hegrs (j : Slot) (hj : j ≠ d) : (t.slot j).egr = (s.slot j).egr := by rw [hlater.others j hj, hset.egr]
  refine ⟨exec_checkWord hframes hrx ?_ (settles_of_egr hs (fun j => by rw [hkeeps.ctl]) hegrs hgrow ?_), ?_, ?_, ?_,
    fun hsame => ?_, hegrs, hkeeps, onlyReplies_of_grow hgrow⟩
  · rw [if_neg hbad, parcelEnd_passed_setRx hr hfate, passedEnd_fails hp' hopen hlog hothers', ht, hu]
  · rw [hphase]
    exact Phase.noConfusion
  · rw [hlater.ing, endedReception_ing]
  · rw [hpost.egr, hrelease.egr]
  · rw [hpost.pool]
  · rw [ht]
    exact postEvent_alarm_congr hsame ..

theorem cutThrough_fails (hframes : s.framing i = true) (hs : s.settled) (hr : (s.slot i).ing.reception = some r)
    (hfate : r.fate = .passed pid) (hlog : r.log = none) (hp : s.parcel pid = some p)
    (hrx : (s.slot i).port.rx = .inParcel hw 0 crc) (hbad : w ≠ ~~~crc) (hopen : p.isOpen = true) (hrefs : p.refs = 2)
    (hphase : (s.slot d).ctl.phase = .admitted)
    (hothers : ∀ j, j ≠ d → (s.slot j).egr.stream.contains pid = false) (h : OpenAtHead d pid rest q s) :
    ∃ t, exec (.bodyWord i w) s = .next t ∧ (t.slot i).ing = { (s.slot i).ing with reception := none } ∧
      (q.headerSent = true → (t.slot d).egr = { (s.slot d).egr with tx := .sending { q with early := true } } ∧
        t.parcel pid = some { p with refs := 1 } ∧
        t.alarm = (postEvent causeCheckFail i.val (wordOf r.hdr.chan.toNat) s).alarm) ∧
      (q.headerSent = false → (t.slot d).egr = { (s.slot d).egr with stream := rest, tx := .idle } ∧
        t.parcel pid = none ∧ t.pool.freeCount = s.pool.freeCount + p.nBlocks ∧
        (s.isRaised causePoolLow 0 = false → s.glob.lowMark ≤ s.pool.freeCount →
          t.alarm = (postEvent causeCheckFail i.val (wordOf r.hdr.chan.toNat) s).alarm)) ∧
      (∀ j, j ≠ d → (t.slot j).egr = (s.slot j).egr) ∧
      KeepsBut [.port, .ing, .egr, .pool, .alarm, .mgmt] s t ∧ OnlyReplies s t := by
  have hset := endedReception_touches i s
  have hegr : ((endedReception i s).slot d).egr = (s.slot d).egr := hset.egr (by decide) d
  have h' : OpenAtHead d pid rest q (endedReception i s) :=
    ⟨by rw [hegr, h.stream], by rw [hegr, h.tx], h.attached, h.origin, h.pid⟩
  have hp' : (endedReception i s).parcel pid = some p := by rw [State.parcel, hset.pool]; exact hp
  have hmany : 1 < p.refs := by rw [hrefs]; exact Nat.lt_succ_self 1
  obtain ⟨u, hu⟩ : ∃ u, u = failAt pid d (endedReception i s) := ⟨_, rfl⟩
  obtain ⟨t, ht⟩ : ∃ t, t = postCheckFail i r.hdr.chan (releaseHold pid u) := ⟨_, rfl⟩
  obtain ⟨hexec, hing, hown, hpool, halarm, hegrs, hkeeps, hreplies⟩ :=
    openFails hframes hs hr hfate hlog hp hrx hbad hopen hphase hothers hu ht
  refine ⟨t, hexec, hing, fun hsent => ?_, fun hsent => ?_, hegrs, hkeeps, hreplies⟩
  · rw [failAt_sent h' hsent] at hu
    have hfail : Touches [.egr] d (endedReception i s) u := hu ▸ modEgr_touches ..
    have hpu : u.parcel pid = some p := by rw [State.parcel, hfail.pool]; exact hp'
    have hrelease := releaseHold_held_touches d hpu hmany
    refine ⟨?_, ?_, halarm ⟨?_, ?_, ?_⟩⟩
    · rw [hown, hu, modEgr_egr_self, hegr, h.tx]
      rfl
    · rw [State.parcel, hpool]
      exact ((releaseHold_spec hpu).held hmany).1.trans (by rw [hrefs])
    · rw [hrelease.alarm, hfail.alarm, hset.alarm]
    · rw [hrelease.watches, hfail.watches, hset.watches]
    · rw [hrelease.timing, hfail.timing, hset.timing]
  · obtain ⟨hwithdrawn, hwithout⟩ := failAt_notSent h' hsent
    rw [hwithdrawn] at hu
    obtain ⟨v, hv⟩ : ∃ v, v = (endedReception i s).modEgr d (fun e => e.without .stream pid) := ⟨_, rfl⟩
    rw [← hv] at hu
    have hdrop : Touches [.egr] d (endedReception i s) v := hv ▸ modEgr_touches ..
    have hpv : v.parcel pid = some p := by rw [State.parcel, hdrop.pool]; exact hp'
    have hfirst : Touches [.pool] d v u := hu ▸ releaseHold_held_touches d hpv hmany
    have hpu : u.parcel pid = some { p with refs := p.refs - 1 } := by
      rw [hu]
      exact ((releaseHold_spec hpv).held hmany).1
    have hboth : Touches [.port, .ing] i s (endedReception i s) ∧ Touches [.egr, .pool] d (endedReception i s) u :=
      ⟨hset, hdrop.then hfirst⟩
    have hlast : p.refs - 1 ≤ 1 := by rw [hrefs]
    obtain ⟨hgone, hcount, -⟩ := (releaseHold_spec hpu).last hlast
    have hfree : u.pool.freeCount = s.pool.freeCount := by
      rw [hu, ((releaseHold_spec hpv).held hmany).2.2, hdrop.pool, hset.pool]
    refine ⟨?_, ?_, ?_, fun hlow hmark => halarm ?_⟩
    · rw [hown, hfirst.egr, hv, modEgr_egr_self, hwithout, hegr]
    · rw [State.parcel, hpool]
      exact hgone
    · rw [hpool, hcount, hfree]
    · have hlow' : u.isRaised causePoolLow 0 = false := by
        rw [isRaised_of_alarm (s := s) (by rw [hboth.2.alarm, hset.alarm]), hlow]
      have hquiet := releaseHold_last_quiet d hpu hlast hlow' (by
        rw [hfree, hboth.2.glob, hset.glob]
        exact hmark)
      exact ⟨by rw [hquiet.alarm, hboth.2.alarm, hset.alarm], by rw [hquiet.watches, hboth.2.watches, hset.watches],
        by rw [hquiet.timing, hboth.2.timing, hset.timing]⟩

end Closes

/-- Settles O23, by the opening and the three ends. -/
theorem cutThroughOpensAndEnds : Obligations.CutThroughOpensAndEnds := by
  intro i d w crc hw r pid p s hframes hs hr hfate hlog hgovern hp
  refine ⟨fun m hrx hdest _ hcut hlen hqueued hroom =>
    cutThrough_opens hframes hs hr hfate hgovern hp hrx hdest hcut hlen hqueued hroom, fun hrx hgood hopen hrefs => ?_,
    fun q rest hrx hbad hopen hrefs hphase hstream hothers htx hattached horigin hpid =>
      cutThrough_fails hframes hs hr hfate hlog hp hrx hbad hopen hrefs hphase hothers
        ⟨hstream, htx, hattached, horigin, hpid⟩⟩
  rw [hgood]
  exact cutThrough_closes hframes hs hr hfate hlog hp hrx hopen hrefs

end Sys2Proof.Machine
end

section
/-! PROOFS. Obligation O30: what ends and serves the waits (R33, R35, R36). -/

namespace Sys2Proof.Machine

/-! ## The oldest of the waiting places (R33) -/

section Oldest

variable {a d j k : Slot} {c : Cls} {l : List Slot} {n : Nat} {s : State}

/-- Slot `j` comes before slot `k` in the order of entry. -/
def Before (s : State) (j k : Slot) : Prop :=
  s.waitingSince j < s.waitingSince k ∨ (s.waitingSince j = s.waitingSince k ∧ j < k)

theorem older_of_before (h : Before s j k) : s.older j k = j := by
  unfold State.older
  rcases h with hlt | ⟨heq, -⟩
  · exact if_neg (Nat.lt_asymm hlt)
  · exact if_neg (heq ▸ Nat.lt_irrefl _)

theorem older_to_before (h : Before s j k) (hk : k < j) : s.older k j = j := by
  unfold State.older
  rcases h with hlt | ⟨-, hj⟩
  · exact if_pos hlt
  · exact absurd hj (Nat.lt_asymm hk)

theorem older_mem (a k : Slot) : s.older a k = a ∨ s.older a k = k := by
  unfold State.older
  split
  · exact .inr rfl
  · exact .inl rfl

theorem foldl_older_mem (a : Slot) (l : List Slot) : l.foldl s.older a ∈ a :: l := by
  induction l generalizing a with
  | nil => exact List.mem_cons_self
  | cons k l ih =>
    rcases List.mem_cons.mp (ih (s.older a k)) with h | h
    · rcases older_mem (s := s) a k with h' | h'
      · exact List.mem_cons.mpr (.inl (h.trans h'))
      · exact List.mem_cons_of_mem _ (List.mem_cons.mpr (.inl (h.trans h')))
    · exact List.mem_cons_of_mem _ (List.mem_cons_of_mem _ h)

/-- Of slots in ascending order the one that comes before all others is found. -/
theorem foldl_older_eq (hsorted : (a :: l).Pairwise (· < ·)) (hj : j ∈ a :: l)
    (hfirst : ∀ k, k ∈ a :: l → k ≠ j → Before s j k) : l.foldl s.older a = j := by
  induction l generalizing a with
  | nil => exact (List.mem_singleton.mp hj).symm
  | cons k l ih =>
    obtain ⟨ha, hl⟩ := List.pairwise_cons.mp hsorted
    obtain ⟨hk, hl'⟩ := List.pairwise_cons.mp hl
    have hak : a < k := ha k List.mem_cons_self
    have hrest (b : Slot) (hb : b = a ∨ b = k) : (b :: l).Pairwise (· < ·) := by
      rcases hb with rfl | rfl
      · exact List.pairwise_cons.mpr ⟨fun x hx => ha x (List.mem_cons_of_mem _ hx), hl'⟩
      · exact hl
    have hbefore (b : Slot) (hb : b = a ∨ b = k) (x : Slot) (hx : x ∈ b :: l) (hne : x ≠ j) : Before s j x := by
      refine hfirst x ?_ hne
      rcases List.mem_cons.mp hx with rfl | hx
      · rcases hb with rfl | rfl
        · exact List.mem_cons_self
        · exact List.mem_cons_of_mem _ List.mem_cons_self
      · exact List.mem_cons_of_mem _ (List.mem_cons_of_mem _ hx)
    have hb := older_mem (s := s) a k
    refine ih (a := s.older a k) (hrest _ hb) ?_ (hbefore _ hb)
    rcases List.mem_cons.mp hj with rfl | hj
    · rw [older_of_before (hfirst k (List.mem_cons_of_mem _ List.mem_cons_self) (Ne.symm (Fin.ne_of_lt hak)))]
      exact List.mem_cons_self
    · rcases List.mem_cons.mp hj with rfl | hj
      · rw [older_to_before (hfirst a List.mem_cons_self (Fin.ne_of_lt hak)) hak]
        exact List.mem_cons_self
      · exact List.mem_cons_of_mem _ hj

theorem allSlots_sorted : allSlots.Pairwise (· < ·) := by decide

theorem mem_waiters : k ∈ s.waiters d c ↔ s.waitsOn d c k = true := by
  unfold State.waiters
  rw [List.mem_filter]
  exact and_iff_right (mem_allSlots_all k)

theorem waiters_sorted : (s.waiters d c).Pairwise (· < ·) := allSlots_sorted.filter _

theorem oldestWaiter_of (h : OldestPending s d c j) : s.oldestWaiter d c = some j := by
  obtain ⟨hwaits, hfirst⟩ := h
  have hmem : j ∈ s.waiters d c := mem_waiters.mpr hwaits
  have hsorted := waiters_sorted (s := s) (d := d) (c := c)
  have hbefore (k : Slot) (hk : k ∈ s.waiters d c) (hne : k ≠ j) : Before s j k := hfirst k hne (mem_waiters.mp hk)
  unfold State.oldestWaiter
  generalize s.waiters d c = l at hmem hsorted hbefore
  cases l with
  | nil => exact absurd hmem List.not_mem_nil
  | cons a l => exact congrArg some (foldl_older_eq hsorted hmem hbefore)

theorem waits_of_oldest (h : s.oldestWaiter d c = some j) : j ∈ s.waiters d c := by
  unfold State.oldestWaiter at h
  generalize s.waiters d c = l at h
  cases l with
  | nil => exact absurd h (by simp)
  | cons a l => exact Option.some.inj h ▸ foldl_older_mem a l

end Oldest

/-! ## The settling of a wait (R36) -/

section Ends

variable {d j : Slot} {c : Cls} {n : Nat} {w : Waiting} {p : Stored} {s t v : State}

theorem settle_touches (i : Slot) (pid : Nat) (hd : Option LogHandle) (enq disc : SlotSet) (s : State) :
    Touches [.pool, .alarm, .mgmt, .log] i s (settle pid hd enq disc s) :=
  (releaseHold_touches i s pid).then (handOver_touches i _ hd _)

theorem settle_after (i : Slot) (pid : Nat) (hd : Option LogHandle) (enq disc : SlotSet) (s : State) :
    Touches [.log] i (releaseHold pid s) (settle pid hd enq disc s) := handOver_touches i _ hd _

theorem settle_log (pid : Nat) (enq disc : SlotSet) (s : State) : (settle pid none enq disc s).log = s.log := by
  rw [settle_unlogged, (releaseHold_touches 0 s pid).log]

/-- The waiting place is empty and no hold is asked for. -/
def leftPlace (j : Slot) (s : State) : State :=
  (s.modIng j (fun g => { g with waiting := none })).modPort j (fun p => { p with holdReq := false })

theorem waitEnd_eq (j : Slot) (w : Waiting) (s : State) :
    waitEnd j w s = settle w.pid w.log w.enq w.disc (leftPlace j s) := rfl

theorem leftPlace_touches (j : Slot) (s : State) : Touches [.ing, .port] j s (leftPlace j s) :=
  (modIng_touches j s _).then (modPort_touches ..)

theorem leftPlace_ing : ((leftPlace j s).slot j).ing = { (s.slot j).ing with waiting := none } := by
  rw [leftPlace, (modPort_touches ..).ing, modIng_ing_self]

theorem leftPlace_port : ((leftPlace j s).slot j).port = { (s.slot j).port with holdReq := false } := by
  rw [leftPlace, modPort_port_self, (modIng_touches ..).port]

theorem waitEnd_touches (j : Slot) (w : Waiting) (s : State) :
    Touches [.ing, .port, .pool, .alarm, .mgmt, .log] j s (waitEnd j w s) :=
  (leftPlace_touches j s).then (settle_touches ..)

theorem waitEnd_ing : ((waitEnd j w s).slot j).ing = { (s.slot j).ing with waiting := none } := by
  rw [waitEnd_eq, (settle_touches j ..).ing, leftPlace_ing]

theorem waitEnd_port : ((waitEnd j w s).slot j).port = { (s.slot j).port with holdReq := false } := by
  rw [waitEnd_eq, (settle_touches j ..).port, leftPlace_port]

/-- The waiting hold is released. -/
theorem waitEnd_pool (j : Slot) (w : Waiting) (s : State) :
    (waitEnd j w s).pool = (releaseHold w.pid (leftPlace j s)).pool ∧
    (waitEnd j w s).alarm = (releaseHold w.pid (leftPlace j s)).alarm := by
  have h := settle_after j w.pid w.log w.enq w.disc (leftPlace j s)
  exact ⟨h.pool, h.alarm⟩

theorem waitEnd_log (h : w.log = none) : (waitEnd j w s).log = s.log := by
  rw [waitEnd_eq, h, settle_log, (leftPlace_touches j s).log]

/-! ## STALL_TIMER_EXPIRY (R35) -/

theorem stallTimer_expires (hw : (s.slot j).ing.waiting = some w)
    (hdue : (s.slot j).cfg.stallTime * 125 ≤ s.timing.core - w.since) (hp : s.parcel w.pid = some p) :
    ∃ t, exec (.stallTimerExpiry j) s = .next t ∧
      (t.slot j).ing = { (s.slot j).ing with waiting := none } ∧
      (t.slot j).port = { (s.slot j).port with holdReq := false } ∧
      (1 < p.refs → t.parcel w.pid = some { p with refs := p.refs - 1 } ∧ t.pool.freeCount = s.pool.freeCount ∧
        t.alarm = (stallEntries j w.pending s).alarm) ∧
      (p.refs = 1 → t.parcel w.pid = none ∧ t.pool.freeCount = s.pool.freeCount + p.nBlocks ∧
        (s.isRaised causePoolLow 0 = false → s.glob.lowMark ≤ s.pool.freeCount →
          t.alarm = (stallEntries j w.pending s).alarm)) ∧
      (w.log = none → t.log = s.log) ∧
      KeepsBut [.ing, .port, .pool, .log, .alarm, .mgmt] s t ∧ OnlyReplies s t ∧ OtherSlots j s t := by
  obtain ⟨v, hv⟩ : ∃ v, v = stallEntries j w.pending s := ⟨_, rfl⟩
  obtain ⟨x, hx⟩ : ∃ x : Waiting, x = { w with pending := 0, disc := w.disc ||| w.pending } := ⟨_, rfl⟩
  have hpid : x.pid = w.pid := by rw [hx]
  have hstalls : Touches [.alarm, .mgmt] j s v := hv ▸ stallEntries_touches ..
  have hleft := leftPlace_touches j v
  have hboth : Touches [.alarm, .mgmt, .ing, .port] j s (leftPlace j v) := hstalls.then hleft
  have hp' : (leftPlace j v).parcel w.pid = some p := by rw [State.parcel, hboth.pool]; exact hp
  have hend := waitEnd_touches j x v
  obtain ⟨hpool, halarm⟩ := waitEnd_pool j x v
  rw [hpid] at hpool halarm
  have hreleased := releaseHold_spec hp'
  have hall : Touches [.ing, .port, .pool, .log, .alarm, .mgmt] j s (waitEnd j x v) := hstalls.then hend
  have hexec : exec (.stallTimerExpiry j) s = .next (waitEnd j x v) := by
    show Host.Outcome.next (match (s.slot j).ing.waiting with
      | none => s
      | some w => if s.stallDue j w then stallExpire j w s else s) = _
    rw [hw]
    dsimp only
    have hnow : s.stallDue j w = true := decide_eq_true hdue
    rw [hnow, hx, hv]
    rfl
  refine ⟨_, hexec, ?_, ?_, fun hmany => ?_, fun hone => ?_, fun hlog => ?_, hall.keeps, hall.replies, hall.others⟩
  · rw [waitEnd_ing, hstalls.ing]
  · rw [waitEnd_port, hstalls.port]
  · obtain ⟨hparcel, hsame, hcount⟩ := hreleased.held hmany
    refine ⟨?_, ?_, ?_⟩
    · rw [State.parcel, hpool]
      exact hparcel
    · rw [hpool, hcount, hboth.pool]
    · rw [halarm, hsame, hleft.alarm, hv]
  · obtain ⟨hparcel, hcount, hquiet⟩ := hreleased.last (Nat.le_of_eq hone)
    refine ⟨?_, ?_, fun hlow hmark => ?_⟩
    · rw [State.parcel, hpool]
      exact hparcel
    · rw [hpool, hcount, hboth.pool]
    · have hlow' : (leftPlace j v).isRaised causePoolLow 0 = false := by
        rw [isRaised_of_alarm hleft.alarm, hv, stallEntries_isRaised, hlow]
      rw [halarm, hquiet hlow' (by rw [hboth.pool, hboth.glob]; exact hmark), hleft.alarm, hv]
  · rw [waitEnd_log (by rw [hx]; exact hlog), hstalls.log]

end Ends

/-! ## PENDING_SERVED (R33) -/

section Serves

variable {d j k : Slot} {c : Cls} {n : Nat} {w : Waiting} {p : Stored} {s t u : State}

/-- The record of a waiting parcel that joined one of its queues. -/
def Waiting.served (w : Waiting) (d : Slot) : Waiting := { w with pending := delSlot w.pending d, enq := addSlot w.enq d }

theorem hasSlot_delSlot_self (m : SlotSet) (d : Slot) : hasSlot (delSlot m d) d = false := by
  have h : (slotBit d).getLsbD d.val = true := by
    rw [show (slotBit d).getLsbD d.val = hasSlot (slotBit d) d from rfl, hasSlot_slotBit]
    exact decide_eq_true rfl
  unfold hasSlot delSlot
  rw [BitVec.getLsbD_and, BitVec.getLsbD_not, h]
  simp

/-- The waiting record after a service, whichever way it goes on. -/
theorem serveWaiter_ing (k : Slot) : ((serveWaiter d c j w s).slot k).ing = if k = j
    then { (s.slot j).ing with waiting := if delSlot w.pending d = 0 then none else some (w.served d) }
    else (s.slot k).ing := by
  have hjoin := enqueueRef_touches d c w.pid s
  unfold serveWaiter putWaiting
  dsimp only
  by_cases hend : delSlot w.pending d = 0
  · rw [if_pos hend, if_pos hend]
    by_cases hk : k = j
    · rw [if_pos hk, hk, waitEnd_ing, hjoin.ing]
    · rw [if_neg hk, (waitEnd_touches ..).others k hk, hjoin.ing]
  · rw [if_neg hend, if_neg hend]
    by_cases hk : k = j
    · rw [if_pos hk, hk, modIng_ing_self, hjoin.ing]
      rfl
    · rw [if_neg hk, (modIng_touches j _ _).others k hk, hjoin.ing]

/-- A service takes the slot out of those that wait. -/
theorem serveWaiter_waiters : (serveWaiter d c j w s).waiters d c = (s.waiters d c).filter (· ≠ j) := by
  unfold State.waiters
  rw [List.filter_filter]
  refine List.filter_congr fun k _ => ?_
  unfold State.waitsOn
  rw [serveWaiter_ing]
  by_cases hk : k = j
  · rw [if_pos hk]
    dsimp only
    by_cases hend : delSlot w.pending d = 0
    · rw [if_pos hend]
      simp [hk]
    · rw [if_neg hend]
      simp [hk, Waiting.served, hasSlot_delSlot_self]
  · rw [if_neg hk]
    simp [hk]

theorem serveWaiter_fewer (hj : j ∈ s.waiters d c) :
    ((serveWaiter d c j w s).waiters d c).length < (s.waiters d c).length := by
  rw [serveWaiter_waiters]
  exact List.length_filter_lt_length_iff_exists.mpr ⟨j, hj, by simp⟩

theorem servePending_first (hold : s.oldestWaiter d c = some j) (hw : (s.slot j).ing.waiting = some w) (n : Nat) :
    servePending d c (n + 1) s =
      if s.fits d c (s.blocksOf w.pid) then servePending d c n (serveWaiter d c j w s) else s := by
  rw [servePending, hold]
  dsimp only
  rw [hw]

/-- As many rounds as places wait are enough. -/
theorem servePending_enough (h : (s.waiters d c).length ≤ n) : servePending d c (n + 1) s = servePending d c n s := by
  induction n generalizing s with
  | zero =>
    have hnone : s.oldestWaiter d c = none := by
      unfold State.oldestWaiter
      rw [List.eq_nil_of_length_eq_zero (Nat.le_zero.mp h)]
    unfold servePending
    rw [hnone]
  | succ n ih =>
    cases hold : s.oldestWaiter d c with
    | none => simp only [servePending, hold]
    | some j =>
      cases hw : (s.slot j).ing.waiting with
      | none => simp only [servePending, hold, hw]
      | some w =>
        have hfewer := serveWaiter_fewer (w := w) (waits_of_oldest hold)
        rw [servePending_first hold hw, servePending_first hold hw, ih (Nat.le_of_lt_succ (Nat.lt_of_lt_of_le hfewer h))]

theorem fits_of_room (hp : s.parcel w.pid = some p) :
    s.fits d c (s.blocksOf w.pid) = decide (s.occupancy d c + p.nBlocks ≤ (s.slot d).cfg.limit c) := by
  have hblocks : s.blocksOf w.pid = p.nBlocks := by
    unfold State.blocksOf
    rw [hp]
    rfl
  rw [hblocks]
  rfl

/-- The parcel served joined its queue, and waits on or not. -/
structure ServedFirst (d j : Slot) (c : Cls) (w : Waiting) (p : Stored) (s u : State) : Prop where
  egr : (u.slot d).egr = ((s.slot d).egr.setQueue c ((s.slot d).egr.queue c ++ [w.pid])).occasion
  waiting : (u.slot j).ing.waiting = if delSlot w.pending d = 0 then none else some (w.served d)
  ings : ∀ k, k ≠ j → (u.slot k).ing = (s.slot k).ing
  hold : (u.slot j).port.holdReq = if delSlot w.pending d = 0 then false else (s.slot j).port.holdReq
  parcel : u.parcel w.pid = some (if delSlot w.pending d = 0 then p else { p with refs := p.refs + 1 })
  free : u.pool.freeCount = s.pool.freeCount
  others : ∀ k, k ≠ d → (u.slot k).egr = (s.slot k).egr ∧ (u.slot k).ctl = (s.slot k).ctl
  log : w.log = none ∨ delSlot w.pending d ≠ 0 → u.log = s.log
  keeps : KeepsBut [.egr, .ing, .pool, .log, .port, .ctl] s u

theorem enqueueRef_holdReq (k : Slot) (pid : Nat) (s : State) :
    ((enqueueRef d c pid s).slot k).port.holdReq = (s.slot k).port.holdReq := by
  by_cases hk : k = d
  · have h := enqueueRef_port (d := d) (c := c) (pid := pid) (s := s)
    unfold Port.wokenAs at h
    rw [hk, h]
  · rw [(enqueueRef_touches ..).others k hk]

theorem serveWaiter_goesOn (hp : s.parcel w.pid = some p) (hend : delSlot w.pending d ≠ 0) :
    ServedFirst d j c w p s (serveWaiter d c j w s) ∧
      KeepsBut [.egr, .ing, .pool, .port, .ctl] s (serveWaiter d c j w s) := by
  have hjoin := enqueueRef_touches d c w.pid s
  have hing (k : Slot) := serveWaiter_ing (d := d) (c := c) (j := j) (w := w) (s := s) k
  obtain ⟨u, hu⟩ : ∃ u, u = serveWaiter d c j w s := ⟨_, rfl⟩
  have hset : Touches [.ing] j (enqueueRef d c w.pid s) u := by
    rw [hu]
    unfold serveWaiter putWaiting
    dsimp only
    rw [if_neg hend]
    exact modIng_touches ..
  rw [← hu] at hing ⊢
  have hkeeps : KeepsBut [.egr, .ing, .pool, .port, .ctl] s u := hjoin.keeps.then hset.keeps
  refine ⟨⟨?_, ?_, fun k hk => (hing k).trans (if_neg hk), ?_, ?_, ?_, fun k hk => ⟨?_, ?_⟩, fun _ => hkeeps.log,
    hkeeps.mono⟩, hkeeps⟩
  · rw [hset.egr, enqueueRef_egr]
    rfl
  · rw [hing, if_pos rfl]
  · rw [hset.port, enqueueRef_holdReq, if_neg hend]
  · rw [State.parcel, hset.pool, if_neg hend]
    exact (enqueueRef_parcel hp w.pid).trans (if_pos rfl)
  · rw [hset.pool, enqueueRef_freeCount]
  · rw [hset.egr, hjoin.others k hk]
  · rw [hset.ctl, hjoin.others k hk]

theorem serveWaiter_ends (hp : s.parcel w.pid = some p) (hrefs : 1 ≤ p.refs) (hend : delSlot w.pending d = 0) :
    ServedFirst d j c w p s (serveWaiter d c j w s) := by
  have hjoin := enqueueRef_touches d c w.pid s
  have hing (k : Slot) := serveWaiter_ing (d := d) (c := c) (j := j) (w := w) (s := s) k
  have heq : serveWaiter d c j w s = waitEnd j (w.served d) (enqueueRef d c w.pid s) := if_pos hend
  have hleft := leftPlace_touches j (enqueueRef d c w.pid s)
  have hp' : (leftPlace j (enqueueRef d c w.pid s)).parcel w.pid = some { p with refs := p.refs + 1 } := by
    rw [State.parcel, hleft.pool]
    exact (enqueueRef_parcel hp w.pid).trans (if_pos rfl)
  have hmany : 1 < p.refs + 1 := Nat.lt_succ_of_le hrefs
  have hrelease := releaseHold_held_touches j hp' hmany
  have hsettle := settle_after j w.pid w.log (w.served d).enq w.disc (leftPlace j (enqueueRef d c w.pid s))
  have hset : Touches [.ing, .port, .pool, .log] j (enqueueRef d c w.pid s) (serveWaiter d c j w s) := by
    rw [heq]
    exact hleft.then (hrelease.then hsettle (rs := [.pool, .log]))
  obtain ⟨hpool, -⟩ := waitEnd_pool j (w.served d) (enqueueRef d c w.pid s)
  obtain ⟨hparcel, -, hcount⟩ := (releaseHold_spec hp').held hmany
  refine ⟨?_, ?_, fun k hk => (hing k).trans (if_neg hk), ?_, ?_, ?_, fun k hk => ⟨?_, ?_⟩, fun hlog => ?_,
    hjoin.keeps.then hset.keeps⟩
  · rw [hset.egr, enqueueRef_egr]
    rfl
  · rw [hing, if_pos rfl]
  · rw [heq, waitEnd_port, if_pos hend]
  · rw [State.parcel, heq, hpool, if_pos hend]
    exact hparcel
  · rw [heq, hpool]
    exact hcount.trans (by rw [hleft.pool, enqueueRef_freeCount])
  · rw [hset.egr, hjoin.others k hk]
  · rw [hset.ctl, hjoin.others k hk]
  · rw [heq, waitEnd_log (w := w.served d) (hlog.resolve_right fun h => h hend), hjoin.log]

theorem serveWaiter_serves (hp : s.parcel w.pid = some p) (hrefs : 1 ≤ p.refs) :
    ServedFirst d j c w p s (serveWaiter d c j w s) := by
  by_cases hend : delSlot w.pending d = 0
  · exact serveWaiter_ends hp hrefs hend
  · exact (serveWaiter_goesOn hp hend).1

theorem waiters_length_le (s : State) (d : Slot) (c : Cls) : (s.waiters d c).length ≤ 16 := List.length_filter_le ..

theorem exec_pendingServed {v : State} (h : servePending d c (15 + 1) s = v) : exec (.pendingServed d c) s = .next v := by
  rw [← h]
  rfl

/-- The oldest one is served and the room left is offered again. -/
theorem pendingServed_first (hold : OldestPending s d c j) (hw : (s.slot j).ing.waiting = some w)
    (hp : s.parcel w.pid = some p) (hroom : s.occupancy d c + p.nBlocks ≤ (s.slot d).cfg.limit c)
    (hu : u = serveWaiter d c j w s) :
    exec (.pendingServed d c) s = .next (servePending d c 15 u) ∧
      exec (.pendingServed d c) u = .next (servePending d c 15 u) := by
  have hfirst := servePending_first (oldestWaiter_of hold) hw 15
  have hfewer := serveWaiter_fewer (w := w) (waits_of_oldest (oldestWaiter_of hold))
  rw [fits_of_room hp, decide_eq_true hroom, if_pos rfl, ← hu] at hfirst
  rw [← hu] at hfewer
  exact ⟨exec_pendingServed hfirst, exec_pendingServed
    (servePending_enough (Nat.le_of_lt_succ (Nat.lt_of_lt_of_le hfewer (waiters_length_le s d c))))⟩

theorem pendingServed_full (hold : OldestPending s d c j) (hw : (s.slot j).ing.waiting = some w)
    (hp : s.parcel w.pid = some p) (hfull : (s.slot d).cfg.limit c < s.occupancy d c + p.nBlocks) :
    exec (.pendingServed d c) s = .next s := by
  have hfirst := servePending_first (oldestWaiter_of hold) hw 15
  rw [fits_of_room hp, decide_eq_false (Nat.not_le.mpr hfull)] at hfirst
  exact exec_pendingServed (hfirst.trans (if_neg Bool.false_ne_true))

/-- The one waiting place of a queue is served. -/
theorem pendingServed_alone (hw : (s.slot j).ing.waiting = some w) (hcls : w.cls = c) (hpending : hasSlot w.pending d = true)
    (halone : ∀ k, k ≠ j → s.waitsOn d c k = false) (hp : s.parcel w.pid = some p)
    (hroom : s.occupancy d c + p.nBlocks ≤ (s.slot d).cfg.limit c) :
    exec (.pendingServed d c) s = .next (serveWaiter d c j w s) := by
  have hwaits : s.waitsOn d c j = true := by
    unfold State.waitsOn
    rw [hw]
    simp [hcls, hpending]
  have hold : OldestPending s d c j :=
    ⟨hwaits, fun k hk h => absurd ((halone k hk).symm.trans h) Bool.false_ne_true⟩
  obtain ⟨hexec, -⟩ := pendingServed_first hold hw hp hroom rfl
  have hnone : (serveWaiter d c j w s).waiters d c = [] := by
    rw [serveWaiter_waiters, List.filter_eq_nil_iff]
    intro k hk
    have hkj : k = j := by
      by_contra hne
      exact absurd ((halone k hne).symm.trans (mem_waiters.mp hk)) Bool.false_ne_true
    simp [hkj]
  rw [hexec, servePending]
  unfold State.oldestWaiter
  rw [hnone]

end Serves

/-- Settles O30, by the order of the waiting places, the rounds of a service and the end of a wait. -/
theorem waitingPlacesEmpty : Obligations.WaitingPlacesEmpty := by
  refine ⟨fun d j c w p s hw hcls hpending hon halone hp hroom => ?_, fun d j c w p s hold hw hp =>
    ⟨fun hfull => pendingServed_full hold hw hp hfull, fun u hu hroom hrefs => ?_⟩,
    fun j w p s hw hdue hp _ => stallTimer_expires hw hdue hp⟩
  · obtain ⟨hserved, hkeeps⟩ := serveWaiter_goesOn (j := j) (c := c) hp hon
    have hing (k : Slot) := serveWaiter_ing (d := d) (c := c) (j := j) (w := w) (s := s) k
    rw [if_neg hon] at hing
    have hparcel := hserved.parcel
    rw [if_neg hon] at hparcel
    exact ⟨_, pendingServed_alone hw hcls hpending halone hp hroom, hserved.egr, hing, hparcel, hserved.free,
      hserved.others, hkeeps⟩
  · have hserved := serveWaiter_serves (d := d) (j := j) (c := c) hp hrefs
    rw [← hu] at hserved
    obtain ⟨hexec, hagain⟩ := pendingServed_first hold hw hp hroom hu
    exact ⟨_, hexec, hagain, hserved.egr, hserved.waiting, hserved.ings, hserved.hold, hserved.parcel, hserved.free,
      hserved.others, fun hlog => hserved.log (.inl hlog), hserved.keeps⟩

end Sys2Proof.Machine
end

section
/-! PROOFS. What holds inside an event: the invariants of slots, queues, holds and faults as they stand between the
operations of one command, while a slot changes its state and a parcel is held by the event itself. -/

namespace Sys2Proof.Machine

/-! ## How far an invariant reaches -/

/-- The invariants that every step keeps, by what they speak of: slot states, waiting places, traffic, the heads of the
queues, the holds on parcels, faults, and the places of queues. Each is kept with what it builds on and with no other. -/
inductive Reach where
  | slots | holds | traffic | sends | counts | faults | bounds

/-- The invariants that build on the links, the rests and the chains. -/
def Reach.base : Reach → Prop
  | .slots | .traffic | .sends | .counts => True
  | .holds | .faults | .bounds => False

/-- The invariants that build on the traffic. -/
def Reach.queues : Reach → Prop
  | .traffic | .sends | .counts => True
  | .slots | .holds | .faults | .bounds => False

/-- The invariants that build on the heads of the queues. -/
def Reach.heads : Reach → Prop
  | .sends | .counts => True
  | .slots | .holds | .traffic | .faults | .bounds => False

theorem Reach.base_of_queues {k : Reach} (h : k.queues) : k.base := by
  cases k with
  | traffic | sends | counts => trivial
  | slots => trivial
  | holds | faults | bounds => exact h

theorem Reach.queues_of_heads {k : Reach} (h : k.heads) : k.queues := by
  cases k with
  | sends | counts | traffic => trivial
  | slots | holds | faults | bounds => exact h

theorem Reach.heads_of_counts {k : Reach} (h : k = .counts) : k.heads := by
  rw [h]
  trivial

/-- Where an event stands: the invariant in question, the slots between two states and whether SLOT-FAULT is raised for
them, the slots whose pending sets are still to be resolved again, the parcels the event itself holds, the port whose
receive state is being changed, the port whose card hold-off is, the slot that began to drain with its power off, and
whether a reply place is claimed. -/
structure Scope where
  reach : Reach
  moving : List Slot
  marked : Bool
  unsure : List Slot
  extra : List Nat
  busy : Option Slot
  held : Option Slot
  dim : Option Slot
  claim : Bool

/-- Between two events. -/
def Reach.rest (k : Reach) : Scope :=
  { reach := k, moving := [], marked := false, unsure := [], extra := [], busy := none, held := none, dim := none,
    claim := false }

/-! ## What is said of one slot -/

/-- The link, the rest and the chain fit the slot state (R6, R123, R134, R146). -/
def SlotState.fits (x : SlotState) : Prop :=
  x.ctl.phase.linkFits x.port.link = true ∧ (x.ctl.sub ≠ .awake → x.ctl.phase = .admitted) ∧
  (x.ctl.phase = .admitted → x.ctl.sub = .awake → x.port.link = .up) ∧
  (x.ctl.restReq = true → x.ctl.sub = .resting ∧ x.port.link = .up) ∧
  (x.cursor.state ≠ .idle → x.ctl.phase = .admitted)

/-- The power lines and the slot timer fit the slot state (R123, R127 to R130); `lit` says that a slot in traffic has
its power. -/
def SlotState.powered (x : SlotState) (lit : Prop) : Prop :=
  (lit → x.ctl.phase.isOut = false → x.ctl.pwrEn = true) ∧
  (x.ctl.phase.isOut = true → x.ctl.phase ≠ .quiesced → x.ctl.pwrEn = false) ∧
  (x.ctl.inputsEn = true → x.ctl.pwrEn = true) ∧ (x.ctl.resetOut = true ↔ x.ctl.phase = .powering) ∧
  ∀ t, x.ctl.timer = some t → t.kind.phase = x.ctl.phase

/-- The hold request stands exactly while the waiting place is taken (R32, R36). -/
def SlotState.waitFits (x : SlotState) : Prop :=
  x.port.holdReq = x.ing.waiting.isSome ∧ ∀ w, x.ing.waiting = some w → w.pending ≠ 0

/-- The queues are empty out of traffic, and something is sent only on a link that is UP (R46, R49). -/
def SlotState.still (x : SlotState) : Prop :=
  (x.ctl.phase.isOut = true → x.egr.stream = [] ∧ x.egr.control = [] ∧ x.egr.bulk = [] ∧ x.egr.express = []) ∧
  (x.egr.tx ≠ .idle → x.port.link = .up)

/-- The treatment a slot gives (R27). -/
def SlotState.treats (x : SlotState) : Treatment :=
  match x.ctl.phase with
  | .admitted => if x.cfg.manualHold ∧ x.cfg.policy = .discard then .discarded else .queued
  | .draining => .discarded
  | .powering | .training =>
    if x.cfg.manualHold then (if x.cfg.policy = .queue then .queued else .discarded) else .undeliverable
  | .empty | .seated | .quiesced | .faulted => .undeliverable

/-- Every slot a parcel waits for has a property. -/
def SlotState.pendsOn (x : SlotState) (P : Slot → Prop) : Prop :=
  ∀ w d, x.ing.waiting = some w → hasSlot w.pending d = true → P d

/-- The queue a parcel was taken from holds it at its head; `r` says that the reply queue is the slot's and holds a
parcel. -/
def Egress.atHead (e : Egress) (r : Prop) (p : TxParcel) : Prop :=
  p.attached = true →
  match p.origin with
  | .express => e.express ≠ []
  | .reply => r
  | .cls c => (e.queue c).head? = some p.pid

/-- What is on the transmit side is at the head of its queue (R14, R40, R50, R53). -/
def Egress.heads (e : Egress) (r : Prop) : Prop :=
  (∀ p, p ∈ e.tx.parcels → e.atHead r p) ∧
  (∀ p, e.tx.main = some p → (p.headerSent = false → e.tx = .sending p ∧ p.attached = true) ∧
    (e.tx ≠ .sending p → p.origin = .cls .control ∨ p.origin = .cls .bulk)) ∧
  ∀ p x, e.tx = .bracket p x → x.origin = .express

/-- The holds of class queues on a stored parcel (R40). -/
def Egress.holdsOf (e : Egress) (pid : Nat) : Nat := e.stream.count pid + e.control.count pid + e.bulk.count pid

/-- The holds of a slot on a stored parcel (R39). -/
def SlotState.holdsOf (x : SlotState) (pid : Nat) : Nat := x.egr.holdsOf pid + x.ing.holds pid

/-- A parcel is in reception exactly in IN-PARCEL (R4). -/
def SlotState.rxFits (x : SlotState) : Prop :=
  x.ing.reception.isSome ↔ ∃ h n c, x.port.rx = .inParcel h n c

/-- SLOT-FAULT, raised or not, and the fault reason fit the slot state (R123, R141, R142). -/
def SlotState.faultFits (x : SlotState) (raised : Bool) : Prop :=
  (raised = true ↔ x.ctl.phase = .faulted) ∧ (x.ctl.reason.isSome ↔ x.ctl.phase = .faulted)

/-- The hold-off timer and LINK-HELD, raised or not, fit the card hold-off flag (R12, R13). -/
def SlotState.heldFits (x : SlotState) (raised : Bool) : Prop :=
  (x.port.holdTimer.isSome → x.port.cardHold = true) ∧
  (raised = true → x.port.cardHold = true ∧ x.port.holdTimer = none)

/-- The express queue keeps within its places (R47). -/
def SlotState.expressFits (x : SlotState) : Prop := x.egr.express.length ≤ Config.expressPlaces

/-! ## What is said of a state -/

/-- The reply queue is a slot's and holds a parcel. -/
def State.hasReply (s : State) (i : Slot) : Prop := i = s.mgmtSlot ∧ s.mgmt.replies ≠ []

/-- A stored parcel's reference count is the number of its holds, those of the event itself counted (R39). -/
def State.counted (s : State) (extra : List Nat) : Prop :=
  (∀ pid p, s.parcel pid = some p → p.refs = s.holdCount pid + extra.count pid ∧ 0 < p.refs) ∧
  (∀ pid, s.parcel pid = none → s.holdCount pid + extra.count pid = 0) ∧
  ∀ pid, s.pool.nextId ≤ pid → s.parcel pid = none

/-- What holds inside an event. -/
structure Midway (g : Scope) (s : State) : Prop where
  fits : g.reach.base → ∀ i, i ∉ g.moving → (s.slot i).fits
  powered : g.reach = .slots → ∀ i, i ∉ g.moving → (s.slot i).powered (g.dim ≠ some i)
  waitFits : g.reach = .holds → ∀ i, (s.slot i).waitFits
  still : g.reach.queues → ∀ i, i ∉ g.moving → (s.slot i).still
  pends : g.reach.queues → ∀ j, (s.slot j).pendsOn (fun d => d ∉ g.unsure → (s.slot d).treats = .queued)
  heads : g.reach.heads → ∀ i, (s.slot i).egr.heads (s.hasReply i)
  counted : g.reach = .counts → s.counted g.extra
  rxFits : g.reach = .counts → ∀ i, g.busy ≠ some i → (s.slot i).rxFits
  faultFits : g.reach = .faults → ∀ i, i ∉ g.moving → (s.slot i).faultFits (s.isRaised causeSlotFault i.val)
  marked : g.reach = .faults → ∀ i, i ∈ g.moving → s.isRaised causeSlotFault i.val = g.marked
  heldFits : g.reach = .faults → ∀ i, g.held ≠ some i → (s.slot i).heldFits (s.isRaised causeLinkHeld i.val)
  expressFits : g.reach = .bounds → ∀ i, (s.slot i).expressFits
  repliesFit : g.reach = .bounds → s.repliesFit
  requestsFit : g.reach = .bounds → s.mgmt.queue.length ≤ Config.requestPlaces
  claim : g.reach = .bounds → s.mgmt.claim = g.claim

/-! ## Ties to the invariants of the statements -/

section Ties

variable {s : State}

theorem links_rests_chains_iff : (s.linksOk ∧ s.restsOk ∧ s.chainsOk) ↔ ∀ i, (s.slot i).fits := by
  have hawake (i : Slot) : s.isAwake i = true ↔ (s.slot i).ctl.phase = .admitted ∧ (s.slot i).ctl.sub = .awake := by
    unfold State.isAwake
    rw [Bool.and_eq_true, beq_iff_eq, beq_iff_eq]
  constructor
  · rintro ⟨hlinks, hrests, hchains⟩ i
    obtain ⟨hsub, hup, hreq⟩ := hrests i
    exact ⟨hlinks i, hsub, fun hp hs => hup ((hawake i).mpr ⟨hp, hs⟩), hreq, hchains i⟩
  · intro h
    refine ⟨fun i => (h i).1, fun i => ?_, fun i => (h i).2.2.2.2⟩
    obtain ⟨-, hsub, hup, hreq, -⟩ := h i
    exact ⟨hsub, fun ha => hup ((hawake i).mp ha).1 ((hawake i).mp ha).2, hreq⟩

theorem power_timers_iff : (s.powerOk ∧ s.timersOk) ↔ ∀ i, (s.slot i).powered True := by
  constructor
  · rintro ⟨hpower, htimers⟩ i
    obtain ⟨hin, hout, hinputs, hreset⟩ := hpower i
    exact ⟨fun _ => hin, hout, hinputs, hreset, htimers i⟩
  · intro h
    refine ⟨fun i => ?_, fun i t => (h i).2.2.2.2 t⟩
    obtain ⟨hin, hout, hinputs, hreset, -⟩ := h i
    exact ⟨hin trivial, hout, hinputs, hreset⟩

theorem holdsOk_iff : s.holdsOk ↔ ∀ i, (s.slot i).waitFits := Iff.rfl

theorem trafficOk_iff : s.trafficOk ↔ (∀ i, (s.slot i).still) ∧
    ∀ j, (s.slot j).pendsOn (fun d => (s.slot d).treats = .queued) := by
  constructor
  · rintro ⟨hout, hpend, htx⟩
    exact ⟨fun i => ⟨hout i, htx i⟩, fun j w d => hpend j w d⟩
  · rintro ⟨hstill, hpend⟩
    exact ⟨fun i => (hstill i).1, fun j w d => hpend j w d, fun i => (hstill i).2⟩

theorem sendsOk_iff : s.sendsOk ↔ ∀ i, (s.slot i).egr.heads (s.hasReply i) := Iff.rfl

theorem countsOk_iff : s.countsOk ↔ (∀ i, (s.slot i).rxFits) ∧ s.counted [] := by
  unfold State.countsOk State.counted
  simp only [List.count_nil, Nat.add_zero]
  exact Iff.rfl

theorem faults_held_iff : (s.faultsOk ∧ s.heldOk) ↔ ∀ i : Slot,
    (s.slot i).faultFits (s.isRaised causeSlotFault i.val) ∧ (s.slot i).heldFits (s.isRaised causeLinkHeld i.val) :=
  ⟨fun h i => ⟨h.1 i, h.2 i⟩, fun h => ⟨fun i => (h i).1, fun i => (h i).2⟩⟩

end Ties

/-! ## Widening the scope -/

section Scopes

variable {g : Scope} {s : State} {i : Slot}

/-- A slot begins to change its state. -/
theorem Midway.move (h : Midway g s) (hm : g.moving = []) (i : Slot) :
    Midway { g with moving := [i], marked := s.isRaised causeSlotFault i.val } s :=
  { h with
    fits := fun hk j _ => h.fits hk j (hm ▸ List.not_mem_nil)
    powered := fun hk j _ => h.powered hk j (hm ▸ List.not_mem_nil)
    still := fun hk j _ => h.still hk j (hm ▸ List.not_mem_nil)
    faultFits := fun hk j _ => h.faultFits hk j (hm ▸ List.not_mem_nil)
    marked := fun _ _ hj => by rw [List.mem_singleton.mp hj] }

/-- A slot has come to its state. -/
theorem Midway.arrive {b : Bool} (h : Midway { g with moving := [i], marked := b } s) (hm : g.moving = [])
    (hfits : g.reach.base → (s.slot i).fits) (hpowered : g.reach = .slots → (s.slot i).powered (g.dim ≠ some i))
    (hstill : g.reach.queues → (s.slot i).still) (hfault : g.reach = .faults → (s.slot i).faultFits b) : Midway g s :=
  { h with
    fits := fun hk j _ => by
      by_cases hji : j = i
      · exact hji ▸ hfits hk
      · exact h.fits hk j fun hj => hji (List.mem_singleton.mp hj)
    powered := fun hk j _ => by
      by_cases hji : j = i
      · exact hji ▸ hpowered hk
      · exact h.powered hk j fun hj => hji (List.mem_singleton.mp hj)
    still := fun hk j _ => by
      by_cases hji : j = i
      · exact hji ▸ hstill hk
      · exact h.still hk j fun hj => hji (List.mem_singleton.mp hj)
    faultFits := fun hk j _ => by
      by_cases hji : j = i
      · rw [hji, h.marked hk i List.mem_cons_self]
        exact hfault hk
      · exact h.faultFits hk j fun hj => hji (List.mem_singleton.mp hj)
    marked := fun _ j hj => absurd (hm ▸ hj) List.not_mem_nil }

/-- A slot's pending sets are to be resolved again. -/
theorem Midway.doubt (h : Midway g s) (i : Slot) : Midway { g with unsure := i :: g.unsure } s :=
  { h with pends := fun hk j w d hw hd hu => h.pends hk j w d hw hd fun hm => hu (List.mem_cons_of_mem _ hm) }

/-- A slot's pending sets are resolved. -/
theorem Midway.resolved (h : Midway { g with unsure := i :: g.unsure } s)
    (hpend : g.reach.queues → ∀ j, (s.slot j).pendsOn (fun d => d = i → (s.slot d).treats = .queued)) : Midway g s :=
  { h with
    pends := fun hk j w d hw hd hu => by
      by_cases hdi : d = i
      · exact hpend hk j w d hw hd hdi
      · exact h.pends hk j w d hw hd (fun hm => (List.mem_cons.mp hm).elim hdi hu) }

/-- A port's receive state is being changed. -/
theorem Midway.occupy (h : Midway g s) (hb : g.busy = none) (i : Slot) : Midway { g with busy := some i } s :=
  { h with rxFits := fun hk j _ => h.rxFits hk j (by rw [hb]; exact nofun) }

/-- A port's receive state stands again. -/
theorem Midway.free (h : Midway { g with busy := some i } s) (hrx : g.reach = .counts → (s.slot i).rxFits) : Midway g s :=
  { h with
    rxFits := fun hk j _ => by
      by_cases hji : j = i
      · exact hji ▸ hrx hk
      · exact h.rxFits hk j fun he => hji (Option.some.inj he).symm }

/-- A port's card hold-off is being changed. -/
theorem Midway.loosen (h : Midway g s) (hh : g.held = none) (i : Slot) : Midway { g with held := some i } s :=
  { h with heldFits := fun hk j _ => h.heldFits hk j (by rw [hh]; exact nofun) }

end Scopes

/-! ## A change of one slot -/

section Alter

variable {g : Scope} {e : List Nat} {s t : State} {i : Slot} {x y : SlotState} {P : Slot → Prop} {r : Prop} {a b : Bool}

/-- What a change of one slot keeps; the parts that are as they were need no word. -/
structure Alters (g : Scope) (e : List Nat) (i : Slot) (x y : SlotState) (P : Slot → Prop) (r : Prop) (a b : Bool) :
    Prop where
  fits : g.reach.base → i ∉ g.moving → x.fits → y.fits := by exact fun _ _ h => h
  powered : g.reach = .slots → i ∉ g.moving → x.powered (g.dim ≠ some i) → y.powered (g.dim ≠ some i) := by
    exact fun _ _ h => h
  waitFits : g.reach = .holds → x.waitFits → y.waitFits := by exact fun _ h => h
  still : g.reach.queues → i ∉ g.moving → x.still → y.still := by exact fun _ _ h => h
  treats : g.reach.queues → i ∉ g.unsure → x.treats = .queued → y.treats = .queued := by exact fun _ _ h => h
  pends : g.reach.queues → x.pendsOn P → y.pendsOn P := by exact fun _ h => h
  heads : g.reach.heads → x.egr.heads r → y.egr.heads r := by exact fun _ h => h
  counted : g.reach = .counts → ∀ pid, y.holdsOf pid + e.count pid = x.holdsOf pid + g.extra.count pid := by
    exact fun _ _ => rfl
  rxFits : g.reach = .counts → g.busy ≠ some i → x.rxFits → y.rxFits := by exact fun _ _ h => h
  faultFits : g.reach = .faults → i ∉ g.moving → x.faultFits a → y.faultFits a := by exact fun _ _ h => h
  heldFits : g.reach = .faults → g.held ≠ some i → x.heldFits b → y.heldFits b := by exact fun _ _ h => h
  expressFits : g.reach = .bounds → x.expressFits → y.expressFits := by exact fun _ h => h

/-- The slots whose treatment an open pending set may name. -/
def State.treatsIn (s : State) (g : Scope) (d : Slot) : Prop := d ∉ g.unsure → (s.slot d).treats = .queued

/-- A slot of a state is changed. -/
def AltersIn (g : Scope) (e : List Nat) (s : State) (i : Slot) (y : SlotState) : Prop :=
  Alters g e i (s.slot i) y (s.treatsIn g) (s.hasReply i) (s.isRaised causeSlotFault i.val)
    (s.isRaised causeLinkHeld i.val)

theorem sum_change {f f' : Slot → Nat} (hsame : ∀ j, j ≠ i → f' j = f j) (l : List Slot) (hl : l.Nodup) (hi : i ∈ l) :
    (l.map f').sum + f i = (l.map f).sum + f' i := by
  induction l with
  | nil => exact absurd hi List.not_mem_nil
  | cons j l ih =>
    obtain ⟨hj, hl⟩ := List.nodup_cons.mp hl
    rw [List.map_cons, List.map_cons, List.sum_cons, List.sum_cons]
    by_cases hji : j = i
    · have hrest : l.map f' = l.map f :=
        List.map_congr_left fun k hk => hsame k fun hki => hj (hji.trans hki.symm ▸ hk)
      rw [hrest, hji]
      omega
    · have := ih hl ((List.mem_cons.mp hi).resolve_left (Ne.symm hji))
      rw [hsame j hji]
      omega

theorem holdCount_eq (s : State) (pid : Nat) : s.holdCount pid = (allSlots.map (fun j => (s.slot j).holdsOf pid)).sum := rfl

theorem holdCount_setSlot (s : State) (i : Slot) (y : SlotState) (pid : Nat) :
    (s.setSlot i y).holdCount pid + (s.slot i).holdsOf pid = s.holdCount pid + y.holdsOf pid := by
  have h := sum_change (i := i) (f := fun j => (s.slot j).holdsOf pid) (f' := fun j => ((s.setSlot i y).slot j).holdsOf pid)
    (fun j hj => by rw [slot_setSlot_ne s y hj]) allSlots allSlots_nodup (mem_allSlots_all i)
  rw [slot_setSlot_self] at h
  exact h

theorem counted_setSlot (h : s.counted g.extra) (hsame : ∀ pid, y.holdsOf pid + e.count pid =
    (s.slot i).holdsOf pid + g.extra.count pid) : (s.setSlot i y).counted e := by
  obtain ⟨hsome, hnone, hnew⟩ := h
  have hcount (pid : Nat) : (s.setSlot i y).holdCount pid + e.count pid = s.holdCount pid + g.extra.count pid := by
    have h1 := holdCount_setSlot s i y pid
    have h2 := hsame pid
    omega
  refine ⟨fun pid p hp => ?_, fun pid hp => ?_, hnew⟩
  · rw [hcount]
    exact hsome pid p hp
  · rw [hcount]
    exact hnone pid hp

theorem Midway.alter (h : Midway g s) (c : AltersIn g e s i y) : Midway { g with extra := e } (s.setSlot i y) := by
  have hslot (j : Slot) : (s.setSlot i y).slot j = if j = i then y else s.slot j := by
    by_cases hj : j = i
    · rw [if_pos hj, hj, slot_setSlot_self]
    · rw [if_neg hj, slot_setSlot_ne s y hj]
  have htreats (hk : g.reach.queues) (d : Slot) (hd : s.treatsIn g d) (hu : d ∉ g.unsure) :
      ((s.setSlot i y).slot d).treats = .queued := by
    rw [hslot]
    split
    next he => exact c.treats hk (he ▸ hu) (he ▸ hd hu)
    next => exact hd hu
  refine
    { fits := fun hk j hj => ?_, powered := fun hk j hj => ?_, waitFits := fun hk j => ?_, still := fun hk j hj => ?_,
      pends := fun hk j w d hw hd => ?_, heads := fun hk j => ?_, counted := fun hk => ?_, rxFits := fun hk j hj => ?_,
      faultFits := fun hk j hj => ?_, heldFits := fun hk j hj => ?_, expressFits := fun hk j => ?_,
      marked := h.marked, repliesFit := h.repliesFit, requestsFit := h.requestsFit, claim := h.claim }
  · rw [hslot]
    split
    next he => exact c.fits hk (he ▸ hj) (he ▸ h.fits hk j hj)
    next => exact h.fits hk j hj
  · rw [hslot]
    split
    next he =>
      subst he
      exact c.powered hk hj (h.powered hk j hj)
    next => exact h.powered hk j hj
  · rw [hslot]
    split
    next he => exact c.waitFits hk (he ▸ h.waitFits hk j)
    next => exact h.waitFits hk j
  · rw [hslot]
    split
    next he => exact c.still hk (he ▸ hj) (he ▸ h.still hk j hj)
    next => exact h.still hk j hj
  · have hold (k : Slot) : (s.slot k).pendsOn (s.treatsIn g) := h.pends hk k
    rw [hslot] at hw
    split at hw
    next => exact htreats hk d (c.pends hk (hold i) w d hw hd)
    next => exact htreats hk d (hold j w d hw hd)
  · rw [hslot]
    split
    next he => exact he ▸ c.heads hk (h.heads hk i)
    next => exact h.heads hk j
  · exact counted_setSlot (h.counted hk) (c.counted hk)
  · rw [hslot]
    split
    next he => exact c.rxFits hk (he ▸ hj) (he ▸ h.rxFits hk j hj)
    next => exact h.rxFits hk j hj
  · rw [hslot]
    split
    next he => exact he ▸ c.faultFits hk (he ▸ hj) (he ▸ h.faultFits hk j hj)
    next => exact h.faultFits hk j hj
  · rw [hslot]
    split
    next he => exact he ▸ c.heldFits hk (he ▸ hj) (he ▸ h.heldFits hk j hj)
    next => exact h.heldFits hk j hj
  · rw [hslot]
    split
    next he => exact c.expressFits hk (he ▸ h.expressFits hk j)
    next => exact h.expressFits hk j

end Alter

/-! ## What is no concern of the slots -/

section Calm

variable {g : Scope} {s t u : State} {i : Slot}

/-- A slot without what the invariants do not speak of. -/
def SlotState.bare (x : SlotState) : SlotState :=
  { x with
    port := { x.port with
      windowErrs := 0, errTotal := 0, announcedHeld := false, trainReq := none, wakeAsked := false, out := none,
      slotTaken := false }
    ing := { x.ing with todStage := [], landing := .clear }
    ctl := { x.ctl with
      delay := 0, train := Training.none, lastAnswers := 0, presL := false, presS := false, pwrGood := false,
      lev0 := false, lev1 := false, pulse0 := none, pulse1 := none, deb0 := Debounce.rest, deb1 := Debounce.rest }
    edges := { parcel := none, strobe := none }
    cursor := { Cursor.idle with state := x.cursor.state } }

/-- The slots are alike but for what the invariants do not speak of. -/
def SameBare (s t : State) : Prop := ∀ i, (t.slot i).bare = (s.slot i).bare

/-- What lies between two states is no concern of the slots, their parcels and their conditions. -/
structure Calm (s t : State) : Prop where
  bare : SameBare s t
  parcels : t.pool.parcels = s.pool.parcels ∧ t.pool.nextId = s.pool.nextId
  raised : ∀ i : Slot, t.isRaised causeSlotFault i.val = s.isRaised causeSlotFault i.val ∧
    t.isRaised causeLinkHeld i.val = s.isRaised causeLinkHeld i.val
  grow : RepliesGrow s t
  fit : s.repliesFit → t.repliesFit

theorem Calm.refl (s : State) : Calm s s := ⟨fun _ => rfl, ⟨rfl, rfl⟩, fun _ => ⟨rfl, rfl⟩, .refl s, id⟩

theorem Calm.trans (h : Calm s t) (k : Calm t u) : Calm s u where
  bare i := (k.bare i).trans (h.bare i)
  parcels := ⟨k.parcels.1.trans h.parcels.1, k.parcels.2.trans h.parcels.2⟩
  raised i := ⟨(k.raised i).1.trans (h.raised i).1, (k.raised i).2.trans (h.raised i).2⟩
  grow := h.grow.trans k.grow
  fit := k.fit ∘ h.fit

/-- Reports of other causes. -/
theorem Calm.of_reports (hbare : SameBare s t)
    (hpool : t.pool.parcels = s.pool.parcels ∧ t.pool.nextId = s.pool.nextId) (h : Reports s t) : Calm s t where
  bare := hbare
  parcels := hpool
  raised i := ⟨h.raised _ (by decide) i.val (Nat.lt_trans i.isLt (by decide)),
    h.raised _ (by decide) i.val (Nat.lt_trans i.isLt (by decide))⟩
  grow := h.grow
  fit := h.fit

theorem sameBare_of_slots (h : ∀ j, (t.slot j).cfg = (s.slot j).cfg ∧ (t.slot j).port = (s.slot j).port ∧
    (t.slot j).ing = (s.slot j).ing ∧ (t.slot j).egr = (s.slot j).egr ∧ (t.slot j).ctl = (s.slot j).ctl ∧
    (t.slot j).cursor = (s.slot j).cursor) : SameBare s t := fun j => by
  obtain ⟨hcfg, hport, hing, hegr, hctl, hcursor⟩ := h j
  unfold SlotState.bare
  rw [hcfg, hport, hing, hegr, hctl, hcursor]

/-- The parts that are no slot's. -/
def unitParts : List Part := [.flow, .park, .log, .timing, .nextEdge, .chain, .watches, .alarm, .mgmt, .glob, .edges]

theorem Calm.of_keeps (h : KeepsBut unitParts s t) (hr : Reports s t) : Calm s t :=
  .of_reports (sameBare_of_slots fun j => ⟨h.cfg (by decide) j, h.port (by decide) j, h.ing (by decide) j,
    h.egr (by decide) j, h.ctl (by decide) j, h.cursor (by decide) j⟩) ⟨by rw [h.pool], by rw [h.pool]⟩ hr

theorem sameBare_setSlot {y : SlotState} (h : y.bare = (s.slot i).bare) : SameBare s (s.setSlot i y) := fun j => by
  by_cases hj : j = i
  · rw [hj, slot_setSlot_self, h]
  · rw [slot_setSlot_ne s y hj]

/-- A change of a slot that the invariants do not speak of. -/
theorem Calm.setSlot {y : SlotState} (h : y.bare = (s.slot i).bare) : Calm s (s.setSlot i y) :=
  ⟨sameBare_setSlot h, ⟨rfl, rfl⟩, fun _ => ⟨rfl, rfl⟩, .of_eq rfl, id⟩

theorem calm_ite {p : Prop} [Decidable p] (ht : Calm s t) (hu : Calm s u) : Calm s (if p then t else u) := by
  split
  · exact ht
  · exact hu

theorem calm_foldl {β : Type} {f : State → β → State} (hf : ∀ t b, Calm t (f t b)) (l : List β) (s : State) :
    Calm s (l.foldl f s) := by
  induction l generalizing s with
  | nil => exact .refl s
  | cons b l ih => exact (hf s b).trans (ih (f s b))

theorem calm_eachSlot {f : Slot → State → State} (hf : ∀ i t, Calm t (f i t)) (s : State) : Calm s (s.eachSlot f) :=
  calm_foldl (fun t i => hf i t) allSlots s

theorem hasReply_of_grow (h : RepliesGrow s t) (hr : s.hasReply i) : t.hasReply i := by
  obtain ⟨l, hm⟩ := h
  obtain ⟨hi, hne⟩ := hr
  refine ⟨by rw [hi, mgmtSlot_of_msel (show t.mgmt.msel = s.mgmt.msel by rw [hm])], ?_⟩
  rw [hm]
  exact fun hnil => hne (List.append_eq_nil_iff.mp hnil).1

theorem Egress.heads_mono {e : Egress} {r r' : Prop} (hr : r → r') (h : e.heads r) : e.heads r' := by
  obtain ⟨hhead, hmain, hin⟩ := h
  refine ⟨fun p hp ha => ?_, hmain, hin⟩
  have := hhead p hp ha
  cases ho : p.origin with
  | express => rw [ho] at this; exact this
  | reply => rw [ho] at this; exact hr this
  | cls c => rw [ho] at this; exact this

theorem counted_of_bare {e : List Nat} (h : s.counted e) (hb : SameBare s t)
    (hp : t.pool.parcels = s.pool.parcels ∧ t.pool.nextId = s.pool.nextId) : t.counted e := by
  have hparcel (pid : Nat) : t.parcel pid = s.parcel pid := by
    unfold State.parcel
    rw [hp.1]
  have hholds (j : Slot) (pid : Nat) : (t.slot j).holdsOf pid = (s.slot j).holdsOf pid := by
    show (t.slot j).bare.holdsOf pid = (s.slot j).bare.holdsOf pid
    rw [hb j]
  have hcount (pid : Nat) : t.holdCount pid = s.holdCount pid := by
    rw [holdCount_eq, holdCount_eq]
    exact congrArg List.sum (List.map_congr_left fun j _ => hholds j pid)
  obtain ⟨hsome, hnone, hnew⟩ := h
  refine ⟨fun pid p => ?_, fun pid => ?_, fun pid => ?_⟩
  · rw [hparcel, hcount]
    exact hsome pid p
  · rw [hparcel, hcount]
    exact hnone pid
  · rw [hparcel, hp.2]
    exact hnew pid

/-- What lies between two states is no concern of the slots and their parcels, but for their conditions. -/
structure Quiet (s t : State) : Prop where
  bare : SameBare s t
  parcels : t.pool.parcels = s.pool.parcels ∧ t.pool.nextId = s.pool.nextId
  grow : RepliesGrow s t
  fit : s.repliesFit → t.repliesFit

theorem Midway.quiet {m : Bool} (h : Midway g s) (c : Quiet s t)
    (hfault : ∀ j : Slot, j ∉ g.moving → t.isRaised causeSlotFault j.val = s.isRaised causeSlotFault j.val)
    (hmark : g.reach = .faults → ∀ j, j ∈ g.moving → t.isRaised causeSlotFault j.val = m)
    (hheld : ∀ j : Slot, g.held ≠ some j → t.isRaised causeLinkHeld j.val = s.isRaised causeLinkHeld j.val) :
    Midway { g with marked := m } t := by
  have hlike {Q : SlotState → Prop} (hQ : ∀ x, Q x ↔ Q x.bare) (j : Slot) (hj : Q (s.slot j)) : Q (t.slot j) := by
    rw [hQ, c.bare j, ← hQ]
    exact hj
  have htreats (d : Slot) : (t.slot d).treats = (s.slot d).treats := by
    show (t.slot d).bare.treats = (s.slot d).bare.treats
    rw [c.bare d]
  obtain ⟨l, hm⟩ := c.grow
  refine
    { fits := fun hk j hj => hlike (Q := SlotState.fits) (fun _ => Iff.rfl) j (h.fits hk j hj)
      powered := fun hk j hj => hlike (Q := fun x => x.powered (g.dim ≠ some j)) (fun _ => Iff.rfl) j (h.powered hk j hj)
      waitFits := fun hk j => hlike (Q := SlotState.waitFits) (fun _ => Iff.rfl) j (h.waitFits hk j)
      still := fun hk j hj => hlike (Q := SlotState.still) (fun _ => Iff.rfl) j (h.still hk j hj)
      pends := fun hk j w d hw hd hu => ?_
      heads := fun hk j => ?_
      counted := fun hk => counted_of_bare (h.counted hk) c.bare c.parcels
      rxFits := fun hk j hj => hlike (Q := SlotState.rxFits) (fun _ => Iff.rfl) j (h.rxFits hk j hj)
      faultFits := fun hk j hj => ?_
      marked := hmark
      heldFits := fun hk j hj => ?_
      expressFits := fun hk j => hlike (Q := SlotState.expressFits) (fun _ => Iff.rfl) j (h.expressFits hk j)
      repliesFit := fun hk => c.fit (h.repliesFit hk)
      requestsFit := fun hk => by rw [hm]; exact h.requestsFit hk
      claim := fun hk => by rw [hm]; exact h.claim hk }
  · have hing : (t.slot j).ing.waiting = (s.slot j).ing.waiting := by
      show (t.slot j).bare.ing.waiting = (s.slot j).bare.ing.waiting
      rw [c.bare j]
    rw [htreats]
    exact h.pends hk j w d (hing ▸ hw) hd hu
  · have hegr : (t.slot j).egr = (s.slot j).egr := by
      show (t.slot j).bare.egr = (s.slot j).bare.egr
      rw [c.bare j]
    rw [hegr]
    exact Egress.heads_mono (hasReply_of_grow c.grow) (h.heads hk j)
  · rw [hfault j hj]
    exact hlike (Q := fun x => x.faultFits (s.isRaised causeSlotFault j.val)) (fun _ => Iff.rfl) j (h.faultFits hk j hj)
  · rw [hheld j hj]
    exact hlike (Q := fun x => x.heldFits (s.isRaised causeLinkHeld j.val)) (fun _ => Iff.rfl) j (h.heldFits hk j hj)

theorem Midway.calm (h : Midway g s) (c : Calm s t) : Midway g t :=
  h.quiet (m := g.marked) ⟨c.bare, c.parcels, c.grow, c.fit⟩ (fun j _ => (c.raised j).1)
    (fun hk j hj => (c.raised j).1.trans (h.marked hk j hj)) fun j _ => (c.raised j).2

end Calm

end Sys2Proof.Machine
end

section
/-! PROOFS. Inside an event: reports, the pool and the class queues (R38 to R46, R134). -/

namespace Sys2Proof.Machine

/-! ## Reports -/

section Report

variable {g : Scope} {s t : State} {c : Fin 64} {n : Nat} {i : Slot}

theorem Calm.of_touches (h : Touches [.alarm, .mgmt] i s t) (hraised : ∀ i : Slot,
    t.isRaised causeSlotFault i.val = s.isRaised causeSlotFault i.val ∧
      t.isRaised causeLinkHeld i.val = s.isRaised causeLinkHeld i.val)
    (hfit : s.repliesFit → t.repliesFit) : Calm s t where
  bare := sameBare_of_slots fun j => ⟨h.cfg (by decide) j, h.port (by decide) j, h.ing (by decide) j,
    h.egr (by decide) j, h.ctl (by decide) j, h.cursor (by decide) j⟩
  parcels := ⟨by rw [h.pool], by rw [h.pool]⟩
  raised := hraised
  grow := h.grow
  fit := hfit

theorem postEvent_calm (c : Fin 64) (n : Nat) (w : Word) (s : State) : Calm s (postEvent c n w s) :=
  .of_keeps (postEvent_touches 0 s c n w).keeps.mono (postEvent_reports (.refl s))

theorem postEntry_calm (c : Fin 64) (n : Nat) (a : AlarmAction) (k : Nat) (w : Word) (s : State) :
    Calm s (postEntry c n a k w s) :=
  .of_keeps (postEntry_touches 0 n c a k w s).keeps.mono (postEntry_reports (.refl s))

/-- Pairs of different causes have different keys. -/
theorem pairKey_ne {d : Fin 64} (hd : c ≠ d) (hn : n < 64) (i : Slot) : pairKey d i.val ≠ pairKey c n :=
  fun h => hd ((pairKey_inj (Nat.lt_trans i.isLt (by decide)) hn).mp h).1.symm

theorem raiseCond_calm (hc : c ≠ causeSlotFault ∧ c ≠ causeLinkHeld) (hn : n < 64) (w : Word) (s : State) :
    Calm s (raiseCond c n w s) := by
  refine .of_touches (raiseCond_touches 0 s c n w) (fun i => ?_) raiseCond_index_fit.2
  rw [isRaised_raiseCond, isRaised_raiseCond, decide_eq_false (pairKey_ne hc.1 hn i),
    decide_eq_false (pairKey_ne hc.2 hn i)]
  exact ⟨rfl, rfl⟩

theorem clearCond_calm (hc : c ≠ causeSlotFault ∧ c ≠ causeLinkHeld) (hn : n < 64) (w : Word) (s : State) :
    Calm s (clearCond c n w s) := by
  refine .of_touches (clearCond_touches 0 s c n w) (fun i => ?_) clearCond_index_fit.2
  rw [isRaised_clearCond, isRaised_clearCond, decide_eq_true (pairKey_ne hc.1 hn i),
    decide_eq_true (pairKey_ne hc.2 hn i)]
  exact ⟨rfl, rfl⟩

/-- A report of any cause. -/
theorem Quiet.of_touches (h : Touches [.alarm, .mgmt] i s t) (hfit : s.repliesFit → t.repliesFit) : Quiet s t where
  bare := sameBare_of_slots fun j => ⟨h.cfg (by decide) j, h.port (by decide) j, h.ing (by decide) j,
    h.egr (by decide) j, h.ctl (by decide) j, h.cursor (by decide) j⟩
  parcels := ⟨by rw [h.pool], by rw [h.pool]⟩
  grow := h.grow
  fit := hfit

theorem slot_lt_64 (i : Slot) : i.val < 64 := Nat.lt_trans i.isLt (by decide)

/-- SLOT-FAULT of the slot between two states is raised. -/
theorem Midway.raiseFault {b : Bool} (h : Midway { g with moving := [i], marked := b } s) (w : Word) :
    Midway { g with moving := [i], marked := true } (raiseCond causeSlotFault i.val w s) := by
  refine h.quiet (m := true) (.of_touches (raiseCond_touches 0 s ..) raiseCond_index_fit.2) (fun j hj => ?_)
    (fun _ j hj => ?_) fun j _ => ?_
  · exact isRaised_raiseCond_ne (slot_lt_64 i) (slot_lt_64 j) (.inr fun he => hj (Fin.ext he ▸ List.mem_cons_self))
  · rw [List.mem_singleton.mp hj]
    exact isRaised_raised ..
  · exact isRaised_raiseCond_ne (slot_lt_64 i) (slot_lt_64 j) (.inl (by decide))

/-- SLOT-FAULT of the slot between two states is cleared. -/
theorem Midway.clearFault {b : Bool} (h : Midway { g with moving := [i], marked := b } s) (w : Word) :
    Midway { g with moving := [i], marked := false } (clearCond causeSlotFault i.val w s) := by
  refine h.quiet (m := false) (.of_touches (clearCond_touches 0 s ..) clearCond_index_fit.2) (fun j hj => ?_)
    (fun _ j hj => ?_) fun j _ => ?_
  · exact isRaised_clearCond_ne (slot_lt_64 i) (slot_lt_64 j) (.inr fun he => hj (Fin.ext he ▸ List.mem_cons_self))
  · rw [List.mem_singleton.mp hj]
    exact isRaised_cleared ..
  · exact isRaised_clearCond_ne (slot_lt_64 i) (slot_lt_64 j) (.inl (by decide))

/-- A port's card hold-off stands again. -/
theorem Midway.tighten (h : Midway { g with held := some i } s)
    (hfit : g.reach = .faults → (s.slot i).heldFits (s.isRaised causeLinkHeld i.val)) : Midway g s :=
  { h with
    heldFits := fun hk j _ => by
      by_cases hji : j = i
      · exact hji ▸ hfit hk
      · exact h.heldFits hk j fun he => hji (Option.some.inj he).symm }

/-- LINK-HELD is cleared, with the hold-off timer stopped. -/
theorem Midway.clearHeld (h : Midway { g with held := some i } s) (ht : (s.slot i).port.holdTimer = none) (w : Word) :
    Midway g (clearCond causeLinkHeld i.val w s) := by
  have htouch := clearCond_touches i s causeLinkHeld i.val w
  have hclear : Midway { g with held := some i } (clearCond causeLinkHeld i.val w s) := by
    have hfault (j : Slot) : (clearCond causeLinkHeld i.val w s).isRaised causeSlotFault j.val =
        s.isRaised causeSlotFault j.val :=
      isRaised_clearCond_ne (slot_lt_64 i) (slot_lt_64 j) (.inl (by decide))
    refine h.quiet (m := g.marked) (.of_touches htouch clearCond_index_fit.2) (fun j _ => hfault j)
      (fun hk j hj => (hfault j).trans (h.marked hk j hj)) fun j hj => ?_
    · exact isRaised_clearCond_ne (slot_lt_64 i) (slot_lt_64 j) (.inr fun he => hj (congrArg some (Fin.ext he).symm))
  refine hclear.tighten fun _ => ⟨fun hs => ?_, fun hr => ?_⟩
  · rw [htouch.port, ht] at hs
    exact absurd hs Bool.false_ne_true
  · rw [isRaised_cleared] at hr
    exact absurd hr Bool.false_ne_true

/-- LINK-HELD is raised under a card hold-off whose timer has stopped. -/
theorem Midway.raiseHeld (h : Midway { g with held := some i } s) (ht : (s.slot i).port.holdTimer = none)
    (hc : g.reach = .faults → (s.slot i).port.cardHold = true) (w : Word) :
    Midway g (raiseCond causeLinkHeld i.val w s) := by
  have htouch := raiseCond_touches i s causeLinkHeld i.val w
  have hraise : Midway { g with held := some i } (raiseCond causeLinkHeld i.val w s) := by
    have hfault (j : Slot) : (raiseCond causeLinkHeld i.val w s).isRaised causeSlotFault j.val =
        s.isRaised causeSlotFault j.val :=
      isRaised_raiseCond_ne (slot_lt_64 i) (slot_lt_64 j) (.inl (by decide))
    refine h.quiet (m := g.marked) (.of_touches htouch raiseCond_index_fit.2) (fun j _ => hfault j)
      (fun hk j hj => (hfault j).trans (h.marked hk j hj)) fun j hj => ?_
    · exact isRaised_raiseCond_ne (slot_lt_64 i) (slot_lt_64 j) (.inr fun he => hj (congrArg some (Fin.ext he).symm))
  refine hraise.tighten fun hk => ⟨fun _ => ?_, fun _ => ?_⟩
  · rw [htouch.port]
    exact hc hk
  · rw [htouch.port]
    exact ⟨hc hk, ht⟩

theorem poolJudge_calm (s : State) : Calm s (poolJudge s) := by
  unfold poolJudge
  exact calm_ite (calm_ite (clearCond_calm (by decide) (by decide) ..) (.refl s))
    (calm_ite (raiseCond_calm (by decide) (by decide) ..) (.refl s))

theorem handOver_calm (hd : Option LogHandle) (x : HandOver) (s : State) : Calm s (handOver hd x s) :=
  .of_keeps (handOver_touches 0 s hd x).keeps.mono (handOver_reports (.refl s))

end Report

/-! ## Stored parcels (R38, R39) -/

section Pool

variable {g : Scope} {s : State} {pid : Nat} {p : Stored} {e x : List Nat} {i : Slot}

/-- A change of the pool concerns the holds alone. -/
theorem Midway.modPool (h : Midway g s) {f : Pool → Pool} (hc : g.reach = .counts → (s.modPool f).counted e) :
    Midway { g with extra := e } (s.modPool f) where
  fits := h.fits
  powered := h.powered
  waitFits := h.waitFits
  still := h.still
  pends := h.pends
  heads := h.heads
  counted := hc
  rxFits := h.rxFits
  faultFits := h.faultFits
  marked := h.marked
  heldFits := h.heldFits
  expressFits := h.expressFits
  repliesFit := h.repliesFit
  requestsFit := h.requestsFit
  claim := h.claim

theorem modStored_none {f : Stored → Stored} (hp : s.parcel pid = none) : modStored pid f s = s := by
  unfold modStored
  rw [hp]

theorem count_cons_ne {v : Nat} (h : v ≠ pid) (l : List Nat) : (pid :: l).count v = l.count v :=
  List.count_cons_of_ne (Ne.symm h)

/-- The counts after a change of one stored parcel's count. -/
theorem counted_put (h : s.counted x) (hp : s.parcel pid = some p) {q : Stored}
    (hq : q.refs + x.count pid = p.refs + e.count pid ∧ 0 < q.refs) (hsame : ∀ v, v ≠ pid → e.count v = x.count v) :
    (s.modPool (fun r => { r with parcels := assocPut r.parcels pid q })).counted e := by
  obtain ⟨hsome, hnone, hnew⟩ := h
  have hparcel (v : Nat) : (s.modPool (fun r => { r with parcels := assocPut r.parcels pid q })).parcel v =
      if v = pid then some q else s.parcel v := assocGet_put ..
  refine ⟨fun v y hy => ?_, fun v hv => ?_, fun v hv => ?_⟩
  · rw [hparcel] at hy
    split at hy
    next hvp =>
      obtain ⟨hrefs, -⟩ := hsome pid p hp
      obtain ⟨hq, hpos⟩ := hq
      obtain rfl := Option.some.inj hy
      subst hvp
      refine ⟨?_, hpos⟩
      show q.refs = s.holdCount v + e.count v
      omega
    next hvp =>
      rw [hsame v hvp]
      exact hsome v y hy
  · rw [hparcel] at hv
    split at hv
    next => exact absurd hv (Option.some_ne_none _)
    next hvp =>
      rw [hsame v hvp]
      exact hnone v hv
  · rw [hparcel]
    split
    next hvp => exact absurd (hnew pid (hvp ▸ hv)) (by rw [hp]; exact Option.some_ne_none _)
    next => exact hnew v hv

/-- A stored parcel is changed in what no hold counts. -/
theorem Midway.modStored (h : Midway g s) {f : Stored → Stored} (hf : ∀ p, (f p).refs = p.refs) (pid : Nat) :
    Midway g (modStored pid f s) := by
  cases hp : s.parcel pid with
  | none =>
    rw [modStored_none hp]
    exact h
  | some p =>
    rw [modStored_some hp]
    refine h.modPool (e := g.extra) fun hk => counted_put (h.counted hk) hp ⟨by rw [hf], ?_⟩ fun _ _ => rfl
    rw [hf]
    exact ((h.counted hk).1 pid p hp).2

/-- A parcel that is held is stored. -/
theorem counted_stored (h : s.counted x) (hp : s.parcel pid = none) : ¬0 < s.holdCount pid + x.count pid := fun hheld =>
  absurd (h.2.1 pid hp) (Nat.ne_of_gt hheld)

/-- The counts after a parcel that nothing else holds was deleted. -/
theorem counted_del (h : s.counted (pid :: x)) (hp : s.parcel pid = some p) (hrefs : p.refs ≤ 1) {f : Pool → Pool}
    (hf : ∀ q, (f q).parcels = assocDel q.parcels pid ∧ (f q).nextId = q.nextId) : (s.modPool f).counted x := by
  obtain ⟨hsome, hnone, hnew⟩ := h
  obtain ⟨hcount, hpos⟩ := hsome pid p hp
  rw [List.count_cons_self] at hcount
  have hparcel (v : Nat) : (s.modPool f).parcel v = if v = pid then none else s.parcel v := by
    show assocGet (f s.pool).parcels v = _
    rw [(hf s.pool).1]
    exact assocGet_del ..
  refine ⟨fun v y hy => ?_, fun v hv => ?_, fun v hv => ?_⟩
  · rw [hparcel] at hy
    split at hy
    next => exact absurd hy.symm (Option.some_ne_none _)
    next hvp => exact count_cons_ne hvp x ▸ hsome v y hy
  · rw [hparcel] at hv
    split at hv
    next hvp =>
      rw [hvp]
      show s.holdCount pid + x.count pid = 0
      omega
    next hvp => exact count_cons_ne hvp x ▸ hnone v hv
  · rw [hparcel]
    split
    next => rfl
    next => exact hnew v ((hf s.pool).2 ▸ hv)

/-- A hold of the event itself is released. -/
theorem Midway.release (h : Midway { g with extra := pid :: g.extra } s) : Midway g (releaseHold pid s) := by
  unfold releaseHold
  cases hp : s.parcel pid with
  | none =>
    exact { h with
      counted := fun hk => absurd (Nat.lt_of_lt_of_le (List.count_pos_iff.mpr List.mem_cons_self) (Nat.le_add_left ..))
        (counted_stored (h.counted hk) hp) }
  | some p =>
    dsimp only
    split
    next hrefs =>
      exact (h.modPool (f := fun q => { q with
        freeCount := q.freeCount + p.nBlocks, free := p.blocks.foldl (fun f b => insertNum b f) q.free,
        parcels := assocDel q.parcels pid })
        (e := g.extra) fun hk => counted_del (h.counted hk) hp hrefs fun _ => ⟨rfl, rfl⟩).calm (poolJudge_calm _)
    next hrefs =>
      rw [modStored_some hp]
      refine h.modPool (e := g.extra) fun hk => counted_put (h.counted hk) hp ⟨?_, ?_⟩ fun v hv => ?_
      · rw [List.count_cons_self]
        show p.refs - 1 + _ = _
        omega
      · show 0 < p.refs - 1
        omega
      · exact (count_cons_ne hv _).symm

/-- The event takes a hold on a parcel that is held. -/
theorem Midway.hold (h : Midway g s) (hheld : g.reach = .counts → 0 < s.holdCount pid + g.extra.count pid) :
    Midway { g with extra := pid :: g.extra } (Machine.modStored pid (fun p => { p with refs := p.refs + 1 }) s) := by
  cases hp : s.parcel pid with
  | none =>
    rw [modStored_none hp]
    exact { h with counted := fun hk => absurd (hheld hk) (counted_stored (h.counted hk) hp) }
  | some p =>
    rw [modStored_some hp]
    refine h.modPool fun hk => counted_put (h.counted hk) hp ⟨?_, Nat.succ_pos _⟩ fun v hv => count_cons_ne hv _
    rw [List.count_cons_self]
    show p.refs + 1 + _ = _
    omega

/-- The counts after a new parcel was stored. -/
theorem counted_new (h : s.counted x) {q : Stored} (hq : q.refs = 1) {f : Pool → Pool}
    (hf : (f s.pool).parcels = assocPut s.pool.parcels s.pool.nextId q ∧ (f s.pool).nextId = s.pool.nextId + 1) :
    (s.modPool f).counted (s.pool.nextId :: x) := by
  obtain ⟨hsome, hnone, hnew⟩ := h
  have hfresh := hnone _ (hnew _ (Nat.le_refl _))
  have hparcel (v : Nat) : (s.modPool f).parcel v = if v = s.pool.nextId then some q else s.parcel v := by
    show assocGet (f s.pool).parcels v = _
    rw [hf.1]
    exact assocGet_put ..
  refine ⟨fun v y hy => ?_, fun v hv => ?_, fun v hv => ?_⟩
  · rw [hparcel] at hy
    split at hy
    next hvp =>
      obtain rfl := Option.some.inj hy
      rw [hq, hvp, List.count_cons_self]
      refine ⟨?_, Nat.one_pos⟩
      show 1 = s.holdCount s.pool.nextId + _
      omega
    next hvp => exact (count_cons_ne hvp x).symm ▸ hsome v y hy
  · rw [hparcel] at hv
    split at hv
    next => exact absurd hv (Option.some_ne_none _)
    next hvp => exact (count_cons_ne hvp x).symm ▸ hnone v hv
  · have hv : s.pool.nextId + 1 ≤ v := hf.2 ▸ hv
    rw [hparcel]
    split
    next hvp => omega
    next => exact hnew v (by omega)

/-- The pool with a new parcel stored. -/
def storeNew (p : Stored) (q : Pool) : Pool :=
  { freeCount := q.freeCount - p.nBlocks, free := (pickBlocks q.allocs p.nBlocks q.free).2,
    parcels := assocPut q.parcels q.nextId { p with blocks := (pickBlocks q.allocs p.nBlocks q.free).1 },
    nextId := q.nextId + 1, allocs := q.allocs + 1 }

theorem allocStored_eq (p : Stored) (s : State) : allocStored p s = poolJudge (s.modPool (storeNew p)) := rfl

/-- A new parcel is stored, held by the event itself. -/
theorem Midway.store (h : Midway g s) {p : Stored} (hp : p.refs = 1) :
    Midway { g with extra := s.pool.nextId :: g.extra } (s.modPool (storeNew p)) :=
  h.modPool fun hk => counted_new (h.counted hk)
    (q := { p with blocks := (pickBlocks s.pool.allocs p.nBlocks s.pool.free).1 }) hp ⟨rfl, rfl⟩

theorem Midway.alloc (h : Midway g s) {p : Stored} (hp : p.refs = 1) :
    Midway { g with extra := s.pool.nextId :: g.extra } (allocStored p s) := by
  rw [allocStored_eq]
  exact (h.store hp).calm (poolJudge_calm _)

end Pool

/-! ## Class queues (R40, R44, R49) -/

section Queues

variable {g : Scope} {s : State} {pid : Nat} {x : List Nat} {i : Slot} {c : Cls} {e e' : Egress} {r r' : Prop}

theorem Egress.heads_idle (h : e.tx = .idle) : e.heads r := by
  unfold Egress.heads
  rw [h]
  exact ⟨fun p hp => absurd hp List.not_mem_nil, fun p hp => Option.noConfusion rfl (heq_of_eq hp),
    fun p x hp => Tx.noConfusion hp⟩

/-- The transmit side is as it was, and the queues hold at their heads what they held. -/
theorem Egress.heads_of (h : e.heads r) (htx : e'.tx = e.tx) (hat : ∀ p, p ∈ e.tx.parcels → e.atHead r p → e'.atHead r' p) :
    e'.heads r' := by
  obtain ⟨hhead, hmain, hin⟩ := h
  unfold Egress.heads
  rw [htx]
  exact ⟨fun p hp => hat p hp (hhead p hp), hmain, hin⟩

theorem Egress.heads_occasion (h : e.heads r) : e.occasion.heads r := by
  by_cases hfree : e.tx.free = true
  · exact Egress.heads_idle (if_pos hfree)
  · have : e.occasion = e := by
      unfold Egress.occasion
      rw [if_neg hfree]
    rw [this]
    exact h

theorem Egress.occasion_tx (h : e.occasion.tx ≠ .idle) : e.tx ≠ .idle := by
  intro hidle
  refine h ?_
  unfold Egress.occasion
  rw [hidle]
  rfl

theorem Egress.setQueue_tx (e : Egress) (c : Cls) (q : List Nat) : (e.setQueue c q).tx = e.tx ∧
    (e.setQueue c q).express = e.express := by
  cases c <;> exact ⟨rfl, rfl⟩

theorem Egress.queue_setQueue (e : Egress) (c d : Cls) (q : List Nat) :
    (e.setQueue c q).queue d = if d = c then q else e.queue d := by
  cases c <;> cases d <;> rfl

/-- The queues of a slot count a parcel as often as they hold it. -/
theorem holdsOf_setQueue (e : Egress) (c : Cls) (q : List Nat) (v : Nat) :
    (e.setQueue c q).holdsOf v + (e.queue c).count v = e.holdsOf v + q.count v := by
  cases c <;> simp only [Egress.holdsOf, Egress.setQueue, Egress.queue] <;> omega

theorem Egress.heads_push (h : e.heads r) (c : Cls) (pid : Nat) : (e.setQueue c (e.queue c ++ [pid])).heads r := by
  refine Egress.heads_of h (e.setQueue_tx ..).1 fun p _ hp ha => ?_
  have := hp ha
  cases ho : p.origin with
  | express =>
    rw [ho] at this
    rw [(e.setQueue_tx ..).2]
    exact this
  | reply =>
    rw [ho] at this
    exact this
  | cls d =>
    rw [ho] at this
    show ((e.setQueue c (e.queue c ++ [pid])).queue d).head? = some p.pid
    rw [Egress.queue_setQueue]
    split
    next hd =>
      have this : (e.queue d).head? = some p.pid := this
      rw [← hd, List.head?_append, this]
      rfl
    next => exact this

/-- A wake source is taken (R134). -/
theorem Midway.applyWake (h : Midway g s) (i : Slot) : Midway g (applyWake i s) := by
  unfold Machine.applyWake
  split
  next hrest =>
    obtain ⟨hphase, hsub⟩ := hrest
    split
    next hreq =>
      refine h.alter (e := g.extra) { fits := fun _ _ hx => ?_ }
      obtain ⟨hlink, -, -, hr, hchain⟩ := hx
      exact ⟨hlink, nofun, fun _ _ => (hr hreq).2, nofun, hchain⟩
    next hreq =>
      have hport : Midway g (s.modPort i (fun p => { p with wakeAsked := true })) :=
        h.alter (e := g.extra) (y := { s.slot i with port := { (s.slot i).port with wakeAsked := true } }) {}
      have hslot : (s.modPort i (fun p => { p with wakeAsked := true })).slot i =
          { s.slot i with port := { (s.slot i).port with wakeAsked := true } } := slot_setSlot_self ..
      refine hport.alter (e := g.extra) ?_
      unfold AltersIn
      rw [hslot]
      exact
        { fits := fun _ _ hx => by
            obtain ⟨hlink, -, -, hr, hchain⟩ := hx
            exact ⟨hlink, fun _ => hphase, fun _ => nofun, fun h => absurd h hreq, hchain⟩
          powered := fun _ _ hx => by
            obtain ⟨hin, hout, hinputs, hreset, -⟩ := hx
            exact ⟨hin, hout, hinputs, hreset, fun t ht => (Option.some.inj ht) ▸ hphase.symm⟩ }
  next => exact h

theorem Midway.wakeReport (h : Midway g s) (i : Slot) : Midway g (wakeReport i s) := by
  unfold Machine.wakeReport
  split
  · exact h.applyWake i
  · exact h

/-- A parcel that the event holds joins a queue, which takes the hold. -/
theorem Midway.join (h : Midway { g with extra := pid :: g.extra } s) (c : Cls)
    (hin : g.reach.queues → i ∉ g.moving → (s.slot i).ctl.phase.isOut = false) :
    Midway g (s.modEgr i (fun e => (e.setQueue c (e.queue c ++ [pid])).occasion)) := by
  refine h.alter (e := g.extra)
    { still := fun hk hi hx => ⟨fun hout => absurd hout (by rw [hin hk hi]; exact Bool.false_ne_true), fun htx => ?_⟩
      heads := fun _ hx => Egress.heads_occasion (Egress.heads_push hx c pid)
      counted := fun _ v => ?_
      expressFits := fun _ hx => ?_ }
  · exact hx.2 ((Egress.setQueue_tx ..).1 ▸ Egress.occasion_tx htx)
  · have hq := holdsOf_setQueue (s.slot i).egr c ((s.slot i).egr.queue c ++ [pid]) v
    rw [List.count_append] at hq
    show ((s.slot i).egr.setQueue c ((s.slot i).egr.queue c ++ [pid])).holdsOf v + (s.slot i).ing.holds v + _ = _
    have hone : (pid :: g.extra).count v = g.extra.count v + [pid].count v := by
      rw [List.count_cons, List.count_singleton]
    show _ = (s.slot i).egr.holdsOf v + (s.slot i).ing.holds v + (pid :: g.extra).count v
    omega
  · show (Egress.setQueue _ c _).express.length ≤ _
    rw [(Egress.setQueue_tx ..).2]
    exact hx

theorem modStored_modEgr (f : Stored → Stored) (k : Egress → Egress) (i : Slot) (pid : Nat) (s : State) :
    modStored pid f (s.modEgr i k) = (modStored pid f s).modEgr i k := by
  have hparcel : (s.modEgr i k).parcel pid = s.parcel pid := rfl
  cases hp : s.parcel pid with
  | none => rw [modStored_none hp, modStored_none (hparcel.trans hp)]
  | some p =>
    rw [modStored_some hp, modStored_some (hparcel.trans hp)]
    rfl

/-- A parcel that is held joins a queue. -/
theorem Midway.enqueue (h : Midway g s) (c : Cls)
    (hin : g.reach.queues → i ∉ g.moving → (s.slot i).ctl.phase.isOut = false)
    (hheld : g.reach = .counts → 0 < s.holdCount pid + g.extra.count pid) : Midway g (enqueueRef i c pid s) := by
  have hslot : (Machine.modStored pid (fun p => { p with refs := p.refs + 1 }) s).slot i = s.slot i := by
    cases hp : s.parcel pid with
    | none => rw [modStored_none hp]
    | some p =>
      rw [modStored_some hp]
      rfl
  rw [enqueueRef_eq, joinQueue, modStored_modEgr]
  exact ((h.hold hheld).join c (by rw [hslot]; exact hin)).wakeReport i

theorem head?_erase_ne {l : List Nat} {v : Nat} (h : l.head? = some v) (hv : v ≠ pid) : (l.erase pid).head? = some v := by
  cases l with
  | nil => exact h
  | cons a l =>
    have ha : a = v := Option.some.inj h
    rw [List.erase_cons_tail (by simpa [ha] using hv), ha]
    rfl

theorem Tx.forget_cases (tx : Tx) (c : Cls) (pid : Nat) : tx.forget c pid = .idle ∨ tx.forget c pid = tx := by
  unfold Tx.forget
  split
  · split
    · exact .inl rfl
    · exact .inr rfl
  · exact .inr rfl

/-- A queue loses a parcel that nothing on the transmit side needs at its head. -/
theorem Egress.heads_without (h : e.heads r) (hneed : ∀ p, p ∈ (e.tx.forget c pid).parcels → p.attached = true →
    p.origin = .cls c → p.pid ≠ pid) : (e.without c pid).heads r := by
  rcases e.tx.forget_cases c pid with hidle | hsame
  · exact Egress.heads_idle hidle
  · rw [hsame] at hneed
    refine Egress.heads_of h hsame fun p hp hat ha => ?_
    have := hat ha
    cases ho : p.origin with
    | express =>
      rw [ho] at this
      show (e.setQueue c _).express ≠ []
      rw [(e.setQueue_tx ..).2]
      exact this
    | reply =>
      rw [ho] at this
      exact this
    | cls d =>
      rw [ho] at this
      show ((e.setQueue c ((e.queue c).erase pid)).queue d).head? = some p.pid
      rw [Egress.queue_setQueue]
      split
      next hd => exact head?_erase_ne (hd ▸ this) (hneed p hp ha (hd ▸ ho))
      next => exact this

/-- A parcel leaves a queue that holds it, and the queue's hold is released. -/
theorem Midway.removeRef (h : Midway g s) (hmem : g.reach = .counts → pid ∈ (s.slot i).egr.queue c)
    (hneed : g.reach.heads → ∀ p, p ∈ ((s.slot i).egr.tx.forget c pid).parcels → p.attached = true →
      p.origin = .cls c → p.pid ≠ pid) : Midway g (removeRef i c pid s) := by
  refine Midway.release (h.alter (e := pid :: g.extra)
    { still := fun hk hi hx => ⟨fun hout => ?_, fun htx => hx.2 fun hidle => htx ?_⟩
      heads := fun hk hx => Egress.heads_without hx (hneed hk)
      counted := fun hk v => ?_
      expressFits := fun _ hx => ?_ })
  · obtain ⟨h1, h2, h3, h4⟩ := hx.1 hout
    show _ ∧ _ ∧ _ ∧ _
    cases c <;> simp [Egress.without, Egress.setQueue, Egress.queue, h1, h2, h3, h4]
  · show (s.slot i).egr.tx.forget c pid = .idle
    rw [hidle]
    rfl
  · have hq := holdsOf_setQueue (s.slot i).egr c (((s.slot i).egr.queue c).erase pid) v
    have hone := List.count_erase (a := v) (b := pid) (l := (s.slot i).egr.queue c)
    have hcons := List.count_cons (a := v) (b := pid) (l := g.extra)
    have hpos : pid = v → 0 < ((s.slot i).egr.queue c).count v := fun hv => hv ▸ List.count_pos_iff.mpr (hmem hk)
    show ((s.slot i).egr.setQueue c (((s.slot i).egr.queue c).erase pid)).holdsOf v + (s.slot i).ing.holds v + _ =
      (s.slot i).egr.holdsOf v + (s.slot i).ing.holds v + _
    by_cases hv : pid = v
    · have hbeq : (pid == v) = true := beq_iff_eq.mpr hv
      simp only [hbeq, if_true] at hone hcons
      have := hpos hv
      omega
    · have hbeq : (pid == v) = false := beq_eq_false_iff_ne.mpr hv
      simp only [hbeq, Bool.false_eq_true, if_false] at hone hcons
      omega
  · show (Egress.setQueue _ c _).express.length ≤ _
    rw [(Egress.setQueue_tx ..).2]
    exact hx

end Queues

end Sys2Proof.Machine
end

section
/-! PROOFS. Inside an event: offers and head-drops (R27, R28, R30, R42). -/

namespace Sys2Proof.Machine

/-! ## What the offers of a parcel leave alone -/

section Steady

variable {g : Scope} {s t u : State} {i j : Slot} {pid : Nat} {ps : List Part}

/-- Slot states, link states, receive states and the fates of receptions are the same. -/
structure Even (s t : State) : Prop where
  phase : ∀ j, (t.slot j).ctl.phase = (s.slot j).ctl.phase
  link : ∀ j, (t.slot j).port.link = (s.slot j).port.link
  rx : ∀ j, (t.slot j).port.rx = (s.slot j).port.rx
  fate : ∀ j, (t.slot j).ing.reception.map (·.fate) = (s.slot j).ing.reception.map (·.fate)

theorem Even.refl (s : State) : Even s s := ⟨fun _ => rfl, fun _ => rfl, fun _ => rfl, fun _ => rfl⟩

theorem Even.trans (h : Even s t) (k : Even t u) : Even s u where
  phase j := (k.phase j).trans (h.phase j)
  link j := (k.link j).trans (h.link j)
  rx j := (k.rx j).trans (h.rx j)
  fate j := (k.fate j).trans (h.fate j)

theorem Even.of_keeps (h : KeepsBut ps s t) (hctl : .ctl ∉ ps := by decide) (hport : .port ∉ ps := by decide)
    (hing : .ing ∉ ps := by decide) : Even s t where
  phase j := by rw [h.ctl hctl j]
  link j := by rw [h.port hport j]
  rx j := by rw [h.port hport j]
  fate j := by rw [h.ing hing j]

/-- Treatments and waiting places are the same too. -/
structure Steady (s t : State) : Prop extends Even s t where
  cfg : ∀ j, (t.slot j).cfg = (s.slot j).cfg
  waiting : ∀ j, (t.slot j).ing.waiting = (s.slot j).ing.waiting

theorem Steady.refl (s : State) : Steady s s := ⟨.refl s, fun _ => rfl, fun _ => rfl⟩

theorem Steady.trans (h : Steady s t) (k : Steady t u) : Steady s u :=
  ⟨h.toEven.trans k.toEven, fun j => (k.cfg j).trans (h.cfg j), fun j => (k.waiting j).trans (h.waiting j)⟩

theorem Steady.of_touches (h : Touches ps i s t) (hctl : .ctl ∉ ps := by decide) (hport : .port ∉ ps := by decide)
    (hing : .ing ∉ ps := by decide) (hcfg : .cfg ∉ ps := by decide) : Steady s t :=
  ⟨.of_keeps h.keeps hctl hport hing, fun j => h.cfg hcfg j, fun j => by rw [h.ing hing j]⟩

theorem Steady.treats (h : Steady s t) (j : Slot) : (t.slot j).treats = (s.slot j).treats := by
  unfold SlotState.treats
  rw [h.phase, h.cfg]

theorem wakeReport_steady (i : Slot) (s : State) : Steady s (wakeReport i s) := by
  have h := wakeReport_touches s i
  have hport (j : Slot) : ((wakeReport i s).slot j).port.link = (s.slot j).port.link ∧
      ((wakeReport i s).slot j).port.rx = (s.slot j).port.rx := by
    unfold wakeReport
    split
    · by_cases hj : j = i
      · rw [hj, applyWake_port]
        exact ⟨rfl, rfl⟩
      · rw [(applyWake_touches s i).others j hj]
        exact ⟨rfl, rfl⟩
    · exact ⟨rfl, rfl⟩
  exact ⟨⟨(wakeReport_fills i s).phase, fun j => (hport j).1, fun j => (hport j).2, fun j => by rw [h.ing]⟩,
    fun j => h.cfg (by decide) j, fun j => by rw [h.ing]⟩

theorem enqueueRef_steady (i : Slot) (c : Cls) (pid : Nat) (s : State) : Steady s (enqueueRef i c pid s) := by
  unfold enqueueRef
  exact (Steady.of_touches ((modEgr_touches i s _).then (modStored_touches i _ pid _) (rs := [.egr, .pool]))).trans
    (wakeReport_steady ..)

theorem isOut_of_queued {x : SlotState} (h : x.treats = .queued) : x.ctl.phase.isOut = false := by
  unfold SlotState.treats at h
  cases hp : x.ctl.phase with
  | powering | training | admitted | draining => rfl
  | empty | seated | quiesced | faulted =>
    rw [hp] at h
    exact Treatment.noConfusion h

/-- The event or a reception holds a parcel. -/
def State.anchors (s : State) (extra : List Nat) (pid : Nat) : Prop :=
  pid ∈ extra ∨ ∃ j, (s.slot j).ing.reception.map (·.fate) = some (.passed pid)

theorem Steady.anchors {x : List Nat} (h : Steady s t) (ha : s.anchors x pid) : t.anchors x pid := by
  rcases ha with ha | ⟨j, hj⟩
  · exact .inl ha
  · exact .inr ⟨j, (h.fate j).trans hj⟩

theorem holdsOf_le_holdCount (s : State) (j : Slot) (pid : Nat) : (s.slot j).holdsOf pid ≤ s.holdCount pid := by
  rw [holdCount_eq]
  exact List.single_le_sum (fun _ _ => Nat.zero_le _) _ (List.mem_map_of_mem (mem_allSlots_all j))

theorem held_of_anchors {x : List Nat} (h : s.anchors x pid) : 0 < s.holdCount pid + x.count pid := by
  rcases h with h | ⟨j, hj⟩
  · have := List.count_pos_iff.mpr h
    omega
  · have hle := holdsOf_le_holdCount s j pid
    have hone : 1 ≤ (s.slot j).ing.holds pid := by
      unfold Ingress.holds
      rw [if_pos hj]
      exact Nat.le_add_right ..
    have : (s.slot j).holdsOf pid = (s.slot j).egr.holdsOf pid + (s.slot j).ing.holds pid := rfl
    omega

end Steady

/-! ## Head-drops (R42) -/

section Drops

variable {g : Scope} {s : State} {i owner : Slot} {pid v b : Nat} {c : Cls} {e : Egress} {r : Prop} {l : List Nat}

/-- A parcel that is not started is not needed at the head of its queue once it has left it. -/
theorem Egress.need_of_notStarted (h : e.heads r) (hstart : e.tx.started pid = false) :
    ∀ p, p ∈ (e.tx.forget c pid).parcels → p.attached = true → p.origin = .cls c → p.pid ≠ pid := by
  intro p hp ha ho hpid
  obtain ⟨-, hmain, hin⟩ := h
  have hsent (hm : e.tx.main = some p) : p.headerSent = false := by
    by_contra hne
    unfold Tx.started at hstart
    rw [hm] at hstart
    simp [ha, ho, hpid, Bool.eq_true_of_not_eq_false hne] at hstart
  have hstands (hm : e.tx.main = some p) : e.tx = .sending p := ((hmain p hm).1 (hsent hm)).1
  cases htx : e.tx with
  | idle =>
    rw [htx] at hp
    exact absurd hp List.not_mem_nil
  | sending q =>
    rw [htx] at hp
    simp only [Tx.forget] at hp
    split at hp
    · exact absurd hp List.not_mem_nil
    · next hkeep =>
      obtain rfl := List.mem_singleton.mp hp
      have := hsent (by rw [htx]; rfl)
      simp [TxParcel.notLeft, this, ha, ho, hpid] at hkeep
  | insertCalled q m =>
    rw [htx] at hp
    obtain rfl := List.mem_singleton.mp hp
    exact Tx.noConfusion (htx.symm.trans (hstands (by rw [htx]; rfl)))
  | bracket q x =>
    rw [htx] at hp
    rcases List.mem_cons.mp hp with rfl | hp
    · exact Tx.noConfusion (htx.symm.trans (hstands (by rw [htx]; rfl)))
    · obtain rfl := List.mem_singleton.mp hp
      exact Origin.noConfusion (ho.symm.trans (hin q p htx))
  | continueDue q =>
    rw [htx] at hp
    obtain rfl := List.mem_singleton.mp hp
    exact Tx.noConfusion (htx.symm.trans (hstands (by rw [htx]; rfl)))

/-- A reception's sets of slots are no concern of its holds. -/
theorem Midway.mapReception (h : Midway g s) {f : Reception → Reception} (hf : ∀ q, (f q).fate = q.fate) (i : Slot) :
    Midway g (s.modIng i (fun k => { k with reception := k.reception.map f })) := by
  have hfate : ((s.slot i).ing.reception.map f).map (·.fate) = (s.slot i).ing.reception.map (·.fate) := by
    rw [Option.map_map]
    exact congrArg (Option.map · _) (funext hf)
  refine h.alter (e := g.extra) { counted := fun _ v => ?_, rxFits := fun _ _ hx => ?_ }
  · show (s.slot i).egr.holdsOf v +
      Ingress.holds { (s.slot i).ing with reception := (s.slot i).ing.reception.map f } v + _ = _
    unfold Ingress.holds
    rw [hfate]
    rfl
  · show ((s.slot i).ing.reception.map f).isSome ↔ _
    rw [Option.isSome_map]
    exact hx

theorem moveToDiscarded_fate (i : Slot) (r : Reception) :
    (if r.fate = .passed pid then { r with enq := delSlot r.enq i, disc := addSlot r.disc i } else r).fate = r.fate := by
  split <;> rfl

theorem Midway.headDropOne (h : Midway g s) (hmem : g.reach = .counts → pid ∈ (s.slot i).egr.stream)
    (hstart : (s.slot i).egr.tx.started pid = false) : Midway g (Machine.headDropOne i pid s) := by
  have hremoved : Midway g (Machine.removeRef i .stream pid s) :=
    Midway.removeRef (c := .stream) h hmem fun hk => Egress.need_of_notStarted (h.heads hk i) hstart
  unfold Machine.headDropOne
  split
  · exact hremoved
  · dsimp only
    split
    · exact (hremoved.calm (postEvent_calm ..)).mapReception (moveToDiscarded_fate i) _
    · exact hremoved.calm (postEvent_calm ..)

theorem modIng_map_steady {f : Reception → Reception} (hf : ∀ q, (f q).fate = q.fate) (i : Slot) (s : State) :
    Steady s (s.modIng i (fun k => { k with reception := k.reception.map f })) := by
  have h := modIng_touches i s (fun k => { k with reception := k.reception.map f })
  refine ⟨⟨fun j => by rw [h.ctl], fun j => by rw [h.port], fun j => by rw [h.port], fun j => ?_⟩,
    fun j => by rw [h.cfg], fun j => ?_⟩
  · by_cases hj : j = i
    · rw [hj, modIng_ing_self, Option.map_map]
      exact congrArg (Option.map · _) (funext hf)
    · rw [h.others j hj]
  · by_cases hj : j = i
    · rw [hj, modIng_ing_self]
    · rw [h.others j hj]

/-- A head-drop takes the parcel out of the queue, and changes nothing that the offers stand on. -/
theorem headDropOne_leaves (i : Slot) (v : Nat) (s : State) : Steady s (headDropOne i v s) ∧
    ((headDropOne i v s).slot i).egr = (s.slot i).egr.without .stream v := by
  have hdrop : Touches [.egr] i s (s.modEgr i (fun e => e.without .stream v)) := modEgr_touches ..
  have hrelease := releaseHold_touches i (s.modEgr i (fun e => e.without .stream v)) v
  have hremoved : Touches [.egr, .pool, .alarm, .mgmt] i s (removeRef i .stream v s) := removeRef_touches ..
  have hegr : ((removeRef i .stream v s).slot i).egr = (s.slot i).egr.without .stream v := by
    unfold removeRef
    rw [hrelease.egr, modEgr_egr_self]
  unfold headDropOne
  split
  · exact ⟨.of_touches hremoved, hegr⟩
  · next p _ =>
    have hpost := postEvent_touches i (removeRef i .stream v s) causeStreamDrop i.val (wordOf p.owner.val)
    have hsteady := Steady.of_touches (hremoved.then hpost (rs := [.egr, .pool, .alarm, .mgmt]))
    dsimp only
    split
    · refine ⟨hsteady.trans (modIng_map_steady (moveToDiscarded_fate i) _ _), ?_⟩
      rw [moveToDiscarded, (modIng_touches p.owner _ _).egr, hpost.egr, hegr]
    · exact ⟨hsteady, by rw [hpost.egr, hegr]⟩

theorem headDrop_steady (i : Slot) (b : Nat) (l : List Nat) (s : State) : Steady s (headDrop i b l s) := by
  induction l generalizing s with
  | nil => exact .refl s
  | cons v l ih =>
    unfold headDrop
    split
    · exact .refl s
    · exact (headDropOne_leaves i v s).1.trans (ih _)

theorem started_forget {tx : Tx} {w : Nat} (h : tx.started w = false) : (tx.forget c v).started w = false := by
  rcases tx.forget_cases c v with hidle | hsame
  · rw [hidle]
    rfl
  · rw [hsame, h]

theorem Midway.headDrop (h : Midway g s) (b : Nat) (hmem : ∀ v, l.count v ≤ (s.slot i).egr.stream.count v)
    (hstart : ∀ v, v ∈ l → (s.slot i).egr.tx.started v = false) : Midway g (Machine.headDrop i b l s) := by
  induction l generalizing s with
  | nil => exact h
  | cons v l ih =>
    unfold Machine.headDrop
    split
    · exact h
    · have hv : v ∈ (s.slot i).egr.stream := List.count_pos_iff.mp
        (Nat.lt_of_lt_of_le (List.count_pos_iff.mpr List.mem_cons_self) (hmem v))
      obtain ⟨-, hegr⟩ := headDropOne_leaves i v s
      refine ih (h.headDropOne (fun _ => hv) (hstart v List.mem_cons_self)) (fun w => ?_) fun w hw => ?_
      · have hcount := hmem w
        rw [hegr]
        show l.count w ≤ ((s.slot i).egr.stream.erase v).count w
        rw [List.count_erase]
        rw [List.count_cons] at hcount
        split <;> simp_all
        omega
      · rw [hegr]
        exact started_forget (hstart w (List.mem_cons_of_mem _ hw))

/-! ## Offers (R27, R28) -/

theorem offerStream_steady (i : Slot) (pid : Nat) (owner : Slot) (b : Nat) (s : State) :
    Steady s (offerStream i pid owner b s).2 := by
  have hdrop := headDrop_steady i b ((s.slot i).egr.stream.filter (fun v => !(s.slot i).egr.tx.started v)) s
  unfold offerStream
  dsimp only
  split
  · exact hdrop.trans (enqueueRef_steady ..)
  · exact hdrop.trans (.of_touches (postEvent_touches i ..))

theorem Midway.offerStream (h : Midway g s) (hq : (s.slot i).treats = .queued)
    (ha : g.reach = .counts → s.anchors g.extra pid) (owner : Slot) (b : Nat) : Midway g (Machine.offerStream i pid owner b s).2 := by
  have hdrop : Midway g (Machine.headDrop i b ((s.slot i).egr.stream.filter (fun v => !(s.slot i).egr.tx.started v)) s) :=
    h.headDrop b (fun v => (List.filter_sublist ..).count_le v) fun v hv => by
      have := (List.mem_filter.mp hv).2
      simpa using this
  have hsteady := headDrop_steady i b ((s.slot i).egr.stream.filter (fun v => !(s.slot i).egr.tx.started v)) s
  unfold Machine.offerStream
  dsimp only
  split
  · exact hdrop.enqueue .stream (fun _ _ => by rw [hsteady.phase]; exact isOut_of_queued hq)
      fun hk => held_of_anchors (hsteady.anchors (ha hk))
  · exact hdrop.calm (postEvent_calm ..)

/-- An offer keeps what holds inside an event, and blocks only at a slot that queues the parcel. -/
theorem Midway.offerOne (h : Midway g s) (ha : g.reach = .counts → s.anchors g.extra pid) (c : Cls) (owner : Slot)
    (b : Nat) (d : Slot) (o : Offered) :
    Midway g (Machine.offerOne pid c owner b d o s).2 ∧ Steady s (Machine.offerOne pid c owner b d o s).2 ∧
      ∀ k, hasSlot (Machine.offerOne pid c owner b d o s).1.blocked k = true →
        hasSlot o.blocked k = true ∨ (s.slot k).treats = .queued := by
  unfold Machine.offerOne
  cases ht : s.treatment d with
  | undeliverable => exact ⟨h, .refl s, fun _ => .inl⟩
  | discarded => exact ⟨h, .refl s, fun _ => .inl⟩
  | queued =>
    have hroom (c : Cls) : Midway g (if s.hasRoom d c b = true then
          ({ o with enq := addSlot o.enq d }, enqueueRef d c pid s) else ({ o with blocked := addSlot o.blocked d }, s)).2 ∧
        Steady s (if s.hasRoom d c b = true then
          ({ o with enq := addSlot o.enq d }, enqueueRef d c pid s) else ({ o with blocked := addSlot o.blocked d }, s)).2 ∧
        ∀ k, hasSlot (if s.hasRoom d c b = true then ({ o with enq := addSlot o.enq d }, enqueueRef d c pid s)
          else ({ o with blocked := addSlot o.blocked d }, s)).1.blocked k = true →
          hasSlot o.blocked k = true ∨ (s.slot k).treats = .queued := by
      split
      · exact ⟨h.enqueue c (fun _ _ => isOut_of_queued ht) fun hk => held_of_anchors (ha hk), enqueueRef_steady ..,
          fun _ => .inl⟩
      · refine ⟨h, .refl s, fun k hk => ?_⟩
        rw [hasSlot_addSlot, Bool.or_eq_true, decide_eq_true_eq] at hk
        refine hk.imp id fun he => ?_
        rw [he]
        exact ht
    cases c with
    | stream =>
      refine ⟨h.offerStream ht ha owner b, offerStream_steady .., fun k hk => .inl ?_⟩
      dsimp only at hk
      split at hk <;> exact hk
    | control => exact hroom .control
    | bulk => exact hroom .bulk

theorem Midway.offerEach (h : Midway g s) (ha : g.reach = .counts → s.anchors g.extra pid) (c : Cls) (owner : Slot)
    (b : Nat) (l : List Slot) (o : Offered) :
    Midway g (Machine.offerEach pid c owner b l o s).2 ∧ Steady s (Machine.offerEach pid c owner b l o s).2 ∧
      ∀ k, hasSlot (Machine.offerEach pid c owner b l o s).1.blocked k = true →
        hasSlot o.blocked k = true ∨ (s.slot k).treats = .queued := by
  induction l generalizing o s with
  | nil => exact ⟨h, .refl s, fun _ => .inl⟩
  | cons d l ih =>
    obtain ⟨hone, hsteady, hblocked⟩ := h.offerOne ha c owner b d o
    obtain ⟨hrest, hsteady', hblocked'⟩ :=
      ih hone (fun hk => hsteady.anchors (ha hk)) (Machine.offerOne pid c owner b d o s).1
    refine ⟨hrest, hsteady.trans hsteady', fun k hk => ?_⟩
    rcases hblocked' k hk with hk | hk
    · exact hblocked k hk
    · exact .inr (by rw [← hsteady.treats, hk])

theorem Midway.offerAll (h : Midway g s) (ha : g.reach = .counts → s.anchors g.extra pid) (c : Cls) (owner : Slot)
    (dest : SlotSet) :
    Midway g (Machine.offerAll pid c owner dest s).2 ∧ Steady s (Machine.offerAll pid c owner dest s).2 ∧
      ∀ k, hasSlot (Machine.offerAll pid c owner dest s).1.blocked k = true →
        ((Machine.offerAll pid c owner dest s).2.slot k).treats = .queued := by
  obtain ⟨hall, hsteady, hblocked⟩ := h.offerEach ha c owner (s.blocksOf pid) (slotsOf dest)
    { enq := 0, disc := 0, blocked := 0 }
  refine ⟨hall, hsteady, fun k hk => ?_⟩
  rcases hblocked k hk with hk | hk
  · exact absurd hk (by simp [hasSlot])
  · exact (hsteady.treats k).trans hk

end Drops

end Sys2Proof.Machine
end

section
/-! PROOFS. Inside an event: the waiting places (R32 to R36). -/

namespace Sys2Proof.Machine

section Waits

variable {g : Scope} {s t : State} {d i j k : Slot} {c : Cls} {n pid : Nat} {w w₀ : Waiting} {m : SlotSet}
  {hd : Option LogHandle}

theorem hasSlot_delSlot (m : SlotSet) (d k : Slot) : hasSlot (delSlot m d) k = (hasSlot m k && decide (k ≠ d)) := by
  have h : (slotBit d).getLsbD k.val = decide (k = d) := hasSlot_slotBit d k
  have hk : decide (k.val < 16) = true := decide_eq_true k.isLt
  unfold hasSlot delSlot
  rw [BitVec.getLsbD_and, BitVec.getLsbD_not, h, hk]
  simp

theorem handOver_slot (hd : Option LogHandle) (x : HandOver) (s : State) (k : Slot) :
    (handOver hd x s).slot k = s.slot k := by
  unfold handOver logHandOver
  cases hd with
  | none => rfl
  | some y =>
    dsimp only
    split <;> rfl

/-! ## The end of a wait (R36) -/

theorem Midway.settle (h : Midway { g with extra := pid :: g.extra } s) (hd : Option LogHandle) (enq disc : SlotSet) :
    Midway g (settle pid hd enq disc s) :=
  h.release.calm (handOver_calm ..)

theorem leftPlace_eq (j : Slot) (s : State) : leftPlace j s = s.setSlot j
    { s.slot j with ing := { (s.slot j).ing with waiting := none }, port := { (s.slot j).port with holdReq := false } } := by
  unfold leftPlace State.modPort State.modIng
  rw [slot_setSlot_self, setSlot_setSlot]

theorem Ingress.holds_waiting (k : Ingress) (hw : k.waiting = some w) (v : Nat) :
    Ingress.holds { k with waiting := none } v + (if w.pid = v then 1 else 0) = k.holds v := by
  unfold Ingress.holds
  rw [hw]
  simp

/-- The event takes over the hold of a waiting place. -/
theorem Midway.leavePlace (h : Midway g s) (hw : (s.slot j).ing.waiting = some w) :
    Midway { g with extra := w.pid :: g.extra } (leftPlace j s) := by
  rw [leftPlace_eq]
  refine h.alter { waitFits := fun _ _ => ⟨rfl, nofun⟩, pends := fun _ _ => nofun, counted := fun _ v => ?_ }
  have hholds := Ingress.holds_waiting (s.slot j).ing hw v
  have hcons := List.count_cons (a := v) (b := w.pid) (l := g.extra)
  show (s.slot j).egr.holdsOf v + Ingress.holds { (s.slot j).ing with waiting := none } v + _ =
    (s.slot j).egr.holdsOf v + (s.slot j).ing.holds v + _
  dsimp only
  simp only [beq_iff_eq] at hcons
  omega

theorem Midway.waitEnd (h : Midway g s) (hw : (s.slot j).ing.waiting = some w₀) (hpid : w.pid = w₀.pid) :
    Midway g (waitEnd j w s) := by
  rw [waitEnd_eq]
  exact Midway.settle (hpid ▸ h.leavePlace hw) ..

/-- The record of a waiting place is replaced by one that waits for no other slots. -/
theorem Midway.putWaiting (h : Midway g s) (hw : (s.slot j).ing.waiting = some w₀) (hpid : w.pid = w₀.pid)
    (hsub : ∀ k, hasSlot w.pending k = true → hasSlot w₀.pending k = true) : Midway g (putWaiting j w s) := by
  unfold Machine.putWaiting
  split
  · exact h.waitEnd hw hpid
  · next hne =>
    refine h.alter (e := g.extra)
      { waitFits := fun _ hx => ⟨?_, fun v hv => ?_⟩, pends := fun _ hx v k hv hk => ?_, counted := fun _ v => ?_ }
    · show (s.slot j).port.holdReq = true
      rw [hx.1, hw]
      rfl
    · exact Option.some.inj hv ▸ hne
    · obtain rfl := Option.some.inj hv
      exact hx w₀ k hw (hsub k hk)
    · show (s.slot j).egr.holdsOf v + Ingress.holds { (s.slot j).ing with waiting := some w } v + _ =
        (s.slot j).egr.holdsOf v + (s.slot j).ing.holds v + _
      unfold Ingress.holds
      rw [hw]
      simp [hpid]

theorem postStalls_calm (j : Slot) (m : SlotSet) (s : State) : Calm s (postStalls j m s) :=
  calm_foldl (fun _ _ => postEvent_calm ..) _ s

theorem enteredPlace_eq (i : Slot) (w : Waiting) (u : State) :
    (u.modIng i (fun x => { x with waiting := some w })).modPort i (fun p => { p with holdReq := true }) =
      u.setSlot i { u.slot i with
        ing := { (u.slot i).ing with waiting := some w }, port := { (u.slot i).port with holdReq := true } } := by
  unfold State.modPort State.modIng
  rw [slot_setSlot_self, setSlot_setSlot]

/-- A parcel the event holds enters the waiting place, or is settled where it is taken. -/
theorem Midway.enterWaiting (h : Midway { g with extra := pid :: g.extra } s) {o : Offered} (hb : o.blocked ≠ 0)
    (hq : g.reach.queues → ∀ k, hasSlot o.blocked k = true → (s.slot k).treats = .queued) :
    Midway g (enterWaiting i pid c hd o s) := by
  have henter (u : State) (hu : Midway { g with extra := pid :: g.extra } u) (hslots : ∀ k, u.slot k = s.slot k)
      (w : Waiting) (hpid : w.pid = pid) (hpending : w.pending = o.blocked) (hw : (s.slot i).ing.waiting = none) :
      Midway g ((u.modIng i (fun x => { x with waiting := some w })).modPort i (fun p => { p with holdReq := true })) := by
    rw [enteredPlace_eq]
    refine hu.alter (e := g.extra)
      { waitFits := fun _ _ => ⟨rfl, fun v hv => ?_⟩, pends := fun hk _ v k hv hk' _ => ?_, counted := fun _ v => ?_ }
    · obtain rfl := Option.some.inj hv
      exact hpending ▸ hb
    · obtain rfl := Option.some.inj hv
      rw [hslots]
      exact hq hk k (hpending ▸ hk')
    · have hnone : (u.slot i).ing.waiting = none := by rw [hslots, hw]
      have hcons := List.count_cons (a := v) (b := pid) (l := g.extra)
      show (u.slot i).egr.holdsOf v + Ingress.holds { (u.slot i).ing with waiting := some w } v + _ =
        (u.slot i).egr.holdsOf v + (u.slot i).ing.holds v + (pid :: g.extra).count v
      simp only [beq_iff_eq] at hcons
      unfold Ingress.holds
      rw [hnone]
      simp only [Option.map_some, Option.map_none, Option.some.injEq, hpid, reduceCtorEq, if_false]
      omega
  unfold Machine.enterWaiting
  cases hw : (s.slot i).ing.waiting with
  | some _ => exact Midway.settle (h.calm (postStalls_calm ..)) ..
  | none =>
    cases hd with
    | none => exact henter s h (fun _ => rfl) _ rfl rfl hw
    | some x =>
      dsimp only
      refine henter _ (h.calm (handOver_calm (some x) _ s)) (fun k => ?_) _ rfl rfl hw
      exact handOver_slot ..

/-! ## Resolution (R34) -/

theorem delSlot_subset (m : SlotSet) (d k : Slot) (h : hasSlot (delSlot m d) k = true) : hasSlot m k = true ∧ k ≠ d := by
  rw [hasSlot_delSlot, Bool.and_eq_true, decide_eq_true_eq] at h
  exact h

theorem Midway.reresolveIn (h : Midway g s) (d j : Slot) : Midway g (reresolveIn d j s) := by
  unfold Machine.reresolveIn
  split
  · exact h
  · next w hw =>
    split
    · split
      · exact h
      · exact h.putWaiting hw rfl fun k hk => (delSlot_subset _ _ _ hk).1
      · exact h.putWaiting hw rfl fun k hk => (delSlot_subset _ _ _ hk).1
    · exact h

/-- A slot's waiting parcel waits for slot `d` only where that one queues it. -/
def State.clearOf (s : State) (d j : Slot) : Prop := (s.slot j).pendsOn (fun k => k = d → (s.slot k).treats = .queued)

theorem putWaiting_touches (j : Slot) (w : Waiting) (s : State) :
    Touches [.ing, .port, .pool, .alarm, .mgmt, .log] j s (putWaiting j w s) := by
  unfold putWaiting
  exact touches_ite (waitEnd_touches ..) (modIng_touches j s _).mono

theorem treats_of_keeps {ps : List Part} (h : KeepsBut ps s t) (hctl : .ctl ∉ ps := by decide)
    (hcfg : .cfg ∉ ps := by decide) (k : Slot) : (t.slot k).treats = (s.slot k).treats := by
  unfold SlotState.treats
  rw [h.ctl hctl k, h.cfg hcfg k]

theorem clearOf_of_waiting (htreats : ∀ k, (t.slot k).treats = (s.slot k).treats)
    (hw : (t.slot j).ing.waiting = (s.slot j).ing.waiting) (h : s.clearOf d j) : t.clearOf d j := by
  intro w k hk hp he
  rw [htreats]
  exact h w k (hw ▸ hk) hp he

/-- A record that does not wait for a slot is clear of it. -/
theorem putWaiting_clearOf (hd : hasSlot w.pending d = false) : (putWaiting j w s).clearOf d j := by
  intro v k hv hk he
  have hing : ((putWaiting j w s).slot j).ing.waiting = none ∨ ((putWaiting j w s).slot j).ing.waiting = some w := by
    unfold putWaiting
    split
    · exact .inl (by rw [waitEnd_ing])
    · exact .inr (by rw [modIng_ing_self])
  rcases hing with hnone | hsome
  · exact Option.noConfusion rfl (heq_of_eq (hnone.symm.trans hv))
  · obtain rfl := Option.some.inj (hsome.symm.trans hv)
    exact absurd (he ▸ hk) (by rw [hd]; exact Bool.false_ne_true)

theorem delSlot_free (m : SlotSet) (d : Slot) : hasSlot (delSlot m d) d = false := by
  rw [hasSlot_delSlot, decide_eq_false (not_not.mpr rfl), Bool.and_false]

/-- A resolution clears its waiting place, and keeps the others clear. -/
theorem reresolveIn_clears (d k : Slot) (s : State) :
    (reresolveIn d k s).clearOf d k ∧ (∀ j, s.clearOf d j → (reresolveIn d k s).clearOf d j) ∧
      ∀ j, ((reresolveIn d k s).slot j).treats = (s.slot j).treats := by
  have hput (w : Waiting) (hd : hasSlot w.pending d = false) : (putWaiting k w s).clearOf d k ∧
      (∀ j, s.clearOf d j → (putWaiting k w s).clearOf d j) ∧
      ∀ j, ((putWaiting k w s).slot j).treats = (s.slot j).treats := by
    have htouch := putWaiting_touches k w s
    have htreats := treats_of_keeps htouch.keeps
    refine ⟨putWaiting_clearOf hd, fun j hj => ?_, htreats⟩
    by_cases hjk : j = k
    · exact hjk ▸ putWaiting_clearOf hd
    · exact clearOf_of_waiting htreats (by rw [htouch.others j hjk]) hj
  unfold reresolveIn
  split
  next hw => exact ⟨fun w x hx => Option.noConfusion rfl (heq_of_eq (hw.symm.trans hx)), fun _ h => h, fun _ => rfl⟩
  next w hw =>
    split
    next =>
      split
      next ht => exact ⟨fun _ x _ _ he => he ▸ ht, fun _ h => h, fun _ => rfl⟩
      next => exact hput _ (delSlot_free ..)
      next => exact hput _ (delSlot_free ..)
    next hno =>
      refine ⟨fun v x hv hx he => ?_, fun _ h => h, fun _ => rfl⟩
      obtain rfl := Option.some.inj (hw.symm.trans hv)
      exact absurd (he ▸ hx) hno

theorem foldl_reresolve (h : Midway g s) (d : Slot) (l : List Slot) :
    Midway g (l.foldl (fun t j => reresolveIn d j t) s) ∧
      ∀ j, (j ∈ l ∨ s.clearOf d j) → (l.foldl (fun t j => reresolveIn d j t) s).clearOf d j := by
  induction l generalizing s with
  | nil => exact ⟨h, fun j hj => hj.resolve_left List.not_mem_nil⟩
  | cons k l ih =>
    obtain ⟨hdone, hkeep, -⟩ := reresolveIn_clears d k s
    obtain ⟨hmid, hclear⟩ := ih (h.reresolveIn d k)
    refine ⟨hmid, fun j hj => hclear j ?_⟩
    rcases hj with hj | hj
    · rcases List.mem_cons.mp hj with rfl | hj
      · exact .inr hdone
      · exact .inl hj
    · exact .inr (hkeep j hj)

/-- A slot is resolved again in every waiting place. -/
theorem Midway.reresolve (h : Midway { g with unsure := d :: g.unsure } s) : Midway g (reresolve d s) := by
  obtain ⟨hmid, hclear⟩ := foldl_reresolve h d allSlots
  exact Midway.resolved (i := d) hmid fun _ j => hclear j (.inl (mem_allSlots_all j))

/-! ## Service and stalls (R33, R35) -/

theorem anchored_waiting {x : List Nat} (hw : (s.slot j).ing.waiting = some w) : 0 < s.holdCount w.pid + x.count w.pid := by
  have hle := holdsOf_le_holdCount s j w.pid
  have hone : 1 ≤ (s.slot j).ing.holds w.pid := by
    unfold Ingress.holds
    rw [hw]
    simp
  have : (s.slot j).holdsOf w.pid = (s.slot j).egr.holdsOf w.pid + (s.slot j).ing.holds w.pid := rfl
  omega

theorem Midway.serveWaiter (h : Midway g s) (hw : (s.slot j).ing.waiting = some w) (hd : hasSlot w.pending d = true)
    (hsure : d ∉ g.unsure) : Midway g (serveWaiter d c j w s) := by
  have hjoin : Midway g (enqueueRef d c w.pid s) :=
    h.enqueue c (fun hk _ => isOut_of_queued (h.pends hk j w d hw hd hsure)) fun _ => anchored_waiting hw
  unfold Machine.serveWaiter
  exact hjoin.putWaiting (w₀ := w) (by rw [(enqueueRef_touches d c w.pid s).ing, hw]) rfl
    fun k hk => (delSlot_subset _ _ _ hk).1

theorem waitsOn_some (h : s.waitsOn d c j = true) : ∃ w, (s.slot j).ing.waiting = some w ∧ hasSlot w.pending d = true := by
  unfold State.waitsOn at h
  split at h
  · exact absurd h Bool.false_ne_true
  · next w hw => exact ⟨w, hw, ((Bool.and_eq_true ..).mp h).2⟩

theorem Midway.servePending (h : Midway g s) (hsure : d ∉ g.unsure) (c : Cls) (n : Nat) :
    Midway g (servePending d c n s) := by
  induction n generalizing s with
  | zero => exact h
  | succ n ih =>
    unfold Machine.servePending
    split
    · exact h
    · next j hj =>
      obtain ⟨w, hw, hd⟩ := waitsOn_some (mem_waiters.mp (waits_of_oldest hj))
      rw [hw]
      dsimp only
      split
      · exact ih (h.serveWaiter hw hd hsure)
      · exact h

theorem Midway.stallExpire (h : Midway g s) (hw : (s.slot j).ing.waiting = some w) : Midway g (stallExpire j w s) := by
  unfold Machine.stallExpire
  refine (h.calm (postStalls_calm ..)).waitEnd (w₀ := w) ?_ rfl
  rw [show postStalls j w.pending s = stallEntries j w.pending s from rfl, (stallEntries_touches j j ..).ing, hw]

end Waits

end Sys2Proof.Machine
end

section
/-! PROOFS. Inside an event: the ends of parcels (R18 to R31). -/

namespace Sys2Proof.Machine

/-! ## The management unit (R48, R172, R173) -/

section Mgmt

variable {g : Scope} {s t : State} {i : Slot} {c : Bool}

/-- What a change of the management unit keeps. -/
structure AltersMgmt (g : Scope) (c : Bool) (s t : State) : Prop where
  heads : g.reach.heads → ∀ i, (s.slot i).egr.heads (s.hasReply i) → (s.slot i).egr.heads (t.hasReply i) := by
    exact fun _ _ h => h
  fit : g.reach = .bounds → s.repliesFit → t.repliesFit := by exact fun _ h => h
  requests : g.reach = .bounds → s.mgmt.queue.length ≤ Config.requestPlaces →
    t.mgmt.queue.length ≤ Config.requestPlaces := by exact fun _ h => h
  claim : g.reach = .bounds → s.mgmt.claim = g.claim → t.mgmt.claim = c := by exact fun _ h => h

theorem Midway.modMgmt (h : Midway g s) {f : Mgmt → Mgmt} (a : AltersMgmt g c s (s.modMgmt f)) :
    Midway { g with claim := c } (s.modMgmt f) where
  fits := h.fits
  powered := h.powered
  waitFits := h.waitFits
  still := h.still
  pends := h.pends
  heads hk i := a.heads hk i (h.heads hk i)
  counted := h.counted
  rxFits := h.rxFits
  faultFits := h.faultFits
  marked := h.marked
  heldFits := h.heldFits
  expressFits := h.expressFits
  repliesFit hk := a.fit hk (h.repliesFit hk)
  requestsFit hk := a.requests hk (h.requestsFit hk)
  claim hk := a.claim hk (h.claim hk)

/-- The request storage is no concern of the places. -/
theorem Midway.setStore (h : Midway g s) (ws : Mgmt → List Word) :
    Midway g (s.modMgmt (fun m => { m with store := ws m })) := h.modMgmt (c := g.claim) {}

theorem hasReply_push (p : ReplyParcel) (h : s.hasReply i) :
    (s.modMgmt (fun m => { m with replies := m.replies ++ [p] })).hasReply i :=
  ⟨h.1, fun hnil => absurd (List.append_eq_nil_iff.mp hnil).2 (List.cons_ne_nil p [])⟩

/-- A parcel joins the reply queue where a place is free (R48). -/
theorem Midway.pushReply (h : Midway g s) (p : ReplyParcel)
    (hroom : g.reach = .bounds → s.mgmt.taken < Config.replyPlaces) : Midway g (pushReply p s) := by
  unfold Machine.pushReply
  refine Midway.wakeReport (h.modMgmt (c := g.claim)
    { heads := fun _ i hx => Egress.heads_mono (hasReply_push p) hx
      fit := fun hk _ => ?_ }) _
  have := hroom hk
  simp only [State.repliesFit, Mgmt.taken, State.modMgmt, List.length_append, List.length_singleton] at this ⊢
  omega

theorem Midway.offerRequest (h : Midway g s) (r : Request) : Midway g (offerRequest r s) := by
  unfold Machine.offerRequest
  split
  · next hroom =>
    refine h.modMgmt (c := g.claim) { requests := fun _ _ => ?_ }
    simp only [State.modMgmt, List.length_append, List.length_singleton]
    omega
  · split
    · next hroom => exact h.pushReply _ fun _ => hroom
    · exact h

end Mgmt

/-! ## What the parking unit and the log do -/

section Units

variable {s : State} {i : Slot}

theorem setLanding_calm (i : Slot) (l : Landing) (s : State) : Calm s (s.setLanding i l) := .setSlot rfl

theorem land_calm (good : Bool) (i : Slot) (n : Fin 64) (hdr : Header) (ws : List Word) (s : State) :
    Calm s (land good i n hdr ws s) := by
  have hkeeps : KeepsBut unitParts s (land good i n hdr ws s) := by
    unfold land
    split
    · exact .refl ..
    · exact landLatest_touches.keeps.mono
    · exact landRing_touches.keeps.mono
  exact .of_keeps hkeeps (land_reports (.refl s))

theorem parkReport_calm (hd : Option LogHandle) (o : LogOutcome) (reason : Nat) (a : Fin 64) (offset : Nat) (s : State) :
    Calm s (parkReport hd o reason a offset s) := handOver_calm ..

theorem parkEnd_calm (i : Slot) (e : PEnd) (hd : Option LogHandle) (s : State) : Calm s (parkEnd i e hd s) := by
  have hclear := setLanding_calm i .clear s
  unfold parkEnd
  dsimp only
  split
  · exact hclear
  · exact hclear
  · exact calm_ite (hclear.trans (parkReport_calm ..)) (calm_ite
      ((hclear.trans (postEvent_calm ..)).trans (parkReport_calm ..))
      ((hclear.trans (land_calm ..)).trans (parkReport_calm ..)))

theorem parkHeader_calm (i : Slot) (a : Fin 64) (hdr : Header) (hd : Option LogHandle) (s : State) :
    Calm s (parkHeader i a hdr hd s) := by
  unfold parkHeader
  split
  · exact setLanding_calm ..
  · exact ((setLanding_calm ..).trans (postEvent_calm ..)).trans (parkReport_calm ..)

theorem parkPayload_calm (i : Slot) (w : Word) (s : State) : Calm s (parkPayload i w s) := .setSlot rfl

theorem logReserve_calm (i : Slot) (hdr : Header) (st : Stamp) (park : Bool) (s : State) :
    Calm s (logReserve i hdr st park s).2 := by
  have hset (f : TransitLog → TransitLog) : Calm s (s.modLog f) :=
    ⟨fun _ => rfl, ⟨rfl, rfl⟩, fun _ => ⟨rfl, rfl⟩, .of_eq rfl, id⟩
  unfold logReserve
  split
  · dsimp only
    exact calm_ite ((hset _).trans (postEvent_calm ..)) (calm_ite ((hset _).trans (postEvent_calm ..)) (hset _))
  · exact .refl s

theorem reportRefusal_calm (i : Slot) (hdr : Header) (e : FlowEntry) (reason : Nat) (s : State) :
    Calm s (reportRefusal i hdr e reason s) := by
  unfold reportRefusal
  exact calm_ite (postEvent_calm ..) (.refl s)

theorem stageTimeOfDay_calm (i : Slot) (ws : List Word) (s : State) : Calm s (stageTimeOfDay i ws s) := by
  unfold stageTimeOfDay
  split
  · exact ⟨fun _ => rfl, ⟨rfl, rfl⟩, fun _ => ⟨rfl, rfl⟩, .of_eq rfl, id⟩
  · exact .refl s

end Units

/-! ## The ends of passed parcels (R26, R30, R31) -/

section Ends

variable {g : Scope} {s t : State} {i d : Slot} {pid : Nat} {e : Egress} {r : Prop} {q : Reception} {isOpen : Bool}

theorem Midway.eachSlot {f : Slot → State → State} (h : Midway g s) (hf : ∀ i t, Midway g t → Midway g (f i t)) :
    Midway g (s.eachSlot f) := by
  unfold State.eachSlot
  generalize allSlots = l
  induction l generalizing s with
  | nil => exact h
  | cons i l ih => exact ih (hf i s h)

/-- A change of a parcel in transmission that leaves what holds it there. -/
def KeepsOrigin (f : TxParcel → TxParcel) : Prop :=
  ∀ p, (f p).origin = p.origin ∧ (f p).pid = p.pid ∧ (f p).attached = p.attached ∧ (f p).headerSent = p.headerSent

theorem Egress.atHead_map {f : TxParcel → TxParcel} (hf : KeepsOrigin f) {e' : Egress} (hstream : e'.stream = e.stream)
    (hcontrol : e'.control = e.control) (hbulk : e'.bulk = e.bulk) (hexpress : e'.express = e.express) {p : TxParcel}
    (h : e.atHead r p) : e'.atHead r (f p) := by
  obtain ⟨ho, hp, ha, -⟩ := hf p
  intro hat
  have := h (ha ▸ hat)
  rw [ho, hp]
  cases hop : p.origin with
  | express =>
    rw [hop] at this
    show e'.express ≠ []
    rw [hexpress]
    exact this
  | reply =>
    rw [hop] at this
    exact this
  | cls c =>
    rw [hop] at this
    have hq : e'.queue c = e.queue c := by
      cases c
      · exact hstream
      · exact hcontrol
      · exact hbulk
    show (e'.queue c).head? = some p.pid
    rw [hq]
    exact this

theorem Egress.heads_mapMain {f : TxParcel → TxParcel} (hf : KeepsOrigin f) (h : e.heads r) :
    ({ e with tx := e.tx.mapMain f } : Egress).heads r := by
  obtain ⟨hat, hmain, hin⟩ := h
  have hmap {p : TxParcel} (hp : e.atHead r p) : ({ e with tx := e.tx.mapMain f } : Egress).atHead r (f p) :=
    Egress.atHead_map hf rfl rfl rfl rfl hp
  have hother {p : TxParcel} (hp : e.atHead r p) : ({ e with tx := e.tx.mapMain f } : Egress).atHead r p := hp
  unfold Egress.heads
  cases htx : e.tx with
  | idle =>
    exact ⟨fun p hp => absurd hp List.not_mem_nil, fun p hp => Option.noConfusion rfl (heq_of_eq hp),
      fun p x hp => Tx.noConfusion hp⟩
  | sending p =>
    rw [htx] at hat hmain
    obtain ⟨hsent, -⟩ := hmain p rfl
    obtain ⟨-, -, ha, hs⟩ := hf p
    refine ⟨fun q hq => ?_, fun q hq => ?_, fun _ _ hq => Tx.noConfusion hq⟩
    · obtain rfl := List.mem_singleton.mp hq
      exact htx ▸ hmap (hat p List.mem_cons_self)
    · obtain rfl := Option.some.inj hq
      exact ⟨fun hno => ⟨rfl, ha.trans (hsent (hs ▸ hno)).2⟩, fun hne => absurd rfl hne⟩
  | insertCalled p m =>
    rw [htx] at hat hmain
    obtain ⟨hsent, horigin⟩ := hmain p rfl
    obtain ⟨ho, -, ha, hs⟩ := hf p
    refine ⟨fun q hq => ?_, fun q hq => ?_, fun _ _ hq => Tx.noConfusion hq⟩
    · obtain rfl := List.mem_singleton.mp hq
      exact htx ▸ hmap (hat p List.mem_cons_self)
    · obtain rfl := Option.some.inj hq
      exact ⟨fun hno => Tx.noConfusion (hsent (hs ▸ hno)).1, fun _ => ho ▸ horigin Tx.noConfusion⟩
  | bracket p x =>
    rw [htx] at hat hmain
    obtain ⟨hsent, horigin⟩ := hmain p rfl
    obtain ⟨ho, -, ha, hs⟩ := hf p
    refine ⟨fun q hq => ?_, fun q hq => ?_, fun q y hq => ?_⟩
    · rcases List.mem_cons.mp hq with rfl | hq
      · exact htx ▸ hmap (hat p List.mem_cons_self)
      · obtain rfl := List.mem_singleton.mp hq
        exact htx ▸ hother (hat q (List.mem_cons_of_mem _ List.mem_cons_self))
    · obtain rfl := Option.some.inj hq
      exact ⟨fun hno => Tx.noConfusion (hsent (hs ▸ hno)).1, fun _ => ho ▸ horigin Tx.noConfusion⟩
    · injection hq with _ hx
      exact hx ▸ hin p x htx
  | continueDue p =>
    rw [htx] at hat hmain
    obtain ⟨hsent, horigin⟩ := hmain p rfl
    obtain ⟨ho, -, ha, hs⟩ := hf p
    refine ⟨fun q hq => ?_, fun q hq => ?_, fun _ _ hq => Tx.noConfusion hq⟩
    · obtain rfl := List.mem_singleton.mp hq
      exact htx ▸ hmap (hat p List.mem_cons_self)
    · obtain rfl := Option.some.inj hq
      exact ⟨fun hno => Tx.noConfusion (hsent (hs ▸ hno)).1, fun _ => ho ▸ horigin Tx.noConfusion⟩

theorem Tx.mapMain_idle {f : TxParcel → TxParcel} {tx : Tx} (h : tx.mapMain f ≠ .idle) : tx ≠ .idle := by
  rintro rfl
  exact h rfl

theorem Midway.failAt (h : Midway g s) (pid : Nat) (d : Slot) : Midway g (failAt pid d s) := by
  unfold Machine.failAt
  dsimp only
  split
  · next hmem =>
    split
    · refine h.alter (e := g.extra)
        { still := fun _ _ hx => ⟨hx.1, fun htx => hx.2 (Tx.mapMain_idle htx)⟩
          heads := fun _ hx => Egress.heads_mapMain (fun _ => ⟨rfl, rfl, rfl, rfl⟩) hx }
    · next hstart =>
      have hfree : (s.slot d).egr.tx.started pid = false := Bool.eq_false_of_not_eq_true hstart
      exact Midway.removeRef (c := .stream) h (fun _ => List.contains_iff_mem.mp hmem)
        fun hk => Egress.need_of_notStarted (h.heads hk d) hfree
  · exact h

theorem Midway.passedFail (h : Midway { g with extra := pid :: g.extra } s) (i : Slot) (q : Reception) (isOpen bad : Bool) :
    Midway g (passedFail i q pid isOpen bad s) := by
  have hopen : Midway { g with extra := pid :: g.extra } (if isOpen then s.eachSlot (Machine.failAt pid) else s) := by
    split
    · exact h.eachSlot fun d t ht => ht.failAt pid d
    · exact h
  have hrelease := hopen.release
  unfold Machine.passedFail
  dsimp only
  refine Midway.calm (Midway.calm hrelease ?_) (handOver_calm ..)
  exact calm_ite (postEvent_calm ..) (.refl _)

theorem Midway.passedGood (h : Midway { g with extra := pid :: g.extra } s) (i : Slot) (q : Reception) (isOpen : Bool) :
    Midway g (passedGood i q pid isOpen s) := by
  obtain ⟨hall, -, hblocked⟩ := h.offerAll (fun _ => .inl List.mem_cons_self) q.entry.govern i q.entry.dest
  unfold Machine.passedGood
  split
  · exact Midway.settle (h.modStored (f := fun p => { p with isOpen := false }) (fun _ => rfl) pid) ..
  · dsimp only
    split
    · exact Midway.settle hall ..
    · next hne => exact Midway.enterWaiting hall hne fun _ => hblocked

theorem Midway.passedEnd (h : Midway { g with extra := pid :: g.extra } s) (i : Slot) (q : Reception) (e : PEnd) :
    Midway g (passedEnd i q pid e s) := by
  unfold Machine.passedEnd
  cases e with
  | good => exact h.passedGood ..
  | bad => exact h.passedFail ..
  | aborted => exact h.passedFail ..

/-! ## Payload (R25, R30) -/

theorem modStored_steady (pid : Nat) (f : Stored → Stored) (s : State) : Steady s (modStored pid f s) :=
  .of_touches (modStored_touches 0 s pid f)

theorem Midway.keepOffered {x : Offered × State} (h : Midway g x.2) : Midway g (keepOffered i x) :=
  h.mapReception (f := fun p => { p with enq := x.1.enq, disc := x.1.disc }) (fun _ => rfl) i

theorem Midway.openParcel (h : Midway g s) (hr : (s.slot i).ing.reception = some q) (hfate : q.fate = .passed pid) :
    Midway g (openParcel i q pid s) := by
  have hset : Midway g (Machine.modStored pid (fun p => { p with isOpen := true }) s) :=
    h.modStored (f := fun p => { p with isOpen := true }) (fun _ => rfl) pid
  have hanchor : (Machine.modStored pid (fun p => { p with isOpen := true }) s).anchors g.extra pid :=
    (modStored_steady ..).anchors (.inr ⟨i, by rw [hr, Option.map_some, hfate]⟩)
  obtain ⟨hall, -, -⟩ := hset.offerAll (fun _ => hanchor) .stream i q.entry.dest
  exact hall.keepOffered

theorem Midway.passedPayload (h : Midway g s) (hr : (s.slot i).ing.reception = some q) (hfate : q.fate = .passed pid)
    (w : Word) : Midway g (passedPayload i q pid w s) := by
  have hset : Midway g (Machine.modStored pid (fun p => { p with words := p.words ++ [w] }) s) :=
    h.modStored (f := fun p => { p with words := p.words ++ [w] }) (fun _ => rfl) pid
  unfold Machine.passedPayload
  dsimp only
  split
  · exact hset.openParcel (by rw [(modStored_touches i s pid _).ing, hr]) hfate
  · exact hset

theorem Midway.parcelPayload (h : Midway g s) (i : Slot) (w : Word) : Midway g (parcelPayload i w s) := by
  unfold Machine.parcelPayload
  split
  · exact h
  · next q hr =>
    cases hfate : q.fate with
    | mgmt => exact h.setStore _
    | timeOfDay => exact h.calm (.setSlot rfl)
    | refused | poolCut => exact h
    | parked => exact h.calm (parkPayload_calm ..)
    | passed pid => exact h.passedPayload hr hfate w

end Ends

end Sys2Proof.Machine
end

section
/-! PROOFS. Inside an event: receptions begin and end (R4, R17 to R26). -/

namespace Sys2Proof.Machine

section Even

variable {s t : State} {i j : Slot} {q : Reception} {pid : Nat} {ps : List Part}

theorem Calm.even (h : Calm s t) : Even s t where
  phase j := by
    show (t.slot j).bare.ctl.phase = (s.slot j).bare.ctl.phase
    rw [h.bare j]
  link j := by
    show (t.slot j).bare.port.link = (s.slot j).bare.port.link
    rw [h.bare j]
  rx j := by
    show (t.slot j).bare.port.rx = (s.slot j).bare.port.rx
    rw [h.bare j]
  fate j := by
    show (t.slot j).bare.ing.reception.map (·.fate) = (s.slot j).bare.ing.reception.map (·.fate)
    rw [h.bare j]

theorem Even.none (h : Even s t) (hn : (s.slot i).ing.reception = none) : (t.slot i).ing.reception = none :=
  Option.map_eq_none_iff.mp ((h.fate i).trans (by rw [hn]; rfl))

theorem Even.isSome (h : Even s t) (hs : (s.slot i).ing.reception.isSome) : (t.slot i).ing.reception.isSome := by
  have := congrArg Option.isSome (h.fate i)
  rwa [Option.isSome_map, Option.isSome_map, hs] at this

/-- A change of a waiting place and its hold request. -/
theorem even_setSlot {y : SlotState} (hctl : y.ctl = (s.slot i).ctl) (hlink : y.port.link = (s.slot i).port.link)
    (hrx : y.port.rx = (s.slot i).port.rx) (hrec : y.ing.reception = (s.slot i).ing.reception) :
    Even s (s.setSlot i y) := by
  have hslot (j : Slot) : (s.setSlot i y).slot j = if j = i then y else s.slot j := by
    by_cases hj : j = i
    · rw [if_pos hj, hj, slot_setSlot_self]
    · rw [if_neg hj, slot_setSlot_ne s y hj]
  refine ⟨fun j => ?_, fun j => ?_, fun j => ?_, fun j => ?_⟩
  all_goals
    rw [hslot]
    split
    next hj => simp only [hj, hctl, hlink, hrx, hrec]
    next => rfl

theorem handOver_even (hd : Option LogHandle) (x : HandOver) (s : State) : Even s (handOver hd x s) :=
  .of_keeps (handOver_touches 0 s hd x).keeps

theorem settle_even (hd : Option LogHandle) (enq disc : SlotSet) (pid : Nat) (s : State) :
    Even s (settle pid hd enq disc s) :=
  .of_keeps (settleAs_leaves ..).keeps

theorem pushReply_even (p : ReplyParcel) (s : State) : Even s (pushReply p s) :=
  (Even.of_keeps (modMgmt_keepsBut ..)).trans (wakeReport_steady ..).toEven

theorem offerRequest_even (r : Request) (s : State) : Even s (offerRequest r s) := by
  unfold offerRequest
  split
  · exact .of_keeps (modMgmt_keepsBut ..)
  · split
    · exact pushReply_even ..
    · exact .refl s

end Even

/-! ## Ends (R4, R18, R19, R26) -/

section Ends

variable {g : Scope} {s t : State} {i : Slot} {q : Reception} {pid : Nat} {c : Cls} {hd : Option LogHandle} {o : Offered}

theorem enteredPlace_even (i : Slot) (w : Waiting) (u : State) :
    Even u ((u.modIng i (fun g => { g with waiting := some w })).modPort i (fun p => { p with holdReq := true })) := by
  rw [enteredPlace_eq]
  exact even_setSlot rfl rfl rfl rfl

theorem enterWaiting_even (i : Slot) (pid : Nat) (c : Cls) (hd : Option LogHandle) (o : Offered) (s : State) :
    Even s (enterWaiting i pid c hd o s) := by
  unfold enterWaiting
  split
  · exact (postStalls_calm ..).even.trans (settle_even ..)
  · dsimp only
    split
    · exact enteredPlace_even ..
    · next x => exact (handOver_even (some x) _ s).trans (enteredPlace_even ..)

theorem passedGood_even (i : Slot) (q : Reception) (pid : Nat) (isOpen : Bool) (h : Midway g s)
    (ha : g.reach = .counts → s.anchors g.extra pid) : Even s (passedGood i q pid isOpen s) := by
  obtain ⟨-, hall, -⟩ := h.offerAll ha q.entry.govern i q.entry.dest
  unfold passedGood
  split
  · exact (modStored_steady ..).toEven.trans (settle_even ..)
  · dsimp only
    split
    · exact hall.toEven.trans (settle_even ..)
    · exact hall.toEven.trans (enterWaiting_even ..)

theorem passedEnd_even (i : Slot) (q : Reception) (pid : Nat) (e : PEnd) (h : Midway g s)
    (ha : g.reach = .counts → s.anchors g.extra pid) : Even s (passedEnd i q pid e s) := by
  unfold passedEnd
  cases e with
  | good => exact passedGood_even i q pid _ h ha
  | bad => exact .of_keeps (passedFail_keepsBut ..)
  | aborted => exact .of_keeps (passedFail_keepsBut ..)

/-- The parcels the event holds once it has ended a reception. -/
def heldAfter (f : Fate) (l : List Nat) : List Nat :=
  match f with
  | .passed pid => pid :: l
  | .mgmt | .timeOfDay | .refused | .poolCut | .parked => l

theorem count_heldAfter (f : Fate) (l : List Nat) (v : Nat) :
    (heldAfter f l).count v = (if some f = some (.passed v) then 1 else 0) + l.count v := by
  cases f with
  | passed pid =>
    have hcons := List.count_cons (a := v) (b := pid) (l := l)
    simp only [beq_iff_eq] at hcons
    show (pid :: l).count v = _
    simp only [Option.some.injEq, Fate.passed.injEq]
    omega
  | mgmt | timeOfDay | refused | poolCut | parked => exact (Nat.zero_add _).symm

/-- The event takes over the hold of a reception. -/
theorem Midway.closeReception (h : Midway g s) (hb : g.busy = some i) (hr : (s.slot i).ing.reception = some q) :
    Midway { g with extra := heldAfter q.fate g.extra } (closeReception i s) := by
  refine h.alter (e := heldAfter q.fate g.extra)
    { counted := fun _ v => ?_, rxFits := fun _ hne => absurd hb hne }
  show (s.slot i).egr.holdsOf v + Ingress.holds { (s.slot i).ing with reception := none } v + _ =
    (s.slot i).egr.holdsOf v + (s.slot i).ing.holds v + _
  rw [count_heldAfter]
  unfold Ingress.holds
  rw [hr, Option.map_some, Option.map_none, if_neg (Option.some_ne_none _).symm]
  dsimp only
  omega

theorem stagedTime_calm (i : Slot) (e : PEnd) (chan : BitVec 6) (ws : List Word) (s : State) :
    Calm s (match e with
      | .good => stageTimeOfDay i ws (s.modIng i (fun g => { g with todStage := [] }))
      | .bad => postCheckFail i chan (s.modIng i (fun g => { g with todStage := [] }))
      | .aborted => s.modIng i (fun g => { g with todStage := [] })) := by
  have hclear : Calm s (s.modIng i (fun g => { g with todStage := [] })) := .setSlot rfl
  cases e with
  | good => exact hclear.trans (stageTimeOfDay_calm ..)
  | bad => exact hclear.trans (postEvent_calm ..)
  | aborted => exact hclear

/-- The end of a reception: what holds inside the event, and that the slots' frames stay as they are. -/
theorem Midway.parcelEnd (h : Midway g s) (hb : g.busy = some i) (e : PEnd) :
    Midway g (parcelEnd i e s) ∧ Even (Machine.closeReception i s) (Machine.parcelEnd i e s) := by
  unfold Machine.parcelEnd
  split
  · next hr =>
    refine ⟨h, ?_⟩
    have hself : Machine.closeReception i s = s := modIng_self (by cases hi : (s.slot i).ing; simp_all)
    rw [hself]
    exact .refl s
  · next q hr =>
    have hclose := h.closeReception hb hr
    cases hf : q.fate with
    | mgmt =>
      rw [hf] at hclose
      have hstore := hclose.setStore (fun _ => [])
      have heven : Even (Machine.closeReception i s)
          ((Machine.closeReception i s).modMgmt (fun m => { m with store := [] })) := .of_keeps (modMgmt_keepsBut ..)
      cases e with
      | good => exact ⟨hstore.offerRequest _, heven.trans (offerRequest_even ..)⟩
      | bad => exact ⟨hstore.calm (postEvent_calm ..), heven.trans (postEvent_calm ..).even⟩
      | aborted => exact ⟨hstore, heven⟩
    | timeOfDay =>
      rw [hf] at hclose
      have hcalm := stagedTime_calm i e q.hdr.chan ((Machine.closeReception i s).slot i).ing.todStage
        (Machine.closeReception i s)
      exact ⟨hclose.calm hcalm, hcalm.even⟩
    | refused | poolCut =>
      rw [hf] at hclose
      exact ⟨hclose, .refl _⟩
    | parked =>
      rw [hf] at hclose
      have hcalm : Calm (Machine.closeReception i s) (parkEnd i e q.log
          (if e = .bad then postCheckFail i q.hdr.chan (Machine.closeReception i s) else Machine.closeReception i s)) :=
        (calm_ite (postEvent_calm ..) (.refl _)).trans (parkEnd_calm ..)
      exact ⟨hclose.calm hcalm, hcalm.even⟩
    | passed pid =>
      rw [hf] at hclose
      exact ⟨hclose.passedEnd i q e, passedEnd_even i q pid e hclose fun _ => .inl List.mem_cons_self⟩

end Ends

/-! ## Headers (R17, R21 to R25) -/

section Headers

variable {g : Scope} {s t : State} {i : Slot} {hdr : Header} {e : FlowEntry} {st : Stamp} {hd : Option LogHandle} {f : Fate}
  {pid : Nat}

theorem Ingress.holds_begin (k : Ingress) (hn : k.reception = none) (r : Reception) (v : Nat) :
    Ingress.holds { k with reception := some r } v = (if some r.fate = some (.passed v) then 1 else 0) + k.holds v := by
  unfold Ingress.holds
  rw [hn, Option.map_none, if_neg (Option.some_ne_none _).symm]
  dsimp only
  rw [Option.map_some]
  omega

/-- A reception begins, and takes over the hold on what it holds. -/
theorem Midway.beginReception (h : Midway { g with extra := heldAfter f g.extra } s) (hb : g.busy = some i)
    (hn : g.reach = .counts → (s.slot i).ing.reception = none) : Midway g (beginReception i hdr e st hd f s) := by
  refine h.alter (e := g.extra) { counted := fun hk v => ?_, rxFits := fun _ hne => absurd hb hne }
  show (s.slot i).egr.holdsOf v + Ingress.holds { (s.slot i).ing with reception := some _ } v + _ =
    (s.slot i).egr.holdsOf v + (s.slot i).ing.holds v + (heldAfter f g.extra).count v
  rw [count_heldAfter, Ingress.holds_begin _ (hn hk)]
  dsimp only
  omega

/-- The slots' frames stay, but for a reception that begins. -/
structure Begins (i : Slot) (s t : State) : Prop where
  phase : ∀ j, (t.slot j).ctl.phase = (s.slot j).ctl.phase
  link : ∀ j, (t.slot j).port.link = (s.slot j).port.link
  rx : ∀ j, (t.slot j).port.rx = (s.slot j).port.rx
  some : (t.slot i).ing.reception.isSome

theorem beginReception_begins (i : Slot) (hdr : Header) (e : FlowEntry) (st : Stamp) (hd : Option LogHandle) (f : Fate)
    (s : State) : Begins i s (beginReception i hdr e st hd f s) := by
  have h := beginReception_touches i s hdr e st hd f
  exact ⟨fun j => by rw [h.ctl], fun j => by rw [h.port], fun j => by rw [h.port], by rw [beginReception_ing]; rfl⟩

theorem Begins.after (h : Begins i s t) {u : State} (k : Even t u) : Begins i s u :=
  ⟨fun j => (k.phase j).trans (h.phase j), fun j => (k.link j).trans (h.link j), fun j => (k.rx j).trans (h.rx j),
    k.isSome h.some⟩

theorem Begins.before {u : State} (k : Even u s) (h : Begins i s t) : Begins i u t :=
  ⟨fun j => (h.phase j).trans (k.phase j), fun j => (h.link j).trans (k.link j), fun j => (h.rx j).trans (k.rx j), h.some⟩

theorem Midway.passHeader (h : Midway g s) (hb : g.busy = some i)
    (hn : g.reach = .counts → (s.slot i).ing.reception = none) :
    Midway g (passHeader i hdr e st hd s) ∧ Begins i s (passHeader i hdr e st hd s) := by
  unfold Machine.passHeader
  dsimp only
  split
  · have hstored : Midway { g with extra := heldAfter (.passed s.pool.nextId) g.extra } (s.modPool (storeNew
        { hdr := hdr, cls := e.govern, egress := e.egress, owner := i, nBlocks := blocksFor hdr.len.toNat, blocks := [],
          words := [], isOpen := false, refs := 1 })) := h.store rfl
    have hbegun := hstored.beginReception (hdr := hdr) (e := e) (st := st) (hd := hd) hb hn
    rw [allocStored_eq]
    exact ⟨hbegun.calm (poolJudge_calm _), (beginReception_begins ..).after
      ((Even.of_keeps (modPool_keepsBut ..)).trans (poolJudge_calm _).even)⟩
  · have hbegun := Midway.beginReception (f := .poolCut) (hdr := hdr) (e := e) (st := st) (hd := hd) h hb hn
    have hcalm := (postEvent_calm causePoolCut i.val (wordOf (blocksFor hdr.len.toNat))
      (Machine.beginReception i hdr e st hd .poolCut s)).trans (handOver_calm hd (HandOver.plain .poolEmpty 0) _)
    exact ⟨hbegun.calm hcalm, (beginReception_begins ..).after hcalm.even⟩

/-- The log record of a header that is looked up, where its entry asks for one (R79). -/
def headerLog (i : Slot) (hdr : Header) (e : FlowEntry) (s : State) : Option LogHandle × State :=
  if e.valid && e.log then logReserve i hdr s.now.stamp e.park s else (none, s)

theorem headerLog_calm (i : Slot) (hdr : Header) (e : FlowEntry) (s : State) : Calm s (headerLog i hdr e s).2 := by
  unfold headerLog
  split
  · exact logReserve_calm ..
  · exact .refl s

/-- A header that is looked up, by its entry and its log record (R21 to R25). -/
def judgeHeader (i : Slot) (hdr : Header) (e : FlowEntry) (st : Stamp) (x : Option LogHandle × State) : State :=
  match e.refusal hdr.kind with
  | some reason =>
    handOver x.1 (HandOver.plain .refused reason)
      (reportRefusal i hdr e reason (beginReception i hdr e st x.1 .refused x.2))
  | none =>
    if e.park then
      parkHeader i (Fin.ofNat 64 e.area.toNat) hdr x.1 (beginReception i hdr e st x.1 .parked x.2)
    else passHeader i hdr e st x.1 x.2

theorem lookupHeader_eq (i : Slot) (hdr : Header) (s : State) : lookupHeader i hdr s =
    judgeHeader i hdr (s.entryCopy i hdr) s.now.stamp (headerLog i hdr (s.entryCopy i hdr) s) := rfl

theorem Midway.judgeHeader {x : Option LogHandle × State} (h : Midway g x.2) (hb : g.busy = some i)
    (hn : g.reach = .counts → (x.2.slot i).ing.reception = none) :
    Midway g (judgeHeader i hdr e st x) ∧ Begins i x.2 (judgeHeader i hdr e st x) := by
  unfold Machine.judgeHeader
  split
  · next reason _ =>
    have hreport := (reportRefusal_calm i hdr e reason (Machine.beginReception i hdr e st x.1 .refused x.2)).trans
      (handOver_calm x.1 (HandOver.plain .refused reason) _)
    exact ⟨(Midway.beginReception (f := .refused) h hb hn).calm hreport, (beginReception_begins ..).after hreport.even⟩
  · split
    · have hpark := parkHeader_calm i (Fin.ofNat 64 e.area.toNat) hdr x.1
        (Machine.beginReception i hdr e st x.1 .parked x.2)
      exact ⟨(Midway.beginReception (f := .parked) h hb hn).calm hpark, (beginReception_begins ..).after hpark.even⟩
    · exact h.passHeader hb hn

theorem Midway.lookupHeader (h : Midway g s) (hb : g.busy = some i)
    (hn : g.reach = .counts → (s.slot i).ing.reception = none) :
    Midway g (lookupHeader i hdr s) ∧ Begins i s (lookupHeader i hdr s) := by
  have hcalm := headerLog_calm i hdr (s.entryCopy i hdr) s
  obtain ⟨hjudged, hbegins⟩ := (h.calm hcalm).judgeHeader (hdr := hdr) (e := s.entryCopy i hdr) (st := s.now.stamp) hb
    fun hk => hcalm.even.none (hn hk)
  rw [lookupHeader_eq]
  exact ⟨hjudged, hbegins.before hcalm.even⟩

theorem Midway.parcelHeader (h : Midway g s) (hb : g.busy = some i)
    (hn : g.reach = .counts → (s.slot i).ing.reception = none) :
    Midway g (parcelHeader i hdr s) ∧ Begins i s (parcelHeader i hdr s) := by
  unfold Machine.parcelHeader
  dsimp only
  split
  · have hstore := h.setStore (fun _ => [])
    exact ⟨Midway.beginReception (f := .mgmt) hstore hb hn,
      (beginReception_begins ..).before (.of_keeps (modMgmt_keepsBut ..))⟩
  · split
    · have hclear : Calm s (s.modIng i (fun g => { g with todStage := [] })) := .setSlot rfl
      exact ⟨Midway.beginReception (f := .timeOfDay) (h.calm hclear) hb fun hk => hclear.even.none (hn hk),
        (beginReception_begins ..).before hclear.even⟩
    · exact h.lookupHeader hb hn

end Headers

end Sys2Proof.Machine
end

section
/-! PROOFS. Inside an event: the chain engine (R145 to R152). -/

namespace Sys2Proof.Machine

section Chains

variable {g : Scope} {s : State} {i : Slot} {c : Cursor} {d : Fin 64} {pid n : Nat}

/-- A chain runs on a slot that is ADMITTED. -/
def Scope.admits (g : Scope) (s : State) (i : Slot) : Prop :=
  g.reach.base → i ∉ g.moving → (s.slot i).ctl.phase = .admitted

theorem Midway.setCursor (h : Midway g s) (hc : c.state ≠ .idle → g.admits s i) : Midway g (s.setCursor i c) :=
  h.alter (e := g.extra)
    { fits := fun hk hi hx => by
        obtain ⟨hlink, hsub, hup, hreq, -⟩ := hx
        exact ⟨hlink, hsub, hup, hreq, fun hne => hc hne hk hi⟩ }

theorem Midway.admits_of_cursor (h : Midway g s) (hc : (s.slot i).cursor.state ≠ .idle) : g.admits s i :=
  fun hk hi => (h.fits hk i hi).2.2.2.2 hc

theorem Midway.stopChain (h : Midway g s) (i : Slot) : Midway g (s.setCursor i Cursor.idle) :=
  h.setCursor fun hne => absurd rfl hne

theorem Midway.abortChain (h : Midway g s) (i : Slot) (r : AbortReason) : Midway g (abortChain i r s) := by
  unfold Machine.abortChain
  dsimp only
  split
  · exact h
  · exact (h.stopChain i).calm (postEvent_calm ..)

theorem Midway.completeChain (h : Midway g s) (i : Slot) : Midway g (completeChain i s) :=
  (h.stopChain i).calm (postEvent_calm ..)

theorem Midway.chainMade (h : Midway g s) (ha : g.admits s i) : Midway g (chainMade i s) := by
  unfold Machine.chainMade
  dsimp only
  split
  · exact h.completeChain i
  · split
    · exact h.setCursor fun _ => ha
    · exact h.completeChain i

theorem Midway.visit (h : Midway g s) (ha : g.admits s i) (d : Fin 64) : Midway g (visit i d s) :=
  h.setCursor fun _ => ha

theorem admits_setCursor (ha : g.admits s i) (c : Cursor) : g.admits (s.setCursor i c) i := by
  intro hk hi
  rw [(setCursor_touches i s c).ctl]
  exact ha hk hi

theorem Midway.walk (h : Midway g s) (ha : g.admits s i) (n : Nat) : Midway g (walk i n s) := by
  induction n generalizing s with
  | zero => exact h
  | succ n ih =>
    unfold Machine.walk
    dsimp only
    split
    · exact h
    · split
      · exact h.chainMade ha
      · split
        · exact ih (h.visit ha _) (admits_setCursor ha _)
        · exact h.abortChain ..

theorem Midway.startChain (h : Midway g s) (ha : g.admits s i) (d : Fin 64) : Midway g (startChain i d s) := by
  unfold Machine.startChain
  exact ((h.setCursor fun _ => ha).visit (admits_setCursor ha _) d).walk (admits_setCursor (admits_setCursor ha _) _) _

theorem Midway.autoStart (h : Midway g s) (ha : g.admits s i) : Midway g (autoStart i s) := by
  unfold Machine.autoStart
  dsimp only
  split
  · split
    · exact h.startChain ha _
    · exact h
  · exact h

theorem Midway.chainSent (h : Midway g s) (i : Slot) (pid : Nat) : Midway g (chainSent i pid s) := by
  unfold Machine.chainSent
  dsimp only
  split
  · exact h.completeChain i
  · exact h

/-- The parcel a chain makes is stored, and joins the BULK queue (R148, R149). -/
theorem Midway.joinMade (h : Midway g s) (ha : g.admits s i) {p : Stored} (hp : p.refs = 1) :
    Midway g (allocStored p (s.modEgr i (fun e => { e with bulk := e.bulk ++ [s.pool.nextId] }.occasion))) := by
  have hjoined := (h.store hp).join (i := i) .bulk fun hk hi => by
    rw [show ((s.modPool (storeNew p)).slot i).ctl.phase = .admitted from ha (Reach.base_of_queues hk) hi]
    rfl
  rw [allocStored_eq]
  exact hjoined.calm (poolJudge_calm _)

theorem Midway.makeChainParcel (h : Midway g s) (hc : (s.slot i).cursor.state ≠ .idle) : Midway g (makeChainParcel i s) := by
  have ha := h.admits_of_cursor hc
  obtain ⟨u, hu⟩ : ∃ u, u = Machine.wakeReport i (allocStored (s.chainParcel i)
    (s.modEgr i (fun e => { e with bulk := e.bulk ++ [s.pool.nextId] }.occasion))) := ⟨_, rfl⟩
  have hjoined : Midway g u := hu ▸ (h.joinMade ha (p := s.chainParcel i) rfl).wakeReport i
  have hadm : g.admits u i := fun hk hi => by
    rw [hu, (wakeReport_steady ..).phase, (allocStored_touches i ..).ctl, (modEgr_touches i s _).ctl]
    exact ha hk hi
  unfold Machine.makeChainParcel
  dsimp only
  rw [← hu]
  have hset := hjoined.setCursor (c := { (u.slot i).cursor with
    made := (u.slot i).cursor.made + 1, last := some s.pool.nextId,
    offset := (u.slot i).cursor.offset + (s.slot i).cursor.nextLen }) fun _ => hadm
  refine Midway.walk (hset.calm ?_) ?_ _
  · exact ⟨fun _ => rfl, ⟨rfl, rfl⟩, fun _ => ⟨rfl, rfl⟩, .of_eq rfl, id⟩
  · exact admits_setCursor hadm _

end Chains

end Sys2Proof.Machine
end

section
/-! PROOFS. Inside an event: a link leaves UP and RESTING, queues are emptied, and a slot changes its state (R6, R45,
R46, R54, R130). -/

namespace Sys2Proof.Machine

/-! ## Links (R5, R6, R15, R54) -/

section Links

variable {g : Scope} {s : State} {i : Slot} {p : TxParcel} {tx : Tx} {dst : LinkState}

theorem Tx.mem_of_main (h : tx.main = some p) : p ∈ tx.parcels := by
  cases tx with
  | idle => exact Option.noConfusion rfl (heq_of_eq h)
  | sending q | insertCalled q _ | bracket q _ | continueDue q => exact Option.some.inj h ▸ List.mem_cons_self

theorem mem_of_head {l : List Nat} {v : Nat} (h : l.head? = some v) : v ∈ l := List.mem_of_mem_head? h

/-- The transmit side gives its parcel up. -/
theorem Midway.dropTx (h : Midway g s) (i : Slot) : Midway g (s.modEgr i (fun e => { e with tx := .idle })) :=
  h.alter (e := g.extra)
    { still := fun _ _ hx => ⟨hx.1, fun htx => absurd rfl htx⟩, heads := fun _ _ => Egress.heads_idle rfl }

theorem Midway.abandonTx (h : Midway g s) (i : Slot) : Midway g (abandonTx i s) := by
  have hdrop := h.dropTx i
  unfold Machine.abandonTx
  dsimp only
  split
  · exact hdrop
  · next p hmain =>
    cases ho : p.origin with
    | express | reply => exact hdrop
    | cls c =>
      dsimp only
      split
      · next hearly =>
        have hegr : ((s.modEgr i (fun e => { e with tx := .idle })).slot i).egr = { (s.slot i).egr with tx := .idle } :=
          modEgr_egr_self ..
        refine Midway.removeRef hdrop (fun hk => ?_) fun _ q hq => ?_
        · have hat := (h.heads (Reach.heads_of_counts hk) i).1 p (Tx.mem_of_main hmain) ((Bool.and_eq_true ..).mp hearly).2
          rw [ho] at hat
          rw [hegr]
          exact mem_of_head hat
        · rw [hegr] at hq
          exact absurd hq List.not_mem_nil
      · exact hdrop

theorem abandonTx_tx : ((abandonTx i s).slot i).egr.tx = .idle := by
  have hidle : ((s.modEgr i (fun e => { e with tx := .idle })).slot i).egr.tx = .idle := by rw [modEgr_egr_self]
  unfold abandonTx
  dsimp only
  split
  · exact hidle
  · next p _ =>
    split
    · next c _ =>
      split
      · unfold removeRef
        rw [(releaseHold_touches i ..).egr, modEgr_egr_self]
        show Tx.forget c p.pid _ = _
        rw [hidle]
        rfl
      · exact hidle
    · exact hidle

theorem Midway.setRx (h : Midway g s) (hb : g.busy = some i) (r : RxState) : Midway g (s.setRx i r) :=
  h.alter (e := g.extra) { rxFits := fun _ hne => absurd hb hne }

/-- A reception ends as ABORTED, and the port awaits a header. -/
theorem Midway.abortReception (h : Midway g s) (hb : g.busy = none) (i : Slot) : Midway g (abortReception i s) := by
  obtain ⟨hend, heven⟩ := (h.occupy hb i).parcelEnd rfl .aborted
  refine Midway.free (i := i) (hend.setRx rfl .awaitHeader) fun _ => ?_
  have hnone : ((Machine.parcelEnd i .aborted s).slot i).ing.reception = none := heven.none (by rw [closeReception_ing])
  show SlotState.rxFits (((Machine.parcelEnd i .aborted s).setRx i .awaitHeader).slot i)
  unfold SlotState.rxFits
  rw [(setRx_touches ..).ing, setRx_port, hnone]
  exact ⟨fun hs => absurd hs Bool.false_ne_true, fun ⟨_, _, _, hr⟩ => RxState.noConfusion hr⟩

/-- What R6 says of a link that leaves UP and RESTING. -/
theorem Midway.unframe (h : Midway g s) (hb : g.busy = none) (hh : g.held = none) (i : Slot) : Midway g (unframe i s) := by
  obtain ⟨u, hu⟩ : ∃ u, u = Machine.abandonTx i (Machine.abortReception i s) := ⟨_, rfl⟩
  have hmid : Midway g u := hu ▸ (h.abortReception hb i).abandonTx i
  have hset : Midway { g with held := some i } (u.modPort i (fun p =>
      { p with announcedHeld := false, cardHold := false, holdTimer := none, wakeAsked := false })) :=
    (hmid.loosen hh i).alter (e := g.extra) { heldFits := fun _ hne => absurd rfl hne }
  unfold Machine.unframe
  rw [← hu]
  exact hset.clearHeld (by rw [modPort_port_self]) 0

/-- The link state of a slot between two states. -/
theorem Midway.setLink (h : Midway g s) (hi : i ∈ g.moving) (hb : g.busy = none) (hh : g.held = none) (dst : LinkState) :
    Midway g (setLink i dst s) := by
  have hset : Midway g (s.modPort i (·.withLink dst)) :=
    h.alter (e := g.extra)
      { fits := fun _ hne => absurd hi hne, still := fun _ hne => absurd hi hne }
  rw [setLink_eq]
  split
  · exact hset.unframe hb hh i
  · exact hset

/-- A link that leaves UP and RESTING leaves nothing on the transmit side, and so does one that had nothing there. -/
theorem setLink_tx (h : (s.slot i).port.link.leavesFrames dst = false → (s.slot i).egr.tx = .idle) :
    ((setLink i dst s).slot i).egr.tx = .idle := by
  rw [setLink_eq]
  split
  · unfold unframe
    rw [(clearCond_touches i ..).egr, (modPort_touches i ..).egr, abandonTx_tx]
  · next hno =>
    rw [(modPort_touches i ..).egr]
    exact h (Bool.eq_false_of_not_eq_true hno)

theorem setLink_cursor (dst : LinkState) (j : Slot) : ((setLink i dst s).slot j).cursor = (s.slot j).cursor := by
  rw [(setLink_keepsBut i s dst).cursor]

end Links

/-! ## Queues emptied (R45, R46, R179) -/

section Queues

variable {g : Scope} {s : State} {i : Slot}

theorem holdsOf_emptied (e : Egress) (v : Nat) :
    (e.stream ++ e.control ++ e.bulk).count v = e.holdsOf v := by
  rw [List.count_append, List.count_append]
  rfl

/-- The event releases what it holds. -/
theorem Midway.releaseAll (l : List Nat) (h : Midway { g with extra := l ++ g.extra } s) :
    Midway g (l.foldl (fun t pid => releaseHold pid t) s) := by
  induction l generalizing s with
  | nil => exact h
  | cons pid l ih => exact ih (Midway.release (g := { g with extra := l ++ g.extra }) h)

/-- The replies of the management slot, with nothing on its transmit side, are dropped. -/
theorem Midway.dropReplies (h : Midway g s) (hi : i = s.mgmtSlot) (hidle : g.reach.heads → (s.slot i).egr.tx = .idle)
    {f : Mgmt → Mgmt} (hf : (f s.mgmt).replies = []) (hq : (f s.mgmt).queue.length ≤ s.mgmt.queue.length)
    (hclaim : (f s.mgmt).claim = s.mgmt.claim) : Midway g (s.modMgmt f) := by
  refine h.modMgmt (c := g.claim)
    { heads := fun hk j hx => ?_, fit := fun _ _ => ?_, requests := fun _ hr => Nat.le_trans hq hr,
      claim := fun _ hc => hclaim.trans hc }
  · by_cases hj : j = i
    · exact Egress.heads_idle (hj ▸ hidle hk)
    · exact Egress.heads_mono (fun hr => absurd (hr.1.trans hi.symm) hj) hx
  · show (f s.mgmt).replies.length + boolNat (f s.mgmt).claim ≤ _
    rw [hf]
    cases (f s.mgmt).claim <;> decide

theorem Midway.emptySwitchQueues (h : Midway g s) (hidle : g.reach.heads → (s.slot i).egr.tx = .idle) :
    Midway g (emptySwitchQueues i s) := by
  have hset : Midway g (s.modEgr i (fun e => { e with express := [] })) :=
    h.alter (e := g.extra)
      { still := fun _ _ hx => ⟨fun hout =>
          let ⟨hstream, hcontrol, hbulk, _⟩ := hx.1 hout
          ⟨hstream, hcontrol, hbulk, rfl⟩, hx.2⟩
        heads := fun hk _ => Egress.heads_idle (hidle hk)
        expressFits := fun _ _ => Nat.zero_le _ }
  unfold Machine.emptySwitchQueues
  dsimp only
  split
  · next hi => exact hset.dropReplies hi (fun hk => by rw [modEgr_egr_self]; exact hidle hk) rfl (Nat.le_refl _) rfl
  · exact hset

theorem Midway.emptyMgmt (h : Midway g s) (hidle : g.reach.heads → (s.slot i).egr.tx = .idle) :
    Midway g (emptyMgmt i s) := by
  unfold Machine.emptyMgmt
  split
  · next hi => exact h.dropReplies hi hidle rfl (Nat.zero_le _) rfl
  · exact h

theorem Midway.flushSlot (h : Midway g s) (hidle : g.reach.heads → (s.slot i).egr.tx = .idle) :
    Midway g (flushSlot i s) := by
  obtain ⟨l, hl⟩ : ∃ l, l = (s.slot i).egr.stream ++ (s.slot i).egr.control ++ (s.slot i).egr.bulk := ⟨_, rfl⟩
  have hset : Midway { g with extra := l ++ g.extra }
      (s.modEgr i (fun e => { e with stream := [], control := [], bulk := [] })) := by
    refine h.alter (e := l ++ g.extra)
      { still := fun _ _ hx => ⟨fun hout => ⟨rfl, rfl, rfl, (hx.1 hout).2.2.2⟩, hx.2⟩
        heads := fun hk _ => Egress.heads_idle (hidle hk)
        counted := fun _ v => ?_ }
    have hempty : ({ (s.slot i).egr with stream := [], control := [], bulk := [] } : Egress).holdsOf v = 0 := rfl
    show Egress.holdsOf _ v + (s.slot i).ing.holds v + _ = (s.slot i).egr.holdsOf v + (s.slot i).ing.holds v + _
    rw [hempty, List.count_append, hl, holdsOf_emptied]
    omega
  have hreleased := Midway.releaseAll l hset
  unfold Machine.flushSlot
  dsimp only
  rw [← hl]
  refine hreleased.emptySwitchQueues fun hk => ?_
  rw [(releaseAll_touches i ..).egr, modEgr_egr_self]
  exact hidle hk

end Queues

/-! ## States (R34, R130) -/

section Phases

variable {g : Scope} {s : State} {i : Slot} {ph : Phase}

theorem Midway.setPhase (h : Midway g s) (hi : i ∈ g.moving) (ph : Phase) : Midway g (setPhase i ph s) := by
  have hset : Midway { g with unsure := i :: g.unsure } (s.modCtl i (Ctl.entering ph)) :=
    (h.doubt i).alter (e := g.extra)
      { fits := fun _ hne => absurd hi hne, powered := fun _ hne => absurd hi hne
        still := fun _ hne => absurd hi hne, faultFits := fun _ hne => absurd hi hne
        treats := fun _ hne => absurd List.mem_cons_self hne }
  unfold Machine.setPhase
  exact Midway.reresolve (d := i) hset

theorem Midway.enterOut (h : Midway g s) (hi : i ∈ g.moving) (hidle : g.reach.heads → (s.slot i).egr.tx = .idle)
    (ph : Phase) : Midway g (enterOut i ph s) := by
  have hphase (hk : g.reach.heads) : ((Machine.setPhase i ph s).slot i).egr.tx = .idle := by
    rw [(setPhase_keepsBut i s ph).egr]
    exact hidle hk
  have hempty : Midway g (Machine.emptySwitchQueues i (Machine.setPhase i ph s)) :=
    (h.setPhase hi ph).emptySwitchQueues hphase
  have hafter (hk : g.reach.heads) : ((Machine.emptySwitchQueues i (Machine.setPhase i ph s)).slot i).egr.tx = .idle := by
    rw [emptySwitchQueues_egr]
    dsimp only
    exact hphase hk
  unfold Machine.enterOut
  exact hempty.emptyMgmt hafter

/-- A change of a slot's controls between two states. -/
theorem Midway.setCtl (h : Midway g s) (hi : i ∈ g.moving) {f : Ctl → Ctl} (hf : ∀ c, (f c).phase = c.phase) :
    Midway g (s.modCtl i f) :=
  h.alter (e := g.extra)
    { fits := fun _ hne => absurd hi hne, powered := fun _ hne => absurd hi hne
      still := fun _ hne => absurd hi hne, faultFits := fun _ hne => absurd hi hne
      treats := fun _ _ hx => by
        unfold SlotState.treats at hx ⊢
        rw [show ({ s.slot i with ctl := f (s.slot i).ctl } : SlotState).ctl.phase = (s.slot i).ctl.phase from hf _]
        exact hx }

theorem Midway.powerOffLines (h : Midway g s) (hi : i ∈ g.moving) : Midway g (powerOffLines i s) :=
  (h.setCtl (f := Ctl.poweredOff) hi fun _ => rfl).calm (clearCond_calm (by decide) (slot_lt_64 i) ..)

end Phases

end Sys2Proof.Machine
end

section
/-! PROOFS. Inside an event: a slot enters a state (R126 to R142). -/

namespace Sys2Proof.Machine

/-! ## Arrivals -/

section Arrive

variable {g : Scope} {s t : State} {i : Slot} {ph : Phase} {b : Bool} {k : TimerKind}

/-- A slot with its link DOWN, no chain, no queues and nothing on its transmit side, as far as an invariant asks. -/
structure Vacant (g : Scope) (x : SlotState) : Prop where
  link : g.reach.base → x.port.link = .down
  chain : g.reach.base → x.cursor.state = .idle
  queues : g.reach.queues → x.egr.stream = [] ∧ x.egr.control = [] ∧ x.egr.bulk = [] ∧ x.egr.express = []
  tx : g.reach.queues → x.egr.tx = .idle
  reset : g.reach = .slots → x.ctl.resetOut = false
  inputs : g.reach = .slots → x.ctl.inputsEn = true → x.ctl.pwrEn = true

theorem linkFits_out (h : ph.isOut = true) : ph.linkFits .down = true := by
  cases ph with
  | empty | seated | quiesced | faulted => rfl
  | powering | training | admitted | draining => exact absurd h Bool.false_ne_true

theorem ne_of_out {q : Phase} (h : ph.isOut = true) (hq : q.isOut = false) : ph ≠ q :=
  fun he => Bool.false_ne_true (hq.symm.trans (he ▸ h))

theorem Midway.vacant (h : Midway g s) (hi : i ∉ g.moving) (hout : (s.slot i).ctl.phase.isOut = true) :
    Vacant g (s.slot i) := by
  have hdown (hk : g.reach.base) : (s.slot i).port.link = .down := by
    have hlink := (h.fits hk i hi).1
    revert hlink
    cases hp : (s.slot i).ctl.phase with
    | empty | seated | quiesced | faulted => exact fun hl => beq_iff_eq.mp hl
    | powering | training | admitted | draining => exact absurd hout (by rw [hp]; exact Bool.false_ne_true)
  refine ⟨hdown, fun hk => ?_, fun hk => (h.still hk i hi).1 hout, fun hk => ?_, fun hk => ?_,
    fun hk => (h.powered hk i hi).2.2.1⟩
  · by_contra hne
    exact ne_of_out hout (q := .admitted) rfl ((h.fits hk i hi).2.2.2.2 hne)
  · by_contra hne
    exact LinkState.noConfusion ((hdown (Reach.base_of_queues hk)).symm.trans ((h.still hk i hi).2 hne))
  · refine Bool.eq_false_of_not_eq_true fun hreset => ?_
    exact ne_of_out hout (q := .powering) rfl ((h.powered hk i hi).2.2.2.1.mp hreset)

/-- A slot comes to EMPTY, SEATED, QUIESCED or FAULTED. -/
theorem Midway.arriveOut (h : Midway { g with moving := [i], marked := b } s) (hm : g.moving = [])
    (hv : Vacant g (s.slot i)) (hout : (s.slot i).ctl.phase.isOut = true) (hsub : (s.slot i).ctl.sub = .awake)
    (hreq : (s.slot i).ctl.restReq = false)
    (hdark : g.reach = .slots → (s.slot i).ctl.phase ≠ .quiesced → (s.slot i).ctl.pwrEn = false)
    (htimer : g.reach = .slots → ∀ u, (s.slot i).ctl.timer = some u → u.kind.phase = (s.slot i).ctl.phase)
    (hfault : g.reach = .faults → (s.slot i).faultFits b) : Midway g s := by
  refine h.arrive hm (fun hk => ?_) (fun hk => ?_) (fun hk => ?_) hfault
  · refine ⟨hv.link hk ▸ linkFits_out hout, fun hne => absurd hsub hne, fun hp => absurd hp (ne_of_out hout rfl), ?_, ?_⟩
    · rw [hreq]
      exact fun he => absurd he Bool.false_ne_true
    · exact fun hne => absurd (hv.chain hk) hne
  · refine ⟨fun _ hin => absurd (hin.symm.trans hout) Bool.false_ne_true, fun _ => hdark hk, hv.inputs hk, ?_, htimer hk⟩
    rw [hv.reset hk]
    exact ⟨fun he => absurd he Bool.false_ne_true, fun hp => absurd hp (ne_of_out hout rfl)⟩
  · exact ⟨fun _ => hv.queues hk, fun hne => absurd (hv.tx hk) hne⟩

/-- A slot timer of its slot's state starts. -/
theorem Midway.startTimer (h : Midway g s) (hk : g.reach = .slots → i ∉ g.moving → k.phase = (s.slot i).ctl.phase) :
    Midway g (startTimer i k s) :=
  h.alter (e := g.extra)
    { powered := fun hs hi hx => by
        obtain ⟨hin, hout, hinputs, hreset, -⟩ := hx
        exact ⟨hin, hout, hinputs, hreset, fun u hu => Option.some.inj hu ▸ hk hs hi⟩ }

theorem Midway.seatDebounce (h : Midway g s) (i : Slot) : Midway g (seatDebounce i s) := by
  unfold Machine.seatDebounce
  dsimp only
  split
  · next hempty => exact h.startTimer fun _ _ => hempty.1.symm
  · exact h

end Arrive

/-! ## Slots taken down (R139 to R141) -/

section Down

variable {g : Scope} {s t : State} {i : Slot} {ph : Phase} {b : Bool} {r : FaultReason} {c : Ctl}

theorem takeDown_ctl (ph : Phase) : ((takeDown i ph s).slot i).ctl = (s.slot i).ctl.poweredOff.entering ph := by
  unfold takeDown
  rw [enterOut_ctl, (flushSlot_keepsBut ..).ctl, setLink_ctl, (abortChain_touches ..).ctl, powerOffLines_ctl]

theorem takeDown_link (ph : Phase) : ((takeDown i ph s).slot i).port.link = .down := by
  unfold takeDown
  rw [enterOut_holdsOnly i ph _ i, (flushSlot_keepsBut ..).port]
  exact setLink_link

theorem takeDown_cursor (ph : Phase) : ((takeDown i ph s).slot i).cursor.state = .idle := by
  unfold takeDown
  rw [(enterOut_keepsBut ..).cursor, (flushSlot_keepsBut ..).cursor, setLink_cursor]
  exact abortChain_idle ..

theorem takeDown_egr (ph : Phase) : ((takeDown i ph s).slot i).egr =
    ((setLink i .down (abortChain i .slotLeft (powerOffLines i s))).slot i).egr.noQueues := by
  unfold takeDown
  rw [enterOut_egr, flushSlot_egr]
  rfl

/-- The chain is stopped and the power is off: the egress and the link are as they were. -/
theorem stopped_slot (i : Slot) (s : State) :
    ((abortChain i .slotLeft (powerOffLines i s)).slot i).egr = (s.slot i).egr ∧
    ((abortChain i .slotLeft (powerOffLines i s)).slot i).port = (s.slot i).port := by
  rw [(abortChain_touches ..).egr, (abortChain_touches ..).port, (powerOffLines_touches ..).egr,
    (powerOffLines_touches ..).port]
  exact ⟨rfl, rfl⟩

/-- A link that does not leave UP and RESTING has nothing on its transmit side. -/
theorem Midway.quietLink (h : Midway g s) (hi : i ∉ g.moving) (hk : g.reach.queues) {dst : LinkState}
    (hdst : dst.frames = false) (hno : (s.slot i).port.link.leavesFrames dst = false) : (s.slot i).egr.tx = .idle := by
  by_contra hne
  rw [(h.still hk i hi).2 hne, LinkState.leavesFrames, hdst] at hno
  exact Bool.noConfusion hno

theorem Midway.takeDown (h : Midway g s) (hm : g.moving = []) (hb : g.busy = none) (hh : g.held = none) (i : Slot)
    (ph : Phase) : Midway { g with moving := [i], marked := s.isRaised causeSlotFault i.val } (takeDown i ph s) ∧
      Vacant g ((Machine.takeDown i ph s).slot i) := by
  obtain ⟨g', hg'⟩ : ∃ g', g' = { g with moving := [i], marked := s.isRaised causeSlotFault i.val } := ⟨_, rfl⟩
  have hi : i ∈ g'.moving := hg' ▸ List.mem_cons_self
  obtain ⟨u, hu⟩ : ∃ u, u = Machine.abortChain i .slotLeft (Machine.powerOffLines i s) := ⟨_, rfl⟩
  have hstop : Midway g' u := hu ▸ ((hg' ▸ h.move hm i : Midway g' s).powerOffLines hi).abortChain i .slotLeft
  obtain ⟨huegr, huport⟩ := stopped_slot i s
  have htx (hk : g.reach.queues) : ((Machine.setLink i .down u).slot i).egr.tx = .idle := by
    refine setLink_tx fun hno => ?_
    rw [hu, huport] at hno
    rw [hu, huegr]
    exact h.quietLink (hm ▸ List.not_mem_nil) hk rfl hno
  have hlink : Midway g' (Machine.setLink i .down u) := hstop.setLink hi (hg' ▸ hb) (hg' ▸ hh) .down
  have hreach : g'.reach = g.reach := by rw [hg']
  have hflush := hlink.flushSlot (i := i) fun hk => htx (Reach.queues_of_heads (hreach ▸ hk))
  have hout := hflush.enterOut hi (fun hk => by
    rw [flushSlot_egr]
    exact htx (Reach.queues_of_heads (hreach ▸ hk))) ph
  have heq : Machine.takeDown i ph s = Machine.enterOut i ph (Machine.flushSlot i (Machine.setLink i .down u)) := by
    rw [hu]
    rfl
  refine ⟨by rw [← hg', heq]; exact hout, fun _ => takeDown_link ph, fun _ => takeDown_cursor ph, fun _ => ?_, fun hk => ?_,
    fun _ => ?_, fun _ => ?_⟩
  · rw [takeDown_egr]
    exact ⟨rfl, rfl, rfl, rfl⟩
  · rw [takeDown_egr, ← hu]
    exact htx hk
  · rw [takeDown_ctl]
    rfl
  · rw [takeDown_ctl]
    exact fun he => absurd he Bool.false_ne_true

/-- SLOT-FAULT of a slot that is not FAULTED is not raised, and it has no fault reason. -/
theorem Midway.unmarked (h : Midway g s) (hi : i ∉ g.moving) (hk : g.reach = .faults) (hp : (s.slot i).ctl.phase ≠ .faulted) :
    s.isRaised causeSlotFault i.val = false :=
  Bool.eq_false_of_not_eq_true fun hr => hp ((h.faultFits hk i hi).1.mp hr)

theorem faultFits_clear {x : SlotState} (hp : x.ctl.phase ≠ .faulted) (hr : x.ctl.reason = none) (hb : b = false) :
    x.faultFits b := by
  rw [SlotState.faultFits, hb, hr]
  exact ⟨⟨fun he => absurd he Bool.false_ne_true, fun he => absurd he hp⟩,
    ⟨fun he => absurd he Bool.false_ne_true, fun he => absurd he hp⟩⟩

/-- A slot goes out of traffic for a reason other than a fault. -/
theorem Midway.takeOut (h : Midway g s) (hm : g.moving = []) (hb : g.busy = none) (hh : g.held = none)
    (hp : g.reach = .faults → (s.slot i).ctl.phase ≠ .faulted) (hout : ph.isOut = true) (hne : ph ≠ .faulted) :
    Midway g (Machine.takeDown i ph s) := by
  obtain ⟨hdown, hv⟩ := h.takeDown hm hb hh i ph
  have hctl := takeDown_ctl (i := i) (s := s) ph
  refine hdown.arriveOut hm hv (by rw [hctl]; exact hout) (by rw [hctl]; rfl) (by rw [hctl]; rfl)
    (fun _ _ => by rw [hctl]; rfl) (fun _ u hu => ?_) fun hk => ?_
  · rw [hctl] at hu
    exact Option.noConfusion rfl (heq_of_eq hu)
  · exact faultFits_clear (by rw [hctl]; exact hne) (by rw [hctl]; rfl)
      (h.unmarked (hm ▸ List.not_mem_nil) hk (hp hk))

theorem Midway.remove (h : Midway g s) (hm : g.moving = []) (hb : g.busy = none) (hh : g.held = none)
    (hp : g.reach = .faults → (s.slot i).ctl.phase ≠ .faulted) (n : Nat) : Midway g (remove i n s) :=
  ((h.takeOut hm hb hh hp rfl Phase.noConfusion).seatDebounce i).calm (postEvent_calm ..)

theorem Midway.fault (h : Midway g s) (hm : g.moving = []) (hb : g.busy = none) (hh : g.held = none) (i : Slot)
    (r : FaultReason) : Midway g (fault i r s) := by
  obtain ⟨hdown, hv⟩ := h.takeDown hm hb hh i .faulted
  have hset : Midway { g with moving := [i], marked := s.isRaised causeSlotFault i.val }
      ((Machine.takeDown i .faulted s).modCtl i (fun c => { c with reason := some r })) :=
    hdown.setCtl (f := fun c => { c with reason := some r }) List.mem_cons_self fun _ => rfl
  have hraise := hset.raiseFault (wordOf r.code)
  obtain ⟨t, ht⟩ : ∃ t, t = Machine.fault i r s := ⟨_, rfl⟩
  have hall : Touches [.ctl, .alarm, .mgmt] i (Machine.takeDown i .faulted s) t :=
    ht ▸ (modCtl_touches ..).then (raiseCond_touches ..)
  have hctl : (t.slot i).ctl = { (s.slot i).ctl.poweredOff.entering .faulted with reason := some r } := by
    rw [ht]
    unfold Machine.fault
    rw [(raiseCond_touches i ..).ctl, modCtl_ctl_self, takeDown_ctl]
  have hvt : Vacant g (t.slot i) := by
    refine ⟨fun hk => by rw [hall.port]; exact hv.link hk, fun hk => by rw [hall.cursor]; exact hv.chain hk,
      fun hk => by rw [hall.egr]; exact hv.queues hk, fun hk => by rw [hall.egr]; exact hv.tx hk, fun _ => ?_, fun _ => ?_⟩
    · rw [hctl]
      rfl
    · rw [hctl]
      exact fun he => absurd he Bool.false_ne_true
  have hmid : Midway { g with moving := [i], marked := true } t := ht ▸ hraise
  rw [← ht]
  refine hmid.arriveOut hm hvt (by rw [hctl]; rfl) (by rw [hctl]; rfl) (by rw [hctl]; rfl)
    (fun _ _ => by rw [hctl]; rfl) (fun _ u hu => ?_) fun _ => ?_
  · rw [hctl] at hu
    exact Option.noConfusion rfl (heq_of_eq hu)
  · rw [SlotState.faultFits, hctl]
    exact ⟨⟨fun _ => rfl, fun _ => rfl⟩, ⟨fun _ => rfl, fun _ => rfl⟩⟩

end Down

end Sys2Proof.Machine
end

section
/-! PROOFS. Inside an event: seating, power, training, admission, draining and quiescence (R126 to R138). -/

namespace Sys2Proof.Machine

/-! ## Out of traffic, and to POWERING (R126, R129, R142) -/

section Seats

variable {g : Scope} {s t : State} {i : Slot} {ph : Phase} {b : Bool} {c : Ctl}

theorem enterOut_reason (ph : Phase) : ((enterOut i ph s).slot i).ctl.reason = none := by
  rw [enterOut_ctl]
  rfl

theorem Vacant.enterOut (hv : Vacant g (s.slot i)) (ph : Phase) : Vacant g ((enterOut i ph s).slot i) := by
  refine ⟨fun hk => ?_, fun hk => ?_, fun hk => ?_, fun hk => ?_, fun hk => ?_, fun hk => ?_⟩
  · rw [enterOut_holdsOnly i ph s i]
    exact hv.link hk
  · rw [(enterOut_keepsBut i s ph).cursor]
    exact hv.chain hk
  · obtain ⟨hstream, hcontrol, hbulk, -⟩ := hv.queues hk
    rw [enterOut_egr]
    exact ⟨hstream, hcontrol, hbulk, rfl⟩
  · rw [enterOut_egr]
    exact hv.tx hk
  · rw [enterOut_ctl]
    exact hv.reset hk
  · rw [enterOut_ctl]
    exact hv.inputs hk

theorem Midway.enterOutVacant (h : Midway { g with moving := [i], marked := b } s) (hv : Vacant g (s.slot i)) (ph : Phase) :
    Midway { g with moving := [i], marked := b } (Machine.enterOut i ph s) :=
  h.enterOut List.mem_cons_self (fun hk => hv.tx (Reach.queues_of_heads hk)) ph

/-- A slot out of traffic, with no fault and no power, goes on to EMPTY or SEATED. -/
theorem Midway.enterUnmarked (h : Midway { g with moving := [i], marked := b } s) (hm : g.moving = [])
    (hv : Vacant g (s.slot i)) (hb : g.reach = .faults → b = false)
    (hdark : g.reach = .slots → ph ≠ .quiesced → (s.slot i).ctl.pwrEn = false) (hout : ph.isOut = true)
    (hne : ph ≠ .faulted) : Midway g (Machine.enterOut i ph s) := by
  have hctl := enterOut_ctl (i := i) (s := s) ph
  refine (h.enterOutVacant hv ph).arriveOut hm (hv.enterOut ph) (by rw [hctl]; exact hout) (by rw [hctl]; rfl)
    (by rw [hctl]; rfl) (fun hk hq => ?_) (fun _ u hu => ?_) fun hk => ?_
  · rw [hctl] at hq ⊢
    exact hdark hk hq
  · rw [hctl] at hu
    exact Option.noConfusion rfl (heq_of_eq hu)
  · exact faultFits_clear (by rw [hctl]; exact hne) (enterOut_reason ph) (hb hk)

/-- A slot out of traffic is between two states, with its vacancy. -/
theorem Midway.moveOut (h : Midway g s) (hm : g.moving = []) (hout : (s.slot i).ctl.phase.isOut = true) :
    Midway { g with moving := [i], marked := s.isRaised causeSlotFault i.val } s ∧ Vacant g (s.slot i) :=
  ⟨h.move hm i, h.vacant (hm ▸ List.not_mem_nil) hout⟩

/-- A slot in EMPTY, SEATED or FAULTED has no power. -/
theorem Midway.dark (h : Midway g s) (hi : i ∉ g.moving) (hk : g.reach = .slots)
    (hout : (s.slot i).ctl.phase.isOut = true) (hq : (s.slot i).ctl.phase ≠ .quiesced) : (s.slot i).ctl.pwrEn = false :=
  (h.powered hk i hi).2.1 hout hq

theorem startPowering_ctl : ((startPowering i s).slot i).ctl =
    (s.slot i).ctl.powering
      (((setPhase i .powering s).modCtl i (fun c => { c with pwrEn := true, resetOut := true })).uptime) := by
  unfold startPowering
  rw [startTimer_ctl, modCtl_ctl_self, setPhase_ctl]
  rfl

theorem startPowering_keeps (i : Slot) (s : State) : KeepsBut [.ctl, .ing, .port, .pool, .log, .alarm, .mgmt] s
    (startPowering i s) :=
  ((setPhase_keepsBut i s .powering).then (modCtl_keepsBut ..) (rs := [.ctl, .ing, .port, .pool, .log, .alarm, .mgmt])).then
    (startTimer_touches i _ _).keeps

theorem startPowering_holdsOnly (i : Slot) (s : State) : HoldsOnly s (startPowering i s) :=
  (setPhase_holdsOnly i .powering s).trans (holdsOnly_of_port
    ((modCtl_touches i _ _).then (startTimer_touches i _ _) (rs := [.ctl])).port)

/-- The controls in POWERING, PWR-GOOD seen or not. -/
structure Ctl.Powers (c : Ctl) : Prop where
  phase : c.phase = .powering
  sub : c.sub = .awake
  restReq : c.restReq = false
  pwrEn : c.pwrEn = true
  resetOut : c.resetOut = true
  timer : ∀ u, c.timer = some u → u.kind.phase = .powering
  reason : c.reason = none

theorem goodSeen_powers (h : ((s.slot i).ctl).Powers) : (((goodSeen i s).slot i).ctl).Powers := by
  obtain ⟨d0, d1, hctl⟩ := goodSeen_ctl (i := i) (s := s)
  rw [hctl]
  exact ⟨h.phase, h.sub, h.restReq, h.pwrEn, h.resetOut, fun u hu => Option.some.inj hu ▸ rfl, h.reason⟩

theorem startPowering_powers : (((startPowering i s).slot i).ctl).Powers := by
  rw [startPowering_ctl]
  exact ⟨rfl, rfl, rfl, rfl, rfl, fun u hu => Option.some.inj hu ▸ rfl, rfl⟩

theorem Midway.goodSeen (h : Midway g s) (hp : g.reach = .slots → i ∉ g.moving →
    (s.slot i).ctl.phase = .powering ∧ (s.slot i).ctl.pwrEn = true) : Midway g (goodSeen i s) := by
  have hset : Midway g (s.modCtl i (fun c =>
      { c with inputsEn := true, timer := some { kind := .release, start := s.uptime } })) :=
    h.alter (e := g.extra)
      { powered := fun hk hi hx => by
          obtain ⟨hphase, hon⟩ := hp hk hi
          obtain ⟨hin, hout, -, hreset, -⟩ := hx
          exact ⟨hin, hout, fun _ => hon, hreset, fun u hu => Option.some.inj hu ▸ hphase.symm⟩ }
  exact hset.calm (.setSlot rfl)

theorem Midway.enterPowering (h : Midway g s) (hm : g.moving = []) (hout : (s.slot i).ctl.phase.isOut = true)
    (hp : g.reach = .faults → (s.slot i).ctl.phase ≠ .faulted) : Midway g (enterPowering i s) := by
  obtain ⟨hmove, hv⟩ := h.moveOut hm hout
  have hi : i ∈ ({ g with moving := [i], marked := s.isRaised causeSlotFault i.val } : Scope).moving := List.mem_cons_self
  have hstart : Midway { g with moving := [i], marked := s.isRaised causeSlotFault i.val } (startPowering i s) :=
    ((hmove.setPhase hi .powering).setCtl (f := fun c => { c with pwrEn := true, resetOut := true }) hi
      fun _ => rfl).startTimer fun _ hne => absurd hi hne
  have hseen := hstart.goodSeen (i := i) fun _ hne => absurd hi hne
  obtain ⟨t, ht⟩ : ∃ t, t = Machine.enterPowering i s := ⟨_, rfl⟩
  have hall : Midway { g with moving := [i], marked := s.isRaised causeSlotFault i.val } t ∧ ((t.slot i).ctl).Powers ∧
      Touches [.ctl] i (startPowering i s) t := by
    rw [ht, enterPowering_eq]
    split
    · exact ⟨hseen, goodSeen_powers startPowering_powers, goodSeen_touches ..⟩
    · exact ⟨hstart, startPowering_powers, .refl ..⟩
  obtain ⟨hmid, hc, htouch⟩ := hall
  have hkeeps := startPowering_keeps i s
  have hlink : (t.slot i).port.link = (s.slot i).port.link := by
    rw [htouch.port, startPowering_holdsOnly i s i]
  have hegr : (t.slot i).egr = (s.slot i).egr := by rw [htouch.egr, hkeeps.egr]
  have hcursor : (t.slot i).cursor = (s.slot i).cursor := by rw [htouch.cursor, hkeeps.cursor]
  have hin : (t.slot i).ctl.phase.isOut = false := by
    rw [hc.phase]
    rfl
  rw [← ht]
  refine hmid.arrive hm (fun hk => ?_) (fun hk => ?_) (fun hk => ?_) fun hk => ?_
  · refine ⟨?_, fun hne => absurd hc.sub hne, fun hadm => absurd (hc.phase.symm.trans hadm) Phase.noConfusion,
      fun hreq => absurd (hc.restReq.symm.trans hreq) Bool.false_ne_true, fun hne => absurd ?_ hne⟩
    · rw [hc.phase, hlink, hv.link hk]
      rfl
    · rw [hcursor]
      exact hv.chain hk
  · exact ⟨fun _ _ => hc.pwrEn, fun hx => absurd (hin.symm.trans hx) Bool.false_ne_true, fun _ => hc.pwrEn,
      ⟨fun _ => hc.phase, fun _ => hc.resetOut⟩, fun u hu => (hc.timer u hu).trans hc.phase.symm⟩
  · refine ⟨fun hx => absurd (hin.symm.trans hx) Bool.false_ne_true, fun hne => absurd ?_ hne⟩
    rw [hegr]
    exact hv.tx hk
  · exact faultFits_clear (by rw [hc.phase]; exact Phase.noConfusion) hc.reason
      (h.unmarked (hm ▸ List.not_mem_nil) hk (hp hk))

/-- SEATED, and on to POWERING with auto-power. -/
theorem Midway.enterSeated (h : Midway { g with moving := [i], marked := b } s) (hm : g.moving = [])
    (hv : Vacant g (s.slot i)) (hb : g.reach = .faults → b = false)
    (hdark : g.reach = .slots → (s.slot i).ctl.pwrEn = false) : Midway g (enterSeated i s) := by
  have hseat := h.enterUnmarked hm hv hb (fun hk _ => hdark hk) (ph := .seated) rfl Phase.noConfusion
  unfold Machine.enterSeated
  dsimp only
  split
  · refine hseat.enterPowering hm ?_ fun _ => ?_
    · rw [enterOut_ctl]
      rfl
    · rw [enterOut_ctl]
      exact Phase.noConfusion
  · exact hseat

theorem Midway.enterEmpty (h : Midway { g with moving := [i], marked := b } s) (hm : g.moving = [])
    (hv : Vacant g (s.slot i)) (hb : g.reach = .faults → b = false)
    (hdark : g.reach = .slots → (s.slot i).ctl.pwrEn = false) : Midway g (enterEmpty i s) :=
  (h.enterUnmarked hm hv hb (fun hk _ => hdark hk) (ph := .empty) rfl Phase.noConfusion).seatDebounce i

end Seats

/-! ## Training and admission (R131 to R133) -/

section Trains

variable {g : Scope} {s t : State} {i : Slot} {ph : Phase} {b : Bool} {r : FaultReason}

theorem askTrain_calm (i : Slot) (x : Training) (s : State) : Calm s (askTrain i x s) :=
  Calm.trans (t := s.modCtl i (fun c => { c with train := { x with step := .request } })) (.setSlot rfl) (.setSlot rfl)

theorem setTrain_calm (i : Slot) (x : Training) (s : State) : Calm s (s.modCtl i (fun c => { c with train := x })) :=
  .setSlot rfl

/-- What a slot that trains again had before. -/
structure Retrains (g : Scope) (s : State) (i : Slot) : Prop where
  pwrEn : g.reach = .slots → (s.slot i).ctl.pwrEn = true
  resetOut : g.reach = .slots → (s.slot i).ctl.resetOut = false
  tx : g.reach.queues → (s.slot i).port.link.leavesFrames .training = false → (s.slot i).egr.tx = .idle

theorem Midway.enterTraining (h : Midway { g with moving := [i], marked := b } s) (hm : g.moving = []) (hb : g.busy = none)
    (hh : g.held = none) (hx : Retrains g s i) (hmark : g.reach = .faults → b = false) : Midway g (enterTraining i s) := by
  have hi : i ∈ ({ g with moving := [i], marked := b } : Scope).moving := List.mem_cons_self
  obtain ⟨u, hu⟩ : ∃ u, u = Machine.abortChain i .slotLeft s := ⟨_, rfl⟩
  have hstop : Touches [.cursor, .alarm, .mgmt] i s u := hu ▸ abortChain_touches ..
  have hlink : Midway { g with moving := [i], marked := b } (Machine.setLink i .training u) :=
    (hu ▸ h.abortChain i .slotLeft : Midway _ u).setLink hi hb hh .training
  obtain ⟨v, hv⟩ : ∃ v, v = Machine.setPhase i .training (Machine.setLink i .training u) := ⟨_, rfl⟩
  have hmid : Midway { g with moving := [i], marked := b } v := hv ▸ hlink.setPhase hi .training
  have hctl : (v.slot i).ctl = (s.slot i).ctl.entering .training := by
    rw [hv, setPhase_ctl, setLink_ctl, hstop.ctl]
  have hdown : (v.slot i).port.link = .training := by
    rw [hv, setPhase_holdsOnly i .training _ i]
    dsimp only
    exact setLink_link
  have hidle : (v.slot i).cursor.state = .idle := by
    rw [hv, (setPhase_keepsBut ..).cursor, setLink_cursor, hu]
    exact abortChain_idle ..
  have htx (hk : g.reach.queues) : (v.slot i).egr.tx = .idle := by
    rw [hv, (setPhase_keepsBut ..).egr]
    refine setLink_tx fun hno => ?_
    rw [hstop.port] at hno
    rw [hstop.egr]
    exact hx.tx hk hno
  have harrive : Midway g v := by
    refine hmid.arrive hm (fun hk => ?_) (fun hk => ?_) (fun hk => ?_) fun hk => ?_
    · refine ⟨by rw [hctl, hdown]; rfl, fun hne => absurd (by rw [hctl]; rfl) hne, fun hadm => ?_, fun hreq => ?_,
        fun hne => absurd hidle hne⟩
      · rw [hctl] at hadm
        exact Phase.noConfusion hadm
      · rw [hctl] at hreq
        exact absurd hreq Bool.false_ne_true
    · rw [SlotState.powered, hctl]
      refine ⟨fun _ _ => hx.pwrEn hk, fun hout => absurd hout Bool.false_ne_true, fun _ => hx.pwrEn hk, ⟨fun hr => ?_,
        fun hp => Phase.noConfusion hp⟩, fun u hu => Option.noConfusion rfl (heq_of_eq hu)⟩
      exact absurd ((hx.resetOut hk).symm.trans hr) Bool.false_ne_true
    · refine ⟨fun hout => ?_, fun hne => absurd (htx hk) hne⟩
      rw [hctl] at hout
      exact absurd hout Bool.false_ne_true
    · exact faultFits_clear (by rw [hctl]; exact Phase.noConfusion) (by rw [hctl]; rfl) (hmark hk)
  unfold Machine.enterTraining
  rw [← hu, ← hv]
  exact harrive.calm (askTrain_calm ..)

/-- An ADMITTED slot, or any slot that no fault holds, has its power where it is in traffic. -/
theorem Midway.lit (h : Midway g s) (hi : i ∉ g.moving) (hd : g.dim = none) (hk : g.reach = .slots)
    (hin : (s.slot i).ctl.phase.isOut = false) : (s.slot i).ctl.pwrEn = true :=
  (h.powered hk i hi).1 (by rw [hd]; exact nofun) hin

theorem Midway.released (h : Midway g s) (hi : i ∉ g.moving) (hk : g.reach = .slots)
    (hp : (s.slot i).ctl.phase ≠ .powering) : (s.slot i).ctl.resetOut = false :=
  Bool.eq_false_of_not_eq_true fun hr => hp ((h.powered hk i hi).2.2.2.1.mp hr)

theorem Midway.retrain (h : Midway g s) (hm : g.moving = []) (hb : g.busy = none) (hh : g.held = none) (hd : g.dim = none)
    (hp : (s.slot i).ctl.phase = .admitted) : Midway g (Machine.enterTraining i s) := by
  have hi : i ∉ g.moving := hm ▸ List.not_mem_nil
  refine (h.move hm i).enterTraining hm hb hh
    ⟨fun hk => h.lit hi hd hk (by rw [hp]; rfl), fun hk => h.released hi hk (by rw [hp]; exact Phase.noConfusion),
      fun hk hno => h.quietLink hi hk rfl hno⟩ fun hk => h.unmarked hi hk (by rw [hp]; exact Phase.noConfusion)

theorem setDelay_calm (i : Slot) (d : Nat) (s : State) : Calm s (setDelay i d s) := by
  unfold setDelay
  exact calm_ite (.refl s)
    (Calm.trans (t := s.modCtl i (fun c => { c with delay := d })) (.setSlot rfl) (.setSlot rfl))

theorem Midway.admitSlot (h : Midway g s) (hm : g.moving = []) (hd : g.dim = none)
    (hp : (s.slot i).ctl.phase = .training) (d : Nat) : Midway g (admitSlot i d s) := by
  have hi : i ∉ g.moving := hm ▸ List.not_mem_nil
  obtain ⟨g', hg'⟩ : ∃ g', g' = { g with moving := [i], marked := s.isRaised causeSlotFault i.val } := ⟨_, rfl⟩
  have hi' : i ∈ g'.moving := hg' ▸ List.mem_cons_self
  have hdelay := setDelay_touches i d s
  obtain ⟨u, hu⟩ : ∃ u, u = Machine.setPhase i .admitted (setDelay i d s) := ⟨_, rfl⟩
  have hmid : Midway g' u := hu ▸ ((hg' ▸ h.move hm i : Midway g' s).calm (setDelay_calm i d s)).setPhase hi' .admitted
  have hctl : (u.slot i).ctl = ({ (s.slot i).ctl with delay := d } : Ctl).entering .admitted := by
    rw [hu, setPhase_ctl, setDelay_ctl]
  have hegr : (u.slot i).egr = (s.slot i).egr := by rw [hu, (setPhase_keepsBut ..).egr, hdelay.egr]
  have hcursor : (u.slot i).cursor = (s.slot i).cursor := by rw [hu, (setPhase_keepsBut ..).cursor, hdelay.cursor]
  obtain ⟨v, hv⟩ : ∃ v, v = Machine.setLink i .up u := ⟨_, rfl⟩
  have hup : (v.slot i).port.link = .up := hv ▸ setLink_link
  have hvctl : (v.slot i).ctl = ({ (s.slot i).ctl with delay := d } : Ctl).entering .admitted := by
    rw [hv, setLink_ctl, hctl]
  have hplain : v = u.modPort i (·.withLink .up) := by
    rw [hv]
    exact setLink_plain (by cases (u.slot i).port.link <;> rfl)
  have hset : Midway g' v := by
    rw [hplain]
    exact hmid.alter (e := g'.extra) { fits := fun _ hne => absurd hi' hne, still := fun _ hne => absurd hi' hne }
  have hvt : Touches [.port] i u v := hplain ▸ modPort_touches ..
  have harrive : Midway g v := by
    rw [hg'] at hset
    refine hset.arrive hm (fun hk => ?_) (fun hk => ?_) (fun hk => ?_) fun hk => ?_
    · refine ⟨by rw [hvctl, hup]; rfl, fun _ => by rw [hvctl]; rfl, fun _ _ => hup, fun hreq => ?_,
        fun hne => by rw [hvctl]; rfl⟩
      rw [hvctl] at hreq
      exact absurd hreq Bool.false_ne_true
    · have hon := h.lit hi hd hk (by rw [hp]; rfl)
      rw [SlotState.powered, hvctl]
      refine ⟨fun _ _ => hon, fun hout => absurd hout Bool.false_ne_true, fun _ => hon, ⟨fun hr => ?_,
        fun hx => Phase.noConfusion hx⟩, fun u hu => Option.noConfusion rfl (heq_of_eq hu)⟩
      exact absurd ((h.released hi hk (by rw [hp]; exact Phase.noConfusion)).symm.trans hr) Bool.false_ne_true
    · refine ⟨fun hout => ?_, fun _ => hup⟩
      rw [hvctl] at hout
      exact absurd hout Bool.false_ne_true
    · exact faultFits_clear (by rw [hvctl]; exact Phase.noConfusion) (by rw [hvctl]; rfl)
        (h.unmarked hi hk (by rw [hp]; exact Phase.noConfusion))
  have hreport := postEvent_touches i v causeSlotAdmitted i.val (wordOf d)
  have hlast : Midway g (postEvent causeSlotAdmitted i.val (wordOf d) v) := harrive.calm (postEvent_calm ..)
  unfold Machine.admitSlot
  dsimp only
  rw [← hu, ← hv]
  refine hlast.autoStart fun _ _ => ?_
  rw [hreport.ctl, hvctl]
  rfl

theorem Midway.attemptEnd (h : Midway g s) (hm : g.moving = []) (hb : g.busy = none) (hh : g.held = none) (hd : g.dim = none)
    (hp : (s.slot i).ctl.phase = .training) : Midway g (attemptEnd i s) := by
  have hset : Calm s (s.modCtl i (fun c => { c with lastAnswers := (s.slot i).ctl.train.samples.length })) := .setSlot rfl
  have hphase := (hset.even.phase i).trans hp
  unfold Machine.attemptEnd
  dsimp only
  split
  · split
    · exact ((h.calm hset).calm (setDelay_calm ..)).fault hm hb hh ..
    · exact (h.calm hset).admitSlot hm hd hphase _
  · split
    · refine ((h.calm hset).calm (setTrain_calm i { (s.slot i).ctl.train with step := .gap } _)).startTimer fun _ _ => ?_
      rw [modCtl_ctl_self]
      exact hphase.symm
    · exact (h.calm hset).fault hm hb hh ..

theorem Midway.nextExchange (h : Midway g s) (hm : g.moving = []) (hb : g.busy = none) (hh : g.held = none)
    (hd : g.dim = none) (hp : (s.slot i).ctl.phase = .training) : Midway g (nextExchange i s) := by
  unfold Machine.nextExchange
  dsimp only
  split
  · exact h.calm (askTrain_calm ..)
  · exact h.attemptEnd hm hb hh hd hp

end Trains

end Sys2Proof.Machine
end

section
/-! PROOFS. Inside an event: draining, what is dropped, and the egress-empty reports (R45, R46, R137, R138). -/

namespace Sys2Proof.Machine

/-! ## The entry to QUIESCED (R138) -/

section Quiesce

variable {g : Scope} {s t : State} {i j : Slot} {b : Bool} {d : Option Slot} {n : Nat}

theorem powered_mono {x : SlotState} {lit lit' : Prop} (h : x.powered lit) (hl : lit' → lit) : x.powered lit' := by
  obtain ⟨hin, hrest⟩ := h
  exact ⟨fun hlit => hin (hl hlit), hrest⟩

/-- The slot that lost its power as it began to drain is left out. -/
def Scope.without (d : Option Slot) (i : Slot) : Option Slot := if d = some i then none else d

theorem Midway.relight (h : Midway { g with moving := [i], marked := b, dim := d } s) :
    Midway { g with moving := [i], marked := b, dim := Scope.without d i } s :=
  { h with
    powered := fun hk j hj => powered_mono (h.powered hk j hj) fun hne he => by
      have hji : j ≠ i := fun hji => hj (hji ▸ List.mem_cons_self)
      unfold Scope.without at hne
      split at hne
      next hd => exact hji (Option.some.inj (he.symm.trans hd))
      next => exact hne he }

theorem bare_of_empty (h : s.egressEmpty i = true) : (s.slot i).egr.bare := (egressEmpty_iff.mp h).1

theorem Midway.quiesce (h : Midway { g with dim := d } s) (hm : g.moving = []) (hb : g.busy = none) (hh : g.held = none)
    (hp : (s.slot i).ctl.phase = .draining) (hempty : s.egressEmpty i = true) :
    Midway { g with dim := Scope.without d i } (quiesce i s) := by
  have hi : i ∉ g.moving := hm ▸ List.not_mem_nil
  obtain ⟨htx, hstream, hcontrol, hbulk, hexpress⟩ := bare_of_empty hempty
  have hbare := bare_of_empty hempty
  obtain ⟨g', hg'⟩ : ∃ g', g' = { g with moving := [i], marked := s.isRaised causeSlotFault i.val, dim := d } := ⟨_, rfl⟩
  have hi' : i ∈ g'.moving := hg' ▸ List.mem_cons_self
  have hmove : Midway g' s := hg' ▸ h.move hm i
  obtain ⟨u, hu⟩ : ∃ u, u = if (s.slot i).cfg.autoPowerOff then Machine.powerOffLines i s else s := ⟨_, rfl⟩
  have hoff : Midway g' u ∧ (u.slot i).egr = (s.slot i).egr := by
    rw [hu]
    split
    · exact ⟨hmove.powerOffLines hi', (powerOffLines_touches i s).egr (by decide) i⟩
    · exact ⟨hmove, rfl⟩
  have hlink := hoff.1.setLink hi' (hg' ▸ hb) (hg' ▸ hh) .down
  have hmid : Midway g' (Machine.quiesce i s) := by
    have hout := hlink.enterOut hi' (fun _ => by
      rw [setLink_egr_of_bare _ (by rw [hoff.2]; exact hbare), hoff.2]
      exact htx) .quiesced
    unfold Machine.quiesce
    dsimp only
    rw [← hu]
    exact hout
  have hctl := quiesce_ctl (j := i) (s := s)
  have hegr := quiesce_egr hbare
  have hreset (hk : g.reach = .slots) := Midway.released h hi hk (by rw [hp]; exact Phase.noConfusion)
  have hvac : Vacant { g with dim := Scope.without d i } ((Machine.quiesce i s).slot i) := by
    refine ⟨fun _ => quiesce_link, fun hk => ?_, fun _ => ?_, fun _ => ?_, fun hk => ?_, fun hk => ?_⟩
    · rw [(quiesce_keepsBut i s).cursor]
      by_contra hne
      exact Phase.noConfusion (hp.symm.trans ((h.fits hk i hi).2.2.2.2 hne))
    · rw [hegr]
      exact ⟨hstream, hcontrol, hbulk, hexpress⟩
    · rw [hegr]
      exact htx
    · rw [hctl]
      split
      · rfl
      · exact hreset hk
    · rw [hctl]
      split
      · exact fun he => absurd he Bool.false_ne_true
      · exact (h.powered hk i hi).2.2.1
  have hphase : ((Machine.quiesce i s).slot i).ctl.phase = .quiesced := by rw [hctl]; rfl
  rw [hg'] at hmid
  refine Midway.arriveOut (g := { g with dim := Scope.without d i }) hmid.relight hm hvac (by rw [hphase]; rfl)
    (by rw [hctl]; rfl) (by rw [hctl]; rfl) (fun _ hne => absurd hphase hne) (fun _ v hv => ?_) fun hk => ?_
  · rw [hctl] at hv
    exact Option.noConfusion rfl (heq_of_eq hv)
  · exact faultFits_clear (by rw [hphase]; exact Phase.noConfusion) (by rw [hctl]; rfl)
      (h.unmarked hi hk (by rw [hp]; exact Phase.noConfusion))

/-- Inside an event, with the slot whose power went off as it began to drain still DRAINING with an empty egress. -/
def Leaving (g : Scope) (s : State) : Prop :=
  ∃ d, Midway { g with dim := d } s ∧ ∀ i, d = some i → (s.slot i).ctl.phase = .draining ∧ s.egressEmpty i = true

theorem Midway.leaving (h : Midway g s) (hd : g.dim = none) : Leaving g s :=
  ⟨none, by rw [← hd]; exact h, nofun⟩

theorem Leaving.quiesce (h : Leaving g s) (hm : g.moving = []) (hb : g.busy = none) (hh : g.held = none)
    (hp : (s.slot i).ctl.phase = .draining) (hempty : s.egressEmpty i = true) : Leaving g (quiesce i s) := by
  obtain ⟨d, hmid, hdrained⟩ := h
  refine ⟨_, hmid.quiesce hm hb hh hp hempty, fun j hj => ?_⟩
  have hji : j ≠ i := by
    rintro rfl
    unfold Scope.without at hj
    split at hj
    next => exact Option.noConfusion rfl (heq_of_eq hj)
    next hne => exact hne hj
  have hdj : d = some j := by
    unfold Scope.without at hj
    split at hj
    next => exact Option.noConfusion rfl (heq_of_eq hj)
    next => exact hj
  obtain ⟨hphase, hbare⟩ := hdrained j hdj
  have haside : Aside j s (Machine.quiesce i s) := quiesce_aside hji
  exact ⟨by rw [haside.ctl, hphase], haside.egressEmpty (by rw [hphase]; exact Phase.noConfusion) hbare⟩

theorem Leaving.settleRounds (h : Leaving g s) (hm : g.moving = []) (hb : g.busy = none) (hh : g.held = none) (n : Nat) :
    Leaving g (settleRounds n s) := by
  induction n generalizing s with
  | zero => exact h
  | succ n ih =>
    unfold Machine.settleRounds
    split
    · exact h
    · next j hj =>
      obtain ⟨hp, hempty⟩ := drained_some hj
      exact ih (h.quiesce hm hb hh hp hempty)

theorem settleRounds_settled (hn : (drainingSlots s).card ≤ n) : (settleRounds n s).settled := by
  induction n generalizing s with
  | zero =>
    unfold State.settled
    rw [← Option.not_isSome_iff_eq_none]
    rintro hsome
    obtain ⟨j, hj⟩ := Option.isSome_iff_exists.mp hsome
    have hpos := Finset.card_pos.mpr ⟨j, show j ∈ drainingSlots s from
      Finset.mem_filter.mpr ⟨Finset.mem_univ j, (drained_some hj).1⟩⟩
    omega
  | succ n ih =>
    unfold settleRounds
    split
    · next hnone => exact hnone
    · next j hj =>
      have hcount := drainingSlots_quiesce (drained_some hj).1
      exact ih (by omega)

/-- The egress-empty reports leave no DRAINING slot with an empty egress. -/
theorem settleDrains_settled (s : State) : (settleDrains s).settled :=
  settleRounds_settled ((Finset.card_le_univ _).trans (by decide))

theorem Leaving.settleDrains (h : Leaving g s) (hm : g.moving = []) (hb : g.busy = none) (hh : g.held = none)
    (hd : g.dim = none) : Midway g (settleDrains s) := by
  obtain ⟨d, hmid, hdrained⟩ := h.settleRounds hm hb hh 16
  cases d with
  | none =>
    have hself : ({ g with dim := none } : Scope) = g := by rw [← hd]
    rw [hself] at hmid
    exact hmid
  | some i =>
    obtain ⟨hp, hempty⟩ := hdrained i rfl
    obtain ⟨j, hj⟩ := drained_isSome hp hempty
    exact Option.noConfusion rfl (heq_of_eq ((settleDrains_settled s).symm.trans hj))

end Quiesce

/-! ## The entry to DRAINING (R137) -/

section Drain

variable {g : Scope} {s t : State} {i : Slot}

/-- What a slot has that begins to drain. -/
structure Ctl.Drains (c : Ctl) : Prop where
  phase : c.phase = .draining
  sub : c.sub = .awake
  restReq : c.restReq = false
  resetOut : c.resetOut = false
  timer : ∀ u, c.timer = some u → u.kind.phase = .draining
  reason : c.reason = none

theorem postEvent_out {c : Fin 64} {n : Nat} {w : Word} (h : (s.slot s.mgmtSlot).ctl.phase ≠ .admitted) :
    (postEvent c n w s).mgmt = s.mgmt := by
  unfold postEvent
  split
  · split
    · unfold suppressEvent
      simp
    · rw [postEntry_out _ _ (mgmtSlot_phase_of (t := trackPosted c n s) (by simp) (by simp) h)]
      simp
  · rfl

theorem abortChain_out {r : AbortReason} (h : (s.slot s.mgmtSlot).ctl.phase ≠ .admitted) :
    (abortChain i r s).mgmt = s.mgmt := by
  have hset := setCursor_touches i s Cursor.idle
  unfold abortChain
  dsimp only
  split
  · rfl
  · rw [postEvent_out, hset.mgmt]
    rw [mgmtSlot_of_msel (by rw [hset.mgmt]), hset.ctl]
    exact h

theorem powerOffLines_out (h : (s.slot s.mgmtSlot).ctl.phase ≠ .admitted) : (powerOffLines i s).mgmt = s.mgmt := by
  have hset := modCtl_touches i s Ctl.poweredOff
  have hphase (j : Slot) : ((s.modCtl i Ctl.poweredOff).slot j).ctl.phase = (s.slot j).ctl.phase := by
    by_cases hj : j = i
    · rw [hj, modCtl_ctl_self]
      rfl
    · rw [hset.others j hj]
  have hout := mgmtSlot_phase_of (by rw [hset.mgmt]) hphase h
  have hclear : (powerOffLines i s).mgmt = (s.modCtl i Ctl.poweredOff).mgmt := clearCond_out hout
  rw [hclear, hset.mgmt]

/-- A slot that begins to drain, before a WAKE is asked for. -/
def beginDrain (i : Slot) (s : State) : State :=
  startTimer i .drain (abortChain i .slotLeft (powerOffAtOnce i (setPhase i .draining s)))

theorem enterDraining_begins (i : Slot) (s : State) : enterDraining i s =
    if (s.slot i).ctl.sub = .resting ∧ !(s.slot i).ctl.restReq then
      (beginDrain i s).modPort i (fun p => { p with wakeAsked := true })
    else beginDrain i s := rfl

/-- Whether the power goes off at once. -/
def offAtOnce (i : Slot) (u : State) : Bool := u.egressEmpty i && (u.slot i).cfg.autoPowerOff

theorem powerOffAtOnce_eq (i : Slot) (u : State) : powerOffAtOnce i u = if offAtOnce i u then powerOffLines i u else u := rfl

/-- What a slot that begins to drain is left with. -/
structure Drains (i : Slot) (off : Bool) (s t : State) : Prop where
  ctl : ∃ x, (t.slot i).ctl =
    { (if off then ((s.slot i).ctl.entering .draining).poweredOff else (s.slot i).ctl.entering .draining) with
      timer := some { kind := .drain, start := x } }
  link : (t.slot i).port.link = (s.slot i).port.link
  tx : (t.slot i).egr = (s.slot i).egr
  cursor : (t.slot i).cursor.state = .idle

theorem beginDrain_drains (i : Slot) (s : State) : Drains i (offAtOnce i (setPhase i .draining s)) s (beginDrain i s) := by
  obtain ⟨u, hu⟩ : ∃ u, u = setPhase i .draining s := ⟨_, rfl⟩
  have huctl : (u.slot i).ctl = (s.slot i).ctl.entering .draining := hu ▸ setPhase_ctl _
  obtain ⟨v, hv⟩ : ∃ v, v = powerOffAtOnce i u := ⟨_, rfl⟩
  have huv : Touches [.ctl, .alarm, .mgmt] i u v := by
    rw [hv, powerOffAtOnce_eq]
    exact touches_ite (powerOffLines_touches ..) (.refl ..)
  have hvctl : (v.slot i).ctl = if offAtOnce i u then ((s.slot i).ctl.entering .draining).poweredOff
      else (s.slot i).ctl.entering .draining := by
    rw [hv, powerOffAtOnce_eq]
    split
    · rw [powerOffLines_ctl, huctl]
    · exact huctl
  have hstop := abortChain_touches i v .slotLeft
  have htimer := startTimer_touches i .drain (abortChain i .slotLeft v)
  have hall : beginDrain i s = startTimer i .drain (abortChain i .slotLeft v) := by rw [hv, hu]; rfl
  rw [hall, ← hu]
  refine ⟨⟨(abortChain i .slotLeft v).timing.uptime, ?_⟩, ?_, ?_, ?_⟩
  · rw [startTimer_ctl, hstop.ctl, hvctl]
  · rw [htimer.port, hstop.port, huv.port, hu, setPhase_holdsOnly i .draining s i]
  · rw [htimer.egr, hstop.egr, huv.egr, hu, (setPhase_keepsBut ..).egr]
  · rw [htimer.cursor]
    exact abortChain_idle ..

/-- A slot whose power goes off as it begins to drain has an empty egress. -/
theorem beginDrain_empty (hoff : offAtOnce i (setPhase i .draining s) = true) : (beginDrain i s).egressEmpty i = true := by
  obtain ⟨u, hu⟩ : ∃ u, u = setPhase i .draining s := ⟨_, rfl⟩
  rw [← hu] at hoff
  have huphase : (u.slot i).ctl.phase = .draining := by rw [hu, setPhase_ctl]; rfl
  have hempty : u.egressEmpty i = true := ((Bool.and_eq_true ..).mp hoff).1
  obtain ⟨v, hv⟩ : ∃ v, v = powerOffLines i u := ⟨_, rfl⟩
  have huv : Touches [.ctl, .alarm, .mgmt] i u v := hv ▸ powerOffLines_touches ..
  have hvphase : (v.slot i).ctl.phase = .draining := by rw [hv, powerOffLines_ctl]; exact huphase
  have hstop := abortChain_touches i v .slotLeft
  have htimer := startTimer_touches i .drain (abortChain i .slotLeft v)
  have hall : beginDrain i s = startTimer i .drain (abortChain i .slotLeft v) := by
    unfold beginDrain
    rw [← hu, powerOffAtOnce_eq, hoff, if_pos rfl, hv]
  have hmsel : v.mgmtSlot = u.mgmtSlot := mgmtSlot_of_msel huv.grow.msel
  have hslot : (beginDrain i s).mgmtSlot = u.mgmtSlot := by
    rw [hall, mgmtSlot_of_msel (htimer.grow.msel.trans hstop.grow.msel), hmsel]
  rw [egressEmpty_iff] at hempty ⊢
  obtain ⟨hbare, hreplies⟩ := hempty
  refine ⟨by rwa [hall, htimer.egr, hstop.egr, huv.egr], fun hi => ?_⟩
  have hi' : i = u.mgmtSlot := hi.trans hslot
  have hmgmt : (beginDrain i s).mgmt = u.mgmt := by
    rw [hall, htimer.mgmt, abortChain_out, hv, powerOffLines_out]
    · rw [← hi', huphase]
      exact Phase.noConfusion
    · rw [hmsel, ← hi', hvphase]
      exact Phase.noConfusion
  rw [hmgmt]
  exact hreplies hi'

theorem Midway.beginDrain (h : Midway g s) (hm : g.moving = []) (hd : g.dim = none)
    (hp : (s.slot i).ctl.phase = .admitted) : Leaving g (beginDrain i s) := by
  have hi : i ∉ g.moving := hm ▸ List.not_mem_nil
  obtain ⟨g', hg'⟩ : ∃ g', g' = { g with moving := [i], marked := s.isRaised causeSlotFault i.val } := ⟨_, rfl⟩
  have hi' : i ∈ g'.moving := hg' ▸ List.mem_cons_self
  have hset : Midway g' (Machine.setPhase i .draining s) := (hg' ▸ h.move hm i : Midway g' s).setPhase hi' .draining
  have hoff : Midway g' (Machine.powerOffAtOnce i (Machine.setPhase i .draining s)) := by
    rw [powerOffAtOnce_eq]
    split
    · exact hset.powerOffLines hi'
    · exact hset
  have hmid : Midway g' (Machine.beginDrain i s) :=
    (hoff.abortChain i .slotLeft).startTimer fun _ hne => absurd hi' hne
  obtain ⟨⟨x, hctl⟩, hlink, hegr, hcursor⟩ := beginDrain_drains i s
  have hempty := beginDrain_empty (i := i) (s := s)
  revert hctl hempty
  generalize offAtOnce i (Machine.setPhase i .draining s) = off
  intro hctl hempty
  have hphase : ((Machine.beginDrain i s).slot i).ctl.phase = .draining := by
    rw [hctl]
    cases off <;> rfl
  have hreq : ((Machine.beginDrain i s).slot i).ctl.restReq = false := by
    rw [hctl]
    cases off <;> rfl
  have hsub : ((Machine.beginDrain i s).slot i).ctl.sub = .awake := by
    rw [hctl]
    cases off <;> rfl
  have hreason : ((Machine.beginDrain i s).slot i).ctl.reason = none := by
    rw [hctl]
    cases off <;> rfl
  have hpower (hk : g.reach = .slots) : ((Machine.beginDrain i s).slot i).powered (off = false) := by
    have hon := h.lit hi hd hk (by rw [hp]; rfl)
    have hreset := h.released hi hk (by rw [hp]; exact Phase.noConfusion)
    rw [SlotState.powered, hctl]
    cases off with
    | false =>
      refine ⟨fun _ _ => hon, fun hout => absurd hout Bool.false_ne_true, fun _ => hon,
        ⟨fun hr => absurd (hreset.symm.trans hr) Bool.false_ne_true, fun hp => Phase.noConfusion hp⟩, fun u hu => ?_⟩
      obtain rfl := Option.some.inj hu
      rfl
    | true =>
      refine ⟨fun he => absurd he.symm Bool.false_ne_true, fun hout => absurd hout Bool.false_ne_true,
        fun he => absurd he Bool.false_ne_true, ⟨fun hr => absurd hr Bool.false_ne_true, fun hp => Phase.noConfusion hp⟩,
        fun u hu => ?_⟩
      obtain rfl := Option.some.inj hu
      rfl
  refine ⟨if off then some i else none, ?_, fun j hj => ?_⟩
  · have hdim : Midway { g' with dim := if off then some i else none } (Machine.beginDrain i s) :=
      { hmid with
        powered := fun hk j hj => powered_mono (hmid.powered hk j hj) fun _ => by
          rw [hg']
          show g.dim ≠ some j
          rw [hd]
          exact nofun }
    rw [hg'] at hdim
    refine Midway.arrive (g := { g with dim := if off then some i else none }) hdim hm (fun hk => ?_) (fun hk => ?_)
      (fun hk => ?_) fun hk => ?_
    · refine ⟨?_, fun hne => absurd hsub hne, fun hadm => Phase.noConfusion (hphase.symm.trans hadm),
        fun hr => absurd (hreq.symm.trans hr) Bool.false_ne_true, fun hne => absurd hcursor hne⟩
      have hfits := (h.fits hk i hi).1
      rw [hp] at hfits
      rw [hphase, hlink]
      exact hfits
    · refine powered_mono (hpower hk) fun hne => ?_
      cases off with
      | false => rfl
      | true => exact absurd rfl hne
    · refine ⟨fun hout => ?_, fun hne => ?_⟩
      · rw [hphase] at hout
        exact absurd hout Bool.false_ne_true
      · rw [hlink]
        rw [hegr] at hne
        exact (h.still hk i hi).2 hne
    · exact faultFits_clear (by rw [hphase]; exact Phase.noConfusion) hreason
        (h.unmarked hi hk (by rw [hp]; exact Phase.noConfusion))
  · cases off with
    | false => exact Option.noConfusion rfl (heq_of_eq hj)
    | true =>
      obtain rfl := Option.some.inj hj
      exact ⟨hphase, hempty rfl⟩

theorem askWake_calm (i : Slot) (s : State) : Calm s (s.modPort i (fun p => { p with wakeAsked := true })) := .setSlot rfl

theorem Leaving.modPort (h : Leaving g s) {f : Port → Port} (hc : Calm s (s.modPort i f)) : Leaving g (s.modPort i f) := by
  obtain ⟨d, hmid, hdrained⟩ := h
  have hset := modPort_touches i s f
  refine ⟨d, hmid.calm hc, fun j hj => ?_⟩
  obtain ⟨hp, hempty⟩ := hdrained j hj
  exact ⟨by rw [hset.ctl, hp], by rw [egressEmpty_of_egr (hset.egr (by decide) j) hset.mgmt, hempty]⟩

theorem Midway.enterDraining (h : Midway g s) (hm : g.moving = []) (hd : g.dim = none)
    (hp : (s.slot i).ctl.phase = .admitted) : Leaving g (enterDraining i s) := by
  have hbegin := h.beginDrain hm hd hp
  rw [enterDraining_begins]
  split
  · exact hbegin.modPort (askWake_calm ..)
  · exact hbegin

end Drain

end Sys2Proof.Machine
end

section
/-! PROOFS. Inside an event: what the drain timer drops (R45, R46, R50, R53). -/

namespace Sys2Proof.Machine

section Drop

variable {g : Scope} {s t : State} {i : Slot} {e : Egress} {r r' : Prop} {p x : TxParcel} {tx : Tx} {l : List Nat}

theorem Egress.dropped_queue (e : Egress) (c : Cls) : e.dropped.queue c = (e.queue c).filter e.tx.withdraw.started := by
  cases c <;> rfl

/-- A parcel that a transmit side needs at the head of its queue keeps its place. -/
def Tx.keeps (tx : Tx) (p : TxParcel) : Prop :=
  p.attached = true →
  match p.origin with
  | .express => tx.holdsHead .express = true
  | .reply => True
  | .cls _ => tx.started p.pid = true

theorem Egress.atHead_dropped (h : e.atHead r p) (hk : e.tx.withdraw.keeps p) : e.dropped.atHead r p := by
  intro ha
  have hhead := h ha
  have hkeep := hk ha
  cases ho : p.origin with
  | express =>
    rw [ho] at hhead hkeep
    show keepHead _ e.express ≠ []
    rw [hkeep]
    cases hx : e.express with
    | nil => exact absurd hx hhead
    | cons y q => exact List.cons_ne_nil _ _
  | reply =>
    rw [ho] at hhead
    exact hhead
  | cls c =>
    rw [ho] at hhead hkeep
    show (e.dropped.queue c).head? = some p.pid
    rw [Egress.dropped_queue]
    have hhead : (e.queue c).head? = some p.pid := hhead
    cases hq : e.queue c with
    | nil => exact Option.noConfusion rfl (heq_of_eq ((hq ▸ hhead : ([] : List Nat).head? = some p.pid)))
    | cons v q =>
      rw [hq] at hhead
      obtain rfl := Option.some.inj hhead
      rw [List.filter_cons_of_pos hkeep]
      rfl

/-- What is on a transmit side is left there by a withdrawal only in transmission. -/
theorem Tx.keeps_main (hm : tx.main = some p) (hsent : p.headerSent = true) (hx : p.origin = .express → tx = .sending p) :
    tx.keeps p := by
  intro ha
  cases ho : p.origin with
  | express =>
    rw [hx ho]
    show (p.attached && p.origin == .express) = true
    rw [ha, ho]
    rfl
  | reply => trivial
  | cls c =>
    show tx.started p.pid = true
    unfold Tx.started
    rw [hm]
    simp [ha, hsent, ho]

theorem Egress.heads_dropped (h : e.heads r) : e.dropped.heads r := by
  have hall := h
  obtain ⟨hat, hmain, hin⟩ := hall
  have hone (q : TxParcel) (hq : e.tx.main = some q) (hsent : q.headerSent = true) (hw : e.tx.withdraw = .sending q) :
      e.dropped.heads r := by
    have htx : e.dropped.tx = .sending q := hw
    unfold Egress.heads
    rw [htx]
    refine ⟨fun p hp => ?_, fun p hp => ?_, fun p x hp => Tx.noConfusion hp⟩
    · obtain rfl := List.mem_singleton.mp hp
      exact Egress.atHead_dropped (hat p (Tx.mem_of_main hq)) (hw ▸ Tx.keeps_main rfl hsent fun _ => rfl)
    · obtain rfl := Option.some.inj hp
      exact ⟨fun hno => absurd (hno.symm.trans hsent) Bool.false_ne_true, fun hne => absurd rfl hne⟩
  have hsent (q : TxParcel) (hq : e.tx.main = some q) (hne : e.tx ≠ .sending q) : q.headerSent = true :=
    Bool.eq_true_of_not_eq_false fun hno => hne ((hmain q hq).1 hno).1
  cases htx : e.tx with
  | idle => exact Egress.heads_idle (by show e.tx.withdraw = _; rw [htx]; rfl)
  | sending q =>
    cases hleft : q.headerSent with
    | false => exact Egress.heads_idle (by show e.tx.withdraw = _; rw [htx]; simp [Tx.withdraw, TxParcel.notLeft, hleft])
    | true => exact hone q (by rw [htx]; rfl) hleft (by rw [htx]; simp [Tx.withdraw, TxParcel.notLeft, hleft])
  | insertCalled q m =>
    exact hone q (by rw [htx]; rfl) (hsent q (by rw [htx]; rfl) (by rw [htx]; exact Tx.noConfusion)) (by rw [htx]; rfl)
  | bracket q y =>
    have hw : e.tx.withdraw = e.tx := by rw [htx]; rfl
    have hdtx : e.dropped.tx = e.tx := hw
    have hqm : e.tx.main = some q := by rw [htx]; rfl
    have hne : e.tx ≠ .sending q := by rw [htx]; exact Tx.noConfusion
    unfold Egress.heads
    rw [hdtx]
    refine ⟨fun p hp => Egress.atHead_dropped (hat p hp) ?_, hmain, hin⟩
    rw [hw]
    rw [htx] at hp
    rcases List.mem_cons.mp hp with rfl | hp
    · refine Tx.keeps_main hqm (hsent p hqm hne) fun ho => ?_
      rcases (hmain p hqm).2 hne with hc | hc <;> exact Origin.noConfusion (ho.symm.trans hc)
    · obtain rfl := List.mem_singleton.mp hp
      intro ha
      rw [hin q p htx, htx]
      show ((q.attached && q.origin == .express) || (p.attached && p.origin == .express)) = true
      rw [ha, hin q p htx, Bool.or_eq_true]
      exact .inr rfl
  | continueDue q =>
    have hw : e.tx.withdraw = e.tx := by rw [htx]; rfl
    have hdtx : e.dropped.tx = e.tx := hw
    have hqm : e.tx.main = some q := by rw [htx]; rfl
    have hne : e.tx ≠ .sending q := by rw [htx]; exact Tx.noConfusion
    unfold Egress.heads
    rw [hdtx]
    refine ⟨fun p hp => Egress.atHead_dropped (hat p hp) ?_, hmain, hin⟩
    rw [hw]
    rw [htx] at hp
    obtain rfl := List.mem_singleton.mp hp
    refine Tx.keeps_main hqm (hsent p hqm hne) fun ho => ?_
    rcases (hmain p hqm).2 hne with hc | hc <;> exact Origin.noConfusion (ho.symm.trans hc)

/-- A transmit side with no reply at a queue's head asks nothing of the reply queue. -/
theorem Egress.heads_noReply (h : e.heads r) (hno : e.tx.holdsHead .reply = false) : e.heads r' := by
  obtain ⟨hat, hmain, hin⟩ := h
  refine ⟨fun p hp ha => ?_, hmain, hin⟩
  have hhead := hat p hp ha
  cases ho : p.origin with
  | express => rw [ho] at hhead; exact hhead
  | cls c => rw [ho] at hhead; exact hhead
  | reply =>
    have hreply : (p.attached && p.origin == .reply) = true := by rw [ha, ho]; rfl
    refine absurd hno ?_
    rw [Bool.not_eq_false]
    cases htx : e.tx with
    | idle =>
      rw [htx] at hp
      exact absurd hp List.not_mem_nil
    | sending q | insertCalled q _ | continueDue q =>
      rw [htx] at hp
      obtain rfl := List.mem_singleton.mp hp
      exact hreply
    | bracket q y =>
      rw [htx] at hp
      show ((q.attached && q.origin == .reply) || (y.attached && y.origin == .reply)) = true
      rw [Bool.or_eq_true]
      rcases List.mem_cons.mp hp with rfl | hp
      · exact .inl hreply
      · obtain rfl := List.mem_singleton.mp hp
        exact .inr hreply

theorem count_filters (f : Nat → Bool) (l : List Nat) (v : Nat) :
    (l.filter f).count v + (l.filter (fun w => !f w)).count v = l.count v := by
  induction l with
  | nil => rfl
  | cons w l ih =>
    cases hw : f w with
    | true =>
      rw [List.filter_cons_of_pos hw, List.filter_cons_of_neg (by simp [hw]), List.count_cons, List.count_cons]
      omega
    | false =>
      rw [List.filter_cons_of_neg (by simp [hw]), List.filter_cons_of_pos (by simp [hw]), List.count_cons, List.count_cons]
      omega

/-- The parcels whose queue holds a drop releases. -/
def Egress.gone (e : Egress) : List Nat :=
  (e.stream.filter (fun v => !e.tx.withdraw.started v)) ++ (e.control.filter (fun v => !e.tx.withdraw.started v)) ++
    (e.bulk.filter (fun v => !e.tx.withdraw.started v))

theorem holdsOf_dropped (e : Egress) (v : Nat) : e.dropped.holdsOf v + e.gone.count v = e.holdsOf v := by
  have hstream := count_filters e.tx.withdraw.started e.stream v
  have hcontrol := count_filters e.tx.withdraw.started e.control v
  have hbulk := count_filters e.tx.withdraw.started e.bulk v
  unfold Egress.gone Egress.holdsOf Egress.dropped
  rw [List.count_append, List.count_append]
  dsimp only
  omega

theorem keepHead_length {α : Type} (b : Bool) (q : List α) : (keepHead b q).length ≤ q.length := by
  cases b with
  | false => exact Nat.zero_le _
  | true => exact List.length_take_le' ..

theorem withdraw_idle (h : tx.withdraw ≠ .idle) : tx ≠ .idle := by
  rintro rfl
  exact h rfl

theorem dropParcels_eq (i : Slot) (s : State) : dropParcels i s =
    (s.slot i).egr.gone.foldl (fun t pid => releaseHold pid t) (s.modEgr i Egress.dropped) := by
  have hboth : (s.modEgr i (fun e => { e with tx := e.tx.withdraw })).modEgr i (fun e =>
      { e with
        stream := e.stream.filter e.tx.started, control := e.control.filter e.tx.started,
        bulk := e.bulk.filter e.tx.started, express := keepHead (e.tx.holdsHead .express) e.express }) =
      s.modEgr i Egress.dropped := by
    unfold State.modEgr
    rw [slot_setSlot_self, setSlot_setSlot]
    rfl
  unfold dropParcels
  dsimp only
  rw [modEgr_egr_self]
  dsimp only
  rw [hboth]
  rfl

theorem Midway.dropParcels (h : Midway g s) (i : Slot) : Midway g (dropParcels i s) := by
  have hset : Midway { g with extra := (s.slot i).egr.gone ++ g.extra } (s.modEgr i Egress.dropped) := by
    refine h.alter (e := (s.slot i).egr.gone ++ g.extra)
      { still := fun _ _ hx => ⟨fun hout => ?_, fun htx => hx.2 (withdraw_idle htx)⟩
        heads := fun _ hx => Egress.heads_dropped hx
        counted := fun _ v => ?_
        expressFits := fun _ hx => Nat.le_trans (keepHead_length ..) hx }
    · obtain ⟨hstream, hcontrol, hbulk, hexpress⟩ := hx.1 hout
      unfold Egress.dropped
      dsimp only
      rw [hstream, hcontrol, hbulk, hexpress]
      refine ⟨rfl, rfl, rfl, ?_⟩
      cases (s.slot i).egr.tx.withdraw.holdsHead .express <;> rfl
    · have hdrop := holdsOf_dropped (s.slot i).egr v
      show (s.slot i).egr.dropped.holdsOf v + (s.slot i).ing.holds v + _ =
        (s.slot i).egr.holdsOf v + (s.slot i).ing.holds v + _
      rw [List.count_append]
      omega
  rw [dropParcels_eq]
  exact Midway.releaseAll _ hset

theorem Midway.keepReply (h : Midway g s) (i : Slot) : Midway g (Machine.dropReplies i s) := by
  unfold Machine.dropReplies
  split
  · next hi =>
    refine h.modMgmt (c := g.claim) { heads := fun hk j hx => ?_, fit := fun _ hf => ?_ }
    · by_cases hj : j = i
      · subst hj
        cases hheld : (s.slot j).egr.tx.holdsHead .reply with
        | false => exact Egress.heads_noReply hx hheld
        | true =>
          refine Egress.heads_mono (fun hr => ⟨hr.1, ?_⟩) hx
          show keepHead true s.mgmt.replies ≠ []
          cases hq : s.mgmt.replies with
          | nil => exact absurd hq hr.2
          | cons y q => exact List.cons_ne_nil _ _
      · exact Egress.heads_mono (fun hr => absurd (hr.1.trans hi.symm) hj) hx
    · have hlen := keepHead_length ((s.slot i).egr.tx.holdsHead .reply) s.mgmt.replies
      exact Nat.le_trans (Nat.add_le_add_right hlen _) hf
  · exact h

/-- All that waits in a slot's queues is dropped. -/
theorem Midway.dropWaiting (h : Midway g s) (i : Slot) : Midway g (dropWaiting i s) := by
  rw [dropWaiting_eq]
  exact (h.dropParcels i).keepReply i

end Drop

end Sys2Proof.Machine
end

section
/-! PROOFS. Inside an event: choices, words and marks of the transmit side (R5, R8, R11, R14, R49 to R55). -/

namespace Sys2Proof.Machine

/-! ## What stands on a transmit side -/

section Heads

variable {e e' : Egress} {r : Prop} {p q x : TxParcel} {tx : Tx} {m : InsertMode}

/-- Parcels of one queue's place. -/
def TxParcel.alike (p q : TxParcel) : Prop := q.origin = p.origin ∧ q.pid = p.pid ∧ q.attached = p.attached

theorem TxParcel.alike_refl (p : TxParcel) : p.alike p := ⟨rfl, rfl, rfl⟩

/-- The queues hold at their heads what they held. -/
structure Egress.Holds (e e' : Egress) : Prop where
  queue : ∀ c, e'.queue c = e.queue c
  express : e.express ≠ [] → e'.express ≠ []

theorem Egress.Holds.of_queues (hstream : e'.stream = e.stream) (hcontrol : e'.control = e.control)
    (hbulk : e'.bulk = e.bulk) (hexpress : e.express ≠ [] → e'.express ≠ []) : e.Holds e' := by
  refine ⟨fun c => ?_, hexpress⟩
  cases c
  · exact hstream
  · exact hcontrol
  · exact hbulk

theorem Egress.atHead_alike (h : e.atHead r p) (hq : p.alike q) (hh : e.Holds e') : e'.atHead r q := by
  obtain ⟨ho, hpid, ha⟩ := hq
  intro hat
  have := h (ha ▸ hat)
  rw [ho, hpid]
  cases hop : p.origin with
  | express =>
    rw [hop] at this
    exact hh.express this
  | reply =>
    rw [hop] at this
    exact this
  | cls c =>
    rw [hop] at this
    have : (e.queue c).head? = some p.pid := this
    show (e'.queue c).head? = some p.pid
    rw [hh.queue c]
    exact this

/-- A parcel stands between parcels, or in transmission, alone. -/
theorem Egress.heads_sending (htx : e.tx = .sending p) (hat : e.atHead r p) (hs : p.headerSent = false → p.attached = true) :
    e.heads r := by
  unfold Egress.heads
  rw [htx]
  refine ⟨fun q hq => ?_, fun q hq => ?_, fun q x hq => Tx.noConfusion hq⟩
  · exact List.mem_singleton.mp hq ▸ hat
  · obtain rfl := Option.some.inj hq
    exact ⟨fun hno => ⟨rfl, hs hno⟩, fun hne => absurd rfl hne⟩

/-- A CONTROL or BULK parcel in transmission is interrupted. -/
theorem Egress.heads_interrupted (htx : e.tx = .insertCalled p m ∨ e.tx = .continueDue p) (hat : e.atHead r p)
    (hs : p.headerSent = true) (ho : p.origin = .cls .control ∨ p.origin = .cls .bulk) : e.heads r := by
  unfold Egress.heads
  rcases htx with htx | htx
  · rw [htx]
    refine ⟨fun q hq => List.mem_singleton.mp hq ▸ hat, fun q hq => ?_, fun q x hq => Tx.noConfusion hq⟩
    obtain rfl := Option.some.inj hq
    exact ⟨fun hno => absurd (hno.symm.trans hs) Bool.false_ne_true, fun _ => ho⟩
  · rw [htx]
    refine ⟨fun q hq => List.mem_singleton.mp hq ▸ hat, fun q hq => ?_, fun q x hq => Tx.noConfusion hq⟩
    obtain rfl := Option.some.inj hq
    exact ⟨fun hno => absurd (hno.symm.trans hs) Bool.false_ne_true, fun _ => ho⟩

/-- An express parcel stands inside a bracket. -/
theorem Egress.heads_bracket (htx : e.tx = .bracket p x) (hat : e.atHead r p) (hx : e.atHead r x) (hxo : x.origin = .express)
    (hs : p.headerSent = true) (ho : p.origin = .cls .control ∨ p.origin = .cls .bulk) : e.heads r := by
  unfold Egress.heads
  rw [htx]
  refine ⟨fun q hq => ?_, fun q hq => ?_, fun q y hq => ?_⟩
  · rcases List.mem_cons.mp hq with rfl | hq
    · exact hat
    · exact List.mem_singleton.mp hq ▸ hx
  · obtain rfl := Option.some.inj hq
    exact ⟨fun hno => absurd (hno.symm.trans hs) Bool.false_ne_true, fun _ => ho⟩
  · injection hq with _ hy
    exact hy ▸ hxo

/-- What heads say of an interrupted parcel. -/
theorem Egress.interrupted (h : e.heads r) (hm : e.tx.main = some p) (hne : e.tx ≠ .sending p) :
    e.atHead r p ∧ p.headerSent = true ∧ (p.origin = .cls .control ∨ p.origin = .cls .bulk) := by
  obtain ⟨hat, hmain, -⟩ := h
  exact ⟨hat p (Tx.mem_of_main hm), Bool.eq_true_of_not_eq_false fun hno => hne ((hmain p hm).1 hno).1, (hmain p hm).2 hne⟩

/-- The parcel whose words leave next is replaced by one in transmission from the same queue. -/
theorem Egress.heads_setCurrent (h : e.heads r) (hp : e.tx.current = some p) (hq : p.alike q) (hs : q.headerSent = true)
    (hh : e.Holds e') (htx : e'.tx = e.tx.setCurrent q ∨ e'.tx = (e.tx.setCurrent q).wordGone) : e'.heads r := by
  have hat (y : TxParcel) (hy : y ∈ e.tx.parcels) (z : TxParcel) (hz : y.alike z) : e'.atHead r z :=
    Egress.atHead_alike (h.1 y hy) hz hh
  cases he : e.tx with
  | idle =>
    rw [he] at hp
    exact Option.noConfusion rfl (heq_of_eq hp)
  | sending y =>
    rw [he] at hp
    obtain rfl := Option.some.inj hp
    refine Egress.heads_sending (p := q) (by rw [he] at htx; exact htx.elim id id) ?_
      fun hno => absurd (hno.symm.trans hs) Bool.false_ne_true
    exact hat y (he ▸ List.mem_cons_self) q hq
  | insertCalled y m =>
    obtain ⟨-, -, ho⟩ := Egress.interrupted h (p := y) (by rw [he]; rfl) (by rw [he]; exact Tx.noConfusion)
    rw [he] at hp
    obtain rfl := Option.some.inj hp
    have hform : ∃ k, e'.tx = .insertCalled q k := by
      rw [he] at htx
      rcases htx with htx | htx
      · exact ⟨m, htx⟩
      · cases m with
        | wordOwed => exact ⟨_, htx⟩
        | suspendDue => exact ⟨_, htx⟩
        | follow => exact ⟨_, htx⟩
    obtain ⟨k, hk⟩ := hform
    exact Egress.heads_interrupted (.inl hk) (hat y (he ▸ List.mem_cons_self) q hq) hs (by rw [hq.1]; exact ho)
  | bracket y z =>
    obtain ⟨-, hys, ho⟩ := Egress.interrupted h (p := y) (by rw [he]; rfl) (by rw [he]; exact Tx.noConfusion)
    have hzo := h.2.2 y z he
    rw [he] at hp
    obtain rfl := Option.some.inj hp
    refine Egress.heads_bracket (p := y) (x := q) (by rw [he] at htx; exact htx.elim id id)
      (hat y (he ▸ List.mem_cons_self) y y.alike_refl)
      (hat z (he ▸ List.mem_cons_of_mem _ List.mem_cons_self) q hq) (hq.1.trans hzo) hys ho
  | continueDue y =>
    obtain ⟨-, -, ho⟩ := Egress.interrupted h (p := y) (by rw [he]; rfl) (by rw [he]; exact Tx.noConfusion)
    rw [he] at hp
    obtain rfl := Option.some.inj hp
    exact Egress.heads_interrupted (m := .follow) (.inr (by rw [he] at htx; exact htx.elim id id))
      (hat y (he ▸ List.mem_cons_self) q hq) hs (by rw [hq.1]; exact ho)

end Heads

/-! ## Marks (R8, R11, R14, R15) -/

section Marks

variable {g : Scope} {s t : State} {i : Slot}

theorem sendWord_calm (i : Slot) (w : LinkWord) (s : State) : Calm s (sendWord i w s) := .setSlot rfl

theorem sendMark_calm (i : Slot) (n : Nat) (s : State) : Calm s (sendMark i n s) := sendWord_calm ..

theorem sendHoldMark_calm (i : Slot) (s : State) : Calm s (sendHoldMark i s) := by
  unfold sendHoldMark
  dsimp only
  exact calm_ite (Calm.trans (t := s.modPort i (fun p => { p with announcedHeld := (s.slot i).port.holdReq }))
    (.setSlot rfl) (sendMark_calm ..)) (.refl s)

theorem sendWake_calm (i : Slot) (s : State) : Calm s (sendWake i s) := by
  unfold sendWake
  dsimp only
  exact calm_ite (Calm.trans (t := s.modPort i (fun x => { x with wakeAsked := false }))
    (.setSlot rfl) (sendMark_calm ..)) (.refl s)

theorem clearTrainReq_calm (i : Slot) (s : State) : Calm s (s.modPort i (fun p => { p with trainReq := none })) :=
  .setSlot rfl

theorem sendTrainReq_calm (i : Slot) (s : State) : Calm s (sendTrainReq i s) := by
  unfold sendTrainReq
  dsimp only
  split
  · exact .refl s
  · exact calm_ite (((clearTrainReq_calm i s).trans (sendWord_calm ..)).trans (.setSlot rfl)) (.refl s)

/-- The parcel in transmission is interrupted where R53 calls for it. -/
theorem Midway.callInsertion (h : Midway g s) (i : Slot) : Midway g (callInsertion i s) := by
  unfold Machine.callInsertion
  split
  · next p htx =>
    split
    · next hcall =>
      have hint : p.interruptible = true := by
        simp only [Bool.and_eq_true] at hcall
        exact hcall.1.2
      have hparts : (p.headerSent = true ∧ p.early = false) ∧ (p.origin = .cls .control ∨ p.origin = .cls .bulk) := by
        simpa [TxParcel.interruptible] using hint
      refine h.alter (e := g.extra)
        { still := fun _ _ hx => ⟨hx.1, fun _ => hx.2 (by rw [htx]; exact Tx.noConfusion)⟩
          heads := fun _ hx => Egress.heads_interrupted (p := p) (.inl rfl) ?_ hparts.1.1 hparts.2 }
      have hat := hx.1 p (by rw [htx]; exact List.mem_cons_self)
      exact hat
    · exact h
  · exact h

theorem Midway.sendContinue (h : Midway g s) (i : Slot) : Midway g (sendContinue i s) := by
  unfold Machine.sendContinue
  split
  · next p htx =>
    split
    · have hset : Midway g (s.modEgr i (fun e => { e with tx := .sending p })) := by
        refine h.alter (e := g.extra)
          { still := fun _ _ hx => ⟨hx.1, fun _ => hx.2 (by rw [htx]; exact Tx.noConfusion)⟩
            heads := fun _ hx => ?_ }
        obtain ⟨hat, hs, -⟩ := Egress.interrupted hx (p := p) (by rw [htx]; rfl) (by rw [htx]; exact Tx.noConfusion)
        exact Egress.heads_sending (p := p) rfl hat fun hno => absurd (hno.symm.trans hs) Bool.false_ne_true
      exact (hset.calm (sendMark_calm ..)).callInsertion i
    · exact h
  · exact h

theorem Midway.sendSuspend (h : Midway g s) (i : Slot) : Midway g (sendSuspend i s) := by
  unfold Machine.sendSuspend
  split
  · next p x q htx hx =>
    split
    · have hset : Midway g (s.modEgr i (fun e => { e with tx := .bracket p (txExpress x) })) := by
        refine h.alter (e := g.extra)
          { still := fun _ _ hx => ⟨hx.1, fun _ => hx.2 (by rw [htx]; exact Tx.noConfusion)⟩
            heads := fun _ hh => ?_ }
        obtain ⟨hat, hs, ho⟩ := Egress.interrupted hh (p := p) (by rw [htx]; rfl) (by rw [htx]; exact Tx.noConfusion)
        refine Egress.heads_bracket (p := p) (x := txExpress x) rfl hat (fun _ => ?_) rfl hs ho
        show (s.slot i).egr.express ≠ []
        rw [hx]
        exact List.cons_ne_nil _ _
      exact hset.calm (sendMark_calm ..)
    · exact h
  · exact h

theorem rested_eq (i : Slot) (s : State) :
    ((s.modCtl i (fun c => { c with restReq := false })).modPort i (fun p => { p with link := .resting })).modEgr i
      (fun e => { e with tx := .idle }) = s.setSlot i { s.slot i with
        ctl := { (s.slot i).ctl with restReq := false }, port := { (s.slot i).port with link := .resting },
        egr := { (s.slot i).egr with tx := .idle } } := by
  unfold State.modEgr State.modPort State.modCtl
  rw [slot_setSlot_self, setSlot_setSlot, slot_setSlot_self, setSlot_setSlot]

theorem Midway.sendRest (h : Midway g s) (i : Slot) : Midway g (sendRest i s) := by
  unfold Machine.sendRest
  split
  · next hgo =>
    have hreq : (s.slot i).ctl.restReq = true := by
      simp only [State.restWaits, Bool.and_eq_true] at hgo
      exact hgo.1.2.1.1
    rw [rested_eq]
    have hset : Midway g (s.setSlot i { s.slot i with
        ctl := { (s.slot i).ctl with restReq := false }, port := { (s.slot i).port with link := .resting },
        egr := { (s.slot i).egr with tx := .idle } }) := by
      refine h.alter (e := g.extra)
        { fits := fun _ _ hx => ?_
          still := fun _ _ hx => ⟨hx.1, fun hne => absurd rfl hne⟩
          heads := fun _ _ => Egress.heads_idle rfl }
      obtain ⟨-, hsub, -, hrest, hchain⟩ := hx
      have hresting := (hrest hreq).1
      have hadm : (s.slot i).ctl.phase = .admitted := hsub (by rw [hresting]; exact SubMode.noConfusion)
      refine ⟨?_, fun _ => hadm, fun _ hawake => ?_, fun hno => absurd hno Bool.false_ne_true, hchain⟩
      · show (s.slot i).ctl.phase.linkFits .resting = true
        rw [hadm]
        rfl
      · exact SubMode.noConfusion (hresting.symm.trans hawake)
    exact hset.calm (sendMark_calm ..)
  · exact h

end Marks

end Sys2Proof.Machine
end

section
/-! PROOFS. Inside an event: choices, words and ends of transmission (R5, R44, R47 to R54). -/

namespace Sys2Proof.Machine

/-! ## Choices (R49, R50) -/

section Choices

variable {g : Scope} {s t : State} {i : Slot} {p : TxParcel} {c : Cls}

/-- A parcel at the head of its queue is handed over. -/
theorem Midway.startTx (h : Midway g s) (hup : (s.slot i).port.link = .up) (hatt : p.attached = true)
    (hat : (s.slot i).egr.atHead (s.hasReply i) p) : Midway g (s.modEgr i (fun e => { e with tx := .sending p })) :=
  h.alter (e := g.extra)
    { still := fun _ _ hx => ⟨hx.1, fun _ => hup⟩
      heads := fun _ _ => Egress.heads_sending (p := p) rfl hat fun _ => hatt }

theorem Midway.startExpress (h : Midway g s) (hup : (s.slot i).port.link = .up) : Midway g (startExpress i s) := by
  unfold Machine.startExpress
  split
  · exact h
  · next x r hq =>
    refine h.startTx hup rfl fun _ => ?_
    show (s.slot i).egr.express ≠ []
    rw [hq]
    exact List.cons_ne_nil _ _

theorem Midway.startReply (h : Midway g s) (hup : (s.slot i).port.link = .up) (hi : i = s.mgmtSlot) :
    Midway g (startReply i s) := by
  unfold Machine.startReply
  split
  · exact h
  · next x r hq =>
    refine h.startTx hup rfl fun _ => ?_
    show s.hasReply i
    exact ⟨hi, by rw [hq]; exact List.cons_ne_nil _ _⟩

theorem Midway.startClass (h : Midway g s) (hup : (s.slot i).port.link = .up) (c : Cls) : Midway g (startClass i c s) := by
  unfold Machine.startClass
  split
  · exact h
  · next pid r hq =>
    split
    · exact h
    · next x _ =>
      refine h.startTx hup rfl fun _ => ?_
      show ((s.slot i).egr.queue c).head? = some pid
      rw [hq]
      rfl

theorem Midway.atChoice (h : Midway g s) (i : Slot) : Midway g (s.modEgr i Egress.atChoice) :=
  h.alter (e := g.extra)
    { still := fun _ _ hx => ⟨hx.1, fun hne => absurd rfl hne⟩
      heads := fun _ _ => Egress.heads_idle rfl }

theorem Midway.makeChoice (h : Midway g s) (i : Slot) : Midway g (makeChoice i s) := by
  unfold Machine.makeChoice
  split
  · next hmay =>
    have hlink : (s.slot i).port.link = .up := by
      simp only [State.mayChoose, Bool.and_eq_true, beq_iff_eq] at hmay
      exact hmay.1.1.2
    have hup : ((s.modEgr i Egress.atChoice).slot i).port.link = .up := by
      simpa using hlink
    have hchoice := h.atChoice i
    unfold choose
    dsimp only
    split
    · exact hchoice.startExpress hup
    split
    · exact hchoice
    split
    · next hreply =>
      simp only [Bool.and_eq_true, beq_iff_eq] at hreply
      exact hchoice.startReply hup hreply.1
    split
    · exact hchoice
    · exact hchoice.startClass hup _
  · exact h

/-- A parcel is offered to an express queue that is in traffic (R47). -/
theorem Midway.offerExpress (h : Midway g s) (hin : g.reach.queues → i ∉ g.moving → (s.slot i).ctl.phase.isOut = false)
    (p : ExpressParcel) (lost : Word) : Midway g (offerExpress i p lost s) := by
  unfold Machine.offerExpress
  split
  · next hroom =>
    refine Midway.callInsertion (h.alter (e := g.extra)
      { still := fun hk hi hx => ⟨fun hout => absurd hout (by rw [hin hk hi]; exact Bool.false_ne_true), fun htx => ?_⟩
        heads := fun _ hx => Egress.heads_occasion
          (e := { (s.slot i).egr with express := (s.slot i).egr.express ++ [p] })
          (Egress.heads_of hx rfl fun q _ hat ha => ?_)
        expressFits := fun _ hx => ?_ }) i
    · exact hx.2 (Egress.occasion_tx htx)
    · have := hat ha
      cases ho : q.origin with
      | express => exact fun hnil => absurd (List.append_eq_nil_iff.mp hnil).2 (List.cons_ne_nil p [])
      | reply =>
        rw [ho] at this
        exact this
      | cls c =>
        rw [ho] at this
        cases c <;> exact this
    · show ((s.slot i).egr.express ++ [p]).length ≤ Config.expressPlaces
      rw [List.length_append]
      exact hroom
  · exact h.calm (postEvent_calm ..)

theorem isOut_of_isAwake (h : s.isAwake i = true) : (s.slot i).ctl.phase.isOut = false := by
  rw [(isAwake_iff.mp h).1]
  rfl

theorem setEdges_calm (i : Slot) (f : SlotEdges → SlotEdges) (s : State) : Calm s (s.modEdges i f) := .setSlot rfl

theorem Midway.dispatchEdge (h : Midway g s) (i : Slot) (d : Sched) : Midway g (dispatchEdge i d s) := by
  unfold Machine.dispatchEdge
  dsimp only
  split
  · next hawake =>
    refine (h.calm (setEdges_calm i _ s)).offerExpress (fun _ _ => ?_) _ _
    simpa using isOut_of_isAwake hawake
  · exact h.calm (setEdges_calm ..)

theorem Midway.offerTime (h : Midway g s) (p : ExpressParcel) (lost : Word) (i : Slot) : Midway g (offerTime p lost i s) := by
  unfold Machine.offerTime
  split
  · next hgo =>
    exact h.offerExpress (fun _ _ => isOut_of_isAwake (Bool.and_eq_true _ _ ▸ hgo).2) p lost
  · exact h

theorem Midway.makeTimeParcels (h : Midway g s) : Midway g (makeTimeParcels s) :=
  h.eachSlot fun i _ ht => ht.offerTime _ _ i

end Choices

/-! ## Words of a parcel (R5) -/

section Words

variable {g : Scope} {s t : State} {i : Slot} {p q : TxParcel} {w : LinkWord}

theorem startOf_queues (e : Egress) (o : Origin) : (e.startOf o).stream = e.stream ∧ (e.startOf o).control = e.control ∧
    (e.startOf o).bulk = e.bulk ∧ (e.startOf o).express = e.express := by
  cases o with
  | express => exact ⟨rfl, rfl, rfl, rfl⟩
  | reply => exact ⟨rfl, rfl, rfl, rfl⟩
  | cls c => cases c <;> exact ⟨rfl, rfl, rfl, rfl⟩

theorem nextWord_alike (h : s.nextWord i p = some (w, q)) : p.alike q ∧ q.headerSent = true := by
  unfold State.nextWord at h
  split at h
  · split at h
    · exact Option.noConfusion rfl (heq_of_eq h)
    · obtain ⟨-, rfl⟩ := Prod.mk.inj (Option.some.inj h)
      exact ⟨p.alike_refl, rfl⟩
  · next hleft =>
    split at h
    · obtain ⟨-, rfl⟩ := Prod.mk.inj (Option.some.inj h)
      refine ⟨p.alike_refl, ?_⟩
      simpa [TxParcel.notLeft] using hleft
    · exact Option.noConfusion rfl (heq_of_eq h)

theorem parcelSlot_up (h : s.parcelSlot i = true) : (s.slot i).port.link = .up := by
  simp only [State.parcelSlot, Bool.and_eq_true, beq_iff_eq] at h
  exact h.1.1

/-- The parcel whose words leave next goes on, in queues that hold what they held. -/
theorem Midway.setCurrent (h : Midway g s) (hup : (s.slot i).port.link = .up) (hp : (s.slot i).egr.tx.current = some p)
    (hq : p.alike q) (hsent : q.headerSent = true) {f : Egress → Egress}
    (hstream : (f (s.slot i).egr).stream = (s.slot i).egr.stream)
    (hcontrol : (f (s.slot i).egr).control = (s.slot i).egr.control) (hbulk : (f (s.slot i).egr).bulk = (s.slot i).egr.bulk)
    (hexpress : (f (s.slot i).egr).express.length = (s.slot i).egr.express.length)
    (htx : (f (s.slot i).egr).tx = (s.slot i).egr.tx.setCurrent q ∨
      (f (s.slot i).egr).tx = ((s.slot i).egr.tx.setCurrent q).wordGone) : Midway g (s.modEgr i f) := by
  have hnil : (f (s.slot i).egr).express = [] ↔ (s.slot i).egr.express = [] := by
    rw [← List.length_eq_zero_iff, hexpress, List.length_eq_zero_iff]
  refine h.alter (e := g.extra)
    { still := fun _ _ hx => ⟨fun hout => ?_, fun _ => hup⟩
      heads := fun _ hx => Egress.heads_setCurrent hx hp hq hsent
        (.of_queues hstream hcontrol hbulk (mt hnil.mp)) htx
      counted := fun _ v => ?_
      expressFits := fun _ hx => ?_ }
  · obtain ⟨h1, h2, h3, h4⟩ := hx.1 hout
    exact ⟨hstream.trans h1, hcontrol.trans h2, hbulk.trans h3, hnil.mpr h4⟩
  · show (f (s.slot i).egr).holdsOf v + _ + _ = _
    unfold Egress.holdsOf
    rw [hstream, hcontrol, hbulk]
    rfl
  · show (f (s.slot i).egr).express.length ≤ Config.expressPlaces
    rw [hexpress]
    exact hx

theorem Midway.sendParcelWord (h : Midway g s) (i : Slot) : Midway g (sendParcelWord i s) := by
  unfold Machine.sendParcelWord
  dsimp only
  split
  · exact h
  · next p hp =>
    split
    · next hslot =>
      split
      · exact h
      · next w q hnext =>
        obtain ⟨hq, hsent⟩ := nextWord_alike hnext
        refine Midway.calm (h.setCurrent (parcelSlot_up hslot) hp hq hsent ?_ ?_ ?_ ?_ (.inr rfl)) (sendWord_calm ..)
        all_goals
          dsimp only
          split
          · simp only [startOf_queues]
          · rfl
    · exact h

theorem judgeLate_calm (i : Slot) (e : CabTime) (n : Nat) (s : State) : Calm s (judgeLate i e n s) := by
  unfold judgeLate
  exact calm_ite (postEvent_calm ..) (.refl s)

theorem Midway.departEdge (h : Midway g s) (hup : (s.slot i).port.link = .up) (hp : (s.slot i).egr.tx.current = some p)
    (n : EdgeNote) : Midway g (departEdge i p n s) := by
  unfold Machine.departEdge
  dsimp only
  refine Midway.calm (h.setCurrent hup hp (q := p.sendHeader) p.alike_refl rfl rfl rfl rfl ?_ (.inl rfl))
    ((sendWord_calm ..).trans (judgeLate_calm ..))
  dsimp only
  split
  · split
    · next hnil => rw [hnil]
    · next hcons => rw [hcons]; rfl
  · rfl

theorem Midway.departNext (h : Midway g s) (i : Slot) : Midway g (departNext i s) := by
  unfold Machine.departNext
  dsimp only
  split
  · exact h
  · next p hp =>
    split
    · exact h
    · next n _ =>
      split
      · next hgo =>
        simp only [Bool.and_eq_true] at hgo
        exact h.departEdge (parcelSlot_up hgo.1.2) hp n
      · exact h

end Words

/-! ## Ends of transmission (R54) -/

section Ends

variable {g : Scope} {s t : State} {i : Slot} {p : TxParcel} {c : Cls}

/-- A finished express parcel leaves its queue. -/
theorem Midway.leaveExpress (h : Midway g s)
    (hrest : g.reach.heads → ∀ q, q ∈ (s.slot i).egr.tx.parcels → q.origin ≠ .express) :
    Midway g (s.modEgr i (fun e => { e with express := e.express.tail })) := by
  refine h.alter (e := g.extra)
    { still := fun _ _ hx => ⟨fun hout => ?_, hx.2⟩
      heads := fun hk hx => Egress.heads_of hx rfl fun q hq hat ha => ?_
      expressFits := fun _ hx => ?_ }
  · obtain ⟨h1, h2, h3, h4⟩ := hx.1 hout
    exact ⟨h1, h2, h3, by show (s.slot i).egr.express.tail = []; rw [h4]; rfl⟩
  · have := hat ha
    cases ho : q.origin with
    | express => exact absurd ho (hrest hk q hq)
    | reply =>
      rw [ho] at this
      exact this
    | cls c =>
      rw [ho] at this
      cases c <;> exact this
  · have hfit : (s.slot i).egr.express.length ≤ Config.expressPlaces := hx
    show (s.slot i).egr.express.tail.length ≤ Config.expressPlaces
    rw [List.length_tail]
    omega

/-- A finished reply leaves its queue. -/
theorem Midway.leaveReply (h : Midway g s) (hi : g.reach.heads → i = s.mgmtSlot)
    (hrest : g.reach.heads → ∀ q, q ∈ (s.slot i).egr.tx.parcels → q.origin ≠ .reply) :
    Midway g (s.modMgmt (fun m => { m with replies := m.replies.tail })) := by
  refine h.modMgmt (c := g.claim) { heads := fun hk j hx => ?_, fit := fun _ hf => ?_ }
  · by_cases hj : j = i
    · subst hj
      refine Egress.heads_of hx rfl fun q hq hat ha => ?_
      have := hat ha
      cases ho : q.origin with
      | express =>
        rw [ho] at this
        exact this
      | reply => exact absurd ho (hrest hk q hq)
      | cls c =>
        rw [ho] at this
        exact this
    · exact Egress.heads_mono (fun hr => absurd (hr.1.trans (hi hk).symm) hj) hx
  · have hlen : s.mgmt.replies.tail.length ≤ s.mgmt.replies.length := by
      rw [List.length_tail]
      omega
    exact Nat.le_trans (Nat.add_le_add_right hlen _) hf

/-- A finished parcel leaves the head of its queue, where none of that queue stays on the transmit side. -/
theorem Midway.leaveQueue (h : Midway g s) (hat : g.reach.heads → (s.slot i).egr.atHead (s.hasReply i) p)
    (hrest : g.reach.heads → ∀ q, q ∈ (s.slot i).egr.tx.parcels → q.origin ≠ p.origin) : Midway g (leaveQueue i p s) := by
  unfold Machine.leaveQueue
  split
  · next ho =>
    split
    · exact h.leaveExpress fun hk q hq => ho ▸ hrest hk q hq
    · exact h
  · next ho =>
    split
    · next ha =>
      refine h.leaveReply (fun hk => ?_) fun hk q hq => ho ▸ hrest hk q hq
      have hhead := hat hk ha
      rw [ho] at hhead
      exact hhead.1
    · exact h
  · next c ho =>
    have hdwell : ∃ u, u = (if c = .stream then
        s.modEgr i (fun e => { e with dwell := Nat.min 65535 (e.dwell + p.len + 2) }) else s) ∧ Midway g u ∧
        (∀ d, (u.slot i).egr.queue d = (s.slot i).egr.queue d) ∧ (u.slot i).egr.tx = (s.slot i).egr.tx := by
      refine ⟨_, rfl, ?_⟩
      split
      · refine ⟨h.alter (e := g.extra) {}, fun d => ?_, ?_⟩
        · rw [modEgr_egr_self]
          cases d <;> rfl
        · rw [modEgr_egr_self]
      · exact ⟨h, fun _ => rfl, rfl⟩
    obtain ⟨u, hu, hmid, hqueue, htx⟩ := hdwell
    dsimp only
    rw [← hu]
    split
    · next ha =>
      have hleft : Midway g (Machine.removeRef i c p.pid u) := by
        refine hmid.removeRef (fun hk => ?_) fun hk q hq _ hoq => ?_
        · have hhead := hat (Reach.heads_of_counts hk) ha
          rw [ho] at hhead
          rw [hqueue]
          exact mem_of_head hhead
        · refine absurd (hoq.trans ho.symm) (hrest hk q ?_)
          rw [← htx]
          rcases (u.slot i).egr.tx.forget_cases c p.pid with hidle | hsame
          · rw [hidle] at hq
            exact absurd hq List.not_mem_nil
          · rwa [hsame] at hq
      split
      · exact hleft
      · exact hleft.chainSent i p.pid
    · exact hmid

/-- The transmit side after a finished parcel. -/
theorem Midway.finish (h : Midway g s) {next : Tx} (hne : (s.slot i).egr.tx ≠ .idle)
    (hat : g.reach.heads → (s.slot i).egr.atHead (s.hasReply i) p)
    (hnext : g.reach.heads → ({ (s.slot i).egr with tx := next } : Egress).heads (s.hasReply i))
    (hrest : g.reach.heads → ∀ q, q ∈ next.parcels → q.origin ≠ p.origin) :
    Midway g (if s.mayEnd i p then
      Machine.leaveQueue i p (sendWord i (.body p.lastWord) (s.modEgr i (fun e => { e with tx := next }))) else s) := by
  split
  · have hset : Midway g (s.modEgr i (fun e => { e with tx := next })) :=
      h.alter (e := g.extra)
        { still := fun _ _ hx => ⟨hx.1, fun _ => hx.2 hne⟩
          heads := fun hk _ => hnext hk }
    have hsent := hset.calm (sendWord_calm i (.body p.lastWord) _)
    have hegr : ((sendWord i (.body p.lastWord) (s.modEgr i (fun e => { e with tx := next }))).slot i).egr =
        { (s.slot i).egr with tx := next } := by
      simp [sendWord]
    refine hsent.leaveQueue (fun hk => ?_) fun hk q hq => hrest hk q ?_
    · rw [hegr]
      exact Egress.atHead_alike (hat hk) p.alike_refl (.of_queues rfl rfl rfl id)
    · rwa [hegr] at hq
  · exact h

theorem Midway.dropLateReplies (h : Midway g s) (i : Slot) : Midway g (dropLateReplies i s) := by
  unfold Machine.dropLateReplies
  dsimp only
  split
  · next hgo =>
    obtain ⟨hi, -, -, hidle⟩ := hgo
    exact h.dropReplies hi (fun _ => hidle) rfl (Nat.le_refl _) rfl
  · exact h

/-- The express parcel that follows a finished one. -/
theorem following_cases (e : Egress) : e.following = .idle ∨ ∃ x, x.origin = .express ∧ x.attached = true ∧
    e.following = .sending x ∧ e.express ≠ [] := by
  unfold Egress.following
  cases he : e.express with
  | nil => exact .inl rfl
  | cons y r => exact .inr ⟨_, rfl, rfl, rfl, List.cons_ne_nil y r⟩

theorem Midway.endOf (h : Midway g s) (i : Slot) : Midway g (endOf i s) := by
  have hheads (hk : g.reach.heads) := h.heads hk i
  unfold Machine.endOf
  dsimp only
  split
  · exact h
  · next p htx =>
    refine (h.finish (by rw [htx]; exact Tx.noConfusion) (fun hk => ?_) (fun _ => Egress.heads_idle rfl)
      fun _ q hq => absurd hq List.not_mem_nil).dropLateReplies i
    exact (hheads hk).1 p (by rw [htx]; exact List.mem_cons_self)
  · next p htx =>
    have hint (hk : g.reach.heads) := Egress.interrupted (hheads hk) (p := p) (by rw [htx]; rfl)
      (by rw [htx]; exact Tx.noConfusion)
    refine h.finish (by rw [htx]; exact Tx.noConfusion) (fun hk => (hint hk).1) (fun hk => ?_) fun hk q hq ho => ?_
    · rcases following_cases (s.slot i).egr with hidle | ⟨x, hox, hax, hsend, hne⟩
      · exact Egress.heads_idle hidle
      · refine Egress.heads_sending (p := x) hsend (fun _ => ?_) fun _ => hax
        rw [hox]
        exact hne
    · rcases following_cases (s.slot i).egr with hidle | ⟨x, hox, hax, hsend, hne⟩
      · rw [hidle] at hq
        exact absurd hq List.not_mem_nil
      · rw [hsend] at hq
        obtain rfl := List.mem_singleton.mp hq
        rcases (hint hk).2.2 with hcls | hcls
        · exact Origin.noConfusion (hox.symm.trans (ho.trans hcls))
        · exact Origin.noConfusion (hox.symm.trans (ho.trans hcls))
  · exact h
  · next p x htx =>
    have hint (hk : g.reach.heads) := Egress.interrupted (hheads hk) (p := p) (by rw [htx]; rfl)
      (by rw [htx]; exact Tx.noConfusion)
    refine h.finish (by rw [htx]; exact Tx.noConfusion) (fun hk => ?_) (fun hk => ?_) fun hk q hq ho => ?_
    · exact (hheads hk).1 x (by rw [htx]; exact List.mem_cons_of_mem _ List.mem_cons_self)
    · obtain ⟨hat, hsent, hcls⟩ := hint hk
      exact Egress.heads_interrupted (p := p) (m := .follow) (.inr rfl)
        (Egress.atHead_alike hat p.alike_refl (.of_queues rfl rfl rfl id)) hsent hcls
    · obtain rfl := List.mem_singleton.mp hq
      have hox := (hheads hk).2.2 q x htx
      rcases (hint hk).2.2 with hcls | hcls
      · exact Origin.noConfusion (hcls.symm.trans (ho.trans hox))
      · exact Origin.noConfusion (hcls.symm.trans (ho.trans hox))
  · exact h

end Ends

/-! ## The word slot of a core period (R8) -/

section WordSlots

variable {g : Scope} {s t : State} {i : Slot}

theorem Midway.fillSlot (h : Midway g s) (i : Slot) : Midway g (fillSlot i s) := by
  have hheld := (h.makeChoice i).calm (sendHoldMark_calm i _)
  have hmarks := ((hheld.calm (sendTrainReq_calm i _)).sendRest i).calm (sendWake_calm i _)
  exact (((hmarks.sendSuspend i).sendContinue i).sendParcelWord i).departNext i |>.endOf i

theorem freeSlot_calm (i : Slot) (s : State) : Calm s (s.modPort i (fun p =>
    { p with slotTaken := false, out := if p.slotTaken then p.out else p.link.idleWord })) := .setSlot rfl

theorem Midway.wordSlot (h : Midway g s) (i : Slot) : Midway g (wordSlot i s) :=
  (h.fillSlot i).calm (freeSlot_calm ..)

end WordSlots

end Sys2Proof.Machine
end

section
/-! PROOFS. Inside an event: the timing unit, the watches, the areas, and the writes of their tables, which are no concern of
the slots and their parcels (R60, R86 to R109, R166 to R169, R174 to R177). -/

namespace Sys2Proof.Machine

/-! ## The timing unit -/

section Timing

variable {s t : State} {r : RefId}

/-- What changes neither the slots, the pool, the raised set nor the management unit. -/
theorem Calm.of_same (hslots : t.slots = s.slots) (hpool : t.pool = s.pool) (hraised : t.alarm.raised = s.alarm.raised)
    (hmgmt : t.mgmt = s.mgmt) : Calm s t where
  bare j := by
    unfold State.slot
    rw [hslots]
  parcels := by
    rw [hpool]
    exact ⟨rfl, rfl⟩
  raised i := by
    unfold State.isRaised
    rw [hraised]
    exact ⟨rfl, rfl⟩
  grow := .of_eq hmgmt
  fit h := by
    unfold State.repliesFit
    rw [hmgmt]
    exact h

theorem modTiming_calm (f : Timing → Timing) (s : State) : Calm s (s.modTiming f) := .of_same rfl rfl rfl rfl

theorem modRef_calm (r : RefId) (f : Reference → Reference) (s : State) : Calm s (modRef r f s) := modTiming_calm ..

theorem setFreq_calm (intg freq : Int) (s : State) : Calm s (setFreq intg freq s) := modTiming_calm ..

theorem makeSchedules_calm (i : Slot) (s : State) : Calm s (makeSchedules i s) := .setSlot rfl

theorem reschedule_calm (s : State) : Calm s (reschedule s) :=
  Calm.trans (t := { s with nextEdge := edgeAfter s.glob.edgePeriod s.now }) (.of_same rfl rfl rfl rfl)
    (calm_eachSlot makeSchedules_calm _)

theorem voidExchange_calm (i : Slot) (s : State) : Calm s (voidExchange i s) := .setSlot rfl

theorem moveTimeTo_calm (t : CabTime) (amount : Int) (s : State) : Calm s (moveTimeTo t amount s) :=
  ((modTiming_calm _ s).trans (reschedule_calm _)).trans (calm_eachSlot voidExchange_calm _)

theorem changeLoop_calm (new : LoopState) (s : State) : Calm s (changeLoop new s) :=
  calm_ite (.refl s) ((modTiming_calm ..).trans (postEvent_calm ..))

theorem clearFreeRun_calm (s : State) : Calm s (clearCond causeFreeRun 0 0 (clearCond causeHoldover 0 0 s)) :=
  (clearCond_calm (by decide) (by decide) ..).trans (clearCond_calm (by decide) (by decide) ..)

theorem enterAcquiring_calm (s : State) : Calm s (enterAcquiring s) := by
  unfold enterAcquiring
  dsimp only
  split
  · exact (((modTiming_calm ..).trans (modTiming_calm ..)).trans (clearFreeRun_calm _)).trans (changeLoop_calm ..)
  · exact (((modTiming_calm ..).trans (modTiming_calm ..)).trans (clearFreeRun_calm _)).trans (changeLoop_calm ..)
  · exact (modTiming_calm ..).trans (changeLoop_calm ..)

theorem enterHoldover_calm (s : State) : Calm s (enterHoldover s) :=
  (((setFreq_calm ..).trans (modTiming_calm ..)).trans (changeLoop_calm ..)).trans
    (raiseCond_calm (by decide) (by decide) ..)

theorem judgeSelection_calm (s : State) : Calm s (judgeSelection s) := by
  have hswitch (new : Sel) (w : Word) : Calm s (postEvent causeReferenceSwitch 0 w
      (s.modTiming (fun t => { t with sel := new }))) := (modTiming_calm ..).trans (postEvent_calm ..)
  unfold judgeSelection
  dsimp only
  split
  · exact .refl s
  split
  · split
    · exact (hswitch _ _).trans (enterHoldover_calm _)
    · exact (hswitch _ _).trans (enterHoldover_calm _)
    · exact hswitch _ _
  · exact (hswitch _ _).trans (enterAcquiring_calm _)

theorem refNum_lt_64 (r : RefId) : refNum r < 64 := refNum_lt r

theorem qualify_calm (r : RefId) (s : State) : Calm s (qualify r s) :=
  ((modRef_calm ..).trans (clearCond_calm (by decide) (refNum_lt_64 r) ..)).trans (judgeSelection_calm _)

theorem loseReference_calm (r : RefId) (s : State) : Calm s (loseReference r s) :=
  have hlost := (modRef_calm r _ s).trans (raiseCond_calm (c := causeRefLoss) (by decide) (refNum_lt_64 r) _ _)
  calm_ite (hlost.trans (judgeSelection_calm _)) hlost

theorem checkSeconds_calm (r : RefId) (b : Nat) (s : State) : Calm s (checkSeconds r b s) := by
  unfold checkSeconds
  split
  · exact .refl s
  · exact calm_ite (modRef_calm ..) (((modRef_calm ..).trans (moveTimeTo_calm ..)).trans (postEvent_calm ..))

theorem stepTime_calm (lag : Int) (s : State) : Calm s (stepTime lag s) :=
  (((moveTimeTo_calm ..).trans (setFreq_calm ..)).trans (postEvent_calm ..)).trans (modTiming_calm ..)

theorem slew_calm (lag : Int) (s : State) : Calm s (slew lag s) :=
  calm_ite (setFreq_calm ..) ((setFreq_calm ..).trans (postEvent_calm ..))

theorem lockAfterStep_calm (lag : Int) (s : State) : Calm s (lockAfterStep lag s) :=
  calm_ite (changeLoop_calm ..) (.refl s)

theorem lockAfterSlew_calm (lag : Int) (s : State) : Calm s (lockAfterSlew lag s) :=
  calm_ite (calm_ite ((modTiming_calm ..).trans (changeLoop_calm ..)) (modTiming_calm ..))
    (calm_ite ((modTiming_calm ..).trans (changeLoop_calm ..)) (modTiming_calm ..))

theorem processPulse_calm (r : RefId) (c : CabTime) (s : State) : Calm s (processPulse r c s) :=
  calm_ite (((checkSeconds_calm ..).trans (stepTime_calm ..)).trans (lockAfterStep_calm ..))
    (((checkSeconds_calm ..).trans (slew_calm ..)).trans (lockAfterSlew_calm ..))

theorem acceptPulse_calm (r : RefId) (c : CabTime) (run : Nat) (s : State) : Calm s (acceptPulse r c run s) := by
  obtain ⟨u, hu, hcalm⟩ : ∃ u, u = (if !(s.timing.ref r).qualified && decide (s.timing.cfg.qualCount ≤ run) then
      qualify r (modRef r (fun x => { x with run := run, last := some c }) s) else
      modRef r (fun x => { x with run := run, last := some c }) s) ∧ Calm s u :=
    ⟨_, rfl, calm_ite ((modRef_calm ..).trans (qualify_calm ..)) (modRef_calm ..)⟩
  unfold acceptPulse
  dsimp only
  rw [← hu]
  exact calm_ite (hcalm.trans (processPulse_calm ..)) (hcalm.trans (modRef_calm ..))

theorem judgePulse_calm (r : RefId) (s : State) : Calm s (judgePulse r s) := by
  unfold judgePulse
  dsimp only
  split
  · exact acceptPulse_calm ..
  · exact calm_ite (modRef_calm ..) (calm_ite (acceptPulse_calm ..) (acceptPulse_calm ..))

theorem timingRestart_calm (s : State) : Calm s (timingRestart s) :=
  .of_keeps (timingRestart_leaves (s := s)).keeps.mono (timingRestart_reports (.refl s))

theorem clearWindow_calm (i : Slot) (s : State) : Calm s (s.modPort i (fun p => { p with windowErrs := 0 })) := .setSlot rfl

theorem takeUptime_calm (s : State) : Calm s (takeUptime s) :=
  calm_ite ((modTiming_calm ..).trans (calm_eachSlot clearWindow_calm _)) (.refl s)

/-- The strobe pulses are no concern of the slots. -/
theorem setPulses_calm (i : Slot) (f g : Option Nat → Option Nat) (s : State) :
    Calm s (s.modCtl i (fun c => { c with pulse0 := f c.pulse0, pulse1 := g c.pulse1 })) := .setSlot rfl

theorem giveStrobe_calm (i : Slot) (d : Sched) (s : State) : Calm s (giveStrobe i d s) :=
  calm_ite ((setEdges_calm i (fun x => { x with strobe := some (d.next s.glob.edgePeriod) }) s).trans
    (setPulses_calm i (fun p => if (s.slot i).cfg.fn0 = .strobeOut then some s.timing.core else p)
      (fun p => if (s.slot i).cfg.fn1 = .strobeOut then some s.timing.core else p) _)) (setEdges_calm ..)

end Timing

/-! ## Watches, areas and tables -/

section Tables

variable {s t : State}

theorem setWatch_calm (n : Fin 32) (w : Watch) (s : State) : Calm s (s.setWatch n w) := .of_same rfl rfl rfl rfl

theorem judgeRelays_calm (s : State) : Calm s (judgeRelays s) := .of_same rfl rfl rfl rfl

theorem watch_lt_64 (n : Fin 32) : n.val < 64 := Nat.lt_trans n.isLt (by decide)

theorem evalWatch_calm (n : Fin 32) (s : State) : Calm s (evalWatch n s) := by
  have hset (w : Watch) := setWatch_calm n w s
  exact calm_ite (calm_ite (hset _) (calm_ite ((hset _).trans (clearCond_calm (by decide) (watch_lt_64 n) ..)) (hset _)))
    (calm_ite ((hset _).trans (raiseCond_calm (by decide) (watch_lt_64 n) ..)) (hset _))

theorem evalArea_calm (a : Fin 64) (s : State) : Calm s (evalArea a s) :=
  calm_foldl (fun _ _ => calm_ite (evalWatch_calm ..) (.refl _)) ..

theorem writeWatch_calm (n : Fin 32) (ws : List Word) (s : State) : Calm s (writeWatch n ws s) := by
  obtain ⟨u, hu, hcalm⟩ : ∃ u, u = (if (s.watches[n].withWords ws).enabled then
      evalWatch n (s.setWatch n (s.watches[n].withWords ws)) else
      clearCond causeWatch n.val 0 ((s.setWatch n (s.watches[n].withWords ws)).setWatch n
        { s.watches[n].withWords ws with lastRel := .u, lastVal := 0 })) ∧ Calm s u :=
    ⟨_, rfl, calm_ite ((setWatch_calm ..).trans (evalWatch_calm ..))
      (((setWatch_calm ..).trans (setWatch_calm ..)).trans (clearCond_calm (by decide) (watch_lt_64 n) ..))⟩
  unfold writeWatch
  dsimp only
  rw [← hu]
  exact calm_ite hcalm (hcalm.trans (judgeRelays_calm _))

theorem markChanged_calm (n : Fin 64) (i : Slot) (s : State) : Calm s (markChanged n i s) := .setSlot rfl

theorem writeArea_calm (n : Fin 64) (ws : List Word) (s : State) : Calm s (writeArea n ws s) :=
  (Calm.trans (s := s) (t := s.setArea n (Area.ofWords ws)) (.of_same rfl rfl rfl rfl)
    (calm_eachSlot (markChanged_calm n) _)).trans (evalArea_calm ..)

theorem writeCause_calm (c : Fin 64) (e : Bool) (sev : Severity) (n : Nat) (s : State) : Calm s (writeCause c e sev n s) := by
  have hset (f : Alarm → Vector CauseCfg 64) : Calm s (s.modAlarm (fun a => { a with causes := f a })) :=
    .of_same rfl rfl rfl rfl
  refine Calm.trans (calm_ite ?_ (hset _)) (judgeRelays_calm _)
  exact (hset _).trans (calm_foldl (fun _ _ => postEntry_calm ..) ..)

theorem emptyLog_calm (s : State) : Calm s (emptyLog s) := .of_same rfl rfl rfl rfl

theorem judgePolarity_calm (old : GlobalSettings) (n : Fin 8) (s : State) : Calm s (judgePolarity old n s) :=
  calm_ite (.refl s) (.of_same rfl rfl rfl rfl)

theorem setGlob_calm (g : GlobalSettings) (s : State) : Calm s { s with glob := g } := .of_same rfl rfl rfl rfl

theorem writeGlobal_calm (g : GlobalSettings) (s : State) : Calm s (writeGlobal g s) := by
  unfold writeGlobal
  dsimp only
  refine Calm.trans ?_ (calm_foldl (fun _ _ => judgePolarity_calm ..) _ _)
  refine Calm.trans ?_ (setGlob_calm ..)
  have hmarks (g' : GlobalSettings) : Calm s (if g.lowMark ≠ s.glob.lowMark ∨ g.clearMark ≠ s.glob.clearMark then
      poolJudge { s with glob := g' } else { s with glob := g' }) :=
    calm_ite ((setGlob_calm ..).trans (poolJudge_calm _)) (setGlob_calm ..)
  have hsize (g' : GlobalSettings) {u : State} (hu : Calm s u) : Calm s
      (if g.logSize ≠ s.glob.logSize then emptyLog { u with glob := g' } else { u with glob := g' }) :=
    calm_ite ((hu.trans (setGlob_calm g' u)).trans (emptyLog_calm _)) (hu.trans (setGlob_calm g' u))
  have hedges {u : State} (hu : Calm s u) : Calm s
      (if g.edgePeriod ≠ s.glob.edgePeriod ∨ g.edgeLead ≠ s.glob.edgeLead then reschedule u else u) :=
    calm_ite (hu.trans (reschedule_calm _)) hu
  exact hedges (hsize _ (hmarks _))

theorem writeLoop_calm (c : LoopSettings) (s : State) : Calm s (writeLoop c s) :=
  .of_keeps (writeLoop_touches 0 c s).keeps.mono (writeLoop_reports (.refl s))

theorem writeRef_calm (r : RefId) (c : RefSettings) (s : State) : Calm s (writeRef r c s) :=
  .of_keeps (writeRef_touches 0 r c s).keeps.mono (writeRef_reports (.refl s))

theorem writeTiming_calm (k : Nat) (ws : List Word) (s : State) : Calm s (timingTable.put k ws s) := by
  dsimp only [timingTable]
  split
  · exact writeLoop_calm ..
  · exact writeRef_calm ..
  · exact writeRef_calm ..

end Tables

/-! ## Slot settings (R41, R114, R125) -/

section Slots

variable {g : Scope} {s t : State} {i : Slot}

/-- New settings of a slot, before its pending sets are resolved again. -/
theorem Midway.setCfg (h : Midway g s) (i : Slot) (c : SlotSettings) :
    Midway { g with unsure := i :: g.unsure } (s.setCfg i c) :=
  (h.doubt i).alter (e := g.extra) { treats := fun _ hu => absurd List.mem_cons_self hu }

theorem Midway.offerRaised (h : Midway g s) (hu : g.unsure = []) (i : Slot) (c : Cls) (old new : Nat) :
    Midway g (offerRaised i c old new s) := by
  unfold Machine.offerRaised
  split
  · exact h.servePending (by rw [hu]; exact List.not_mem_nil) c 16
  · exact h

/-- The treatment of a slot is that of its hold and its policy. -/
theorem treats_of_hold {x y : SlotState} (hctl : y.ctl = x.ctl) (hhold : y.cfg.manualHold = x.cfg.manualHold)
    (hpolicy : y.cfg.policy = x.cfg.policy) : y.treats = x.treats := by
  unfold SlotState.treats
  rw [hctl, hhold, hpolicy]

theorem Midway.writeSlot (h : Midway g s) (hu : g.unsure = []) (i : Slot) (c : SlotSettings) :
    Midway g (writeSlot i c s) := by
  have hset : Midway g (if c.manualHold ≠ (s.slot i).cfg.manualHold ∨ c.policy ≠ (s.slot i).cfg.policy then
      Machine.reresolve i (s.setCfg i c) else s.setCfg i c) := by
    split
    · exact Midway.reresolve (g := g) (h.setCfg i c)
    · next hsame =>
      obtain ⟨hhold, hpolicy⟩ := not_or.mp hsame
      refine h.alter (e := g.extra) { treats := fun _ _ hx => ?_ }
      exact (treats_of_hold (x := s.slot i) (y := { s.slot i with cfg := c }) rfl (not_not.mp hhold)
        (not_not.mp hpolicy)).trans hx
  have hoffered := (hset.offerRaised hu i .control (s.slot i).cfg.controlLimit c.controlLimit).offerRaised hu i .bulk
    (s.slot i).cfg.bulkLimit c.bulkLimit
  unfold Machine.writeSlot
  dsimp only
  split
  · exact hoffered.calm (makeSchedules_calm ..)
  · exact hoffered

end Slots

end Sys2Proof.Machine
end

section
/-! PROOFS. Inside an event: what a port receives (R4, R7, R9 to R13, R131, R135). -/

namespace Sys2Proof.Machine

/-! ## The receive state (R4) -/

section Receive

variable {g : Scope} {s t : State} {i : Slot} {r : RxState} {e : PEnd} {w : Word}

/-- A parcel is in reception, by the receive state. -/
def RxState.receives (r : RxState) : Prop := ∃ h n c, r = .inParcel h n c

theorem setRx_rx (r : RxState) : ((s.setRx i r).slot i).port.rx = r := by
  unfold State.setRx
  simp

theorem setRx_ing (r : RxState) (j : Slot) : ((s.setRx i r).slot j).ing = (s.slot j).ing := by
  unfold State.setRx
  simp

theorem closeReception_none : ((closeReception i s).slot i).ing.reception = none := by
  unfold closeReception
  simp

theorem closeReception_rx : ((closeReception i s).slot i).port.rx = (s.slot i).port.rx := by
  unfold closeReception
  simp

theorem rxFits_idle {x : SlotState} (hr : x.ing.reception = none) (hrx : ¬x.port.rx.receives) : x.rxFits := by
  unfold SlotState.rxFits
  rw [hr]
  exact ⟨fun h => absurd h Bool.false_ne_true, fun h => absurd h hrx⟩

theorem skip_receives : ¬RxState.skip.receives := fun ⟨_, _, _, h⟩ => RxState.noConfusion h

theorem await_receives : ¬RxState.awaitHeader.receives := fun ⟨_, _, _, h⟩ => RxState.noConfusion h

/-- With no parcel in reception the receive state goes to another such. -/
theorem Midway.idleRx (h : Midway g s) (hb : g.busy = none) (hno : ¬(s.slot i).port.rx.receives) (hr : ¬r.receives) :
    Midway g (s.setRx i r) := by
  refine (((h.occupy hb i).setRx rfl r)).free fun hk => rxFits_idle ?_ ?_
  · rw [setRx_ing]
    have hfits := h.rxFits hk i (by rw [hb]; exact nofun)
    exact Option.not_isSome_iff_eq_none.mp fun hs => hno (hfits.mp hs)
  · rw [setRx_rx]
    exact hr

/-- With a parcel in reception the receive state goes on. -/
theorem Midway.goOnRx (h : Midway g s) (hb : g.busy = none) (hno : (s.slot i).port.rx.receives) (hr : r.receives) :
    Midway g (s.setRx i r) := by
  refine (((h.occupy hb i).setRx rfl r)).free fun hk => ?_
  have hfits := h.rxFits hk i (by rw [hb]; exact nofun)
  unfold SlotState.rxFits
  rw [setRx_ing, setRx_rx]
  exact ⟨fun _ => hr, fun _ => hfits.mpr hno⟩

/-- The end of a reception leaves none. -/
theorem ended_none (h : Even (closeReception i s) t) : (t.slot i).ing.reception = none ∧
    (t.slot i).port.rx = (s.slot i).port.rx :=
  ⟨h.none closeReception_none, (h.rx i).trans closeReception_rx⟩

theorem Midway.endThenSet (h : Midway g s) (hb : g.busy = none) (e : PEnd) (hr : ¬r.receives) :
    Midway g ((Machine.parcelEnd i e s).setRx i r) := by
  obtain ⟨hend, heven⟩ := (h.occupy hb i).parcelEnd rfl e
  refine (hend.setRx rfl r).free fun _ => rxFits_idle ?_ ?_
  · rw [setRx_ing]
    exact (ended_none heven).1
  · rw [setRx_rx]
    exact hr

theorem Midway.setThenEnd (h : Midway g s) (hb : g.busy = none) (e : PEnd) (hr : ¬r.receives) :
    Midway g (Machine.parcelEnd i e (s.setRx i r)) := by
  obtain ⟨hend, heven⟩ := ((h.occupy hb i).setRx rfl r).parcelEnd rfl e
  refine hend.free fun _ => rxFits_idle (ended_none heven).1 ?_
  rw [(ended_none heven).2, setRx_rx]
  exact hr

/-- A header begins a parcel where none is in reception. -/
theorem Midway.beginParcel (h : Midway g s) (hb : g.busy = none) (hno : ¬(s.slot i).port.rx.receives) (w : Word) :
    Midway g (beginParcel i w s) := by
  have hset := (h.occupy hb i).setRx rfl
    (.inParcel (Header.ofWord w) (Header.ofWord w).len.toNat (crcWord crcPreset w))
  obtain ⟨hbegun, hbegins⟩ := hset.parcelHeader (hdr := Header.ofWord w) rfl fun hk => by
    rw [setRx_ing]
    have hfits := h.rxFits hk i (by rw [hb]; exact nofun)
    exact Option.not_isSome_iff_eq_none.mp fun hs => hno (hfits.mp hs)
  refine hbegun.free fun _ => ⟨fun _ => ?_, fun _ => hbegins.some⟩
  exact ⟨_, _, _, (hbegins.rx i).trans (setRx_rx _)⟩

/-! ## Link errors (R9, R10) -/

/-- A link error is counted. -/
def countError (i : Slot) (s : State) : State :=
  s.modPort i (fun p => { p with windowErrs := (s.slot i).port.windowErrs + 1, errTotal := Nat.min 65535 (p.errTotal + 1) })

theorem countError_calm (i : Slot) (s : State) : Calm s (countError i s) := by
  have hset (u : State) (n : Nat) : Calm u (u.modPort i (fun p =>
      { p with windowErrs := n, errTotal := Nat.min 65535 (p.errTotal + 1) })) := .setSlot rfl
  exact hset ..

theorem linkError_eq (i : Slot) (s : State) : linkError i s =
    if Config.windowLimit ≤ (s.slot i).port.windowErrs + 1 then fault i .linkLost (countError i s) else countError i s := rfl

theorem Midway.linkError (h : Midway g s) (hm : g.moving = []) (hb : g.busy = none) (hh : g.held = none) (i : Slot) :
    Midway g (linkError i s) := by
  rw [linkError_eq]
  have hcount := h.calm (countError_calm i s)
  split
  · exact hcount.fault hm hb hh i .linkLost
  · exact hcount

/-- A link that frames words still after a link error has counted it. -/
theorem linkError_rx (hframes : (Machine.linkError i s).framing i = true) :
    ((Machine.linkError i s).slot i).port.rx = (s.slot i).port.rx := by
  rw [linkError_eq] at hframes ⊢
  split at hframes
  · exfalso
    have hdown : ((fault i .linkLost (countError i s)).slot i).port.link = .down := by
      unfold fault
      simp [takeDown_link]
    rw [State.framing, hdown] at hframes
    exact Bool.false_ne_true hframes
  · next hless =>
    rw [if_neg hless]
    unfold countError
    simp

theorem Midway.rxHeader (h : Midway g s) (hm : g.moving = []) (hb : g.busy = none) (hh : g.held = none)
    (i : Slot) (w : Word) : Midway g (rxHeader i w s) := by
  unfold Machine.rxHeader
  split
  · dsimp only
    have hended := h.endThenSet (i := i) (r := .skip) hb .bad skip_receives
    have herr := hended.linkError hm hb hh i
    split
    · next hframes =>
      refine herr.beginParcel hb ?_ w
      rw [linkError_rx hframes, setRx_rx]
      exact skip_receives
    · exact herr
  · next hno => exact h.beginParcel hb (fun ⟨a, n, c, hrx⟩ => hno a n c hrx) w

theorem Midway.rxBody (h : Midway g s) (hm : g.moving = []) (hb : g.busy = none) (hh : g.held = none)
    (i : Slot) (w : Word) : Midway g (rxBody i w s) := by
  unfold Machine.rxBody
  split
  · next hrx => exact (h.idleRx hb (hrx ▸ await_receives) skip_receives).linkError hm hb hh i
  · exact h
  · next a n c hrx => exact (h.goOnRx hb ⟨_, _, _, hrx⟩ ⟨_, _, _, rfl⟩).parcelPayload i w
  · exact h.setThenEnd hb _ await_receives

theorem Midway.rxUndecodable (h : Midway g s) (hm : g.moving = []) (hb : g.busy = none) (hh : g.held = none) (i : Slot) :
    Midway g (rxUndecodable i s) := by
  unfold Machine.rxUndecodable endDamaged
  split
  · exact (h.endThenSet hb .bad skip_receives).linkError hm hb hh i
  · next hno => exact (h.idleRx hb (fun ⟨a, n, c, hrx⟩ => hno a n c hrx) skip_receives).linkError hm hb hh i

theorem Midway.rxBadMark (h : Midway g s) (hm : g.moving = []) (hb : g.busy = none) (hh : g.held = none) (i : Slot) :
    Midway g (rxBadMark i s) := by
  unfold Machine.rxBadMark
  split
  · exact (h.endThenSet hb .bad skip_receives).linkError hm hb hh i
  · exact h.linkError hm hb hh i

end Receive

/-! ## Flow control from the card, AWAKE and training (R7, R12, R13, R131, R135) -/

section Marks

variable {g : Scope} {s t : State} {i : Slot}

/-- An occasion for a choice. -/
theorem Midway.occasion (h : Midway g s) (i : Slot) : Midway g (s.modEgr i Egress.occasion) :=
  h.alter (e := g.extra)
    { still := fun _ _ hx => ⟨hx.1, fun htx => hx.2 (Egress.occasion_tx htx)⟩
      heads := fun _ hx => Egress.heads_occasion hx }

/-- The card hold-off and its timer are being changed. -/
theorem Midway.setHold (h : Midway { g with held := some i } s) (c : Bool) (u : Option Uptime) :
    Midway { g with held := some i } (s.modPort i (fun p => { p with cardHold := c, holdTimer := u })) :=
  h.alter (e := g.extra) { heldFits := fun _ hne => absurd rfl hne }

theorem Midway.cardHoldOff (h : Midway g s) (hh : g.held = none) (i : Slot) : Midway g (cardHoldOff i s) := by
  unfold Machine.cardHoldOff
  split
  · next hgo =>
    simp only [Bool.and_eq_true, Bool.not_eq_true'] at hgo
    refine ((h.loosen hh i).setHold true (some s.uptime)).tighten fun hk => ?_
    have hfits := h.heldFits hk i (by rw [hh]; exact nofun)
    have hport : ((s.modPort i (fun p => { p with cardHold := true, holdTimer := some s.uptime })).slot i).port.cardHold =
        true := by simp
    refine ⟨fun _ => hport, fun hr => ?_⟩
    exact absurd (hgo.2.symm.trans (hfits.2 hr).1) Bool.false_ne_true
  · exact h

theorem Midway.cardResume (h : Midway g s) (hh : g.held = none) (i : Slot) : Midway g (cardResume i s) := by
  unfold Machine.cardResume
  split
  · have hset : Midway { g with held := some i }
        ((s.modPort i (fun p => { p with cardHold := false, holdTimer := none })).modEgr i Egress.occasion) :=
      ((h.loosen hh i).setHold false none).occasion i
    exact hset.clearHeld (by simp) 0
  · exact h

theorem Midway.holdOffExpire (h : Midway g s) (hh : g.held = none) (hdue : s.holdOffDue i = true) :
    Midway g (raiseCond causeLinkHeld i.val 0 (s.modPort i (fun p => { p with holdTimer := none }))) := by
  have hset : Midway { g with held := some i } (s.modPort i (fun p => { p with holdTimer := none })) :=
    (h.loosen hh i).alter (e := g.extra) { heldFits := fun _ hne => absurd rfl hne }
  refine hset.raiseHeld (by simp) (fun hk => ?_) 0
  have hfits := h.heldFits hk i (by rw [hh]; exact nofun)
  have hcard : (s.slot i).port.cardHold = true := by
    refine hfits.1 ?_
    unfold State.holdOffDue at hdue
    split at hdue
    · exact absurd hdue Bool.false_ne_true
    · next hu => rw [hu]; rfl
  simpa using hcard

theorem linkFits_woken {ph : Phase} (h : ph.linkFits .resting = true) : ph.linkFits .up = true := by
  cases ph <;> exact h

/-- The slot of a card that is awake again, in ADMITTED or not. -/
theorem cardAwake_eq (i : Slot) (s : State) : cardAwake i s =
    if (s.slot i).port.link = .resting then
      if (s.slot i).ctl.phase = .admitted then
        s.setSlot i { s.slot i with
          port := { (s.slot i).port with link := .up, wakeAsked := false },
          ctl := { (s.slot i).ctl with sub := .awake, timer := none } }
      else s.setSlot i { s.slot i with port := { (s.slot i).port with link := .up, wakeAsked := false } }
    else s := by
  unfold cardAwake State.modPort State.modCtl
  dsimp only
  rw [slot_setSlot_self, setSlot_setSlot]

theorem Midway.cardAwake (h : Midway g s) (i : Slot) : Midway g (cardAwake i s) := by
  rw [cardAwake_eq]
  split
  · next hlink =>
    split
    · next hadm =>
      refine h.alter (e := g.extra)
        { fits := fun _ _ hx => ?_
          powered := fun _ _ hx => ?_
          still := fun _ _ hx => ⟨hx.1, fun _ => rfl⟩ }
      · obtain ⟨hl, -, -, hrest, hchain⟩ := hx
        refine ⟨linkFits_woken (hlink ▸ hl), fun hne => absurd rfl hne, fun _ _ => rfl, fun hr => ?_, hchain⟩
        exact LinkState.noConfusion (hlink.symm.trans (hrest hr).2)
      · obtain ⟨h1, h2, h3, h4, -⟩ := hx
        exact ⟨h1, h2, h3, h4, fun t ht => Option.noConfusion rfl (heq_of_eq ht)⟩
    · next hadm =>
      refine h.alter (e := g.extra)
        { fits := fun _ _ hx => ?_
          still := fun _ _ hx => ⟨hx.1, fun _ => rfl⟩ }
      obtain ⟨hl, hsub, -, hrest, hchain⟩ := hx
      refine ⟨linkFits_woken (hlink ▸ hl), hsub, fun hp => absurd hp hadm, fun hr => ?_, hchain⟩
      exact LinkState.noConfusion (hlink.symm.trans (hrest hr).2)
  · exact h

theorem addSample_calm (i : Slot) (n : Nat) (s : State) : Calm s (addSample i n s) := by
  have hset (u : State) (f : Training → Training) : Calm u (u.modCtl i (fun c => { c with train := f c.train })) :=
    .setSlot rfl
  exact hset s (fun x => { x with samples := x.samples ++ [n] })

theorem voidWait_calm (i : Slot) (x : TrainStep) (s : State) :
    Calm s (s.modCtl i (fun c => { c with train := { c.train with step := x } })) := by
  have hset (u : State) (f : Training → Training) : Calm u (u.modCtl i (fun c => { c with train := f c.train })) :=
    .setSlot rfl
  exact hset s (fun y => { y with step := x })

theorem Midway.trainAnswer (h : Midway g s) (hm : g.moving = []) (hb : g.busy = none) (hh : g.held = none)
    (hd : g.dim = none) (i : Slot) (k n : Nat) : Midway g (trainAnswer i k n s) := by
  unfold Machine.trainAnswer
  dsimp only
  split
  · split
    · next hgo =>
      split
      · exact h.calm (voidWait_calm ..)
      · refine (h.calm (addSample_calm ..)).nextExchange hm hb hh hd ?_
        unfold addSample
        simpa using hgo.2.1
    · exact h
  · exact h

theorem Midway.rxMark (h : Midway g s) (hm : g.moving = []) (hb : g.busy = none) (hh : g.held = none)
    (hd : g.dim = none) (i : Slot) (w : Word) : Midway g (rxMark i w s) := by
  unfold Machine.rxMark
  dsimp only
  split
  · exact h.cardHoldOff hh i
  split
  · exact h.cardResume hh i
  split
  · exact h.trainAnswer hm hb hh hd i _ _
  split
  · exact h.cardAwake i
  split
  · exact h.rxBadMark hm hb hh i
  · exact h

end Marks

end Sys2Proof.Machine
end

section
/-! PROOFS. Inside an event: the service of a request (R171 to R178). -/

namespace Sys2Proof.Machine

/-! ## Taking and answering a request (R173) -/

section Serving

variable {k : Reach} {s t : State} {i : Slot} {r : Request} {f : Request → State → Served}

/-- Inside the service of a request, with its reply place claimed. -/
def Reach.serving (k : Reach) : Scope := { k.rest with claim := true }

theorem Midway.takeRequest (h : Midway k.rest s) {rest : List Request} (hq : s.mgmt.queue = r :: rest)
    (hroom : s.mgmt.taken < Config.replyPlaces) : Midway k.serving (takeRequest rest s) := by
  refine h.modMgmt (c := true) { fit := fun hk _ => ?_, requests := fun _ hlen => ?_, claim := fun _ _ => rfl }
  · have hclaim : s.mgmt.claim = false := h.claim hk
    have hlen : s.mgmt.replies.length + boolNat s.mgmt.claim < Config.replyPlaces := hroom
    rw [hclaim] at hlen
    show s.mgmt.replies.length + boolNat true ≤ Config.replyPlaces
    exact hlen
  · rw [hq] at hlen
    exact Nat.le_of_succ_le hlen

theorem Midway.giveReply (h : Midway k.serving s) (p : ReplyParcel) : Midway k.rest (giveReply p s) := by
  have hfit (hk : k.serving.reach = .bounds) : s.mgmt.replies.length + 1 ≤ Config.replyPlaces := by
    have htaken : s.mgmt.replies.length + boolNat s.mgmt.claim ≤ Config.replyPlaces := h.repliesFit hk
    rw [h.claim hk] at htaken
    exact htaken
  have hlapse : Midway k.rest (s.modMgmt (fun m => { m with claim := false })) :=
    h.modMgmt (c := false)
      { fit := fun hk _ => Nat.le_of_succ_le (hfit hk)
        claim := fun _ _ => rfl }
  unfold Machine.giveReply
  dsimp only
  split
  · exact hlapse
  · exact hlapse.pushReply p fun hk => hfit hk

theorem Midway.serve (h : Midway k.rest s) (row : ReqRow)
    (hf : ∀ r u, Midway k.serving u → Leaving k.serving (f r u).state) : Midway k.rest (serve row f s) := by
  unfold Machine.serve
  split
  · exact h
  · next r rest hq =>
    split
    · next hgo =>
      have htaken := h.takeRequest hq hgo.1
      have hserved : Leaving k.serving (if r.row = none then refuse r.badStatus (Machine.takeRequest rest s) else
          f r (Machine.takeRequest rest s)).state := by
        split
        · exact htaken.leaving rfl
        · exact hf r _ htaken
      exact (hserved.settleDrains rfl rfl rfl rfl).giveReply _
    · exact h

theorem readTable_state (n : Nat) (image : Nat → List Word) : (readTable n image r s).state = s := by
  unfold readTable
  split
  · rfl
  split
  · rfl
  split
  · rfl
  dsimp only
  split <;> rfl

theorem readParkWords_state : (readParkWords r s).state = s := by
  unfold readParkWords
  split
  · rfl
  split <;> rfl

theorem readLatestCopy_state : (readLatestCopy r s).state = s := by
  unfold readLatestCopy
  split
  · rfl
  split
  · split
    · rfl
    dsimp only
    split <;> rfl
  · rfl

theorem foldl_put {g : Scope} {T : WriteTable} (hput : ∀ n ws u, Midway g u → Midway g (T.put n ws u))
    (l : List (Nat × List Word)) (h : Midway g s) : Midway g (l.foldl (fun u p => T.put p.1 p.2 u) s) := by
  induction l generalizing s with
  | nil => exact h
  | cons p l ih => exact ih (hput p.1 p.2 s h)

theorem Midway.writeTable {g : Scope} (h : Midway g s) {T : WriteTable}
    (hput : ∀ n ws u, Midway g u → Midway g (T.put n ws u)) (r : Request) : Midway g (writeTable T r s).state := by
  unfold Machine.writeTable
  split
  · exact h
  split
  · exact h
  dsimp only
  split
  · exact h
  split
  · exact h
  · exact foldl_put hput _ h

end Serving

/-! ## Actions on a slot (R134, R136, R137, R139, R142, R147) -/

section Actions

variable {g : Scope} {s t : State} {i : Slot}

theorem slotAction_leaving {f : Slot → State → Served} (h : Midway g s) (hd : g.dim = none) (r : Request)
    (hf : ∀ i, Leaving g (f i s).state) : Leaving g (slotAction f r s).state := by
  unfold slotAction
  split
  · exact h.leaving hd
  split
  · exact hf _
  · exact h.leaving hd

theorem Midway.actPowerOn (h : Midway g s) (hm : g.moving = []) (i : Slot) : Midway g (actPowerOn i s).state := by
  unfold Machine.actPowerOn
  dsimp only
  split
  · next hgo =>
    have hphase : (s.slot i).ctl.phase = .seated ∨ (s.slot i).ctl.phase = .quiesced := hgo.imp id And.left
    refine Midway.enterPowering h hm ?_ fun _ => ?_
    · rcases hphase with hp | hp <;> rw [hp] <;> rfl
    · rcases hphase with hp | hp <;> rw [hp] <;> exact Phase.noConfusion
  · exact h

/-- A slot that stays QUIESCED loses its power. -/
theorem Midway.offQuiesced (h : Midway g s) (hm : g.moving = []) (hp : (s.slot i).ctl.phase = .quiesced) :
    Midway g (Machine.powerOffLines i s) := by
  have hi : i ∉ g.moving := hm ▸ List.not_mem_nil
  have htouch := powerOffLines_touches i s
  have hctl : ((Machine.powerOffLines i s).slot i).ctl = (s.slot i).ctl.poweredOff := powerOffLines_ctl
  refine ((h.move hm i).powerOffLines List.mem_cons_self).arrive hm (fun hk => ?_) (fun hk => ?_) (fun hk => ?_) fun hk => ?_
  · obtain ⟨hl, hsub, hup, hreq, hchain⟩ := h.fits hk i hi
    unfold SlotState.fits
    rw [hctl, htouch.port, htouch.cursor]
    exact ⟨hl, hsub, hup, hreq, hchain⟩
  · obtain ⟨h1, h2, h3, h4, h5⟩ := h.powered hk i hi
    unfold SlotState.powered
    rw [hctl]
    refine ⟨fun _ hout => ?_, fun _ hne => absurd hp hne, fun he => absurd he Bool.false_ne_true, ?_, h5⟩
    · exact absurd (hout.symm.trans (by show (s.slot i).ctl.phase.isOut = true; rw [hp]; rfl)) Bool.false_ne_true
    · exact ⟨fun he => absurd he Bool.false_ne_true, fun he => Phase.noConfusion (hp.symm.trans he)⟩
  · unfold SlotState.still
    rw [hctl, htouch.egr, htouch.port]
    exact h.still hk i hi
  · unfold SlotState.faultFits
    rw [hctl]
    exact h.faultFits hk i hi

theorem Midway.actPowerOff (h : Midway g s) (hm : g.moving = []) (hb : g.busy = none) (hh : g.held = none) (i : Slot) :
    Midway g (actPowerOff i s).state := by
  have htake (hne : (s.slot i).ctl.phase ≠ .faulted) : Midway g (Machine.takeDown i .quiesced s) :=
    h.takeOut hm hb hh (fun _ => hne) rfl Phase.noConfusion
  unfold Machine.actPowerOff
  split
  · exact h
  · exact h
  · exact h
  · next hp =>
    show Midway g (if (s.slot i).ctl.pwrEn then Machine.powerOffLines i s else s)
    split
    · exact h.offQuiesced hm hp
    · exact h
  · next hp => exact htake (by rw [hp]; exact Phase.noConfusion)
  · next hp => exact htake (by rw [hp]; exact Phase.noConfusion)
  · next hp => exact htake (by rw [hp]; exact Phase.noConfusion)
  · next hp => exact htake (by rw [hp]; exact Phase.noConfusion)

theorem actDrain_leaving (h : Midway g s) (hm : g.moving = []) (hd : g.dim = none) (i : Slot) :
    Leaving g (actDrain i s).state := by
  unfold actDrain
  split
  · next hp => exact h.enterDraining hm hd hp
  · exact h.leaving hd

theorem Midway.actRest (h : Midway g s) (i : Slot) : Midway g (actRest i s).state := by
  unfold Machine.actRest
  split
  · next hawake =>
    obtain ⟨hadm, hsub⟩ := isAwake_iff.mp hawake
    refine Midway.occasion (h.alter (e := g.extra) { fits := fun _ _ hx => ?_ }) i
    obtain ⟨hl, -, hup, -, hchain⟩ := hx
    exact ⟨hl, fun _ => hadm, fun _ he => SubMode.noConfusion he, fun _ => ⟨rfl, hup hadm hsub⟩, hchain⟩
  · exact h

theorem Midway.actWake (h : Midway g s) (i : Slot) : Midway g (actWake i s).state := by
  unfold Machine.actWake
  split
  · exact h.applyWake i
  · exact h

theorem Midway.actClear (h : Midway g s) (hm : g.moving = []) (i : Slot) : Midway g (actClear i s).state := by
  have hi : i ∉ g.moving := hm ▸ List.not_mem_nil
  unfold Machine.actClear
  dsimp only
  split
  · next hp =>
    have hout : (s.slot i).ctl.phase.isOut = true := by rw [hp]; rfl
    have hmove := (h.moveOut hm hout).1.clearFault 0
    have hslot : (clearCond causeSlotFault i.val 0 s).slot i = s.slot i :=
      clearCond_slot _ _ _ _ i
    have hv : Vacant g ((clearCond causeSlotFault i.val 0 s).slot i) := hslot ▸ (h.moveOut hm hout).2
    have hdark (hk : g.reach = .slots) : ((clearCond causeSlotFault i.val 0 s).slot i).ctl.pwrEn = false := by
      rw [hslot]
      exact h.dark hi hk hout (by rw [hp]; exact Phase.noConfusion)
    show Midway g (if _ then _ else _)
    split
    · exact Midway.enterSeated hmove hm hv (fun _ => rfl) hdark
    · exact Midway.enterEmpty hmove hm hv (fun _ => rfl) hdark
  · exact h

theorem Midway.actRetrain (h : Midway g s) (hm : g.moving = []) (hb : g.busy = none) (hh : g.held = none)
    (hd : g.dim = none) (i : Slot) : Midway g (actRetrain i s).state := by
  unfold Machine.actRetrain
  split
  · next hp => exact h.retrain hm hb hh hd hp
  · exact h

theorem Midway.actChainStart (h : Midway g s) (i : Slot) : Midway g (actChainStart i s).state := by
  unfold Machine.actChainStart
  split
  · next hp =>
    split
    · exact h.startChain (fun _ _ => hp) _
    · exact h
  · exact h

/-! ## Actions on the units (R81, R107 to R109) -/

theorem Midway.actSetTime (h : Midway g s) (r : Request) : Midway g (actSetTime r s).state := by
  unfold Machine.actSetTime
  split
  · exact h
  split
  · exact h
  · exact h.calm (moveTimeTo_calm ..)

theorem Midway.actSetFrequency (h : Midway g s) (r : Request) : Midway g (actSetFrequency r s).state := by
  unfold Machine.actSetFrequency
  split
  · exact h
  dsimp only
  split
  · exact h
  split
  · exact h
  · exact h.calm (setFreq_calm ..)

theorem timingRestartAll_calm (s : State) : Calm s (timingRestartAll s) :=
  (timingRestart_calm s).trans (postEvent_calm ..)

theorem plainAction_leaving {f : State → State} (h : Midway g s) (hd : g.dim = none) (r : Request) (hf : Midway g (f s)) :
    Leaving g (plainAction f r s).state := by
  unfold plainAction
  split
  · exact h.leaving hd
  · exact hf.leaving hd

end Actions

/-! ## FABRIC-RESTART (R56) -/

section Fabric

variable {g : Scope} {s t : State} {i : Slot} {e : Egress} {r r' : Prop}

theorem Egress.heads_detached (hat : ∀ p, p ∈ e.tx.parcels → p.attached = false)
    (hmain : ∀ p, e.tx.main = some p → p.headerSent = true ∧
      (e.tx ≠ .sending p → p.origin = .cls .control ∨ p.origin = .cls .bulk))
    (hin : ∀ p x, e.tx = .bracket p x → x.origin = .express) : e.heads r := by
  refine ⟨fun p hp ha => ?_, fun p hp => ⟨fun hno => ?_, (hmain p hp).2⟩, hin⟩
  · exact absurd ((hat p hp).symm.trans ha) Bool.false_ne_true
  · exact absurd (hno.symm.trans (hmain p hp).1) Bool.false_ne_true

/-- Parcels that are ended early ask nothing of the queues. -/
theorem Egress.heads_cut (h : e.heads r) {e' : Egress} (htx : e'.tx = e.tx.cut) : e'.heads r' := by
  cases he : e.tx with
  | idle =>
    rw [he] at htx
    exact Egress.heads_idle htx
  | sending p =>
    rw [he] at htx
    cases hs : p.headerSent with
    | false =>
      refine Egress.heads_idle (htx.trans (if_pos ?_))
      unfold TxParcel.notLeft
      rw [hs]
      rfl
    | true =>
      have htx : e'.tx = .sending p.cut := htx.trans (if_neg (by unfold TxParcel.notLeft; rw [hs]; exact Bool.false_ne_true))
      refine Egress.heads_detached (fun q hq => ?_) (fun q hq => ?_) fun q x hq => ?_
      · rw [htx] at hq
        exact List.mem_singleton.mp hq ▸ rfl
      · rw [htx] at hq ⊢
        obtain rfl := Option.some.inj hq
        exact ⟨hs, fun hne => absurd rfl hne⟩
      · exact Tx.noConfusion (htx.symm.trans hq)
  | insertCalled p m =>
    obtain ⟨-, hs, -⟩ := Egress.interrupted h (p := p) (by rw [he]; rfl) (by rw [he]; exact Tx.noConfusion)
    rw [he] at htx
    have htx : e'.tx = .sending p.cut := htx
    refine Egress.heads_detached (fun q hq => ?_) (fun q hq => ?_) fun q x hq => ?_
    · rw [htx] at hq
      exact List.mem_singleton.mp hq ▸ rfl
    · rw [htx] at hq ⊢
      obtain rfl := Option.some.inj hq
      exact ⟨hs, fun hne => absurd rfl hne⟩
    · exact Tx.noConfusion (htx.symm.trans hq)
  | bracket p x =>
    obtain ⟨-, hs, ho⟩ := Egress.interrupted h (p := p) (by rw [he]; rfl) (by rw [he]; exact Tx.noConfusion)
    have hxo := h.2.2 p x he
    rw [he] at htx
    have htx : e'.tx = .bracket p.cut x.cut := htx
    refine Egress.heads_detached (fun q hq => ?_) (fun q hq => ?_) fun q y hq => ?_
    · rw [htx] at hq
      rcases List.mem_cons.mp hq with rfl | hq
      · rfl
      · exact List.mem_singleton.mp hq ▸ rfl
    · rw [htx] at hq
      obtain rfl := Option.some.inj hq
      exact ⟨hs, fun _ => ho⟩
    · obtain ⟨-, rfl⟩ := Tx.bracket.inj (htx.symm.trans hq)
      exact hxo
  | continueDue p =>
    obtain ⟨-, hs, ho⟩ := Egress.interrupted h (p := p) (by rw [he]; rfl) (by rw [he]; exact Tx.noConfusion)
    rw [he] at htx
    have htx : e'.tx = .continueDue p.cut := htx
    refine Egress.heads_detached (fun q hq => ?_) (fun q hq => ?_) fun q x hq => ?_
    · rw [htx] at hq
      exact List.mem_singleton.mp hq ▸ rfl
    · rw [htx] at hq
      obtain rfl := Option.some.inj hq
      exact ⟨hs, fun _ => ho⟩
    · exact Tx.noConfusion (htx.symm.trans hq)

/-- What a FABRIC-RESTART leaves of a slot. -/
def SlotState.cleared (x : SlotState) : SlotState :=
  { x with
    port := { x.port with
      rx := (match x.port.rx with | .inParcel _ _ _ => .skip | r => r), holdReq := false },
    ing := { reception := none, waiting := none, todStage := [], landing := .clear },
    egr := { x.egr with stream := [], control := [], bulk := [], express := [], dwell := 0, tx := x.egr.tx.cut } }

theorem fabricSlot_eq (i : Slot) (s : State) : fabricSlot i s = s.setSlot i (s.slot i).cleared := rfl

theorem cut_idle {tx : Tx} (h : tx.cut ≠ .idle) : tx ≠ .idle := by
  rintro rfl
  exact h rfl

theorem cleared_receives (x : SlotState) : ¬x.cleared.port.rx.receives := by
  rintro ⟨a, n, c, hrx⟩
  have hrx : (match x.port.rx with | .inParcel _ _ _ => RxState.skip | r => r) = .inParcel a n c := hrx
  split at hrx
  · exact RxState.noConfusion hrx
  · next hno => exact hno a n c hrx

/-- The queues, the receptions and the parcels are gone. -/
theorem Midway.cleared (h : Midway g s) (hx : g.extra = []) (hslot : ∀ j, t.slot j = (s.slot j).cleared)
    (hparcels : t.pool.parcels = []) (hraised : t.alarm.raised = s.alarm.raised) (hreplies : t.mgmt.replies = [])
    (hqueue : t.mgmt.queue = s.mgmt.queue) (hclaim : t.mgmt.claim = s.mgmt.claim) : Midway g t := by
  have hnone (pid : Nat) : t.parcel pid = none := by
    unfold State.parcel
    rw [hparcels]
    rfl
  have hisRaised (c : Fin 64) (n : Nat) : t.isRaised c n = s.isRaised c n := by
    unfold State.isRaised
    rw [hraised]
  have hholds (pid : Nat) : t.holdCount pid = 0 := by
    rw [holdCount_eq]
    refine List.sum_eq_zero fun n hn => ?_
    obtain ⟨j, -, rfl⟩ := List.mem_map.mp hn
    rw [hslot]
    rfl
  exact
    { fits := fun hk j hj => by rw [hslot]; exact h.fits hk j hj
      powered := fun hk j hj => by rw [hslot]; exact h.powered hk j hj
      waitFits := fun _ j => by rw [hslot]; exact ⟨rfl, fun w hw => Option.noConfusion rfl (heq_of_eq hw)⟩
      still := fun hk j hj => by
        rw [hslot]
        exact ⟨fun _ => ⟨rfl, rfl, rfl, rfl⟩, fun htx => (h.still hk j hj).2 (cut_idle htx)⟩
      pends := fun _ j w d hw => by
        rw [hslot] at hw
        exact Option.noConfusion rfl (heq_of_eq hw)
      heads := fun hk j => by rw [hslot]; exact Egress.heads_cut (h.heads hk j) rfl
      counted := fun _ => ⟨fun pid p hp => Option.noConfusion rfl (heq_of_eq ((hnone pid).symm.trans hp)),
        fun pid _ => by rw [hholds, hx]; rfl, fun pid _ => hnone pid⟩
      rxFits := fun _ j _ => by rw [hslot]; exact rxFits_idle rfl (cleared_receives _)
      faultFits := fun hk j hj => by rw [hslot, hisRaised]; exact h.faultFits hk j hj
      marked := fun hk j hj => by rw [hisRaised]; exact h.marked hk j hj
      heldFits := fun hk j hj => by rw [hslot, hisRaised]; exact h.heldFits hk j hj
      expressFits := fun _ j => by rw [hslot]; exact Nat.zero_le _
      repliesFit := fun hk => by
        have hfit : s.mgmt.replies.length + boolNat s.mgmt.claim ≤ Config.replyPlaces := h.repliesFit hk
        show t.mgmt.replies.length + boolNat t.mgmt.claim ≤ Config.replyPlaces
        rw [hreplies, hclaim, List.length_nil]
        omega
      requestsFit := fun hk => by rw [hqueue]; exact h.requestsFit hk
      claim := fun hk => by rw [hclaim]; exact h.claim hk }

theorem Midway.clearedPool (h : Midway g s) (hx : g.extra = []) {u : State}
    (hslot : ∀ j, u.slot j = (s.slot j).cleared) (hkeeps : KeepsBut [.port, .ing, .egr] s u) :
    Midway g (fabricPool (u.modMgmt (fun m => { m with replies := [], store := [] }))) := by
  have hcleared : Midway g ((u.modMgmt (fun m => { m with replies := [], store := [] })).modPool
      (fun q => { q with freeCount := Config.poolBlocks, free := List.range Config.poolBlocks, parcels := [] })) := by
    refine h.cleared hx hslot rfl ?_ rfl ?_ ?_
    · show u.alarm.raised = _
      rw [hkeeps.alarm]
    · show u.mgmt.queue = _
      rw [hkeeps.mgmt]
    · show u.mgmt.claim = _
      rw [hkeeps.mgmt]
  exact hcleared.calm (clearCond_calm (by decide) (by decide) ..)

theorem Midway.emptiedFabric (h : Midway g s) (hx : g.extra = []) : Midway g (emptiedFabric s) := by
  obtain ⟨hkeeps, hslots⟩ := eachSlot_at (P := fun t => KeepsBut [.port, .ing, .egr] s t) (s := s) (f := fabricSlot)
    (.refl ..) (fun i t ht _ => by
      obtain ⟨hk, ho⟩ := fabricSlot_leaves i t
      exact ⟨ht.trans hk, ho⟩)
  unfold Machine.emptiedFabric
  generalize s.eachSlot fabricSlot = u at hkeeps hslots ⊢
  refine h.clearedPool hx (fun j => ?_) hkeeps
  obtain ⟨t, -, hslot, hsame⟩ := hslots j
  rw [hsame, ← hslot, fabricSlot_eq, slot_setSlot_self]

theorem engineFreed_calm (s : State) : Calm s (engineFreed s) :=
  (Calm.trans (s := s) (t := s.modChain (fun c => { c with busy := none })) (.of_same rfl rfl rfl rfl)
    (emptyLog_calm _)).trans (postEvent_calm ..)

theorem Midway.stoppedFabric (h : Midway g s) : Midway g (stoppedFabric s) :=
  (h.eachSlot fun i _ ht => ht.abortChain i .stopped).calm (engineFreed_calm _)

theorem Midway.fabricRestart (h : Midway g s) (hm : g.moving = []) (hb : g.busy = none) (hh : g.held = none)
    (hd : g.dim = none) (hx : g.extra = []) : Midway g (fabricRestart s) := by
  have hsettled := ((h.emptiedFabric hx).leaving hd).settleDrains hm hb hh hd
  change Midway g (Machine.stoppedFabric (settleDrains (Machine.emptiedFabric s)))
  exact hsettled.stoppedFabric

end Fabric

end Sys2Proof.Machine
end

section
/-! PROOFS. Inside an event: the commands of the slot controller, of the chain engine and of time
(R85, R126 to R142, R149). -/

namespace Sys2Proof.Machine

/-! ## Contacts (R126, R140) -/

section Contacts

variable {g : Scope} {s t : State} {i : Slot} {b : Bool}

theorem setMade_calm (i : Slot) (k : Contact) (b : Bool) (s : State) : Calm s (s.modCtl i (fun c => c.setMade k b)) := by
  have hlong (u : State) : Calm u (u.modCtl i (fun c => { c with presL := b })) := .setSlot rfl
  have hshort (u : State) : Calm u (u.modCtl i (fun c => { c with presS := b })) := .setSlot rfl
  cases k
  · exact hlong s
  · exact hshort s

/-- A slot timer stops. -/
theorem Midway.stopTimer (h : Midway g s) (i : Slot) : Midway g (s.modCtl i (fun c => { c with timer := none })) :=
  h.alter (e := g.extra)
    { powered := fun _ _ ⟨h1, h2, h3, h4, _⟩ => ⟨h1, h2, h3, h4, fun _ hu => Option.noConfusion rfl (heq_of_eq hu)⟩ }

theorem Vacant.seatDebounce (hv : Vacant g (s.slot i)) : Vacant g ((seatDebounce i s).slot i) := by
  have htimer (u : Option SlotTimer) : Vacant g { s.slot i with ctl := { (s.slot i).ctl with timer := u } } :=
    ⟨hv.link, hv.chain, hv.queues, hv.tx, hv.reset, hv.inputs⟩
  unfold Machine.seatDebounce
  dsimp only
  split
  · unfold startTimer State.modCtl
    rw [slot_setSlot_self]
    exact htimer _
  · exact hv

/-- An EMPTY slot's controls after the seat debounce. -/
theorem seatDebounce_timer (htimer : (s.slot i).ctl.timer = none) :
    ∃ x, ((seatDebounce i s).slot i).ctl = { (s.slot i).ctl with timer := x } ∧
      ∀ u, x = some u → u.kind.phase = .empty := by
  rw [seatDebounce_ctl]
  split
  · exact ⟨_, rfl, fun u hu => by obtain rfl := Option.some.inj hu; rfl⟩
  · refine ⟨none, ?_, fun u hu => Option.noConfusion rfl (heq_of_eq hu)⟩
    rw [← htimer]

/-- A card taken out of a FAULTED slot: SLOT-FAULT is cleared last (R140, R142). -/
theorem Midway.removeFaulted (h : Midway g s) (hm : g.moving = []) (hp : (s.slot i).ctl.phase = .faulted) (w : Word) :
    Midway g (clearCond causeSlotFault i.val w (Machine.enterEmpty i s)) := by
  have hi : i ∉ g.moving := hm ▸ List.not_mem_nil
  have hout : (s.slot i).ctl.phase.isOut = true := by rw [hp]; rfl
  obtain ⟨hmove, hv⟩ := h.moveOut hm hout
  have hentered := ((hmove.enterOutVacant hv .empty).seatDebounce i).clearFault w
  have hslot : (clearCond causeSlotFault i.val w (Machine.enterEmpty i s)).slot i = (Machine.enterEmpty i s).slot i :=
    clearCond_slot _ _ _ _ i
  have hctl := enterOut_ctl (i := i) (s := s) .empty
  obtain ⟨x, hx, hkind⟩ := seatDebounce_timer (i := i) (s := Machine.enterOut i .empty s) (by rw [hctl]; rfl)
  have hctl' : ((clearCond causeSlotFault i.val w (Machine.enterEmpty i s)).slot i).ctl =
      { (s.slot i).ctl.entering .empty with timer := x } := by
    rw [hslot]
    unfold Machine.enterEmpty
    rw [hx, hctl]
  refine hentered.arriveOut hm (hslot ▸ (hv.enterOut .empty).seatDebounce) ?_ ?_ ?_ (fun hk _ => ?_)
    (fun _ u hu => ?_) fun _ => ?_
  · change ((clearCond causeSlotFault i.val w (Machine.enterEmpty i s)).slot i).ctl.phase.isOut = true
    rw [hctl']
    rfl
  · change ((clearCond causeSlotFault i.val w (Machine.enterEmpty i s)).slot i).ctl.sub = .awake
    rw [hctl']
    rfl
  · change ((clearCond causeSlotFault i.val w (Machine.enterEmpty i s)).slot i).ctl.restReq = false
    rw [hctl']
    rfl
  · change ((clearCond causeSlotFault i.val w (Machine.enterEmpty i s)).slot i).ctl.pwrEn = false
    rw [hctl']
    exact h.dark hi hk hout (by rw [hp]; exact Phase.noConfusion)
  · change ((clearCond causeSlotFault i.val w (Machine.enterEmpty i s)).slot i).ctl.timer = some u at hu
    change u.kind.phase = ((clearCond causeSlotFault i.val w (Machine.enterEmpty i s)).slot i).ctl.phase
    rw [hctl'] at hu ⊢
    exact hkind u hu
  · change ((clearCond causeSlotFault i.val w (Machine.enterEmpty i s)).slot i).faultFits false
    refine faultFits_clear ?_ ?_ rfl
    · rw [hctl']
      exact Phase.noConfusion
    · rw [hctl']
      rfl

/-- A slot out of traffic, with no fault, goes on to EMPTY. -/
theorem Midway.unseat (h : Midway g s) (hm : g.moving = []) (hp : (s.slot i).ctl.phase = .seated) :
    Midway g (Machine.enterEmpty i s) := by
  have hi : i ∉ g.moving := hm ▸ List.not_mem_nil
  have hout : (s.slot i).ctl.phase.isOut = true := by rw [hp]; rfl
  obtain ⟨hmove, hv⟩ := h.moveOut hm hout
  exact hmove.enterEmpty hm hv (fun hk => h.unmarked hi hk (by rw [hp]; exact Phase.noConfusion))
    fun hk => h.dark hi hk hout (by rw [hp]; exact Phase.noConfusion)

theorem Midway.seat (h : Midway g s) (hm : g.moving = []) (hp : (s.slot i).ctl.phase = .empty) :
    Midway g (Machine.enterSeated i s) := by
  have hi : i ∉ g.moving := hm ▸ List.not_mem_nil
  have hout : (s.slot i).ctl.phase.isOut = true := by rw [hp]; rfl
  obtain ⟨hmove, hv⟩ := h.moveOut hm hout
  exact hmove.enterSeated hm hv (fun hk => h.unmarked hi hk (by rw [hp]; exact Phase.noConfusion))
    fun hk => h.dark hi hk hout (by rw [hp]; exact Phase.noConfusion)

theorem contactGone_leaving (h : Midway g s) (hm : g.moving = []) (hb : g.busy = none) (hh : g.held = none)
    (hd : g.dim = none) (i : Slot) (k : Contact) : Leaving g (contactGone i k s) := by
  have hremove (n : Nat) (hne : (s.slot i).ctl.phase ≠ .faulted) : Leaving g (Machine.remove i n s) :=
    (Midway.remove h hm hb hh (fun _ => hne) n).leaving hd
  unfold contactGone
  split
  · exact (h.stopTimer i).leaving hd
  · next hp => exact (h.unseat hm hp).leaving hd
  · next hp => exact hremove 2 (by rw [hp]; exact Phase.noConfusion)
  · next hp => exact hremove 1 (by rw [hp]; exact Phase.noConfusion)
  · next hp => exact hremove 2 (by rw [hp]; exact Phase.noConfusion)
  · next hp => exact hremove 1 (by rw [hp]; exact Phase.noConfusion)
  · next hp => exact h.enterDraining hm hd hp
  · next hp => exact hremove 1 (by rw [hp]; exact Phase.noConfusion)
  · exact h.leaving hd
  · next hp => exact hremove 1 (by rw [hp]; exact Phase.noConfusion)
  · exact h.leaving hd
  · next hp => exact hremove 0 (by rw [hp]; exact Phase.noConfusion)
  · next hp => exact (h.removeFaulted hm hp 0).leaving hd

/-- PWR-GOOD's level is no concern of the slots. -/
theorem setGood_calm (i : Slot) (b : Bool) (s : State) :
    Calm s (s.modCtl i (fun c => { c with pwrGood := b })) := .setSlot rfl

/-- RESET-OUT is released and training begins (R129, R131). -/
theorem Midway.releaseReset (h : Midway g s) (hm : g.moving = []) (hb : g.busy = none) (hh : g.held = none)
    (hd : g.dim = none) (hp : (s.slot i).ctl.phase = .powering) :
    Midway g (Machine.enterTraining i (s.modCtl i (fun c => { c with resetOut := false }))) := by
  have hi : i ∉ g.moving := hm ▸ List.not_mem_nil
  have hset := (h.move hm i).setCtl (f := fun c => { c with resetOut := false }) List.mem_cons_self fun _ => rfl
  refine Midway.enterTraining (g := g) hset hm hb hh ⟨fun hk => ?_, fun _ => by simp, fun hk hno => ?_⟩ fun hk =>
    h.unmarked hi hk (by rw [hp]; exact Phase.noConfusion)
  · have hlit := h.lit hi hd hk (by rw [hp]; rfl)
    simpa using hlit
  · have hidle := h.quietLink hi hk (dst := .training) rfl (by simpa using hno)
    simpa using hidle

end Contacts

/-! ## Sideband lines and cabinet inputs (R127, R128, R165) -/

section Lines

variable {g : Scope} {s t : State} {i : Slot}

theorem setDebounces_calm (i : Slot) (f f' : Ctl → Debounce) (s : State) :
    Calm s (s.modCtl i (fun c => { c with deb0 := f c, deb1 := f' c })) := .setSlot rfl

theorem followLines_calm (i : Slot) (s : State) : Calm s (followLines i s) :=
  setDebounces_calm i
    (fun c => if c.inputsEn && (s.slot i).cfg.fn0 == .alarmIn then c.deb0.follow c.lev0 s.uptime else c.deb0)
    (fun c => if c.inputsEn && (s.slot i).cfg.fn1 == .alarmIn then c.deb1.follow c.lev1 s.uptime else c.deb1) s

theorem setLevel_calm (i : Slot) (l : Line) (b : Bool) (s : State) : Calm s (s.modCtl i (fun c => c.setLevel l b)) := by
  have h0 (u : State) : Calm u (u.modCtl i (fun c => { c with lev0 := b })) := .setSlot rfl
  have h1 (u : State) : Calm u (u.modCtl i (fun c => { c with lev1 := b })) := .setSlot rfl
  cases l
  · exact h0 s
  · exact h1 s

theorem judgeCardAlarm_calm (i : Slot) (was : Bool) (s : State) : Calm s (judgeCardAlarm i was s) :=
  calm_ite (raiseCond_calm (by decide) (slot_lt_64 i) ..)
    (calm_ite (clearCond_calm (by decide) (slot_lt_64 i) ..) (.refl s))

theorem setInput_calm (n : Fin 8) (x : CabInput) (s : State) : Calm s (s.setInput n x) := .of_same rfl rfl rfl rfl

theorem input_lt_64 (n : Fin 8) : n.val < 64 := Nat.lt_trans n.isLt (by decide)

theorem stopPulses_calm (i : Slot) (f f' : Option Nat → Option Nat) (s : State) :
    Calm s (s.modCtl i (fun c => { c with pulse0 := f c.pulse0, pulse1 := f' c.pulse1 })) := .setSlot rfl

end Lines

/-! ## Core periods (R1, R85, R117) -/

section Core

variable {g : Scope} {s t : State} {i : Slot}

theorem Midway.corePeriod (h : Midway g s) (hm : g.moving = []) (hb : g.busy = none) (hh : g.held = none)
    (hd : g.dim = none) : Midway g (corePeriod s) := by
  have hwords : Midway g ((takeUptime s).eachSlot Machine.wordSlot) :=
    (h.calm (takeUptime_calm s)).eachSlot fun i _ ht => ht.wordSlot i
  have hsettled := (hwords.leaving hd).settleDrains hm hb hh hd
  have hticked := hsettled.calm (modTiming_calm (fun t => { t with core := t.core + 1, time := t.time.advance t.adj }) _)
  unfold Machine.corePeriod
  dsimp only
  split
  · exact hticked.makeTimeParcels
  · exact hticked

end Core

end Sys2Proof.Machine
end

section
/-! PROOFS. After a reset (R57, R123, R144, R181). -/

namespace Sys2Proof.Machine

section Resets

variable {k : Reach} {pin msel retain : Bool} {s t : State} {d0 d1 : Debounce} {i : Slot} {x y : SlotState}

/-- What the judgement of a slot after a reset leaves of it. -/
structure SlotState.Started (x : SlotState) : Prop where
  fits : x.fits
  powered : x.powered True
  port : x.port.rx = .awaitHeader ∧ x.port.holdReq = false ∧ x.port.cardHold = false ∧ x.port.holdTimer = none
  ing : x.ing = Ingress.reset
  egr : x.egr = Egress.reset
  reason : x.ctl.reason.isSome ↔ x.ctl.phase = .faulted

/-- Settings, levels and debouncers aside, a slot's parts are given. -/
theorem started_reset (auto : Bool) (c : Ctl) (hsub : c.sub = .awake) (hreq : c.restReq = false)
    (hphase : c.phase = .empty ∨ c.phase = .faulted) (hpwr : c.pwrEn = false) (hin : c.inputsEn = false)
    (hreset : c.resetOut = false) (htimer : ∀ u, c.timer = some u → u.kind.phase = c.phase)
    (hreason : c.reason.isSome ↔ c.phase = .faulted) : (SlotState.reset auto c).Started := by
  have hne (q : Phase) (hq : q.isOut = false) : c.phase ≠ q := by
    rintro rfl
    rcases hphase with hp | hp <;> rw [hp] at hq <;> exact Bool.noConfusion hq
  have hout : c.phase.isOut = true := by rcases hphase with hp | hp <;> rw [hp] <;> rfl
  refine ⟨⟨linkFits_out hout, fun h => absurd hsub h, fun h => absurd h (hne _ rfl), fun h => ?_, fun h => absurd rfl h⟩,
    ⟨fun _ h => ?_, fun _ _ => hpwr, fun h => ?_, ⟨fun h => ?_, fun h => absurd h (hne _ rfl)⟩, htimer⟩,
    ⟨rfl, rfl, rfl, rfl⟩, rfl, rfl, hreason⟩
  · exact absurd (hreq.symm.trans h) Bool.false_ne_true
  · exact absurd (h.symm.trans hout) Bool.false_ne_true
  · exact absurd (hin.symm.trans h) Bool.false_ne_true
  · exact absurd (hreset.symm.trans h) Bool.false_ne_true

/-- The settings of a slot are no concern of it. -/
theorem SlotState.Started.setCfg (h : x.Started) (c : SlotSettings) : ({ x with cfg := c } : SlotState).Started :=
  ⟨h.fits, h.powered, h.port, h.ing, h.egr, h.reason⟩

theorem SlotState.Started.seatTimed (h : x.Started) : x.seatTimed.Started := by
  obtain ⟨h1, h2, h3, h4, h5⟩ := h.powered
  unfold SlotState.seatTimed
  by_cases hseat : x.ctl.phase = .empty ∧ x.ctl.presL = true ∧ x.ctl.presS = true
  · rw [if_pos hseat]
    refine ⟨h.fits, ⟨h1, h2, h3, h4, fun u hu => ?_⟩, h.port, h.ing, h.egr, h.reason⟩
    obtain rfl := Option.some.inj hu
    exact hseat.1.symm
  · rw [if_neg hseat]
    exact h

theorem trained_started (auto : Bool) (c : Ctl) (hreset : c.resetOut = false) (hpwr : c.pwrEn = true) :
    ({ SlotState.reset auto c with
      port := { Port.reset with link := .training, trainReq := some 0 },
      ctl := { c.entering .training with inputsEn := true, train := Training.first, deb0 := d0, deb1 := d1 } } :
      SlotState).Started := by
  refine ⟨⟨rfl, fun h => absurd rfl h, fun h => Phase.noConfusion h, fun h => Bool.noConfusion h, fun h => absurd rfl h⟩,
    ⟨fun _ _ => hpwr, fun h => Bool.noConfusion h, fun _ => hpwr, ⟨fun h => ?_, fun h => Phase.noConfusion h⟩,
      fun u hu => Option.noConfusion rfl (heq_of_eq hu)⟩, ⟨rfl, rfl, rfl, rfl⟩, rfl, rfl,
    ⟨fun h => Bool.noConfusion h, fun h => Phase.noConfusion h⟩⟩
  exact absurd (hreset.symm.trans h) Bool.false_ne_true

/-- Every slot after a reset, by the power it kept, its contacts and PWR-GOOD (R144). -/
theorem judged_started : ((s.resetSlot pin msel retain i).judged d0 d1).Started := by
  have hcold (a : Bool) (b c d e f : Bool) : (SlotState.reset a (Ctl.reset b c d e f)).Started :=
    started_reset a _ rfl rfl (.inl rfl) rfl rfl rfl (fun u hu => Option.noConfusion rfl (heq_of_eq hu))
      ⟨fun h => Bool.noConfusion h, fun h => Phase.noConfusion h⟩
  cases h : KeepsPower pin retain s i with
  | false =>
    rw [resetSlot_lost h]
    exact hcold ..
  | true =>
    rw [resetSlot_kept h]
    obtain ⟨c, hc⟩ : ∃ c : Ctl, c = { Ctl.reset (s.slot i).ctl.presL (s.slot i).ctl.presS (s.slot i).ctl.pwrGood
        (s.slot i).ctl.lev0 (s.slot i).ctl.lev1 with pwrEn := true } := ⟨_, rfl⟩
    have hon : c.pwrEn = true ∧ c.resetOut = false := by rw [hc]; exact ⟨rfl, rfl⟩
    rw [← hc]
    unfold SlotState.judged
    dsimp only
    split
    · split
      · split
        · exact (trained_started (i.val == boolNat msel) c hon.2 hon.1).setCfg _
        · refine (started_reset (i.val == boolNat msel) (c.faulted .powerLost) rfl rfl (.inr rfl) rfl rfl rfl
            (fun u hu => Option.noConfusion rfl (heq_of_eq hu)) ⟨fun _ => rfl, fun _ => rfl⟩).setCfg _
      · refine (started_reset (i.val == boolNat msel) c.poweredOff ?_ ?_ ?_ rfl rfl rfl ?_ ?_).setCfg _
        all_goals rw [hc]
        · rfl
        · rfl
        · exact .inl rfl
        · exact fun u hu => Option.noConfusion rfl (heq_of_eq hu)
        · exact ⟨fun h => Bool.noConfusion h, fun h => Phase.noConfusion h⟩
    · next hoff => exact absurd hon.1 hoff

theorem seatTimed_phase (x : SlotState) : x.seatTimed.ctl.phase = x.ctl.phase := by
  unfold SlotState.seatTimed
  dsimp only
  split <;> rfl

/-- A state of slots just started, with an empty pool and an empty management unit. -/
theorem Midway.started (hslot : ∀ j, (t.slot j).Started) (hparcels : t.pool.parcels = [])
    (hmgmt : t.mgmt.replies = [] ∧ t.mgmt.queue = [] ∧ t.mgmt.claim = false)
    (hfault : ∀ j : Slot, t.isRaised causeSlotFault j.val = true ↔ (t.slot j).ctl.phase = .faulted)
    (hheld : ∀ j : Slot, t.isRaised causeLinkHeld j.val = false) : Midway k.rest t := by
  obtain ⟨hreplies, hqueue, hclaim⟩ := hmgmt
  have hnone (pid : Nat) : t.parcel pid = none := by
    unfold State.parcel
    rw [hparcels]
    rfl
  have hholds (pid : Nat) : t.holdCount pid = 0 := by
    rw [holdCount_eq]
    refine List.sum_eq_zero fun n hn => ?_
    obtain ⟨j, -, rfl⟩ := List.mem_map.mp hn
    unfold SlotState.holdsOf
    rw [(hslot j).egr, (hslot j).ing]
    rfl
  have hwaiting (j : Slot) : (t.slot j).ing.waiting = none := by rw [(hslot j).ing]; rfl
  exact
    { fits := fun _ j _ => (hslot j).fits
      powered := fun _ j _ => powered_mono (hslot j).powered fun _ => trivial
      waitFits := fun _ j => by
        refine ⟨?_, fun w hw => Option.noConfusion rfl (heq_of_eq ((hwaiting j).symm.trans hw))⟩
        rw [hwaiting, (hslot j).port.2.1]
        rfl
      still := fun _ j _ => by
        unfold SlotState.still
        rw [(hslot j).egr]
        exact ⟨fun _ => ⟨rfl, rfl, rfl, rfl⟩, fun htx => absurd rfl htx⟩
      pends := fun _ j w d hw => Option.noConfusion rfl (heq_of_eq ((hwaiting j).symm.trans hw))
      heads := fun _ j => Egress.heads_idle (by rw [(hslot j).egr]; rfl)
      counted := fun _ => ⟨fun pid p hp => Option.noConfusion rfl (heq_of_eq ((hnone pid).symm.trans hp)),
        fun pid _ => by rw [hholds]; rfl, fun pid _ => hnone pid⟩
      rxFits := fun _ j _ => rxFits_idle (by rw [(hslot j).ing]; rfl) (by rw [(hslot j).port.1]; exact await_receives)
      faultFits := fun _ j _ => ⟨hfault j, (hslot j).reason⟩
      marked := fun _ j hj => absurd hj List.not_mem_nil
      heldFits := fun _ j _ => by
        refine ⟨fun hs => ?_, fun hr => absurd ((hheld j).symm.trans hr) Bool.false_ne_true⟩
        rw [(hslot j).port.2.2.2] at hs
        exact Bool.noConfusion hs
      expressFits := fun _ j => by
        unfold SlotState.expressFits
        rw [(hslot j).egr]
        exact Nat.zero_le _
      repliesFit := fun _ => by
        show t.mgmt.replies.length + boolNat t.mgmt.claim ≤ Config.replyPlaces
        rw [hreplies, hclaim]
        exact Nat.zero_le _
      requestsFit := fun _ => by
        rw [hqueue]
        exact Nat.zero_le _
      claim := fun _ => hclaim }

theorem afterReset_started (pin msel retain : Bool) (s : State) : Midway k.rest (afterReset pin msel retain s) ∧
    ∀ j, ((afterReset pin msel retain s).slot j).ctl.phase ≠ .draining := by
  obtain ⟨v, hv, hkeeps, hjudged, hslots⟩ := afterReset_spec (pin := pin) (msel := msel) (retain := retain) (s := s)
  have hbefore : KeepsBut [.ctl, .port, .alarm] (resetBlocks pin msel retain s) (afterReset pin msel retain s) :=
    (restarted_keeps.then hv.keeps (rs := [.ctl, .port, .alarm])).then hkeeps
  have hphase (j : Slot) : ((afterReset pin msel retain s).slot j).ctl.phase = (v.slot j).ctl.phase := by
    rw [hslots, seatTimed_phase]
  refine ⟨.started (fun j => ?_) ?_ ?_ (fun j => ?_) fun j => ?_, fun j => ?_⟩
  · obtain ⟨d0, d1, hslot⟩ := hjudged j
    rw [hslots, hslot]
    exact judged_started.seatTimed
  · rw [hbefore.pool]
    rfl
  · rw [hbefore.mgmt]
    exact ⟨rfl, rfl, rfl⟩
  · rw [isRaised_of_alarm hkeeps.alarm, hphase]
    exact hv.faults j
  · rw [isRaised_of_alarm hkeeps.alarm]
    exact hv.quiet _ _ (by decide) (slot_lt_64 j)
  · obtain ⟨d0, d1, hslot⟩ := hjudged j
    rw [hphase, hslot]
    have hempty : (s.resetSlot pin msel retain j).ctl.phase = .empty := (resetSlot_fields j).2.2.2.2
    unfold SlotState.judged
    split
    · split
      · split
        · exact Phase.noConfusion
        · exact Phase.noConfusion
      · show (s.resetSlot pin msel retain j).ctl.phase ≠ .draining
        rw [hempty]
        exact Phase.noConfusion
    · rw [hempty]
      exact Phase.noConfusion

end Resets

end Sys2Proof.Machine
end

section
/-! PROOFS. Operations that leave no DRAINING slot with an empty egress where none was (R46, R138). -/

namespace Sys2Proof.Machine

section Settled

variable {ps : List Part} {i : Slot} {s t u : State} {e : Egress} {r : Prop}

/-- Where the egress-empty reports have nothing to do, no DRAINING slot has an empty egress. -/
theorem settled_of_settles (h : settleDrains t = t) : t.settled := h ▸ settleDrains_settled t

theorem Calm.settled (h : Calm s t) (hs : s.settled) : t.settled := by
  refine drained_none_of_grow hs (fun j => h.even.phase j) (fun j => ?_) h.grow
  show (t.slot j).bare.egr = (s.slot j).bare.egr
  rw [h.bare j]

theorem Fills.settled (h : Fills s t) (hs : s.settled) : t.settled := settled_of_settles (h.settles hs)

theorem Touches.settled (h : Touches ps i s t) (hs : s.settled) (hi : (t.slot i).ctl.phase ≠ .draining) : t.settled :=
  settled_of_settles (h.settles hs hi)

/-- Something is on the transmit side afterwards. -/
theorem Touches.settled_busy (h : Touches ps i s t) (hs : s.settled) (hi : (t.slot i).egr.tx ≠ .idle)
    (hing : Part.ing ∉ ps := by decide) : t.settled :=
  settled_of_settles ((h.shuts hing).settles_nonempty hs fun hbare => hi hbare.1)

/-- The controls change but for the slot state. -/
theorem settled_of_phase (h : Touches ps i s t) (hs : s.settled) (hphase : (t.slot i).ctl.phase = (s.slot i).ctl.phase)
    (he : Part.egr ∉ ps := by decide) : t.settled := by
  refine drained_none_of_grow hs (fun j => ?_) (fun j => h.keeps.1 .egr he j) h.grow
  by_cases hj : j = i
  · rw [hj, hphase]
  · rw [h.others j hj]

/-- A transmit side that is free, with nothing queued and no reply, has nothing handed over. -/
theorem Egress.idle_of_free (h : e.heads r) (hfree : e.tx.free = true) (hstream : e.stream = []) (hcontrol : e.control = [])
    (hbulk : e.bulk = []) (hexpress : e.express = []) (hr : ¬r) : e.tx = .idle := by
  cases htx : e.tx with
  | idle => rfl
  | sending p =>
    exfalso
    rw [htx] at hfree
    have hleft : p.headerSent = false := by
      have := (Bool.and_eq_true _ _ ▸ hfree).1
      simpa [TxParcel.notLeft] using this
    have hat := h.1 p (by rw [htx]; exact List.mem_cons_self) ((h.2.1 p (by rw [htx]; rfl)).1 hleft).2
    cases ho : p.origin with
    | express =>
      rw [ho] at hat
      exact hat hexpress
    | reply =>
      rw [ho] at hat
      exact hr hat
    | cls c =>
      rw [ho] at hat
      have hqueue : e.queue c = [] := by
        cases c
        · exact hstream
        · exact hcontrol
        · exact hbulk
      have hat : (e.queue c).head? = some p.pid := hat
      rw [hqueue] at hat
      exact Option.noConfusion rfl (heq_of_eq hat)
  | insertCalled p m => rw [htx] at hfree; exact Bool.noConfusion hfree
  | bracket p x => rw [htx] at hfree; exact Bool.noConfusion hfree
  | continueDue p => rw [htx] at hfree; exact Bool.noConfusion hfree

/-- What was handed over is handed back, and every queue stays. -/
theorem settled_of_handedBack (h : Touches ps i s t) (hs : s.settled) (hheads : (s.slot i).egr.heads (s.hasReply i))
    (hphase : (t.slot i).ctl.phase = (s.slot i).ctl.phase)
    (hback : (t.slot i).egr.bare → (s.slot i).egr.tx.free = true ∧ (s.slot i).egr.stream = [] ∧
      (s.slot i).egr.control = [] ∧ (s.slot i).egr.bulk = [] ∧ (s.slot i).egr.express = []) : t.settled := by
  refine drained_none_of_before hs fun j hj hempty => ?_
  by_cases hji : j = i
  · subst hji
    obtain ⟨l, hmgmt⟩ := h.grow
    have hslot : t.mgmtSlot = s.mgmtSlot := mgmtSlot_of_msel (by rw [hmgmt])
    rw [egressEmpty_iff] at hempty ⊢
    obtain ⟨hbare, hreplies⟩ := hempty
    obtain ⟨hfree, h1, h2, h3, h4⟩ := hback hbare
    rw [hslot, hmgmt] at hreplies
    have hnone (hm : j = s.mgmtSlot) : s.mgmt.replies = [] ∧ s.mgmt.claim = false :=
      ⟨(List.append_eq_nil_iff.mp (hreplies hm).1).1, (hreplies hm).2⟩
    have hidle := Egress.idle_of_free hheads hfree h1 h2 h3 h4 fun hr => hr.2 (hnone hr.1).1
    exact ⟨hphase ▸ hj, ⟨hidle, h1, h2, h3, h4⟩, hnone⟩
  · exact ⟨h.others j hji ▸ hj, egressEmpty_before (h.others j hji) h.grow hempty⟩

theorem makeChoice_settled (hs : s.settled) (hheads : (s.slot i).egr.heads (s.hasReply i)) : (makeChoice i s).settled := by
  unfold makeChoice
  split
  · next hmay =>
    refine settled_of_handedBack choose_touches hs hheads (by rw [choose_touches.ctl]) fun hbare => ?_
    obtain ⟨-, h1, h2, h3, h4⟩ := hbare
    obtain ⟨hq1, hq2, hq3, hq4⟩ := choose_queues i s
    refine ⟨?_, hq1 ▸ h1, hq2 ▸ h2, hq3 ▸ h3, hq4 ▸ h4⟩
    simp only [State.mayChoose, Bool.and_eq_true] at hmay
    have hopen := hmay.1.2
    unfold State.choiceOpen at hopen
    cases htx : (s.slot i).egr.tx with
    | idle => rfl
    | sending p =>
      rw [htx] at hopen
      simp only [Bool.and_eq_true] at hopen
      exact Bool.and_eq_true _ _ ▸ hopen.1.1.1.1
    | insertCalled p m => rw [htx] at hopen; exact Bool.noConfusion hopen
    | bracket p x => rw [htx] at hopen; exact Bool.noConfusion hopen
    | continueDue p => rw [htx] at hopen; exact Bool.noConfusion hopen
  · exact hs

theorem free_of_occasion (h : e.occasion.tx = .idle) : e.tx.free = true := by
  by_contra hno
  have hsame : e.occasion.tx = e.tx := if_neg hno
  rw [hsame] at h
  rw [h] at hno
  exact hno rfl

theorem occasion_settled (hs : s.settled) (hheads : (s.slot i).egr.heads (s.hasReply i)) :
    (s.modEgr i Egress.occasion).settled := by
  have htouch := modEgr_touches i s Egress.occasion
  refine settled_of_handedBack htouch hs hheads (by rw [htouch.ctl]) fun hbare => ?_
  rw [modEgr_egr_self] at hbare
  obtain ⟨htx, h1, h2, h3, h4⟩ := hbare
  exact ⟨free_of_occasion htx, h1, h2, h3, h4⟩

theorem cardHoldOff_settled (hs : s.settled) : (cardHoldOff i s).settled := by
  unfold cardHoldOff
  split
  · exact settled_of_phase (modPort_touches i s _) hs (by simp)
  · exact hs

theorem cardResume_settled (hs : s.settled) (hheads : (s.slot i).egr.heads (s.hasReply i)) : (cardResume i s).settled := by
  unfold cardResume
  split
  · have hset := settled_of_phase (modPort_touches i s (fun p => { p with cardHold := false, holdTimer := none })) hs
      (by simp)
    refine settled_of_phase (clearCond_touches i _ ..) (occasion_settled hset ?_) (by rw [(clearCond_touches i _ ..).ctl])
    simpa [State.hasReply, State.mgmtSlot] using hheads
  · exact hs

theorem holdOffExpire_settled (hs : s.settled) (w : Word) :
    (raiseCond causeLinkHeld i.val w (s.modPort i (fun p => { p with holdTimer := none }))).settled := by
  have htouch := (modPort_touches i s (fun p => { p with holdTimer := none })).then
    (raiseCond_touches i _ causeLinkHeld i.val w) (rs := [.port, .alarm, .mgmt])
  exact settled_of_phase htouch hs (by rw [htouch.ctl])

theorem cardAwake_settled (hs : s.settled) : (cardAwake i s).settled := by
  rw [cardAwake_eq]
  have hset (y : SlotState) (hctl : y.ctl.phase = (s.slot i).ctl.phase) (hegr : y.egr = (s.slot i).egr) :
      (s.setSlot i y).settled := by
    refine drained_none_of_grow hs (fun j => ?_) (fun j => ?_) (.of_eq rfl)
    · by_cases hj : j = i
      · rw [hj, slot_setSlot_self, hctl]
      · rw [slot_setSlot_ne s y hj]
    · by_cases hj : j = i
      · rw [hj, slot_setSlot_self, hegr]
      · rw [slot_setSlot_ne s y hj]
  split
  · split
    · exact hset _ rfl rfl
    · exact hset _ rfl rfl
  · exact hs

theorem current_some {tx : Tx} {p : TxParcel} (h : tx.current = some p) (q : TxParcel) : tx.setCurrent q ≠ .idle := by
  cases tx with
  | idle => exact Option.noConfusion rfl (heq_of_eq h)
  | sending y => exact Tx.noConfusion
  | insertCalled y m => exact Tx.noConfusion
  | bracket y x => exact Tx.noConfusion
  | continueDue y => exact Tx.noConfusion

theorem judgeLate_touches (i : Slot) (c : CabTime) (n : Nat) (s : State) : Touches [.alarm, .mgmt] i s (judgeLate i c n s) :=
  touches_ite (postEvent_touches ..) (.refl ..)

theorem departNext_settled (hs : s.settled) : (departNext i s).settled := by
  unfold departNext
  dsimp only
  split
  · exact hs
  · next p hp =>
    split
    · exact hs
    · split
      · unfold departEdge
        dsimp only
        refine Touches.settled_busy (ps := [.egr, .port, .alarm, .mgmt]) (((modEgr_touches i s _).then
          (sendWord_touches _ i _) (rs := [.egr, .port])).then (judgeLate_touches i _ _ _)) hs ?_
        rw [(judgeLate_touches ..).egr, (sendWord_touches ..).egr, modEgr_egr_self]
        exact current_some hp _
      · exact hs

theorem sendSuspend_settled (hs : s.settled) : (sendSuspend i s).settled := by
  unfold sendSuspend
  split
  · split
    · refine Touches.settled_busy (ps := [.egr, .port]) ((modEgr_touches i s _).then (sendMark_touches _ i _)) hs ?_
      rw [(sendMark_touches ..).egr, modEgr_egr_self]
      exact Tx.noConfusion
    · exact hs
  · exact hs

theorem callInsertion_busy (h : (s.slot i).egr.tx ≠ .idle) : ((callInsertion i s).slot i).egr.tx ≠ .idle := by
  unfold callInsertion
  split
  · split
    · rw [modEgr_egr_self]
      exact Tx.noConfusion
    · exact h
  · exact h

theorem sendContinue_settled (hs : s.settled) : (sendContinue i s).settled := by
  unfold sendContinue
  split
  · split
    · refine Touches.settled_busy (ps := [.egr, .port]) (((modEgr_touches i s _).then (sendMark_touches _ i _)
        (rs := [.egr, .port])).then (callInsertion_touches ..)) hs (callInsertion_busy ?_)
      rw [(sendMark_touches ..).egr, modEgr_egr_self]
      exact Tx.noConfusion
    · exact hs
  · exact hs

theorem sendRest_settled (hs : s.settled) (hfits : (s.slot i).fits) : (sendRest i s).settled := by
  unfold sendRest
  split
  · next hgo =>
    have hreq : (s.slot i).ctl.restReq = true := by
      simp only [State.restWaits, Bool.and_eq_true] at hgo
      exact hgo.1.2.1.1
    obtain ⟨-, hsub, -, hrest, -⟩ := hfits
    have hadm : (s.slot i).ctl.phase = .admitted := hsub (by rw [(hrest hreq).1]; exact SubMode.noConfusion)
    refine Touches.settled (ps := [.ctl, .port, .egr]) ((((modCtl_touches i s _).then (modPort_touches i _ _)
      (rs := [.ctl, .port])).then (modEgr_touches i _ _) (rs := [.ctl, .port, .egr])).then (sendMark_touches _ i _)) hs ?_
    rw [(sendMark_touches ..).ctl, (modEgr_touches ..).ctl, (modPort_touches ..).ctl, modCtl_ctl_self]
    show (s.slot i).ctl.phase ≠ .draining
    rw [hadm]
    exact Phase.noConfusion
  · exact hs

/-- Parcels are offered to express queues of slots that are not DRAINING. -/
theorem offerExpress_settled (hs : s.settled) (hp : (s.slot i).ctl.phase ≠ .draining) (p : ExpressParcel) (lost : Word) :
    (offerExpress i p lost s).settled := by
  have htouch : Touches [.egr, .alarm, .mgmt] i s (offerExpress i p lost s) := offerExpress_touches ..
  refine htouch.settled hs ?_
  rw [htouch.ctl]
  exact hp

theorem awake_notDraining (h : s.isAwake i = true) : (s.slot i).ctl.phase ≠ .draining := by
  rw [(isAwake_iff.mp h).1]
  exact Phase.noConfusion

theorem dispatchEdge_settled (hs : s.settled) (d : Sched) : (dispatchEdge i d s).settled := by
  have hset (f : SlotEdges → SlotEdges) := (setEdges_calm i f s).settled hs
  unfold dispatchEdge
  dsimp only
  split
  · next hawake =>
    refine offerExpress_settled (hset _) ?_ ..
    rw [(modEdges_touches ..).ctl]
    exact awake_notDraining hawake
  · exact hset _

theorem offerTime_settled (p : ExpressParcel) (lost : Word) (j : Slot) (hs : s.settled) : (offerTime p lost j s).settled := by
  unfold offerTime
  split
  · next hgo => exact offerExpress_settled hs (awake_notDraining (Bool.and_eq_true _ _ ▸ hgo).2) p lost
  · exact hs

theorem foldl_settled {β : Type} {f : State → β → State} (hf : ∀ t b, t.settled → (f t b).settled) (l : List β) (s : State)
    (hs : s.settled) : (l.foldl f s).settled := by
  induction l generalizing s with
  | nil => exact hs
  | cons b l ih => exact ih (f s b) (hf s b hs)

theorem eachSlot_settled {f : Slot → State → State} (hf : ∀ i t, t.settled → (f i t).settled) (hs : s.settled) :
    (s.eachSlot f).settled := foldl_settled (fun t i => hf i t) allSlots s hs

theorem makeTimeParcels_settled (hs : s.settled) : (makeTimeParcels s).settled := by
  unfold makeTimeParcels
  exact eachSlot_settled (fun j _ ht => offerTime_settled _ _ j ht) hs

theorem corePeriod_settled (s : State) : (corePeriod s).settled := by
  have hticked := (modTiming_calm (fun t => { t with core := t.core + 1, time := t.time.advance t.adj })
    (settleDrains ((takeUptime s).eachSlot wordSlot))).settled (settleDrains_settled _)
  unfold corePeriod
  dsimp only
  split
  · exact makeTimeParcels_settled hticked
  · exact hticked

theorem stallExpire_settled (hs : s.settled) (w : Waiting) : (stallExpire i w s).settled :=
  (waitEnd_leaves i _ _).fills.settled ((postStalls_calm i w.pending s).settled hs)

theorem applyWake_settled (hs : s.settled) : (applyWake i s).settled := by
  refine settled_of_phase (applyWake_touches s i) hs ?_
  unfold applyWake
  split
  · split <;> simp
  · rfl

theorem seatDebounce_settled (hs : s.settled) : (seatDebounce i s).settled := by
  refine settled_of_phase (seatDebounce_touches i s) hs ?_
  rw [seatDebounce_ctl]
  split <;> rfl

theorem goodSeen_settled (hs : s.settled) : (goodSeen i s).settled := by
  refine settled_of_phase (goodSeen_touches i s) hs ?_
  simp [goodSeen, followLines]

theorem stopTimer_settled (hs : s.settled) : (s.modCtl i (fun c => { c with timer := none })).settled :=
  settled_of_phase (modCtl_touches i s _) hs (by simp)

theorem enterPowering_shuts (i : Slot) (s : State) :
    Shuts [.ctl, .ing, .port, .pool, .log, .alarm, .mgmt] i s (enterPowering i s) := by
  have hset := (setPhase_shuts i .powering s).then
    (modCtl_touches i _ (fun c => { c with pwrEn := true, resetOut := true })).shuts
    (rs := [.ctl, .ing, .port, .pool, .log, .alarm, .mgmt])
  have hstart : Shuts [.ctl, .ing, .port, .pool, .log, .alarm, .mgmt] i s (startPowering i s) :=
    hset.then (startTimer_touches i .power _).shuts
  rw [enterPowering_eq]
  exact shuts_ite (hstart.then (goodSeen_touches ..).shuts) hstart

theorem enterPowering_phase (i : Slot) (s : State) : ((enterPowering i s).slot i).ctl.phase = .powering := by
  have hstart : ((startPowering i s).slot i).ctl.Powers := startPowering_powers
  have hgood := (goodSeen_powers (i := i) (s := startPowering i s) hstart).phase
  rw [enterPowering_eq]
  generalize startPowering i s = u at hstart hgood ⊢
  split
  · exact hgood
  · exact hstart.phase

theorem enterSeated_settled (hs : s.settled) : (enterSeated i s).settled := by
  have hout := enterOut_shuts i .seated s
  unfold enterSeated
  dsimp only
  split
  · refine settled_of_settles ((hout.then (enterPowering_shuts ..)
      (rs := [.ctl, .egr, .ing, .port, .pool, .log, .alarm, .mgmt])).settles hs ?_)
    rw [enterPowering_phase]
    exact Phase.noConfusion
  · refine settled_of_settles (hout.settles hs ?_)
    rw [enterOut_ctl]
    exact Phase.noConfusion

theorem makeChainParcel_settled (hs : s.settled) (i : Slot) : (makeChainParcel i s).settled := by
  have hjoined : Fills s (joinQueue i .bulk s.pool.nextId s) := joinQueue_fills ..
  have hstored := (hjoined.trans (allocStored_touches i _ (s.chainParcel i)).leaves.fills).trans (wakeReport_fills i _)
  obtain ⟨u, hu⟩ : ∃ u, u = wakeReport i (allocStored (s.chainParcel i) (joinQueue i .bulk s.pool.nextId s)) := ⟨_, rfl⟩
  rw [← hu] at hstored
  have hset (c : Cursor) (f : ChainEngine → ChainEngine) : Fills s (walk i walkRounds ((u.setCursor i c).modChain f)) :=
    ((hstored.trans (setCursor_touches i u c).leaves.fills).trans (modChain_touches i _ f).leaves.fills).trans
      (walk_touches i _ _).leaves.fills
  unfold makeChainParcel
  dsimp only
  change (walk i walkRounds ((State.setCursor (wakeReport i (allocStored (s.chainParcel i)
    (joinQueue i .bulk s.pool.nextId s))) i _).modChain _)).settled
  rw [← hu]
  exact (hset _ _).settled hs

/-- The reply is given, or the claim lapses on a slot that is out of traffic. -/
theorem giveReply_settled (hs : s.settled) (p : ReplyParcel) : (giveReply p s).settled := by
  obtain ⟨u, hu⟩ : ∃ u, u = s.modMgmt (fun m => { m with claim := false }) := ⟨_, rfl⟩
  have hslot (j : Slot) : u.slot j = s.slot j := by rw [hu]; rfl
  have hmsel : u.mgmtSlot = s.mgmtSlot := by rw [hu]; rfl
  have hother (j : Slot) (hj : j ≠ s.mgmtSlot) (hempty : u.egressEmpty j = true) : s.egressEmpty j = true := by
    rw [egressEmpty_iff] at hempty ⊢
    exact ⟨hslot j ▸ hempty.1, fun hm => absurd hm hj⟩
  unfold giveReply
  dsimp only
  rw [← hu]
  split
  · next hout =>
    refine drained_none_of_before hs fun j hphase hempty => ?_
    have hj : j ≠ s.mgmtSlot := by
      rintro rfl
      unfold State.mgmtOut at hout
      rw [hmsel, hphase] at hout
      exact absurd hout (by decide)
    exact ⟨hslot j ▸ hphase, hother j hj hempty⟩
  · have hpush : RepliesGrow (u.modMgmt (fun m => { m with replies := m.replies ++ [p] })) (pushReply p u) :=
      (wakeReport_touches _ _).grow
    obtain ⟨l, hmgmt⟩ := hpush
    refine drained_none_of_before hs fun j hphase hempty => ?_
    have hegr : ((pushReply p u).slot j).egr = (s.slot j).egr := by
      rw [← hslot]
      unfold pushReply
      rw [(wakeReport_touches _ _).egr]
      rfl
    have hctl : ((pushReply p u).slot j).ctl.phase = (s.slot j).ctl.phase := by
      rw [← hslot]
      exact (pushReply_even p u).phase j
    rw [egressEmpty_iff] at hempty
    obtain ⟨hbare, hreplies⟩ := hempty
    have hj : j ≠ s.mgmtSlot := by
      intro hj
      have hmslot : (pushReply p u).mgmtSlot = s.mgmtSlot := by
        rw [← hmsel]
        exact mgmtSlot_of_msel (by rw [hmgmt]; rfl)
      have hnil := (hreplies (hj.trans hmslot.symm)).1
      rw [hmgmt] at hnil
      exact absurd (List.append_eq_nil_iff.mp (List.append_eq_nil_iff.mp hnil).1).2 (List.cons_ne_nil p [])
    exact ⟨hctl ▸ hphase, egressEmpty_iff.mpr ⟨hegr ▸ hbare, fun hm => absurd hm hj⟩⟩

theorem serve_settled (hs : s.settled) (row : ReqRow) (f : Request → State → Served) : (serve row f s).settled := by
  unfold serve
  split
  · exact hs
  · split
    · exact giveReply_settled (settleDrains_settled _) _
    · exact hs

end Settled

end Sys2Proof.Machine
end

section
/-! PROOFS. Every command keeps what holds between two events (R27 to R56, R123 to R144, R172, R173). -/

namespace Sys2Proof.Machine

section Exec

variable {k : Reach} {s t u : State} {i : Slot}

/-- What holds between two events holds again, and no DRAINING slot is left with an empty egress where none was. -/
structure Kept (k : Reach) (s t : State) : Prop where
  midway : Midway k.rest t
  settled : k = .sends → s.settled → t.settled

/-- A command keeps it, where it has an effect. -/
def NextKept (k : Reach) (s : State) (o : Host.Outcome State Fault Refusal) : Prop := ∀ t, o = .next t → Kept k s t

theorem NextKept.of_kept (h : Kept k s t) : NextKept k s (.next t) := by
  rintro _ ⟨⟩
  exact h

theorem Kept.ite {c : Prop} [Decidable c] (ht : c → Kept k s t) (hu : Kept k s u) : Kept k s (if c then t else u) := by
  split
  · exact ht ‹_›
  · exact hu

theorem Kept.refl (h : Midway k.rest s) : Kept k s s := ⟨h, fun _ hs => hs⟩

/-- An effect that ends with the egress-empty reports. -/
theorem Leaving.kept (h : Leaving k.rest t) : Kept k s (Machine.settleDrains t) :=
  ⟨h.settleDrains rfl rfl rfl rfl, fun _ _ => settleDrains_settled t⟩

theorem Midway.settledKept (h : Midway k.rest t) : Kept k s (settleDrains t) := (h.leaving rfl).kept

theorem Calm.kept (c : Calm s t) (h : Midway k.rest s) : Kept k s t := ⟨h.calm c, fun _ hs => c.settled hs⟩

/-- The heads of the queues, where a choice is handed back. -/
theorem Midway.headsAt (h : Midway k.rest s) (hk : k = .sends) (i : Slot) : (s.slot i).egr.heads (s.hasReply i) :=
  h.heads (by show k.heads; rw [hk]; trivial) i

theorem Midway.fitsAt (h : Midway k.rest s) (hk : k = .sends) (i : Slot) : (s.slot i).fits :=
  h.fits (by show k.base; rw [hk]; trivial) i List.not_mem_nil

/-! ## Commands of the ports, the waiting places and the references -/

theorem pushReply_settled (hs : s.settled) (p : ReplyParcel) : (pushReply p s).settled := by
  have hwake := wakeReport_touches (s.modMgmt (fun m => { m with replies := m.replies ++ [p] })) s.mgmtSlot
  refine drained_none_of_grow hs (fun j => (pushReply_even p s).phase j) (fun j => ?_) ?_
  · unfold pushReply
    rw [hwake.egr]
    rfl
  · exact RepliesGrow.trans ⟨[p], rfl⟩ hwake.grow

theorem offerRequest_settled (hs : s.settled) (r : Request) : (offerRequest r s).settled := by
  unfold offerRequest
  split
  · exact drained_none_of_same hs (fun _ => rfl) (fun _ => rfl) rfl rfl id
  · split
    · exact pushReply_settled hs _
    · exact hs

theorem execMgmtRequest_kept (h : Midway k.rest s) (tag : BitVec 8) (ws : List Word) :
    NextKept k s (execMgmtRequest tag ws s) := by
  unfold execMgmtRequest
  split
  · rintro _ ⟨⟩
  · refine .of_kept (.ite (fun _ => ⟨h.offerRequest _, fun _ hs => offerRequest_settled hs _⟩) (.refl h))

theorem execTimeOfDayParcel_kept (h : Midway k.rest s) (i : Slot) (ws : List Word) :
    NextKept k s (execTimeOfDayParcel i ws s) := by
  unfold execTimeOfDayParcel
  split
  · rintro _ ⟨⟩
  · exact .of_kept (.ite (fun _ => (stageTimeOfDay_calm i ws s).kept h) (.refl h))

theorem execStallTimerExpiry_kept (h : Midway k.rest s) (i : Slot) : NextKept k s (execStallTimerExpiry i s) := by
  refine .of_kept ?_
  split
  · exact .refl h
  · next w hw => exact .ite (fun _ => ⟨h.stallExpire hw, fun _ hs => stallExpire_settled hs w⟩) (.refl h)

theorem execHoldoverTimerExpiry_kept (h : Midway k.rest s) : NextKept k s (execHoldoverTimerExpiry s) := by
  refine .of_kept (.ite (fun _ => Calm.kept ?_ h) (.refl h))
  exact (((clearCond_calm (by decide) (by decide) ..).trans (raiseCond_calm (by decide) (by decide) ..)).trans
    (changeLoop_calm ..)).trans (modTiming_calm ..)

theorem execEdgeDispatch_kept (h : Midway k.rest s) (i : Slot) : NextKept k s (execEdgeDispatch i s) := by
  refine .of_kept ?_
  split
  · exact .refl h
  · exact .ite (fun _ => ⟨h.dispatchEdge i _, fun _ hs => dispatchEdge_settled hs _⟩) (.refl h)

theorem execStrobe_kept (h : Midway k.rest s) (i : Slot) : NextKept k s (execStrobe i s) := by
  refine .of_kept ?_
  split
  · exact .refl h
  · exact .ite (fun _ => (giveStrobe_calm i _ s).kept h) (.refl h)

theorem execStrobePulseEnd_kept (h : Midway k.rest s) (i : Slot) (l : Line) : NextKept k s (execStrobePulseEnd i l s) := by
  cases l with
  | sb0 => exact .of_kept (.ite (fun _ => (stopPulses_calm i (fun _ => none) id s).kept h) (.refl h))
  | sb1 => exact .of_kept (.ite (fun _ => (stopPulses_calm i id (fun _ => none) s).kept h) (.refl h))

/-! ## Commands of the slot controller, the cabinet inputs and the chain engine -/

theorem execPwrGoodActive_kept (h : Midway k.rest s) (i : Slot) : NextKept k s (execPwrGoodActive i s) := by
  have hset := setGood_calm i true s
  refine .of_kept (.ite (fun _ => .refl h) (.ite (fun hgo => ⟨(h.calm hset).goodSeen fun hk hi => ?_, fun _ hs => ?_⟩)
    (hset.kept h)))
  · have hpwr := h.lit hi rfl hk (by rw [hgo.1]; rfl)
    have hctl := modCtl_ctl_self (i := i) (s := s) (fun c => { c with pwrGood := true })
    rw [hctl]
    exact ⟨hgo.1, hpwr⟩
  · exact goodSeen_settled (hset.settled hs)

theorem execPwrGoodLost_kept (h : Midway k.rest s) (i : Slot) : NextKept k s (execPwrGoodLost i s) := by
  have hset := setGood_calm i false s
  exact .of_kept (.ite (fun _ => .ite (fun _ => ((h.calm hset).fault rfl rfl rfl i .powerLost).settledKept) (hset.kept h))
    (.refl h))

theorem execTrainingGapExpiry_kept (h : Midway k.rest s) (i : Slot) : NextKept k s (execTrainingGapExpiry i s) :=
  .of_kept (.ite
    (fun _ => ⟨(h.stopTimer i).calm (askTrain_calm ..), fun _ hs => (askTrain_calm ..).settled (stopTimer_settled hs)⟩)
    (.refl h))

theorem execSidebandInputChange_kept (h : Midway k.rest s) (i : Slot) (l : Line) (b : Bool) :
    NextKept k s (execSidebandInputChange i l b s) := by
  have hset := (setLevel_calm i l b s).trans (followLines_calm i _)
  exact .of_kept (.ite (fun _ => .refl h) (.ite
    (fun _ => ⟨(h.calm hset).applyWake i, fun _ hs => applyWake_settled (hset.settled hs)⟩)
    (hset.kept h)))

theorem execCardAlarmDebounceExpiry_kept (h : Midway k.rest s) (i : Slot) :
    NextKept k s (execCardAlarmDebounceExpiry i s) := by
  have hset := setDebounces_calm i (fun c => if (s.slot i).cfg.fn0 == .alarmIn then c.deb0.expire s.uptime else c.deb0)
    (fun c => if (s.slot i).cfg.fn1 == .alarmIn then c.deb1.expire s.uptime else c.deb1) s
  exact .of_kept (.ite (fun _ => (hset.trans (judgeCardAlarm_calm i _ _)).kept h) (.refl h))

theorem execCabinetInputDebounceExpiry_kept (h : Midway k.rest s) (n : Fin 8) :
    NextKept k s (execCabinetInputDebounceExpiry n s) := by
  unfold execCabinetInputDebounceExpiry
  refine .of_kept ?_
  split
  · exact .refl h
  · refine .ite (fun _ => Calm.kept ?_ h) (.refl h)
    exact (setInput_calm n _ s).trans (calm_ite (clearCond_calm (by decide) (input_lt_64 n) ..)
      (raiseCond_calm (by decide) (input_lt_64 n) ..))

theorem execChainParcelMake_kept (h : Midway k.rest s) : NextKept k s (execChainParcelMake s) := by
  refine .of_kept ?_
  split
  · next i _ hturn =>
    have hready : s.chainReady i = true := List.find?_some hturn
    have hrunning : (s.slot i).cursor.state = .running := by
      simp only [State.chainReady, Bool.and_eq_true, beq_iff_eq] at hready
      exact hready.1
    exact ⟨h.makeChainParcel (by rw [hrunning]; exact CursorState.noConfusion), fun _ hs => makeChainParcel_settled hs i⟩
  · exact .refl h

theorem execChainEngineFree_kept (h : Midway k.rest s) : NextKept k s (execChainEngineFree s) := by
  refine .of_kept ?_
  split
  · exact .refl h
  · exact .ite (fun _ => Calm.kept (.of_same rfl rfl rfl rfl) h) (.refl h)

/-! ## Services of requests -/

theorem Midway.served (h : Midway k.rest s) {row : ReqRow} {f : Request → State → Served}
    (hf : ∀ r u, Midway k.serving u → Leaving k.serving (f r u).state) : NextKept k s (.next (Machine.serve row f s)) :=
  .of_kept ⟨h.serve row hf, fun _ hs => serve_settled hs row f⟩

theorem Midway.servedRead (h : Midway k.rest s) {row : ReqRow} {f : Request → State → Served}
    (hf : ∀ r u, (f r u).state = u) : NextKept k s (.next (Machine.serve row f s)) :=
  h.served fun r u hu => by
    rw [hf]
    exact hu.leaving rfl

theorem Midway.servedWrite (h : Midway k.rest s) {row : ReqRow} {T : WriteTable}
    (hput : ∀ n ws u, Midway k.serving u → Midway k.serving (T.put n ws u)) :
    NextKept k s (.next (Machine.serve row (Machine.writeTable T) s)) :=
  h.served fun r _ hu => (hu.writeTable hput r).leaving rfl

theorem Midway.servedSlot (h : Midway k.rest s) {row : ReqRow} {f : Slot → State → Served}
    (hf : ∀ i u, Midway k.serving u → Leaving k.serving (f i u).state) :
    NextKept k s (.next (Machine.serve row (slotAction f) s)) :=
  h.served fun r u hu => slotAction_leaving hu rfl r fun i => hf i u hu

theorem Midway.servedPlain (h : Midway k.rest s) {row : ReqRow} {f : State → State}
    (hf : ∀ u, Midway k.serving u → Midway k.serving (f u)) :
    NextKept k s (.next (Machine.serve row (plainAction f) s)) :=
  h.served fun r u hu => plainAction_leaving hu rfl r (hf u hu)

theorem areaTable_calm (n : Nat) (ws : List Word) (s : State) : Calm s (areaTable.put n ws s) := by
  dsimp only [areaTable]
  exact writeArea_calm ..

theorem globalTable_calm (n : Nat) (ws : List Word) (s : State) : Calm s (globalTable.put n ws s) := by
  dsimp only [globalTable]
  exact writeGlobal_calm ..

theorem afterReset_kept (pin msel retain : Bool) (s : State) : Kept k s (afterReset pin msel retain s) := by
  obtain ⟨hmid, hphase⟩ := afterReset_started (k := k) pin msel retain s
  refine ⟨hmid, fun _ _ => ?_⟩
  unfold State.settled State.drained
  rw [List.find?_eq_none]
  intro i _ hboth
  rw [Bool.and_eq_true, beq_iff_eq] at hboth
  exact hphase i hboth.1

theorem exec_kept (c : Instr) (h : Midway k.rest s) : NextKept k s (exec c s) := by
  cases c with
  | headerWord i w => exact .of_kept (.ite (fun _ => (h.rxHeader rfl rfl rfl i w).settledKept) (.refl h))
  | bodyWord i w => exact .of_kept (.ite (fun _ => (h.rxBody rfl rfl rfl i w).settledKept) (.refl h))
  | undecodableWord i => exact .of_kept (.ite (fun _ => (h.rxUndecodable rfl rfl rfl i).settledKept) (.refl h))
  | markWord i w => exact .of_kept (h.rxMark rfl rfl rfl rfl i w).settledKept
  | holdOff i => exact .of_kept ⟨h.cardHoldOff rfl i, fun _ hs => cardHoldOff_settled hs⟩
  | resume i => exact .of_kept ⟨h.cardResume rfl i, fun hk hs => cardResume_settled hs (h.headsAt hk i)⟩
  | trainEcho i n t => exact .of_kept (h.trainAnswer rfl rfl rfl rfl i n.toNat t.toNat).settledKept
  | awake i => exact .of_kept ⟨h.cardAwake i, fun _ hs => cardAwake_settled hs⟩
  | uptimeAdvance => exact .of_kept ((takeUptime_calm s).kept h)
  | holdOffTimerExpiry i =>
    exact .of_kept (.ite (fun hdue => ⟨h.holdOffExpire rfl hdue, fun _ hs => holdOffExpire_settled hs 0⟩) (.refl h))
  | mgmtRequest tag ws => exact execMgmtRequest_kept h tag ws
  | timeOfDayParcel i ws => exact execTimeOfDayParcel_kept h i ws
  | pendingServed i c =>
    exact .of_kept ⟨h.servePending List.not_mem_nil c 16, fun _ hs => (servePending_fills i c 16 s).settled hs⟩
  | stallTimerExpiry i => exact execStallTimerExpiry_kept h i
  | schedulerChoice i => exact .of_kept ⟨h.makeChoice i, fun hk hs => makeChoice_settled hs (h.headsAt hk i)⟩
  | transmissionEnd i => exact .of_kept (h.endOf i).settledKept
  | edgeDeparture i => exact .of_kept ⟨h.departNext i, fun _ hs => departNext_settled hs⟩
  | holdMarkSent i => exact .of_kept ((sendHoldMark_calm i s).kept h)
  | restMarkSent i => exact .of_kept ⟨h.sendRest i, fun hk hs => sendRest_settled hs (h.fitsAt hk i)⟩
  | trainReqSent i => exact .of_kept ((sendTrainReq_calm i s).kept h)
  | suspendSent i => exact .of_kept ⟨h.sendSuspend i, fun _ hs => sendSuspend_settled hs⟩
  | continueSent i => exact .of_kept ⟨h.sendContinue i, fun _ hs => sendContinue_settled hs⟩
  | wakeMarkSent i => exact .of_kept ((sendWake_calm i s).kept h)
  | referencePulse r => exact .of_kept (.ite (fun _ => (judgePulse_calm r s).kept h) (.refl h))
  | lossDeadlineExpiry r => exact .of_kept (.ite (fun _ => (loseReference_calm r s).kept h) (.refl h))
  | holdoverTimerExpiry => exact execHoldoverTimerExpiry_kept h
  | secondCarry =>
    exact .of_kept (.ite (fun _ => ⟨h.corePeriod rfl rfl rfl rfl, fun _ _ => corePeriod_settled s⟩) (.refl h))
  | cabinetTimeAdvance => exact .of_kept ⟨h.corePeriod rfl rfl rfl rfl, fun _ _ => corePeriod_settled s⟩
  | edgeInstant => exact .of_kept (.ite (fun _ => Calm.kept (.of_same rfl rfl rfl rfl) h) (.refl h))
  | edgeDispatch i => exact execEdgeDispatch_kept h i
  | strobe i => exact execStrobe_kept h i
  | strobePulseEnd i l => exact execStrobePulseEnd_kept h i l
  | contactMade i c =>
    have hset := setMade_calm i c true s
    exact .of_kept (.ite (fun _ => .refl h)
      ⟨(h.calm hset).seatDebounce i, fun _ hs => seatDebounce_settled (hset.settled hs)⟩)
  | contactLost i c =>
    have hset := setMade_calm i c false s
    exact .of_kept (.ite (fun _ => (contactGone_leaving (h.calm hset) rfl rfl rfl rfl i c).kept) (.refl h))
  | seatTimerExpiry i =>
    exact .of_kept (.ite (fun hgo => ⟨h.seat rfl hgo.1, fun _ hs => enterSeated_settled hs⟩) (.refl h))
  | pwrGoodActive i => exact execPwrGoodActive_kept h i
  | pwrGoodLost i => exact execPwrGoodLost_kept h i
  | powerTimerExpiry i => exact .of_kept (.ite (fun _ => (h.fault rfl rfl rfl i .powerTimeout).settledKept) (.refl h))
  | releaseTimerExpiry i =>
    exact .of_kept (.ite (fun hgo => (h.releaseReset rfl rfl rfl rfl hgo.1).settledKept) (.refl h))
  | exchangeWaitExpiry i =>
    exact .of_kept (.ite (fun hgo => (h.nextExchange rfl rfl rfl rfl hgo.1).settledKept) (.refl h))
  | trainingGapExpiry i => exact execTrainingGapExpiry_kept h i
  | wakeTimerExpiry i => exact .of_kept (.ite (fun hgo => (h.retrain rfl rfl rfl rfl hgo.1).settledKept) (.refl h))
  | drainTimerExpiry i => exact .of_kept (.ite (fun _ => ((h.stopTimer i).dropWaiting i).settledKept) (.refl h))
  | sidebandInputChange i l b => exact execSidebandInputChange_kept h i l b
  | cardAlarmDebounceExpiry i => exact execCardAlarmDebounceExpiry_kept h i
  | cabinetInputChange n b => exact .of_kept ((setInput_calm n _ s).kept h)
  | cabinetInputDebounceExpiry n => exact execCabinetInputDebounceExpiry_kept h n
  | watchStale n => exact .of_kept (.ite (fun _ => (evalWatch_calm n s).kept h) (.refl h))
  | chainParcelMake => exact execChainParcelMake_kept h
  | chainEngineFree => exact execChainEngineFree_kept h
  | readSlotSettings => exact h.servedRead fun _ _ => readTable_state ..
  | readFlowTable => exact h.servedRead fun _ _ => readTable_state ..
  | readParkAreas => exact h.servedRead fun _ _ => readTable_state ..
  | readWatches => exact h.servedRead fun _ _ => readTable_state ..
  | readChainDescriptors => exact h.servedRead fun _ _ => readTable_state ..
  | readCauseSettings => exact h.servedRead fun _ _ => readTable_state ..
  | readGlobalSettings => exact h.servedRead fun _ _ => readTable_state ..
  | readTimingSettings => exact h.servedRead fun _ _ => readTable_state ..
  | readAlarmQueue => exact h.servedRead fun _ _ => readTable_state ..
  | readTransitLog => exact h.servedRead fun _ _ => readTable_state ..
  | readSlotStatus => exact h.servedRead fun _ _ => readTable_state ..
  | readTimingStatus => exact h.servedRead fun _ _ => readTable_state ..
  | readFabricStatus => exact h.servedRead fun _ _ => readTable_state ..
  | writeSlotSettings => exact h.servedWrite fun n ws _ hu => hu.writeSlot rfl (Fin.ofNat 16 n) (SlotSettings.ofWords ws)
  | writeFlowTable => exact h.servedWrite fun _ _ _ hu => hu.calm (.of_same rfl rfl rfl rfl)
  | writeParkAreas => exact h.servedWrite fun n ws u hu => hu.calm (areaTable_calm n ws u)
  | writeWatches => exact h.servedWrite fun n ws u hu => hu.calm (writeWatch_calm (Fin.ofNat 32 n) ws u)
  | writeChainDescriptors => exact h.servedWrite fun _ _ _ hu => hu.calm (.of_same rfl rfl rfl rfl)
  | writeCauseSettings => exact h.servedWrite fun _ _ _ hu => hu.calm (writeCause_calm ..)
  | writeGlobalSettings => exact h.servedWrite fun n ws u hu => hu.calm (globalTable_calm n ws u)
  | writeTimingSettings => exact h.servedWrite fun n ws u hu => hu.calm (writeTiming_calm n ws u)
  | readPark => exact h.servedRead fun _ _ => readParkWords_state
  | readLatest => exact h.servedRead fun _ _ => readLatestCopy_state
  | powerOn => exact h.servedSlot fun i _ hu => (hu.actPowerOn rfl i).leaving rfl
  | powerOff => exact h.servedSlot fun i _ hu => (hu.actPowerOff rfl rfl rfl i).leaving rfl
  | drain => exact h.servedSlot fun i _ hu => actDrain_leaving hu rfl rfl i
  | rest => exact h.servedSlot fun i _ hu => (hu.actRest i).leaving rfl
  | wake => exact h.servedSlot fun i _ hu => (hu.actWake i).leaving rfl
  | clear => exact h.servedSlot fun i _ hu => (hu.actClear rfl i).leaving rfl
  | retrain => exact h.servedSlot fun i _ hu => (hu.actRetrain rfl rfl rfl rfl i).leaving rfl
  | chainStart => exact h.servedSlot fun i _ hu => (hu.actChainStart i).leaving rfl
  | chainStop => exact h.servedSlot fun i _ hu => Midway.leaving (hu.abortChain i .stopped) rfl
  | setTime => exact h.served fun r _ hu => (hu.actSetTime r).leaving rfl
  | setFrequency => exact h.served fun r _ hu => (hu.actSetFrequency r).leaving rfl
  | timingRestart => exact h.servedPlain fun u hu => hu.calm (timingRestartAll_calm u)
  | fabricRestart => exact h.servedPlain fun _ hu => hu.fabricRestart rfl rfl rfl rfl rfl
  | logClear => exact h.servedPlain fun u hu => hu.calm (emptyLog_calm u)
  | powerOnReset msel retain => exact .of_kept (afterReset_kept false msel retain s)
  | pinReset msel retain => exact .of_kept (afterReset_kept true msel retain s)

end Exec

end Sys2Proof.Machine
end

section
/-! PROOFS. What every step of the switch keeps of the slots, the waiting places, the traffic, the holds, the faults and
the places of queues. -/

namespace Sys2Proof.Machine

/-! ## Between two events -/

section Rest

variable {k : Reach} {s t : State}

/-- What stands between two events, in the words of the statements: each invariant with those it builds on. -/
structure State.restOk (k : Reach) (s : State) : Prop where
  base : k.base → s.linksOk ∧ s.restsOk ∧ s.chainsOk
  slots : k = .slots → s.powerOk ∧ s.timersOk
  holds : k = .holds → s.holdsOk
  traffic : k.queues → s.trafficOk
  sends : k.heads → s.sendsOk
  counts : k = .counts → s.countsOk
  faults : k = .faults → s.faultsOk ∧ s.heldOk
  bounds : k = .bounds → s.queuesOk

theorem queuesOk_iff : s.queuesOk ↔ (∀ i, (s.slot i).expressFits) ∧ (s.repliesFit ∧ s.mgmt.claim = false) ∧
    s.mgmt.queue.length ≤ Config.requestPlaces := by
  unfold State.queuesOk State.repliesFit SlotState.expressFits
  constructor
  · rintro ⟨hexpress, hreplies, hrequests, hclaim⟩
    exact ⟨hexpress, ⟨by simpa [Mgmt.taken, hclaim, boolNat] using hreplies, hclaim⟩, hrequests⟩
  · rintro ⟨hexpress, ⟨hreplies, hclaim⟩, hrequests⟩
    exact ⟨hexpress, by simpa [Mgmt.taken, hclaim, boolNat] using hreplies, hrequests, hclaim⟩

theorem State.restOk.midway (h : s.restOk k) : Midway k.rest s where
  fits hk i _ := links_rests_chains_iff.mp (h.base hk) i
  powered hk i _ := powered_mono (power_timers_iff.mp (h.slots hk) i) fun _ => trivial
  waitFits hk := holdsOk_iff.mp (h.holds hk)
  still hk i _ := (trafficOk_iff.mp (h.traffic hk)).1 i
  pends hk j w d hw hd _ := (trafficOk_iff.mp (h.traffic hk)).2 j w d hw hd
  heads hk := sendsOk_iff.mp (h.sends hk)
  counted hk := (countsOk_iff.mp (h.counts hk)).2
  rxFits hk i _ := (countsOk_iff.mp (h.counts hk)).1 i
  faultFits hk i _ := (faults_held_iff.mp (h.faults hk) i).1
  marked _ _ hi := absurd hi List.not_mem_nil
  heldFits hk i _ := (faults_held_iff.mp (h.faults hk) i).2
  expressFits hk := (queuesOk_iff.mp (h.bounds hk)).1
  repliesFit hk := (queuesOk_iff.mp (h.bounds hk)).2.1.1
  requestsFit hk := (queuesOk_iff.mp (h.bounds hk)).2.2
  claim hk := (queuesOk_iff.mp (h.bounds hk)).2.1.2

theorem Midway.restOk (h : Midway k.rest s) : s.restOk k where
  base hk := links_rests_chains_iff.mpr fun i => h.fits hk i List.not_mem_nil
  slots hk := power_timers_iff.mpr fun i => powered_mono (h.powered hk i List.not_mem_nil) fun _ => nofun
  holds hk := holdsOk_iff.mpr (h.waitFits hk)
  traffic hk := trafficOk_iff.mpr ⟨fun i => h.still hk i List.not_mem_nil,
    fun j w d hw hd => h.pends hk j w d hw hd List.not_mem_nil⟩
  sends hk := sendsOk_iff.mpr (h.heads hk)
  counts hk := countsOk_iff.mpr ⟨fun i => h.rxFits hk i nofun, h.counted hk⟩
  faults hk := faults_held_iff.mpr fun i => ⟨h.faultFits hk i List.not_mem_nil, h.heldFits hk i nofun⟩
  bounds hk := queuesOk_iff.mpr ⟨h.expressFits hk, ⟨h.repliesFit hk, h.claim hk⟩, h.requestsFit hk⟩

/-! ## A step -/

theorem step_kept (h : s.restOk k) (hnext : step s = .next t) : Kept k s t := by
  unfold step at hnext
  split at hnext
  · cases hnext
    exact .refl h.midway
  · next c rest _ =>
    have hcalm : Calm s (s.withPending rest) := .of_same rfl rfl rfl rfl
    have hq := hcalm.kept h.midway
    have hstep := exec_kept c hq.midway t hnext
    exact ⟨hstep.midway, fun hk hs => hstep.settled hk (hq.settled hk hs)⟩

end Rest

/-! ## The statements -/

/-- Settles O9, by what holds inside the events of slots (`exec_kept`). -/
theorem stepKeepsSlots : Obligations.StepKeepsSlots := by
  rintro s t ⟨hlinks, hpower, htimers, hrests, hchains⟩ hnext
  have hs : s.restOk .slots :=
    { base := fun _ => ⟨hlinks, hrests, hchains⟩, slots := fun _ => ⟨hpower, htimers⟩, holds := nofun,
      traffic := nofun, sends := nofun, counts := nofun, faults := nofun, bounds := nofun }
  have ht := (step_kept hs hnext).midway.restOk
  obtain ⟨hlinks, hrests, hchains⟩ := ht.base trivial
  obtain ⟨hpower, htimers⟩ := ht.slots rfl
  exact ⟨hlinks, hpower, htimers, hrests, hchains⟩

/-- Settles O10, by what holds inside the events of waiting places (`exec_kept`). -/
theorem stepKeepsHolds : Obligations.StepKeepsHolds := by
  intro s t hholds hnext
  have hs : s.restOk .holds :=
    { base := nofun, slots := nofun, holds := fun _ => hholds, traffic := nofun, sends := nofun, counts := nofun,
      faults := nofun, bounds := nofun }
  exact (step_kept hs hnext).midway.restOk.holds rfl

/-- Settles O11, by what holds inside the events of traffic (`exec_kept`). -/
theorem stepKeepsTraffic : Obligations.StepKeepsTraffic := by
  rintro s t ⟨hlinks, hrests, hchains, htraffic⟩ hnext
  have hs : s.restOk .traffic :=
    { base := fun _ => ⟨hlinks, hrests, hchains⟩, slots := nofun, holds := nofun, traffic := fun _ => htraffic,
      sends := nofun, counts := nofun, faults := nofun, bounds := nofun }
  have ht := (step_kept hs hnext).midway.restOk
  obtain ⟨hlinks, hrests, hchains⟩ := ht.base trivial
  exact ⟨hlinks, hrests, hchains, ht.traffic trivial⟩

/-- Settles O12, by what holds inside the events of faults and of card hold-offs (`exec_kept`). -/
theorem stepKeepsFaults : Obligations.StepKeepsFaults := by
  intro s t hfaults hnext
  have hs : s.restOk .faults :=
    { base := nofun, slots := nofun, holds := nofun, traffic := nofun, sends := nofun, counts := nofun,
      faults := fun _ => hfaults, bounds := nofun }
  exact (step_kept hs hnext).midway.restOk.faults rfl

/-- Settles O13, by what holds inside the events of the transmit sides (`exec_kept`) and by what each command does with
the slots that drain. -/
theorem stepKeepsSettled : Obligations.StepKeepsSettled := by
  rintro s t ⟨hlinks, hrests, hchains, htraffic, hsends, hsettled⟩ hnext
  have hs : s.restOk .sends :=
    { base := fun _ => ⟨hlinks, hrests, hchains⟩, slots := nofun, holds := nofun, traffic := fun _ => htraffic,
      sends := fun _ => hsends, counts := nofun, faults := nofun, bounds := nofun }
  have hkept := step_kept hs hnext
  have ht := hkept.midway.restOk
  obtain ⟨hlinks, hrests, hchains⟩ := ht.base trivial
  exact ⟨hlinks, hrests, hchains, ht.traffic trivial, ht.sends trivial, hkept.settled rfl hsettled⟩

/-- Settles O14, by what holds inside the events of stored parcels, the holds of the event itself counted
(`exec_kept`). -/
theorem stepKeepsHoldCounts : Obligations.StepKeepsHoldCounts := by
  rintro s t ⟨hlinks, hrests, hchains, htraffic, hsends, hcounts⟩ hnext
  have hs : s.restOk .counts :=
    { base := fun _ => ⟨hlinks, hrests, hchains⟩, slots := nofun, holds := nofun, traffic := fun _ => htraffic,
      sends := fun _ => hsends, counts := fun _ => hcounts, faults := nofun, bounds := nofun }
  have ht := (step_kept hs hnext).midway.restOk
  obtain ⟨hlinks, hrests, hchains⟩ := ht.base trivial
  exact ⟨hlinks, hrests, hchains, ht.traffic trivial, ht.sends trivial, ht.counts rfl⟩

/-- Settles O3: the indexes by the steps of the units (`stepKeeps_indexesOk`), the places of the queues by what holds
inside the events (`exec_kept`). -/
theorem stepKeepsIndexesAndBounds : Obligations.StepKeepsIndexesAndBounds := by
  rintro s t ⟨hpark, halarm, hlog, hqueues⟩ hnext
  obtain ⟨hpark, halarm, hlog⟩ := stepKeeps_indexesOk s t ⟨hpark, halarm, hlog⟩ hnext
  have hs : s.restOk .bounds :=
    { base := nofun, slots := nofun, holds := nofun, traffic := nofun, sends := nofun, counts := nofun,
      faults := nofun, bounds := fun _ => hqueues }
  exact ⟨hpark, halarm, hlog, (step_kept hs hnext).midway.restOk.bounds rfl⟩

end Sys2Proof.Machine
end

end
